-- ==== Sys2Proof/Word.lean ====
section
/-! DEFINITION. The machine's words: a 64-bit register word and a byte (00_scope.md R3, R5). -/

namespace Sys2Proof

/-- R5: a register, and the data of a register transaction, is 64 bits wide. -/
abbrev Word := BitVec 64

/-- One byte of a memory window. -/
abbrev Byte := BitVec 8

end Sys2Proof
end

