-- ==== Sys2Proof/Syntax.lean ====
section
/-! DEFINITION. The commands of the block: one constructor for each row of the opcode table, with the operands the row needs.
A command a host sends carries the transaction's header; a command that names an event at the module's edge carries what was
observed there. -/

namespace Sys2Proof

/-- R399: who sent a request, its tag, and the module it names. -/
structure Hdr where
  src : Fin 256
  tag : Fin 65536
  dst : Fin 16
  deriving DecidableEq, Repr

/-- R13: a unit's window: one of the module's 256 units, or one of the 1 024 cluster groups. -/
inductive UnitRef where
  | loc (u : Fin 256)
  | clu (c : Fin 1024)
  deriving DecidableEq, Repr

/-- R399, R402: the four requests, as a datagram of the service port carries them. -/
inductive HostOp where
  | read64 (addr : BitVec 40)
  | write64 (addr : BitVec 40) (data : Word)
  | readb (addr : BitVec 40) (lenm1 : Fin 256)
  | writeb (addr : BitVec 40) (data : List Byte)
  deriving DecidableEq, Repr

/-- R317, R318: the stream of a leaf: the module it comes from, the module of the leaf, the leaf's PMIN_L in tu. -/
structure StreamIn where
  src : Fin 16
  dst : Fin 16
  pmin : BitVec 32
  deriving DecidableEq, Repr

/-- R318: a stream that the promotion of replicas would add on a fault of a module (`sub`: of one subchannel of it, with a quarter of the
rate where `quarter` says so; otherwise its loss). -/
structure PromoIn where
  module : Fin 16
  sub : Option (Fin 4)
  stream : StreamIn
  quarter : Bool := false
  deriving DecidableEq, Repr

/-- R318: the current rate code and lanes of a neighbour port of another module. -/
structure PortIn where
  module : Fin 16
  port : Fin 4
  rate : Fin 4
  lanes : Fin 5
  deriving DecidableEq, Repr

/-- R318: what the rest of the cluster asks of the links: the home streams of other modules' leaves, those that promotions would add there,
and the other modules' ports. -/
structure PlanNet where
  streams : List StreamIn := []
  promos : List PromoIn := []
  ports : List PortIn := []
  deriving DecidableEq, Repr, Inhabited

/-- R308, R316 to R319: what the anchor's planner finds outside this module: the entry that fails one of checks 0x07, 0x08 and 0x0C (a
number beyond the table where none is named), whether the anchor was lost, the strands it would home on another module, with SC0 there, the
modules with room for a replica of a strand, with the replica bytes assigned to each, and the streams and ports of the other modules. A
module in no cluster is planned without it. -/
structure PlanIn where
  descBad : Option Nat := none
  runBad : Option Nat := none
  spaceBad : Option Nat := none
  lost : Bool := false
  homes : List (BitVec 16 × Fin 16 × Fin 4) := []
  cands : List (BitVec 16 × Fin 16 × BitVec 40) := []
  net : PlanNet := {}
  deriving DecidableEq, Repr

/-- R345 to R353: what a calibration procedure finds, as far as stage `upTo` (0 precondition check, 1 steps 2 to 5, 2 locket write): the
pins' open-circuit voltages (10 µV), leakages (1 pA, saturating) and voltages in pass 2 (10 µV), as far as measured; by how many ppb the
reference ratio differs from the factory's; whether REFIN was lost or the DLL unlocked in step 5; the trims measured (in KIND order, then
pin or leaf, then SUB; for DRIFT the DESKEW and TMU entries are changes; the last entry is the common constant of R146); the leaf
temperatures, and by how many 0.01 °C each moved; the first pin with a missing edge; whether the flash failed its read-back. -/
structure CalIn where
  upTo : Fin 3 := 2
  opens : List (BitVec 24) := []
  leaks : List (BitVec 24) := []
  conts : List (BitVec 24) := []
  ratio : BitVec 32 := 0
  refLost : Bool := false
  trims : List (BitVec 24) := []
  temps : List (BitVec 16) := []
  moves : List (BitVec 16) := []
  noEdge : Option (Fin 144) := none
  flashBad : Bool := false
  deriving DecidableEq, Repr

/-- R284: a HELLO: the sender's serial, port (0 N, 1 E, 2 S, 3 W), role (0 none, 1 anchor, 2 secondary), anchor's serial (0: none),
state and certificate chain. -/
structure HelloIn where
  serial : BitVec 48
  port : Fin 4
  role : Fin 3
  anchor : BitVec 48
  state : Fin 6
  chain : List Byte := []
  deriving DecidableEq, Repr

/-- R285: at the anchor, a module's answer to a challenge: whether its certificate chain verifies, the serial and the key that the
device certificate holds, and the signature; at the module, the anchor's verdict: REFUSED or FOREIGN, with its reason,
or the challenge itself, which comes in on a port: the nonce and the anchor's serial. -/
inductive ChalIn where
  | answer (chainOk : Bool) (serial : BitVec 48) (key sig : List Byte)
  | verdict (refused : Bool) (reason : Fin 5)
  | nonce (p : Fin 4) (nonce : BitVec 256) (anchor : BitVec 48)
  deriving DecidableEq, Repr

/-- R281, R305: what the topology map says of a module. -/
structure MapEnt where
  state : Fin 6 := 0
  links : Fin 16 := 0
  serial : BitVec 48 := 0
  deriving DecidableEq, Repr

/-- R287: what the anchor sends with an adoption tick: the topology, the roster (serial, VALID) and the map. -/
structure AdoptIn where
  tick : BitVec 64
  anchor : Fin 16
  kind : Fin 5
  n : Fin 32
  roster : List (BitVec 48 × Bool) := []
  map : List MapEnt := []
  deriving DecidableEq, Repr

/-- R295: HOP_NS of a module's neighbour port, and the time of a flit on it in ps. -/
structure HopIn where
  module : Fin 16
  port : Fin 4
  hopNs : BitVec 8
  flitPs : BitVec 16
  deriving DecidableEq, Repr

/-- R294: a change of the map: the map as it now stands, the tick the anchor names for the new routes (a module cut off from it names its
own), and the ports' delays. -/
structure MapIn where
  map : List MapEnt
  at_ : BitVec 64 := 0
  hops : List HopIn := []
  deriving DecidableEq, Repr

/-- R252: what a module has declared of a cluster group. -/
structure DeclIn where
  module : Fin 16
  parent : Option (Fin 1024)
  modmask : BitVec 16
  tag : BitVec 32
  locals : Fin 17
  deriving DecidableEq, Repr

/-- R252, R295: what the anchor knows of a cluster group: the declarations of the other modules that are MOUNTED, how many cluster
groups name it as their PARENT, its depth (R15) over all modules, and the ports' delays. -/
structure CgIn where
  decls : List DeclIn := []
  children : Fin 1024 := 0
  depth : BitVec 16 := 1
  hops : List HopIn := []
  deriving DecidableEq, Repr

/-- R305: what the anchor tells the other modules of a cluster group. -/
structure CgTold where
  formed : Bool
  copy1 : Bool
  bound0 : BitVec 10
  bound1 : BitVec 10
  parent : Option (Fin 1024)
  modmask : BitVec 16
  deriving DecidableEq, Repr

/-- What a CONTROL flit says between modules where the manual gives its content and no format (log entry 163): the first abort of a
cluster group's run (R292), a strand trigger and a channel's trigger with their instants (R181), a member module's part of a cluster
group in its snapshot of a tick (R161: the words of R407), a roster entry for the secondary anchor (R286), a HELLO (R284), a HELLO
reported to the anchor (R284), a challenge's nonce and its answer (R285), a request for a bead of this module's memory (R65), that a
subchannel of a module has become faulty or is no longer (R321, R337), a new expiry of the lease (R288), a change of the map (R294), an adoption tick
(R287), what the challenged module is told (R285, R286), a cluster group (R252, R305), the new anchor (R299), the tick P (R301). -/
inductive CluMsg where
  | firstAbort (c : Fin 1024) (unit : Fin 1024) (module : Fin 16) (cause : BitVec 8)
  | strand (module : Fin 16) (strand : BitVec 16) (at_ : BitVec 96)
  | xtrig (module : Fin 16) (chan : Fin 8) (at_ : BitVec 96)
  | part (module : Fin 16) (c : Fin 1024) (tick : BitVec 64) (words : List (BitVec 64))
  | roster (m : Fin 16) (serial : BitVec 48) (valid : Bool)
  | hello (h : HelloIn)
  | report (p : Fin 4) (h : HelloIn)
  | nonce (nonce : BitVec 256) (anchor : BitVec 48)
  | answer (sig : List Byte)
  | bead (module : Fin 16) (leaf : Fin 16) (bead : BitVec 32)
  | faulty (module : Fin 16) (sub : Fin 4) (lost : Bool)
  | expiry (tick : BitVec 64)
  | map (i : MapIn)
  | adopt (m : Fin 16) (a : AdoptIn)
  | verdict (refused : Bool) (reason : Fin 5)
  | group (c : Fin 1024) (told : CgTold)
  | takeover (m : Fin 16)
  | partition (p : BitVec 64)
  deriving DecidableEq, Repr

/-- What a flit that arrives brings: its 256 bits, and beside them the message that its payload spells where R399, R400 and R409 give no format, with
the module it goes to; and the equaliser values that the receivers of the four lanes have adapted to by then (R269: the peaking code and
the five taps; none: as they were); and, for the last flit of a request that another module forwarded, the tick in which it did (R401). -/
structure FlitIn where
  raw : BitVec 256 := 0
  msg : Option (Fin 16 × CluMsg) := none
  eq : List (BitVec 44) := []
  fwdAt : Option (BitVec 64) := none
  deriving DecidableEq, Repr

/-- R56, R66, R83: a leaf, and which of the four header words of the bead that is checked fail their parity. -/
structure BeadIn where
  leaf : Fin 16
  par : Fin 16 := 0
  deriving DecidableEq, Repr

/-- R89: a unit whose start tick has come, and for a cluster group the first leaf, with its module, for which the start came too late. -/
structure RunIn where
  unit : UnitRef
  late : Option (Fin 16 × Fin 16) := none
  deriving DecidableEq, Repr


/-- The commands, in the order of the opcode table. -/
inductive Instr where
  /- the site tick -/
  | tickBoundary
  | snapshotExchange
  | groupDecisionReady (u : UnitRef)
  | tickFlitLaunch (second : Bool)
  | clusterFlagDeadline
  /- transactions and events -/
  | read64 (h : Hdr) (addr : BitVec 40)
  | readb (h : Hdr) (addr : BitVec 40) (lenm1 : Fin 256)
  | writeb (h : Hdr) (addr : BitVec 40) (data : List Byte)
  | write64 (h : Hdr) (addr : BitVec 40) (data : Word)
  | forwardTimeout (src : Fin 256) (tag : Fin 65536)
  | serviceRequest (tag : Fin 65536) (dst : Fin 16) (op : HostOp)
  | ping (h : Hdr)
  | tickAlarm
  | eventMessageSend
  /- pattern flow -/
  | queueEntry (l : Fin 16)
  | routineStart (l : Fin 16)
  | vectorIssue (l : Fin 16)
  | edgePlace (l : Fin 16) (slot : Fin 9) (cl ch exc : Bool)
  | compareResult (l : Fin 16) (slot : Fin 9)
  | beadBoundary (x : BeadIn)
  | vectorActionDeadline (l : Fin 16)
  | beadLanding (l : Fin 16) (slot : Fin 8192) (link : Option (List Byte))
  | streamFetch (l : Fin 16)
  | holdResume (x : BeadIn)
  | holdTimeout (l : Fin 16)
  | runCompletion (l : Fin 16)
  | start (h : Hdr) (u : UnitRef)
  | runStart (x : RunIn)
  | abort (h : Hdr) (u : UnitRef)
  | abortTakeEffect (l : Fin 16)
  | jump (h : Hdr) (u : UnitRef)
  | hostJumpLatch (u : UnitRef)
  | clear (h : Hdr) (u : UnitRef)
  | strandDescriptorWrite (h : Hdr) (addr : BitVec 40) (data : List Byte)
  /- the micro-engine -/
  | seqNext (l : Fin 16)
  | seqJump (l : Fin 16)
  | branchT (l : Fin 16)
  | branchF (l : Fin 16)
  | call (l : Fin 16)
  | ret (l : Fin 16)
  | done (l : Fin 16)
  | wait (l : Fin 16)
  | tickwait (l : Fin 16)
  | interruptTaken (l : Fin 16)
  | load (h : Hdr)
  | mcLoadComplete
  | otpKeyOpen (h : Hdr) (key : Word)
  | otpKeyExpire
  | programSlot (h : Hdr) (slot : Fin 4)
  | revokeSlot (h : Hdr) (slot : Fin 4)
  | advanceSvn (h : Hdr)
  | stackFaultClear (h : Hdr)
  /- timing sets -/
  | swap (h : Hdr) (l : Fin 16)
  | cancel (h : Hdr) (l : Fin 16)
  | tsExchange (l : Fin 16)
  | dllLockChange (lock : Bool)
  /- fail log -/
  | failLogWrite
  | flReset (h : Hdr)
  | flCfgWrite (h : Hdr) (data : Word)
  | flRdWrite (h : Hdr) (data : Word)
  /- acquisition -/
  | armChannel (h : Hdr) (n : Fin 8)
  | acqStop (h : Hdr) (n : Fin 8)
  | acqForce (h : Hdr) (n : Fin 8)
  | clearChannel (h : Hdr) (n : Fin 8)
  | acqSample (n : Fin 8) (pins : BitVec 18)
  | triggerOccurrence (n : Fin 8)
  | acqDrain (n : Fin 8)
  /- edge time measurement -/
  | refinLoss
  | refGateEnd (near : Option (Fin 2)) (off : BitVec 12)
  | refinQualified
  | refRestored
  | tsWrap
  | tmuEdge (p : Fin 144) (rising : Bool) (at_ : Fin 327680)
  | pairEdgeProcess (e : Fin 16)
  | pairPendingExpire (e : Fin 16)
  | pairEnable (h : Hdr) (e : Fin 16) (data : Word)
  | fcModeWrite (h : Hdr) (f : Fin 16) (data : Word)
  | fcGateEnd (f : Fin 16)
  | cdtStart (h : Hdr) (p : BitVec 8)
  | tmuCdtDone (low mid high : List (BitVec 32))
  /- DC -/
  | dcClamp (p : Fin 144)
  | dsaOutput (l : Fin 16) (raw : BitVec 32)
  | dsaGo (h : Hdr) (l : Fin 16)
  | dsaRefReady (l : Fin 16)
  | dsaStartTimeout (l : Fin 16)
  | dsaDiag (h : Hdr) (l : Fin 16)
  | dsaDiagDone (l : Fin 16)
  /- raster -/
  | rsStop (h : Hdr)
  | rsCommit (h : Hdr)
  | frontPorchStart
  | teEdge (at_ : Fin 327680)
  | teTimeout
  /- mount image -/
  | mount (h : Hdr)
  | mountComplete (eeprom : Option (BitVec 80))
  | unmount (h : Hdr)
  | unmountComplete
  | clusterGroupForm (c : Fin 1024) (i : CgIn) (told : Option CgTold)
  /- links -/
  | linkSignalDetect (p : Fin 5)
  | laneTrainDone (p : Fin 5) (lanes : Fin 16) (skew : List (BitVec 8)) (eq : List (BitVec 44)) (delay : BitVec 32)
  | trainTimeout (p : Fin 5) (locked : Bool)
  | capsReceived (p : Fin 5) (rate : Fin 4) (lanes : Fin 16) (peer : Fin 8) (ver : BitVec 8)
  | capsTimeout (p : Fin 5)
  | rateStepDone (p : Fin 5) (pass : Bool) (skew : List (BitVec 8)) (eq : List (BitVec 44))
  | linkWaitExpire (p : Fin 5)
  | flitReceive (p : Fin 5) (x : FlitIn)
  | nakReceived (p : Fin 5) (q : Fin 64)
  | laneLoss (p : Fin 5) (k : Fin 4)
  | lkWidth (p : Fin 5)
  | rxSilentTimeout (p : Fin 5)
  | laneWiden (p : Fin 5) (k : Fin 4)
  | retrain (h : Hdr) (p : Fin 5)
  | testEnter (h : Hdr) (p : Fin 5)
  | testExit (h : Hdr) (p : Fin 5)
  /- cluster -/
  | helloReceived (p : Fin 5) (via : Option (Fin 16 × Bool)) (h : HelloIn)
  | helloResend (p : Fin 5)
  | challengeResponse (m : Fin 16) (r : ChalIn)
  | challengeTimeout (m : Fin 16)
  | rosterWrite (h : Hdr) (m : Fin 16) (data : Word)
  | tickAdoption (m : Fin 16) (a : Option AdoptIn)
  | leaseGrant
  | leaseRenew
  | renewalConfirm (expiry : Option (BitVec 64))
  | leaseExpiry
  | phaseMarkerSend
  | phaseMarkerReceive (p : Fin 5) (a o : BitVec 32) (rootHold : Bool)
  | mapChange (i : MapIn)
  | routeChangeApply
  | idDeparted (m : Fin 16)
  | idAnchorLost
  | tickHoldoverLimit
  | leaseClaim
  | idAnchorTakeover (m : Fin 16)
  | claimRefused (p : Option (BitVec 64))
  | idPartitioned
  /- placement -/
  | plan (h : Hdr) (commit : Bool)
  | plPlanned (r : PlanIn)
  | planCommit (h : Hdr)
  | planCancel (h : Hdr)
  | plLoaded
  | replicaCopyDone (st : BitVec 16)
  /- memory -/
  | scrubPass (fixed bad : List (Fin 268435456))
  | caAlert (k : Fin 4) (again : Bool)
  | dmRetrain (h : Hdr) (sub : Fin 16)
  | dmRetrainDone (pass : Fin 16)
  | dramTempRead (ts : List (BitVec 8))
  | dramRefresh (k : Fin 4)
  | selfRefreshEntry
  | hostDramWrite (h : Hdr) (addr : BitVec 40) (data : List Byte)
  /- calibration -/
  | calStartFull (h : Hdr)
  | calStartDrift (h : Hdr)
  | calAutoStart
  | calComplete (c : CalIn)
  | calCancel (h : Hdr)
  | calDelete (h : Hdr) (slot : Fin 32)
  | calRescan (h : Hdr) (eeprom : Option (BitVec 80))
  /- journal -/
  | journalDrain
  | jnExport (h : Hdr)
  | jnExported
  /- power, cooling and guards -/
  | powerUp (low1s : Bool)
  | bootComplete (ms : BitVec 16) (fallback : Bool) (trained : Fin 16) (eeprom : Option (BitVec 80))
  | powerDown
  | inputProtection
  | thermalTrip
  | sensorSample (k : Fin 27) (v : BitVec 32) (bad : Bool)
  | safeEntry
  | safePark (l : Fin 16)
  | safeEnter (h : Hdr)
  | safeExit (h : Hdr)
  | clearOkReached
  | dewStaleTimeout
  | faultEntry (cause : Fin 6) (detail : BitVec 8) (frontEnd dramRail : Bool)
  | moduleReset (h : Hdr)
  | pfeFault (i : Fin 4) (cause : Fin 4)
  | triginEdge (j : Fin 4) (rise : Bool) (at_ : Fin 327680)
  | fwBegin (h : Hdr)
  | fwDataWrite (h : Hdr) (data : Word)
  | fwCommit (h : Hdr)
  /- rows at the end of the table -/
  | clampReturned (p : Fin 144)
  | fwVerifyDone (code : Fin 4)
  | secondaryRegistration (m : Fin 16)
  | prbsCheckerLock (p : Fin 5) (k : Fin 4) (errs : BitVec 32)
  | widthRequest (p : Fin 5) (lanes : Fin 16)
  | alertNDeassert (k : Fin 4)
  deriving DecidableEq, Repr

end Sys2Proof
end

