-- ==== Sys2Proof/Config.lean ====
section
/-! DEFINITION. What the spec leaves to an implementation or to an outside standard: free values, as constants without a body.
A statement holds whatever they are. -/

namespace Sys2Proof

/-- R47, R324: a byte of memory that nothing has written since its content last became undefined: by region epoch and
address. -/
opaque Config.freeByte : Nat → Nat → Byte

/-- R121: the SHA-256 digest of a byte string (FIPS 180-4, which the manual names and does not retell), byte 0 lowest. -/
opaque Config.sha256 : List Byte → Nat

/-- R121, R396: whether an ECDSA P-256 signature verifies: key, digest, signature (FIPS 186-4). -/
opaque Config.ecdsaVerify : List Byte → Nat → List Byte → Bool

/-- R408: the revision of the engine ASIC, of the front ends, and the firmware's three version numbers. -/
opaque Config.glbRev : BitVec 48

/-- R124: the hashes the factory programs into key slots 0 and 1. -/
opaque Config.factoryHash : Nat → Nat

/-- R107: the C flag after a shift by 0, which shifts no bit out: by the shifted value. -/
opaque Config.shiftZeroCarry : Nat → Bool

/-- R267, R273: the payload of a LINKCTL flit (CAPS, NAK), which R270 names and gives no format: by what it carries. -/
opaque Config.linkctl : List Nat → BitVec 224

/-- R284: the module's identity certificate chain, DER. -/
opaque Config.certChain : List Byte

/-- R285: the signature that the device key in OTP gives a digest. -/
opaque Config.deviceSign : Nat → List Byte

/-- R209: what a bin of the code-density histogram holds while the test runs: by the instant and the code (no row of the opcode table is a
hit). -/
opaque Config.cdtPartial : Nat → Nat → Nat

/-- R346: the checksum of the factory data. -/
opaque Config.factoryChecksum : BitVec 32

/-- R243: whether a layer's pixel on a subchannel that stalls is not on die when it is due: by the instant and the layer. -/
opaque Config.fetchLate : Nat → Nat → Bool

/-- A value an instruction's rule leaves open, numbered by the counter `State.free`. -/
opaque Config.freeValue : Nat → Nat

end Sys2Proof
end

