-- ==== Sys2Proof/Machine/Bits.lean ====
section
/-! DEFINITION. Bit fields, two's complement, byte order and checksums (00_scope.md R3; 02_vectors.md, 04_microcode.md,
11_mount.md for the checksums). -/

namespace Sys2Proof.Machine

/-- R3: the field of `w` bits of `v` that begins at bit `lo`. -/
def bits (v lo w : Nat) : Nat := v / 2 ^ lo % 2 ^ w

/-- A flag as the bit that shows it. -/
def bit (b : Bool) : Nat := if b then 1 else 0

/-- R3: a word put together from fields `(lo, w, value)`, each value cut to its width. -/
def pack : List (Nat × Nat × Nat) → Nat
  | [] => 0
  | (lo, w, v) :: t => v % 2 ^ w * 2 ^ lo + pack t

/-- A `w`-bit field read as two's complement. -/
def sx (w v : Nat) : Int :=
  if v % 2 ^ w < 2 ^ (w - 1) then (v % 2 ^ w : Nat) else (v % 2 ^ w : Nat) - (2 ^ w : Nat)

/-- An integer as the `w`-bit two's complement field that holds it. -/
def twos (w : Nat) (i : Int) : Nat := (i % (2 ^ w : Nat)).toNat

/-- R406, R161: a sum that stops at the greatest value of `w` bits. -/
def satAdd (w a b : Nat) : Nat := min (a + b) (2 ^ w - 1)

/-- R3: `n` little-endian bytes of a value. -/
def toBytes : Nat → Nat → List Byte
  | 0, _ => []
  | n + 1, v => BitVec.ofNat 8 v :: toBytes n (v / 256)

/-- R3: the value of little-endian bytes. -/
def ofBytes : List Byte → Nat
  | [] => 0
  | b :: t => b.toNat + 256 * ofBytes t

/-- `n` bytes of a list from offset `off`; what the list lacks is left out. -/
def slice (l : List Byte) (off n : Nat) : List Byte := (l.drop off).take n

/-- The little-endian value of `n` bytes at offset `off`. -/
def field (l : List Byte) (off n : Nat) : Nat := ofBytes (slice l off n)

/-- One bit of a checksum that shifts to the left (CRC-16). -/
def crc16Bit (c : Nat) (b : Bool) : Nat :=
  let c2 := c * 2 % 2 ^ 16
  if (c / 2 ^ 15 % 2 == 1) != b then c2 ^^^ 0x1021 else c2

/-- One byte of the CRC-16, most significant bit first. -/
def crc16Byte (c : Nat) (b : Byte) : Nat :=
  [7, 6, 5, 4, 3, 2, 1, 0].foldl (fun c i => crc16Bit c (b.getLsbD i)) c

/-- R58: CRC-16 with polynomial 0x1021 and initial value 0xFFFF. -/
def crc16 (l : List Byte) : Nat := l.foldl crc16Byte 0xFFFF

/-- One step of the reflected CRC-32. -/
def crc32Bit (c : Nat) : Nat := if c % 2 = 1 then c / 2 ^^^ 0xEDB88320 else c / 2

/-- One byte of the reflected CRC-32. -/
def crc32Byte (c : Nat) (b : Byte) : Nat :=
  [0, 1, 2, 3, 4, 5, 6, 7].foldl (fun c _ => crc32Bit c) (c ^^^ b.toNat)

/-- R247: CRC-32, initial value and final inversion 0xFFFF_FFFF. -/
def crc32 (l : List Byte) : Nat := l.foldl crc32Byte 0xFFFFFFFF ^^^ 0xFFFFFFFF

/-- A quotient rounded up. -/
def ceilDiv (a b : Nat) : Nat := (a + b - 1) / b

/-- The members of a mask of `n` bits, lowest first. -/
def maskList (n m : Nat) : List Nat := (List.range n).filter (fun i => m.testBit i)

/-- How many bits of the low `n` of a mask are set. -/
def popcount (n m : Nat) : Nat := (maskList n m).length

/-- The mask with exactly the listed bits set. -/
def maskOf (l : List Nat) : Nat := l.foldl (fun m i => m ||| 2 ^ i) 0

/-- A mask with bit `i` set or cleared. -/
def setBit (m i : Nat) (b : Bool) : Nat :=
  if m.testBit i then (if b then m else m - 2 ^ i) else (if b then m + 2 ^ i else m)

/-- The first index below the length at which a test holds. -/
def findIx? {α : Type} (p : α → Bool) : List α → Option Nat
  | [] => none
  | a :: t => if p a then some 0 else (findIx? p t).map (· + 1)

end Sys2Proof.Machine
end

