-- ==== Sys2Proof/Machine/Route.lean ====
section
/-! DEFINITION. Topologies and routes (13_cluster.md R281, R293). Ports: 0 N, 1 E, 2 S, 3 W, 4 U. -/

namespace Sys2Proof.Machine

/-- R281: the sizes of the two dimensions of a topology. -/
def topoSize (kind n : Nat) : Nat × Nat :=
  if kind = 0 then (1, 1) else if kind = 3 then (n, 2) else if kind = 4 then (4, 4) else (n, 1)

/-- R281: whether x and y wrap. -/
def topoWrap (kind : Nat) : Bool × Bool :=
  (kind == 2 || kind == 3 || kind == 4, kind == 4)

/-- R281: the numbers of modules per row a topology accepts. -/
def topoNOk (kind n : Nat) : Bool :=
  if kind = 0 then n == 1
  else if kind = 1 then decide (2 ≤ n) && decide (n ≤ 16)
  else if kind = 2 then decide (3 ≤ n) && decide (n ≤ 16)
  else if kind = 3 then decide (3 ≤ n) && decide (n ≤ 8)
  else kind == 4 && n == 4

/-- R281: how many modules a topology has. -/
def topoCount (kind n : Nat) : Nat := (topoSize kind n).1 * (topoSize kind n).2

/-- R281: one step along a dimension of size `len`; none where it does not wrap and ends. -/
def stepDim (wrap : Bool) (len i : Nat) (fwd : Bool) : Option Nat :=
  if fwd then (if i + 1 < len then some (i + 1) else if wrap then some 0 else none)
  else (if 0 < i then some (i - 1) else if wrap then some (len - 1) else none)

/-- R281: the module reached from `m` through neighbour port `p`. -/
def neighbour (kind n m p : Nat) : Option Nat :=
  let (w, h) := topoSize kind n
  let (wx, wy) := topoWrap kind
  let x := m % w
  let y := m / w
  if p = 1 ∨ p = 3 then
    if w ≤ 1 then none else (stepDim wx w x (p == 1)).map (fun x' => x' + w * y)
  else if p = 0 ∨ p = 2 then
    if h ≤ 1 then none else (stepDim wy h y (p == 2)).map (fun y' => x + w * y')
  else none

/-- R293: whether a dimension is crossed forward (E or S): the shorter way, a tie forward. -/
def shortFwd (wrap : Bool) (len i j : Nat) : Bool :=
  if wrap then decide ((j + len - i) % len ≤ (i + len - j) % len) else decide (i < j)

/-- R293: the port out of `m` toward `d` on the route of `copy`, as the rule gives it where every link is usable; `s` is the
source the route starts from. -/
def rulePort (kind n copy s m d : Nat) : Option Nat :=
  let (w, h) := topoSize kind n
  let (wx, wy) := topoWrap kind
  let (x, y, dx, dy, sx', sy) := (m % w, m / w, d % w, d / w, s % w, s / w)
  let flipX := copy == 1 && sy == dy && wx
  let flipY := copy == 1 && sx' == dx && wy
  let px := if shortFwd wx w sx' dx != flipX then 1 else 3
  let py := if shortFwd wy h sy dy != flipY then 2 else 0
  if x = dx ∧ y = dy then none
  else if copy = 0 then (if x ≠ dx then some px else some py)
  else (if y ≠ dy then some py else some px)

/-- R293: the modules and ports of the rule's path; none when a link on it is unusable. -/
def rulePath (kind n copy : Nat) (links : Nat → Nat) (s d : Nat) : Nat → Nat → Option (List (Nat × Nat))
  | 0, _ => none
  | fuel + 1, m =>
    if m = d then some []
    else match rulePort kind n copy s m d with
      | none => none
      | some p =>
        match neighbour kind n m p with
        | none => none
        | some m' =>
          if (links m).testBit p then (rulePath kind n copy links s d fuel m').map (fun l => (m, p) :: l) else none

/-- The modules from which `d` is reached in at most `k` hops over usable links. -/
def reachSet (kind n : Nat) (links : Nat → Nat) (d : Nat) : Nat → List Nat
  | 0 => [d]
  | k + 1 =>
    let r := reachSet kind n links d k
    (List.range (topoCount kind n)).filter (fun m =>
      r.contains m || [0, 1, 2, 3].any (fun p =>
        (links m).testBit p && ((neighbour kind n m p).map (fun m' => r.contains m')).getD false))

/-- R293: the shortest path over usable links, by the lowest-numbered port at each step. -/
def shortPath (kind n : Nat) (links : Nat → Nat) (d : Nat) : Nat → Nat → Option (List (Nat × Nat))
  | 0, m => if m = d then some [] else none
  | k + 1, m =>
    if m = d then some []
    else if (reachSet kind n links d k).contains m then shortPath kind n links d k m
    else
      let r := reachSet kind n links d k
      match [0, 1, 2, 3].find? (fun p =>
        (links m).testBit p && ((neighbour kind n m p).map (fun m' => r.contains m')).getD false) with
      | none => none
      | some p =>
        match neighbour kind n m p with
        | none => none
        | some m' => (shortPath kind n links d k m').map (fun l => (m, p) :: l)

/-- R293: the hops (module, port) of the route of `copy` from `s` to `d`. -/
def routeHops (kind n copy : Nat) (links : Nat → Nat) (s d : Nat) : Option (List (Nat × Nat)) :=
  let c := if copy = 1 ∧ kind = 1 then 0 else copy
  match rulePath kind n c links s d 17 s with
  | some l => some l
  | none => shortPath kind n links d 16 s

end Sys2Proof.Machine
end

