-- ==== Sys2Proof/Machine/RegMap.lean ====
section
/-! DEFINITION. The register map of the spec (19_registers.md R403 and the register tables of each chapter): one cell for
every stored field of every register, and for every register its place, its copies and its fields. -/

namespace Sys2Proof.Machine

/-- One stored field of one register (or of one array of registers): its number in the file of cells, its width in bits and
its reset value. -/
structure Fld where
  key : Nat
  w : Nat
  rst : Nat
  deriving DecidableEq, Repr

/-- R6: the access codes. -/
inductive Acc where
  | rw | ro | w1c | wo
  deriving DecidableEq, Repr

/-- One field inside a register: where it lies, how the host may use it, and its cell (a field without a cell is an action
bit, which reads 0, or a value the model computes). -/
structure Slot where
  lo : Nat
  w : Nat
  acc : Acc
  cell : Option Fld
  deriving DecidableEq, Repr

/-- A register's place: its address, and for an array the number of copies and the distance between them, outermost first. -/
structure RegDesc where
  base : Nat
  dims : List (Nat × Nat)
  slots : List Slot
  deriving DecidableEq, Repr

/-- Every register, or array of registers, the chapters name. -/
inductive RegN where
  | UNIT_CTL | UNIT_STATUS | UNIT_KIND | UNIT_DEPTH | UNIT_START_TICK | UNIT_START_STRAND
  | UNIT_JUMP | UNIT_JUMP_TICK | UNIT_VCOUNT | UNIT_HOLD_LIMIT | UNIT_HOLD_GAP | UNIT_SAFEPT
  | UNIT_ABORT_SRC | MC_CTL | MC_STATUS | MC_VER | MC_DIGEST | MC_SRC_ADDR
  | MC_SRC_LEN | MC_REJECT | MC_OTP | MC_OTP_KEY | MC_OTP_CMD | MC_OTP_DATA
  | MC_HOSTFLAG | MC_LATE_INFO | MC_VACT_LATE | MC_UREG | TS_PERIOD | TS_ACT_PERIOD
  | TS_PIN_A | TS_ACT_PIN_A | TS_PIN_B | TS_ACT_PIN_B | TS_CTL | TS_SWAP_TICK
  | TS_STATUS | TS_SWAP_AT | TS_COLL_COUNT | TS_COLL_FIRST | TS_CFG | TS_DESKEW_A
  | TS_DESKEW_B | TS_LVL_DRV | TS_LVL_CMP | FL_CTL | FL_CFG | FL_WR
  | FL_RD | FL_DROPPED | FL_LIMITED | FL_STATUS | FL_APER | FL_WMARK
  | FL_LIMIT | UNIT_PFAIL | UNIT_FVEC | UNIT_FF_POS | UNIT_FF_WHERE | UNIT_FF_TICK
  | UNIT_FSTOP | UNIT_FSTAT | ACQ_GSTATUS | ACQ_BW_USED | ACQ_APER | ACQ_CTL
  | ACQ_CFG | ACQ_SRAM | ACQ_DRAM | ACQ_PRE | ACQ_POST | ACQ_TRIG
  | ACQ_RED | ACQ_BW | ACQ_STAT | ACQ_POST_EFF | ACQ_IGN_TRIG | ACQ_GAPS
  | ACQ_LOST | ACQ_TRIG_TIME | ACQ_TRIG_LOC | ACQ_SEQ | ACQ_LATE_TRIG | TMU_REF
  | TMU_REF_CFG | TMU_DLL | TMU_EPOCH | TMU_GSTATUS | TMU_CDT_CTL | TMU_CDT_RES
  | TMU_PIN_CFG | TMU_MISSED | TMU_LAST | TMU_PAIR_CFG | TMU_PAIR_W | TMU_PAIR_LO
  | TMU_PAIR_HI | TMU_PAIR_LAST | TMU_PAIR_COUNT | TMU_UNPAIRED | TMU_WIN_COUNT | TMU_FC_CFG
  | TMU_FC_TICK | TMU_FC_RES | TMU_FC_SPAN | TMU_CDT_HIST | DC_GSTATUS | DC_PIN_CFG
  | DC_PIN_FORCE | DC_PIN_STAT | DSA_CTL | DSA_STAT | DSA_RES | DSA_THR_CFG
  | DSA_THR_LVL | DSA_THR_COUNT | DSA_SETTLE0 | DSA_SETTLE1 | DSA_CMD | DC_DIAG_CFG
  | DC_DIAG_RES | DSA_CHV | RS_CTL | RS_COMMIT | RS_CFG | RS_STATIC
  | RS_BG | RS_ACT_BG | RS_L_CFG | RS_ACT_L_CFG | RS_L_POS | RS_ACT_L_POS
  | RS_L_BASE | RS_ACT_L_BASE | RS_L_STRIDE | RS_ACT_L_STRIDE | RS_STATUS | RS_FRAME
  | RS_GEN | RS_TORN_COUNT | RS_TORN_FRAME | RS_LATE_COUNT | MNT_CTL | MNT_STATUS
  | MNT_SRC_ADDR | MNT_SRC_LEN | MNT_REJECT | MNT_ID | MNT_HINTS | MNT_UMAP
  | MNT_LEAF | MNT_TRIG | MNT_ACQ | MNT_RASTER | MNT_PARENT | LK_GSTATUS
  | LK_CTL | LK_CFG | LK_STAT | LK_TRAIN_FAILS | LK_CRC_ERR | LK_REPLAY
  | LK_TICK_LOST | LK_DOWNSHIFT | LK_SKEW | LK_EQ | LK_PRBS_CTL | LK_PRBS_STAT
  | LK_PRBS_ERR | ID_SERIAL | ID_STAT | ID_TOPO | ID_LEASE | ID_PHASE
  | ID_FLAG_MISS | ID_GSTATUS | ID_ROSTER | ID_MAP | ID_CG | PL_CTL
  | PL_CFG | PL_SRC_ADDR | PL_SRC_LEN | PL_STATUS | PL_REJECT_AT | PL_STREAM
  | PL_SCFAULT | PL_EXP_COUNT | PL_PREFETCH | PL_HINT_IGN | PL_PROMOTIONS | PL_LEAF
  | PL_LINK | PL_EXPOSED | DM_CTL | DM_STATUS | DM_REGION | DM_MAP
  | DM_BASE | DM_SR_IDLE | DM_SCRUB | DM_SC_STAT | DM_CE | DM_UE
  | DM_CA_ALERT | DM_CE_LAST | DM_UE_LAST | DM_BZ_BASE | DM_BZ_LIMIT | DM_BZ_CFG
  | DM_BZ_HIT | CAL_CTL | CAL_CFG | CAL_STATUS | CAL_LBID | CAL_RESULT
  | CAL_REJ_COUNT | CAL_TLEAF | CAL_PARTNER | CAL_LKT_INFO | CAL_LKT_LBID | CAL_LKT_TEMP
  | JN_CTL | JN_CFG | JN_WR | JN_STATUS | JN_LOST | JN_EXP_CFG
  | JN_EXP_FROM | JN_EXP_TO | JN_EXP_DROPPED | JN_RPL_CFG | JN_RPL_SRC | JN_RPL_RUN
  | JN_RPL_STAT | JN_RPL_DIVTICK | JN_SLOT_INFO | JN_SLOT_FROM | ENV_CTL | ENV_CFG
  | ENV_STATUS | ENV_SAFE_NOW | ENV_SAFE_SEEN | ENV_FAULT | ENV_VIN | ENV_COOL
  | ENV_TEMP | ENV_IMPL | ENV_DEW | ENV_PFE | ENV_BOOT | ENV_SAFE_COUNT
  | ENV_FW_CTL | ENV_FW_STAT | ENV_FW_DATA | GLB_ID | GLB_REV | GLB_STATE
  | GLB_CMD | GLB_TICK | GLB_ALARM | GLB_SNAP_CTL | GLB_SNAP_TICK | GLB_SNAP_STATE
  | GLB_ERR_ADDR | GLB_ERR_INFO | GLB_ERR_COUNT | EVT_CFG | EVT_SEQ | EVT_LOST
  | EVT_STATUS | EVT_ENABLE
  deriving DecidableEq, Repr

namespace F


-- 03_strands.md R96
abbrev UNIT_STATUS_STATE : Fld := ⟨0, 3, 0⟩
abbrev UNIT_STATUS_START_PENDING : Fld := ⟨1, 1, 0⟩
abbrev UNIT_STATUS_LATE_ABORT : Fld := ⟨2, 1, 0⟩
abbrev UNIT_STATUS_TIMING_BROKEN : Fld := ⟨3, 1, 0⟩
abbrev UNIT_STATUS_UNDERRUN : Fld := ⟨4, 1, 0⟩
abbrev UNIT_STATUS_VCOUNT_WRAP : Fld := ⟨5, 1, 0⟩
abbrev UNIT_STATUS_HOLDING : Fld := ⟨6, 1, 0⟩
abbrev UNIT_STATUS_CAUSE : Fld := ⟨7, 8, 0⟩
abbrev UNIT_STATUS_CUR_STRAND : Fld := ⟨8, 16, 0⟩
abbrev UNIT_STATUS_CUR_BEAD : Fld := ⟨9, 24, 0⟩
abbrev UNIT_START_TICK_START_TICK : Fld := ⟨10, 64, 0⟩
abbrev UNIT_START_STRAND_STRAND : Fld := ⟨11, 16, 0⟩
abbrev UNIT_JUMP_TARGET : Fld := ⟨12, 16, 0⟩
abbrev UNIT_JUMP_TICK_JUMP_TICK : Fld := ⟨13, 64, 0⟩
abbrev UNIT_VCOUNT_VCOUNT : Fld := ⟨14, 48, 0⟩
abbrev UNIT_HOLD_LIMIT_LIMIT : Fld := ⟨15, 32, 3906⟩
abbrev UNIT_HOLD_GAP_GAP : Fld := ⟨16, 48, 0⟩
abbrev UNIT_SAFEPT_STRAND : Fld := ⟨17, 16, 0⟩
abbrev UNIT_SAFEPT_BEAD : Fld := ⟨18, 24, 0⟩
abbrev UNIT_SAFEPT_VALID : Fld := ⟨19, 1, 0⟩
abbrev UNIT_ABORT_SRC_SRC_UNIT : Fld := ⟨20, 10, 0⟩
abbrev UNIT_ABORT_SRC_SRC_MODULE : Fld := ⟨21, 4, 0⟩
abbrev UNIT_ABORT_SRC_SRC_CAUSE : Fld := ⟨22, 8, 0⟩

-- 04_microcode.md R125
abbrev MC_STATUS_STATE : Fld := ⟨23, 2, 0⟩
abbrev MC_STATUS_LAST_OK : Fld := ⟨24, 1, 0⟩
abbrev MC_STATUS_STACK_FAULT : Fld := ⟨25, 1, 0⟩
abbrev MC_STATUS_KEY_SLOT : Fld := ⟨26, 4, 0⟩
abbrev MC_STATUS_SAT : Fld := ⟨27, 1, 0⟩
abbrev MC_STATUS_STACK_LEAVES : Fld := ⟨28, 16, 0⟩
abbrev MC_VER_MAJOR : Fld := ⟨29, 8, 0⟩
abbrev MC_VER_MINOR : Fld := ⟨30, 8, 0⟩
abbrev MC_VER_PATCH : Fld := ⟨31, 16, 0⟩
abbrev MC_VER_SVN : Fld := ⟨32, 32, 0⟩
abbrev MC_DIGEST_DIGEST : Fld := ⟨33, 64, 0⟩
abbrev MC_SRC_ADDR_ADDR : Fld := ⟨34, 40, 0⟩
abbrev MC_SRC_LEN_LEN : Fld := ⟨35, 17, 0⟩
abbrev MC_REJECT_CODE : Fld := ⟨36, 8, 0⟩
abbrev MC_REJECT_OFFSET : Fld := ⟨37, 24, 0⟩
abbrev MC_OTP_MIN_SVN : Fld := ⟨38, 6, 0⟩
abbrev MC_OTP_PROG : Fld := ⟨39, 4, 3⟩
abbrev MC_OTP_REVOKED : Fld := ⟨40, 4, 0⟩
abbrev MC_OTP_DATA_DATA : Fld := ⟨41, 64, 0⟩
abbrev MC_HOSTFLAG_FLAG : Fld := ⟨42, 64, 0⟩
abbrev MC_LATE_INFO_LEAF : Fld := ⟨43, 4, 0⟩
abbrev MC_LATE_INFO_ADDR : Fld := ⟨44, 12, 0⟩
abbrev MC_LATE_INFO_PC : Fld := ⟨45, 12, 0⟩
abbrev MC_LATE_INFO_VECTOR : Fld := ⟨46, 6, 0⟩
abbrev MC_VACT_LATE_COUNT : Fld := ⟨47, 32, 0⟩
abbrev MC_UREG_VALUE : Fld := ⟨48, 32, 0⟩

-- 05_timing.md R148
abbrev TS_PERIOD_PERIOD : Fld := ⟨49, 32, 12800⟩
abbrev TS_PIN_A_E1 : Fld := ⟨50, 24, 0⟩
abbrev TS_PIN_A_E2 : Fld := ⟨51, 24, 0⟩
abbrev TS_PIN_A_FMT : Fld := ⟨52, 3, 0⟩
abbrev TS_PIN_A_CMODE : Fld := ⟨53, 2, 0⟩
abbrev TS_PIN_A_ZCHK : Fld := ⟨54, 1, 0⟩
abbrev TS_PIN_A_TERM : Fld := ⟨55, 2, 0⟩
abbrev TS_PIN_B_E3 : Fld := ⟨56, 24, 0⟩
abbrev TS_PIN_B_E4 : Fld := ⟨57, 24, 0⟩
abbrev TS_SWAP_TICK_TICK : Fld := ⟨58, 64, 0⟩
abbrev TS_STATUS_SWAP_PENDING : Fld := ⟨59, 1, 0⟩
abbrev TS_STATUS_LAST_SWAP_OK : Fld := ⟨60, 1, 0⟩
abbrev TS_STATUS_COLL_SEEN : Fld := ⟨61, 1, 0⟩
abbrev TS_STATUS_DLL_UNLOCK : Fld := ⟨62, 1, 0⟩
abbrev TS_STATUS_SAT : Fld := ⟨63, 1, 0⟩
abbrev TS_STATUS_REJECT : Fld := ⟨64, 8, 0⟩
abbrev TS_STATUS_REJ_SET : Fld := ⟨65, 4, 0⟩
abbrev TS_STATUS_REJ_SLOT : Fld := ⟨66, 4, 0⟩
abbrev TS_STATUS_REJ_EDGE : Fld := ⟨67, 3, 0⟩
abbrev TS_SWAP_AT_VINDEX : Fld := ⟨68, 48, 0⟩
abbrev TS_SWAP_AT_WHERE : Fld := ⟨69, 2, 0⟩
abbrev TS_COLL_COUNT_COUNT : Fld := ⟨70, 32, 0⟩
abbrev TS_COLL_FIRST_VINDEX : Fld := ⟨71, 48, 0⟩
abbrev TS_COLL_FIRST_SLOT : Fld := ⟨72, 4, 0⟩
abbrev TS_COLL_FIRST_EDGE : Fld := ⟨73, 3, 0⟩
abbrev TS_COLL_FIRST_REASON : Fld := ⟨74, 2, 0⟩
abbrev TS_COLL_FIRST_VALID : Fld := ⟨75, 1, 0⟩
abbrev TS_CFG_COLL_FAIL : Fld := ⟨76, 1, 1⟩
abbrev TS_DESKEW_A_E1 : Fld := ⟨77, 13, 0⟩
abbrev TS_DESKEW_A_E2 : Fld := ⟨78, 13, 0⟩
abbrev TS_DESKEW_A_E3 : Fld := ⟨79, 13, 0⟩
abbrev TS_DESKEW_A_E4W : Fld := ⟨80, 13, 0⟩
abbrev TS_DESKEW_B_E4S : Fld := ⟨81, 13, 0⟩
abbrev TS_LVL_DRV_VIL : Fld := ⟨82, 16, 0⟩
abbrev TS_LVL_DRV_VIH : Fld := ⟨83, 16, 13200⟩
abbrev TS_LVL_DRV_VT : Fld := ⟨84, 16, 0⟩
abbrev TS_LVL_DRV_VCOM : Fld := ⟨85, 16, 0⟩
abbrev TS_LVL_CMP_VOL : Fld := ⟨86, 16, 6600⟩
abbrev TS_LVL_CMP_VOH : Fld := ⟨87, 16, 6600⟩
abbrev TS_LVL_CMP_IOL : Fld := ⟨88, 16, 0⟩
abbrev TS_LVL_CMP_IOH : Fld := ⟨89, 16, 0⟩

-- 06_compare.md R164
abbrev FL_CFG_RING_64K : Fld := ⟨90, 7, 16⟩
abbrev FL_CFG_LEAF_EN : Fld := ⟨91, 16, 65535⟩
abbrev FL_WR_WR : Fld := ⟨92, 32, 0⟩
abbrev FL_RD_RD : Fld := ⟨93, 32, 0⟩
abbrev FL_DROPPED_COUNT : Fld := ⟨94, 32, 0⟩
abbrev FL_LIMITED_COUNT : Fld := ⟨95, 32, 0⟩
abbrev FL_STATUS_SAT : Fld := ⟨96, 1, 0⟩
abbrev FL_APER_BASE : Fld := ⟨97, 18, 0⟩
abbrev FL_WMARK_LEVEL : Fld := ⟨98, 19, 0⟩
abbrev FL_LIMIT_MAX : Fld := ⟨99, 24, 0⟩

-- 03_strands.md R96
abbrev UNIT_PFAIL_COUNT : Fld := ⟨100, 32, 0⟩
abbrev UNIT_FVEC_COUNT : Fld := ⟨101, 32, 0⟩
abbrev UNIT_FF_POS_VINDEX : Fld := ⟨102, 48, 0⟩
abbrev UNIT_FF_POS_VALID : Fld := ⟨103, 1, 0⟩
abbrev UNIT_FF_POS_LEAF : Fld := ⟨104, 4, 0⟩
abbrev UNIT_FF_POS_MODULE : Fld := ⟨105, 4, 0⟩
abbrev UNIT_FF_WHERE_STRAND : Fld := ⟨106, 16, 0⟩
abbrev UNIT_FF_WHERE_BEAD : Fld := ⟨107, 24, 0⟩
abbrev UNIT_FF_WHERE_VOFF : Fld := ⟨108, 6, 0⟩
abbrev UNIT_FF_WHERE_PMASK : Fld := ⟨109, 9, 0⟩
abbrev UNIT_FF_TICK_TICK : Fld := ⟨110, 64, 0⟩
abbrev UNIT_FSTOP_MODE : Fld := ⟨111, 2, 0⟩
abbrev UNIT_FSTOP_ACCUM : Fld := ⟨112, 1, 0⟩
abbrev UNIT_FSTOP_THRESH : Fld := ⟨113, 24, 1⟩
abbrev UNIT_FSTAT_FSTOP_HIT : Fld := ⟨114, 1, 0⟩
abbrev UNIT_FSTAT_SAT : Fld := ⟨115, 1, 0⟩
abbrev UNIT_FSTAT_FL_LOST : Fld := ⟨116, 1, 0⟩

-- 07_acquisition.md R190
abbrev ACQ_GSTATUS_SKEW_DEFAULT : Fld := ⟨117, 1, 0⟩
abbrev ACQ_GSTATUS_SAT : Fld := ⟨118, 1, 0⟩
abbrev ACQ_APER_PAGE : Fld := ⟨119, 11, 0⟩
abbrev ACQ_CFG_SOURCE : Fld := ⟨120, 4, 0⟩
abbrev ACQ_CFG_MEM : Fld := ⟨121, 1, 0⟩
abbrev ACQ_CFG_RED : Fld := ⟨122, 1, 0⟩
abbrev ACQ_CFG_SUM : Fld := ⟨123, 1, 0⟩
abbrev ACQ_CFG_SUMSQ : Fld := ⟨124, 1, 0⟩
abbrev ACQ_CFG_COUNT : Fld := ⟨125, 1, 0⟩
abbrev ACQ_CFG_XOUT : Fld := ⟨126, 1, 0⟩
abbrev ACQ_CFG_LEAFMASK : Fld := ⟨127, 16, 0⟩
abbrev ACQ_CFG_SLOTMASK : Fld := ⟨128, 9, 0⟩
abbrev ACQ_CFG_SOFS : Fld := ⟨129, 11, 0⟩
abbrev ACQ_SRAM_BASE : Fld := ⟨130, 11, 0⟩
abbrev ACQ_SRAM_PAGES : Fld := ⟨131, 12, 0⟩
abbrev ACQ_DRAM_BASE : Fld := ⟨132, 22, 0⟩
abbrev ACQ_DRAM_PAGES : Fld := ⟨133, 22, 0⟩
abbrev ACQ_PRE_COUNT : Fld := ⟨134, 32, 0⟩
abbrev ACQ_POST_COUNT : Fld := ⟨135, 32, 1⟩
abbrev ACQ_TRIG_SRC : Fld := ⟨136, 4, 0⟩
abbrev ACQ_TRIG_SLOTMASK : Fld := ⟨137, 9, 0⟩
abbrev ACQ_TRIG_LEAFMASK : Fld := ⟨138, 16, 0⟩
abbrev ACQ_TRIG_SEL : Fld := ⟨139, 16, 0⟩
abbrev ACQ_TRIG_COUNT : Fld := ⟨140, 16, 1⟩
abbrev ACQ_RED_NM1 : Fld := ⟨141, 20, 1⟩
abbrev ACQ_BW_UNITS : Fld := ⟨142, 7, 0⟩
abbrev ACQ_STAT_STATE : Fld := ⟨143, 3, 0⟩
abbrev ACQ_STAT_POST_CLIPPED : Fld := ⟨144, 1, 0⟩
abbrev ACQ_STAT_SHORT : Fld := ⟨145, 1, 0⟩
abbrev ACQ_STAT_GAP_SEEN : Fld := ⟨146, 1, 0⟩
abbrev ACQ_STAT_REJECT : Fld := ⟨147, 8, 0⟩
abbrev ACQ_POST_EFF_COUNT : Fld := ⟨148, 32, 0⟩
abbrev ACQ_IGN_TRIG_COUNT : Fld := ⟨149, 32, 0⟩
abbrev ACQ_GAPS_COUNT : Fld := ⟨150, 32, 0⟩
abbrev ACQ_LOST_COUNT : Fld := ⟨151, 32, 0⟩
abbrev ACQ_TRIG_TIME_TIME : Fld := ⟨152, 64, 0⟩
abbrev ACQ_TRIG_LOC_SEQ : Fld := ⟨153, 32, 0⟩
abbrev ACQ_TRIG_LOC_IDX : Fld := ⟨154, 11, 0⟩
abbrev ACQ_TRIG_LOC_VALID : Fld := ⟨155, 1, 0⟩
abbrev ACQ_SEQ_WR : Fld := ⟨156, 32, 0⟩
abbrev ACQ_SEQ_OLDEST : Fld := ⟨157, 32, 0⟩
abbrev ACQ_LATE_TRIG_COUNT : Fld := ⟨158, 32, 0⟩

-- 08_tmu.md R211
abbrev TMU_REF_SRC : Fld := ⟨159, 1, 0⟩
abbrev TMU_REF_LOST : Fld := ⟨160, 1, 0⟩
abbrev TMU_REF_LOST_SEEN : Fld := ⟨161, 1, 0⟩
abbrev TMU_REF_FREQ : Fld := ⟨162, 1, 0⟩
abbrev TMU_REF_QUAL_MS : Fld := ⟨163, 10, 0⟩
abbrev TMU_REF_OFFSET : Fld := ⟨164, 12, 0⟩
abbrev TMU_REF_CFG_REFOUT_EN : Fld := ⟨165, 1, 1⟩
abbrev TMU_DLL_LOCK : Fld := ⟨166, 1, 0⟩
abbrev TMU_DLL_UNLOCK_SEEN : Fld := ⟨167, 1, 0⟩
abbrev TMU_EPOCH_EPOCH : Fld := ⟨168, 16, 0⟩
abbrev TMU_GSTATUS_SAT : Fld := ⟨169, 1, 0⟩
abbrev TMU_CDT_CTL_PIN : Fld := ⟨170, 8, 0⟩
abbrev TMU_CDT_RES_BUSY : Fld := ⟨171, 1, 0⟩
abbrev TMU_CDT_RES_DONE : Fld := ⟨172, 1, 0⟩
abbrev TMU_CDT_RES_PASS : Fld := ⟨173, 1, 0⟩
abbrev TMU_CDT_RES_UNCAL : Fld := ⟨174, 1, 0⟩
abbrev TMU_CDT_RES_DNL : Fld := ⟨175, 16, 0⟩
abbrev TMU_CDT_RES_INL : Fld := ⟨176, 16, 0⟩
abbrev TMU_PIN_CFG_RISE : Fld := ⟨177, 1, 0⟩
abbrev TMU_PIN_CFG_FALL : Fld := ⟨178, 1, 0⟩
abbrev TMU_PIN_CFG_CMP : Fld := ⟨179, 1, 1⟩
abbrev TMU_MISSED_COUNT : Fld := ⟨180, 32, 0⟩
abbrev TMU_LAST_TIME : Fld := ⟨181, 64, 0⟩
abbrev TMU_PAIR_CFG_START_PIN : Fld := ⟨182, 8, 0⟩
abbrev TMU_PAIR_CFG_STOP_PIN : Fld := ⟨183, 8, 0⟩
abbrev TMU_PAIR_CFG_START_DIR : Fld := ⟨184, 1, 1⟩
abbrev TMU_PAIR_CFG_STOP_DIR : Fld := ⟨185, 1, 1⟩
abbrev TMU_PAIR_CFG_WMODE : Fld := ⟨186, 2, 0⟩
abbrev TMU_PAIR_CFG_EN : Fld := ⟨187, 1, 0⟩
abbrev TMU_PAIR_W_W : Fld := ⟨188, 40, 0x4c4b4000⟩
abbrev TMU_PAIR_LO_LO : Fld := ⟨189, 40, 0⟩
abbrev TMU_PAIR_HI_HI : Fld := ⟨190, 40, 0⟩
abbrev TMU_PAIR_LAST_DELTA : Fld := ⟨191, 40, 0⟩
abbrev TMU_PAIR_LAST_COINCIDENT : Fld := ⟨192, 1, 0⟩
abbrev TMU_PAIR_LAST_ORDER : Fld := ⟨193, 1, 0⟩
abbrev TMU_PAIR_LAST_HOLDOVER : Fld := ⟨194, 1, 0⟩
abbrev TMU_PAIR_LAST_MISSED_BEFORE : Fld := ⟨195, 1, 0⟩
abbrev TMU_PAIR_LAST_UNCAL : Fld := ⟨196, 1, 0⟩
abbrev TMU_PAIR_LAST_VALID : Fld := ⟨197, 1, 0⟩
abbrev TMU_PAIR_COUNT_COUNT : Fld := ⟨198, 32, 0⟩
abbrev TMU_UNPAIRED_COUNT : Fld := ⟨199, 32, 0⟩
abbrev TMU_WIN_COUNT_COUNT : Fld := ⟨200, 32, 0⟩
abbrev TMU_FC_CFG_PIN : Fld := ⟨201, 8, 0⟩
abbrev TMU_FC_CFG_DIR : Fld := ⟨202, 1, 1⟩
abbrev TMU_FC_CFG_GATE : Fld := ⟨203, 16, 3907⟩
abbrev TMU_FC_CFG_MODE : Fld := ⟨204, 2, 0⟩
abbrev TMU_FC_TICK_TICK : Fld := ⟨205, 64, 0⟩
abbrev TMU_FC_RES_COUNT : Fld := ⟨206, 32, 0⟩
abbrev TMU_FC_RES_VALID : Fld := ⟨207, 1, 0⟩
abbrev TMU_FC_RES_MISSED : Fld := ⟨208, 1, 0⟩
abbrev TMU_FC_RES_HOLDOVER : Fld := ⟨209, 1, 0⟩
abbrev TMU_FC_RES_UNCAL : Fld := ⟨210, 1, 0⟩
abbrev TMU_FC_RES_GEN : Fld := ⟨211, 16, 0⟩
abbrev TMU_FC_SPAN_SPAN : Fld := ⟨212, 48, 0⟩
abbrev TMU_CDT_HIST_HITS : Fld := ⟨213, 32, 0⟩

-- 09_dc.md R228
abbrev DC_GSTATUS_SAT : Fld := ⟨214, 1, 0⟩
abbrev DC_PIN_CFG_MODE : Fld := ⟨215, 2, 0⟩
abbrev DC_PIN_CFG_RANGE : Fld := ⟨216, 3, 4⟩
abbrev DC_PIN_FORCE_VFORCE : Fld := ⟨217, 16, 0⟩
abbrev DC_PIN_FORCE_IFORCE : Fld := ⟨218, 16, 0⟩
abbrev DC_PIN_FORCE_VCLO : Fld := ⟨219, 16, 59536⟩
abbrev DC_PIN_FORCE_VCHI : Fld := ⟨220, 16, 26000⟩
abbrev DC_PIN_STAT_CONN : Fld := ⟨221, 1, 0⟩
abbrev DC_PIN_STAT_CLAMP : Fld := ⟨222, 1, 0⟩
abbrev DC_PIN_STAT_CLAMP_SEEN : Fld := ⟨223, 1, 0⟩
abbrev DSA_CTL_MODE : Fld := ⟨224, 2, 0⟩
abbrev DSA_CTL_CHAN : Fld := ⟨225, 4, 0⟩
abbrev DSA_CTL_FIR : Fld := ⟨226, 1, 0⟩
abbrev DSA_CTL_SUPPRESS : Fld := ⟨227, 1, 0⟩
abbrev DSA_CTL_RATIO : Fld := ⟨228, 19, 10000⟩
abbrev DSA_CTL_SCANMASK : Fld := ⟨229, 13, 0⟩
abbrev DSA_STAT_BUSY : Fld := ⟨230, 1, 0⟩
abbrev DSA_STAT_SETTLING : Fld := ⟨231, 1, 0⟩
abbrev DSA_STAT_START_FAIL : Fld := ⟨232, 1, 0⟩
abbrev DSA_STAT_PATH_FAULT : Fld := ⟨233, 1, 0⟩
abbrev DSA_RES_RESULT : Fld := ⟨234, 32, 0⟩
abbrev DSA_RES_GEN : Fld := ⟨235, 16, 0⟩
abbrev DSA_THR_CFG_THR_MODE : Fld := ⟨236, 2, 0⟩
abbrev DSA_THR_CFG_THR_CHAN : Fld := ⟨237, 4, 0⟩
abbrev DSA_THR_LVL_LO : Fld := ⟨238, 24, 0⟩
abbrev DSA_THR_LVL_HI : Fld := ⟨239, 24, 0⟩
abbrev DSA_THR_COUNT_COUNT : Fld := ⟨240, 32, 0⟩
abbrev DSA_SETTLE0_SET_CHAN : Fld := ⟨241, 12, 5⟩
abbrev DSA_SETTLE0_SET_MODE : Fld := ⟨242, 12, 100⟩
abbrev DSA_SETTLE0_SET_A : Fld := ⟨243, 12, 200⟩
abbrev DSA_SETTLE0_SET_B : Fld := ⟨244, 12, 60⟩
abbrev DSA_SETTLE0_SET_C : Fld := ⟨245, 12, 20⟩
abbrev DSA_SETTLE1_SET_D : Fld := ⟨246, 12, 10⟩
abbrev DSA_SETTLE1_SET_E : Fld := ⟨247, 12, 10⟩
abbrev DC_DIAG_CFG_CODE : Fld := ⟨248, 16, 0⟩
abbrev DC_DIAG_CFG_TARGET : Fld := ⟨249, 4, 0⟩
abbrev DC_DIAG_CFG_TOL : Fld := ⟨250, 24, 200⟩
abbrev DC_DIAG_RES_MEAS : Fld := ⟨251, 24, 0⟩
abbrev DC_DIAG_RES_DONE : Fld := ⟨252, 1, 0⟩
abbrev DC_DIAG_RES_PASS : Fld := ⟨253, 1, 0⟩
abbrev DSA_CHV_RESULT : Fld := ⟨254, 32, 0⟩
abbrev DSA_CHV_TICK : Fld := ⟨255, 32, 0⟩

-- 10_raster.md R244
abbrev RS_CFG_MODE : Fld := ⟨256, 3, 0⟩
abbrev RS_CFG_TSEL : Fld := ⟨257, 4, 0⟩
abbrev RS_CFG_SYNC : Fld := ⟨258, 1, 0⟩
abbrev RS_CFG_TE_RISE : Fld := ⟨259, 1, 1⟩
abbrev RS_CFG_TE_PIN : Fld := ⟨260, 6, 0⟩
abbrev RS_CFG_HS_INV : Fld := ⟨261, 1, 0⟩
abbrev RS_CFG_VS_INV : Fld := ⟨262, 1, 0⟩
abbrev RS_CFG_BEZEL_BLOCK : Fld := ⟨263, 1, 0⟩
abbrev RS_CFG_RASTER : Fld := ⟨264, 1, 0⟩
abbrev RS_STATIC_N : Fld := ⟨265, 8, 4⟩
abbrev RS_STATIC_DIV : Fld := ⟨266, 2, 0⟩
abbrev RS_BG_COLOUR : Fld := ⟨267, 24, 0⟩
abbrev RS_L_CFG_EN : Fld := ⟨268, 1, 0⟩
abbrev RS_L_CFG_FMT : Fld := ⟨269, 2, 0⟩
abbrev RS_L_CFG_BLEND : Fld := ⟨270, 1, 0⟩
abbrev RS_L_CFG_GALPHA : Fld := ⟨271, 8, 255⟩
abbrev RS_L_POS_X : Fld := ⟨272, 11, 0⟩
abbrev RS_L_POS_Y : Fld := ⟨273, 11, 0⟩
abbrev RS_L_POS_W : Fld := ⟨274, 11, 0⟩
abbrev RS_L_POS_H : Fld := ⟨275, 11, 0⟩
abbrev RS_L_BASE_BASE : Fld := ⟨276, 34, 0⟩
abbrev RS_L_STRIDE_STRIDE : Fld := ⟨277, 16, 0⟩
abbrev RS_STATUS_RUNNING : Fld := ⟨278, 1, 0⟩
abbrev RS_STATUS_COMMIT_PENDING : Fld := ⟨279, 1, 0⟩
abbrev RS_STATUS_STATIC : Fld := ⟨280, 1, 0⟩
abbrev RS_STATUS_WAITING : Fld := ⟨281, 1, 0⟩
abbrev RS_STATUS_TE_TIMEOUT : Fld := ⟨282, 1, 0⟩
abbrev RS_STATUS_TORN : Fld := ⟨283, 1, 0⟩
abbrev RS_STATUS_FETCH_LATE : Fld := ⟨284, 1, 0⟩
abbrev RS_STATUS_PERIOD_BAD : Fld := ⟨285, 1, 0⟩
abbrev RS_STATUS_REJECT : Fld := ⟨286, 8, 0⟩
abbrev RS_STATUS_SAT : Fld := ⟨287, 1, 0⟩
abbrev RS_FRAME_FRAME : Fld := ⟨288, 48, 0⟩
abbrev RS_GEN_GEN0 : Fld := ⟨289, 16, 0⟩
abbrev RS_GEN_GEN1 : Fld := ⟨290, 16, 0⟩
abbrev RS_GEN_GEN2 : Fld := ⟨291, 16, 0⟩
abbrev RS_TORN_COUNT_COUNT : Fld := ⟨292, 32, 0⟩
abbrev RS_TORN_FRAME_FRAME : Fld := ⟨293, 48, 0⟩
abbrev RS_TORN_FRAME_VALID : Fld := ⟨294, 1, 0⟩
abbrev RS_LATE_COUNT_COUNT : Fld := ⟨295, 32, 0⟩

-- 11_mount.md R263
abbrev MNT_STATUS_STATE : Fld := ⟨296, 2, 0⟩
abbrev MNT_STATUS_LAST_OK : Fld := ⟨297, 1, 0⟩
abbrev MNT_SRC_ADDR_ADDR : Fld := ⟨298, 40, 0⟩
abbrev MNT_SRC_LEN_LEN : Fld := ⟨299, 21, 0⟩
abbrev MNT_REJECT_CODE : Fld := ⟨300, 8, 0⟩
abbrev MNT_REJECT_OFFSET : Fld := ⟨301, 24, 0⟩
abbrev MNT_REJECT_SECTION : Fld := ⟨302, 16, 0⟩

-- 12_links.md R280
abbrev LK_GSTATUS_SAT : Fld := ⟨303, 1, 0⟩
abbrev LK_CFG_MAX_RATE : Fld := ⟨304, 2, 3⟩
abbrev LK_CFG_ENABLE : Fld := ⟨305, 1, 1⟩
abbrev LK_CFG_AUTO_WIDEN : Fld := ⟨306, 1, 1⟩
abbrev LK_CFG_LANE_EN : Fld := ⟨307, 4, 15⟩
abbrev LK_STAT_STATE : Fld := ⟨308, 4, 0⟩
abbrev LK_STAT_RATE : Fld := ⟨309, 2, 0⟩
abbrev LK_STAT_WIDTH : Fld := ⟨310, 2, 0⟩
abbrev LK_STAT_LANES_USED : Fld := ⟨311, 4, 0⟩
abbrev LK_STAT_LANES_GOOD : Fld := ⟨312, 4, 0⟩
abbrev LK_STAT_FAIL_CODE : Fld := ⟨313, 8, 0⟩
abbrev LK_STAT_HOP_NS : Fld := ⟨314, 8, 0⟩
abbrev LK_STAT_PEER_PORT : Fld := ⟨315, 3, 7⟩
abbrev LK_TRAIN_FAILS_COUNT : Fld := ⟨316, 32, 0⟩
abbrev LK_CRC_ERR_COUNT : Fld := ⟨317, 32, 0⟩
abbrev LK_REPLAY_COUNT : Fld := ⟨318, 32, 0⟩
abbrev LK_TICK_LOST_COUNT : Fld := ⟨319, 32, 0⟩
abbrev LK_DOWNSHIFT_COUNT : Fld := ⟨320, 32, 0⟩
abbrev LK_EQ_CTLE : Fld := ⟨321, 4, 0⟩
abbrev LK_EQ_DFE1 : Fld := ⟨322, 8, 0⟩
abbrev LK_EQ_DFE2 : Fld := ⟨323, 8, 0⟩
abbrev LK_EQ_DFE3 : Fld := ⟨324, 8, 0⟩
abbrev LK_EQ_DFE4 : Fld := ⟨325, 8, 0⟩
abbrev LK_EQ_DFE5 : Fld := ⟨326, 8, 0⟩
abbrev LK_EQ_LIMIT : Fld := ⟨327, 1, 0⟩
abbrev LK_PRBS_CTL_PATTERN : Fld := ⟨328, 2, 2⟩
abbrev LK_PRBS_CTL_GEN : Fld := ⟨329, 4, 0⟩
abbrev LK_PRBS_CTL_CHK : Fld := ⟨330, 4, 0⟩
abbrev LK_PRBS_STAT_LOCK : Fld := ⟨331, 4, 0⟩
abbrev LK_PRBS_ERR_COUNT : Fld := ⟨332, 32, 0⟩

-- 13_cluster.md R305
abbrev ID_SERIAL_SERIAL : Fld := ⟨333, 48, 0⟩
abbrev ID_STAT_STATE : Fld := ⟨334, 3, 0⟩
abbrev ID_STAT_JOIN_WAIT : Fld := ⟨335, 1, 0⟩
abbrev ID_STAT_MODULE : Fld := ⟨336, 4, 0⟩
abbrev ID_STAT_ROLE : Fld := ⟨337, 2, 0⟩
abbrev ID_STAT_TICK_HOLD : Fld := ⟨338, 1, 0⟩
abbrev ID_STAT_ROOT_HOLDOVER : Fld := ⟨339, 1, 0⟩
abbrev ID_STAT_ANCHOR : Fld := ⟨340, 4, 0⟩
abbrev ID_STAT_REASON : Fld := ⟨341, 3, 0⟩
abbrev ID_TOPO_KIND : Fld := ⟨342, 3, 0⟩
abbrev ID_TOPO_N : Fld := ⟨343, 5, 1⟩
abbrev ID_LEASE_EXPIRY : Fld := ⟨344, 40, 0⟩
abbrev ID_LEASE_HELD : Fld := ⟨345, 1, 0⟩
abbrev ID_LEASE_SEC_REG : Fld := ⟨346, 1, 0⟩
abbrev ID_PHASE_ERR : Fld := ⟨347, 16, 0⟩
abbrev ID_PHASE_STEER : Fld := ⟨348, 16, 0⟩
abbrev ID_PHASE_PARENT : Fld := ⟨349, 3, 7⟩
abbrev ID_PHASE_DEPTH : Fld := ⟨350, 4, 0⟩
abbrev ID_FLAG_MISS_COUNT : Fld := ⟨351, 32, 0⟩
abbrev ID_GSTATUS_SAT : Fld := ⟨352, 1, 0⟩
abbrev ID_ROSTER_SERIAL : Fld := ⟨353, 48, 0⟩
abbrev ID_ROSTER_VALID : Fld := ⟨354, 1, 0⟩
abbrev ID_MAP_MSTATE : Fld := ⟨355, 3, 0⟩
abbrev ID_MAP_LINKS : Fld := ⟨356, 4, 0⟩
abbrev ID_MAP_SERIAL : Fld := ⟨357, 48, 0⟩
abbrev ID_CG_FORMED : Fld := ⟨358, 1, 0⟩
abbrev ID_CG_COPY1_OK : Fld := ⟨359, 1, 0⟩
abbrev ID_CG_BOUND0 : Fld := ⟨360, 10, 0⟩
abbrev ID_CG_BOUND1 : Fld := ⟨361, 10, 0⟩

-- 14_placement.md R325
abbrev PL_CFG_REPLICATE : Fld := ⟨362, 1, 1⟩
abbrev PL_SRC_ADDR_ADDR : Fld := ⟨363, 40, 0⟩
abbrev PL_SRC_LEN_LEN : Fld := ⟨364, 23, 0⟩
abbrev PL_STATUS_NEXT : Fld := ⟨365, 2, 0⟩
abbrev PL_STATUS_CUR : Fld := ⟨366, 2, 0⟩
abbrev PL_STATUS_DEGRADED : Fld := ⟨367, 1, 0⟩
abbrev PL_STATUS_REPLAN : Fld := ⟨368, 1, 0⟩
abbrev PL_STATUS_SAT : Fld := ⟨369, 1, 0⟩
abbrev PL_STATUS_REJECT : Fld := ⟨370, 8, 0⟩
abbrev PL_REJECT_AT_ENTRY : Fld := ⟨371, 32, 0⟩
abbrev PL_REJECT_AT_STRAND : Fld := ⟨372, 16, 0⟩
abbrev PL_STREAM_DEMAND : Fld := ⟨373, 17, 0⟩
abbrev PL_STREAM_AVAIL : Fld := ⟨374, 17, 68000⟩
abbrev PL_SCFAULT_SUB : Fld := ⟨375, 4, 0⟩
abbrev PL_EXP_COUNT_COUNT : Fld := ⟨376, 32, 0⟩
abbrev PL_PREFETCH_BEADS : Fld := ⟨377, 32, 0⟩
abbrev PL_HINT_IGN_COUNT : Fld := ⟨378, 32, 0⟩
abbrev PL_PROMOTIONS_COUNT : Fld := ⟨379, 32, 0⟩
abbrev PL_LEAF_PIN_UNITS : Fld := ⟨380, 6, 16⟩
abbrev PL_LEAF_OOS : Fld := ⟨381, 1, 0⟩
abbrev PL_LEAF_COVER_US : Fld := ⟨382, 24, 0⟩
abbrev PL_LEAF_PMIN : Fld := ⟨383, 32, 0⟩
abbrev PL_LINK_CAP : Fld := ⟨384, 16, 0⟩
abbrev PL_LINK_HOME : Fld := ⟨385, 16, 0⟩
abbrev PL_LINK_PROMO : Fld := ⟨386, 16, 0⟩
abbrev PL_EXPOSED_STRAND : Fld := ⟨387, 16, 0⟩
abbrev PL_EXPOSED_UNIT : Fld := ⟨388, 10, 0⟩
abbrev PL_EXPOSED_CLUSTER : Fld := ⟨389, 1, 0⟩
abbrev PL_EXPOSED_COVER : Fld := ⟨390, 1, 0⟩
abbrev PL_EXPOSED_NO_REPLICA : Fld := ⟨391, 1, 0⟩
abbrev PL_EXPOSED_PATH : Fld := ⟨392, 1, 0⟩
abbrev PL_EXPOSED_COVER_US : Fld := ⟨393, 32, 0⟩

-- 15_dram.md R343
abbrev DM_STATUS_SR : Fld := ⟨394, 1, 0⟩
abbrev DM_STATUS_SAT : Fld := ⟨395, 1, 0⟩
abbrev DM_REGION_LEAF_Q : Fld := ⟨396, 4, 12⟩
abbrev DM_REGION_CAP_256M : Fld := ⟨397, 6, 4⟩
abbrev DM_REGION_RAS_64M : Fld := ⟨398, 5, 2⟩
abbrev DM_MAP_STRAND : Fld := ⟨399, 2, 2⟩
abbrev DM_MAP_RASTER : Fld := ⟨400, 2, 2⟩
abbrev DM_MAP_CAPTURE : Fld := ⟨401, 2, 2⟩
abbrev DM_MAP_JOURNAL : Fld := ⟨402, 2, 2⟩
abbrev DM_SR_IDLE_US : Fld := ⟨403, 16, 1000⟩
abbrev DM_SCRUB_EN : Fld := ⟨404, 1, 1⟩
abbrev DM_SCRUB_HOURS : Fld := ⟨405, 8, 24⟩
abbrev DM_SC_STAT_FAULTY : Fld := ⟨406, 1, 0⟩
abbrev DM_SC_STAT_CAUSE : Fld := ⟨407, 3, 0⟩
abbrev DM_SC_STAT_HOT : Fld := ⟨408, 1, 0⟩
abbrev DM_SC_STAT_TEMP : Fld := ⟨409, 8, 0⟩
abbrev DM_CE_COUNT : Fld := ⟨410, 32, 0⟩
abbrev DM_UE_COUNT : Fld := ⟨411, 32, 0⟩
abbrev DM_CA_ALERT_COUNT : Fld := ⟨412, 32, 0⟩
abbrev DM_CE_LAST_ADDR : Fld := ⟨413, 34, 0⟩
abbrev DM_UE_LAST_ADDR : Fld := ⟨414, 34, 0⟩
abbrev DM_BZ_BASE_BASE : Fld := ⟨415, 28, 0⟩
abbrev DM_BZ_LIMIT_LIMIT : Fld := ⟨416, 28, 0⟩
abbrev DM_BZ_CFG_EN : Fld := ⟨417, 1, 0⟩
abbrev DM_BZ_CFG_MODE : Fld := ⟨418, 1, 0⟩
abbrev DM_BZ_HIT_COUNT : Fld := ⟨419, 32, 0⟩

-- 16_calibration.md R362
abbrev CAL_CFG_AUTO : Fld := ⟨420, 1, 0⟩
abbrev CAL_CFG_DT : Fld := ⟨421, 8, 10⟩
abbrev CAL_CFG_IDLE_S : Fld := ⟨422, 16, 60⟩
abbrev CAL_STATUS_STATE : Fld := ⟨423, 2, 0⟩
abbrev CAL_STATUS_NONE : Fld := ⟨424, 1, 1⟩
abbrev CAL_STATUS_DUE : Fld := ⟨425, 1, 0⟩
abbrev CAL_STATUS_DUE_SEEN : Fld := ⟨426, 1, 0⟩
abbrev CAL_STATUS_REF_DRIFT : Fld := ⟨427, 1, 0⟩
abbrev CAL_STATUS_SAT : Fld := ⟨428, 1, 0⟩
abbrev CAL_STATUS_REJECT : Fld := ⟨429, 8, 0⟩
abbrev CAL_STATUS_EXTRAP : Fld := ⟨430, 16, 65535⟩
abbrev CAL_STATUS_FROZEN : Fld := ⟨431, 16, 0⟩
abbrev CAL_LBID_ID : Fld := ⟨432, 64, 0⟩
abbrev CAL_RESULT_OUTCOME : Fld := ⟨433, 3, 0⟩
abbrev CAL_RESULT_REASON : Fld := ⟨434, 8, 0⟩
abbrev CAL_RESULT_PIN : Fld := ⟨435, 8, 0⟩
abbrev CAL_RESULT_KIND : Fld := ⟨436, 4, 0⟩
abbrev CAL_RESULT_SUB : Fld := ⟨437, 4, 0⟩
abbrev CAL_RESULT_VALUE : Fld := ⟨438, 24, 0⟩
abbrev CAL_RESULT_SLOT : Fld := ⟨439, 5, 0⟩
abbrev CAL_REJ_COUNT_COUNT : Fld := ⟨440, 32, 0⟩
abbrev CAL_PARTNER_PARTNER : Fld := ⟨441, 8, 255⟩
abbrev CAL_LKT_INFO_VALID : Fld := ⟨442, 1, 0⟩
abbrev CAL_LKT_INFO_KIND : Fld := ⟨443, 1, 0⟩
abbrev CAL_LKT_INFO_SETPT : Fld := ⟨444, 16, 0⟩
abbrev CAL_LKT_INFO_SEQ : Fld := ⟨445, 32, 0⟩
abbrev CAL_LKT_LBID_ID : Fld := ⟨446, 64, 0⟩

-- 17_journal.md R374
abbrev JN_CFG_AUTO : Fld := ⟨447, 1, 1⟩
abbrev JN_WR_COUNT : Fld := ⟨448, 64, 0⟩
abbrev JN_STATUS_LOSS_SEEN : Fld := ⟨449, 1, 0⟩
abbrev JN_STATUS_SAT : Fld := ⟨450, 1, 0⟩
abbrev JN_LOST_COUNT : Fld := ⟨451, 32, 0⟩
abbrev JN_EXP_CFG_BASE : Fld := ⟨452, 40, 0⟩
abbrev JN_EXP_CFG_SLOT_KIB : Fld := ⟨453, 16, 0⟩
abbrev JN_EXP_FROM_TICK : Fld := ⟨454, 64, 0⟩
abbrev JN_EXP_TO_TICK : Fld := ⟨455, 64, 0⟩
abbrev JN_EXP_DROPPED_COUNT : Fld := ⟨456, 32, 0⟩
abbrev JN_RPL_CFG_UNIT : Fld := ⟨457, 10, 0⟩
abbrev JN_RPL_CFG_ARM : Fld := ⟨458, 1, 0⟩
abbrev JN_RPL_CFG_CHECK : Fld := ⟨459, 3, 1⟩
abbrev JN_RPL_CFG_SLOT : Fld := ⟨460, 3, 0⟩
abbrev JN_RPL_SRC_UNIT : Fld := ⟨461, 10, 0⟩
abbrev JN_RPL_SRC_CLUSTER : Fld := ⟨462, 1, 0⟩
abbrev JN_RPL_SRC_MODULE : Fld := ⟨463, 4, 0⟩
abbrev JN_RPL_RUN_TICK : Fld := ⟨464, 64, 0⟩
abbrev JN_RPL_STAT_ACTIVE : Fld := ⟨465, 1, 0⟩
abbrev JN_RPL_STAT_DIVERGED : Fld := ⟨466, 1, 0⟩
abbrev JN_RPL_STAT_LEAF : Fld := ⟨467, 4, 0⟩
abbrev JN_RPL_STAT_COND : Fld := ⟨468, 6, 0⟩
abbrev JN_RPL_STAT_FLOW : Fld := ⟨469, 1, 0⟩
abbrev JN_RPL_STAT_VINDEX : Fld := ⟨470, 48, 0⟩
abbrev JN_RPL_DIVTICK_TICK : Fld := ⟨471, 64, 0⟩
abbrev JN_SLOT_INFO_VALID : Fld := ⟨472, 1, 0⟩
abbrev JN_SLOT_INFO_TRUNC : Fld := ⟨473, 1, 0⟩
abbrev JN_SLOT_INFO_AUTO : Fld := ⟨474, 1, 0⟩
abbrev JN_SLOT_INFO_LOSS : Fld := ⟨475, 1, 0⟩
abbrev JN_SLOT_INFO_GEN : Fld := ⟨476, 16, 0⟩
abbrev JN_SLOT_INFO_RECORDS : Fld := ⟨477, 32, 0⟩
abbrev JN_SLOT_FROM_TICK : Fld := ⟨478, 64, 0⟩

-- 18_power.md R397
abbrev ENV_CFG_SAFE_HOLD_US : Fld := ⟨479, 14, 100⟩
abbrev ENV_CFG_CLEAR_S : Fld := ⟨480, 8, 10⟩
abbrev ENV_CFG_AUTO_EXIT : Fld := ⟨481, 1, 0⟩
abbrev ENV_CFG_DEW_SAFE : Fld := ⟨482, 1, 0⟩
abbrev ENV_CFG_DEW_TMO_S : Fld := ⟨483, 8, 60⟩
abbrev ENV_STATUS_MSTATE : Fld := ⟨484, 3, 1⟩
abbrev ENV_STATUS_RETURN : Fld := ⟨485, 3, 0⟩
abbrev ENV_STATUS_CLEAR_OK : Fld := ⟨486, 1, 0⟩
abbrev ENV_STATUS_FLOW_LOW : Fld := ⟨487, 1, 0⟩
abbrev ENV_STATUS_INLET_WARM : Fld := ⟨488, 1, 0⟩
abbrev ENV_STATUS_INLET_COLD : Fld := ⟨489, 1, 0⟩
abbrev ENV_STATUS_DIE_WARM : Fld := ⟨490, 1, 0⟩
abbrev ENV_STATUS_VIN_HIGH : Fld := ⟨491, 1, 0⟩
abbrev ENV_STATUS_DEW_RISK : Fld := ⟨492, 1, 0⟩
abbrev ENV_STATUS_DEW_STALE : Fld := ⟨493, 1, 1⟩
abbrev ENV_STATUS_SAT : Fld := ⟨494, 1, 0⟩
abbrev ENV_SAFE_NOW_CAUSES : Fld := ⟨495, 9, 0⟩
abbrev ENV_SAFE_SEEN_CAUSES : Fld := ⟨496, 9, 0⟩
abbrev ENV_FAULT_CAUSE : Fld := ⟨497, 8, 0⟩
abbrev ENV_FAULT_DETAIL : Fld := ⟨498, 8, 0⟩
abbrev ENV_VIN_MV : Fld := ⟨499, 17, 0⟩
abbrev ENV_VIN_MA : Fld := ⟨500, 16, 0⟩
abbrev ENV_COOL_INLET : Fld := ⟨501, 16, 0⟩
abbrev ENV_COOL_OUTLET : Fld := ⟨502, 16, 0⟩
abbrev ENV_COOL_FLOW : Fld := ⟨503, 16, 0⟩
abbrev ENV_TEMP_CHAMBER : Fld := ⟨504, 16, 0⟩
abbrev ENV_TEMP_ASIC : Fld := ⟨505, 16, 0⟩
abbrev ENV_TEMP_PFE_MAX : Fld := ⟨506, 16, 0⟩
abbrev ENV_IMPL_SENSORS : Fld := ⟨507, 26, 0⟩
abbrev ENV_DEW_DEW : Fld := ⟨508, 16, 32768⟩
abbrev ENV_PFE_FAULT : Fld := ⟨509, 4, 0⟩
abbrev ENV_PFE_CAUSE : Fld := ⟨510, 8, 0⟩
abbrev ENV_BOOT_BOOT_MS : Fld := ⟨511, 16, 0⟩
abbrev ENV_BOOT_FW_BANK : Fld := ⟨512, 1, 0⟩
abbrev ENV_BOOT_FALLBACK : Fld := ⟨513, 1, 0⟩
abbrev ENV_BOOT_LAST_TRIP : Fld := ⟨514, 1, 0⟩
abbrev ENV_BOOT_LAST_UV : Fld := ⟨515, 1, 0⟩
abbrev ENV_SAFE_COUNT_COUNT : Fld := ⟨516, 32, 0⟩
abbrev ENV_FW_STAT_STATE : Fld := ⟨517, 2, 0⟩
abbrev ENV_FW_STAT_REJECT : Fld := ⟨518, 8, 0⟩
abbrev ENV_FW_STAT_BYTES : Fld := ⟨519, 32, 0⟩

-- 19_registers.md R408
abbrev GLB_TICK_TICK : Fld := ⟨520, 64, 0⟩
abbrev GLB_ALARM_TICK : Fld := ⟨521, 64, 0⟩
abbrev GLB_SNAP_CTL_FREEZE : Fld := ⟨522, 1, 0⟩
abbrev GLB_ERR_ADDR_ADDR : Fld := ⟨523, 40, 0⟩
abbrev GLB_ERR_ADDR_SRC : Fld := ⟨524, 8, 0⟩
abbrev GLB_ERR_INFO_REASON : Fld := ⟨525, 8, 0⟩
abbrev GLB_ERR_INFO_DETAIL : Fld := ⟨526, 8, 0⟩
abbrev GLB_ERR_INFO_VALID : Fld := ⟨527, 1, 0⟩
abbrev GLB_ERR_INFO_MORE : Fld := ⟨528, 1, 0⟩
abbrev GLB_ERR_INFO_SAT : Fld := ⟨529, 1, 0⟩
abbrev GLB_ERR_INFO_TICK : Fld := ⟨530, 40, 0⟩
abbrev GLB_ERR_COUNT_COUNT : Fld := ⟨531, 32, 0⟩

-- 19_registers.md R412
abbrev EVT_CFG_UPLINK : Fld := ⟨532, 1, 1⟩
abbrev EVT_SEQ_NEXT : Fld := ⟨533, 24, 0⟩
abbrev EVT_SEQ_SENT : Fld := ⟨534, 24, 0⟩
abbrev EVT_LOST_COUNT : Fld := ⟨535, 32, 0⟩
abbrev EVT_STATUS_SAT : Fld := ⟨536, 1, 0⟩
abbrev EVT_ENABLE_EN : Fld := ⟨537, 64, 0xffffffffffffffff⟩

-- 16_calibration.md R362 (CAL_TLEAFw, CAL_LKT_TEMP0 to 3) and 12_links.md R280 (LK_SKEW): one cell for each packed value
abbrev CAL_TLEAF_T : Fld := ⟨538, 16, 0⟩
abbrev CAL_LKT_T : Fld := ⟨539, 16, 0⟩
abbrev LK_SKEW_V : Fld := ⟨540, 8, 0⟩

end F

/-- Every cell of the register map, by number. -/
def allFlds : List Fld :=
  [F.UNIT_STATUS_STATE, F.UNIT_STATUS_START_PENDING, F.UNIT_STATUS_LATE_ABORT, F.UNIT_STATUS_TIMING_BROKEN, F.UNIT_STATUS_UNDERRUN, F.UNIT_STATUS_VCOUNT_WRAP, F.UNIT_STATUS_HOLDING, F.UNIT_STATUS_CAUSE, F.UNIT_STATUS_CUR_STRAND, F.UNIT_STATUS_CUR_BEAD, F.UNIT_START_TICK_START_TICK, F.UNIT_START_STRAND_STRAND, F.UNIT_JUMP_TARGET, F.UNIT_JUMP_TICK_JUMP_TICK, F.UNIT_VCOUNT_VCOUNT, F.UNIT_HOLD_LIMIT_LIMIT, F.UNIT_HOLD_GAP_GAP, F.UNIT_SAFEPT_STRAND, F.UNIT_SAFEPT_BEAD, F.UNIT_SAFEPT_VALID, F.UNIT_ABORT_SRC_SRC_UNIT, F.UNIT_ABORT_SRC_SRC_MODULE, F.UNIT_ABORT_SRC_SRC_CAUSE, F.MC_STATUS_STATE, F.MC_STATUS_LAST_OK, F.MC_STATUS_STACK_FAULT, F.MC_STATUS_KEY_SLOT, F.MC_STATUS_SAT, F.MC_STATUS_STACK_LEAVES, F.MC_VER_MAJOR, F.MC_VER_MINOR, F.MC_VER_PATCH, F.MC_VER_SVN, F.MC_DIGEST_DIGEST, F.MC_SRC_ADDR_ADDR, F.MC_SRC_LEN_LEN, F.MC_REJECT_CODE, F.MC_REJECT_OFFSET, F.MC_OTP_MIN_SVN, F.MC_OTP_PROG, F.MC_OTP_REVOKED, F.MC_OTP_DATA_DATA, F.MC_HOSTFLAG_FLAG, F.MC_LATE_INFO_LEAF, F.MC_LATE_INFO_ADDR, F.MC_LATE_INFO_PC, F.MC_LATE_INFO_VECTOR, F.MC_VACT_LATE_COUNT, F.MC_UREG_VALUE, F.TS_PERIOD_PERIOD, F.TS_PIN_A_E1, F.TS_PIN_A_E2, F.TS_PIN_A_FMT, F.TS_PIN_A_CMODE, F.TS_PIN_A_ZCHK, F.TS_PIN_A_TERM, F.TS_PIN_B_E3, F.TS_PIN_B_E4, F.TS_SWAP_TICK_TICK, F.TS_STATUS_SWAP_PENDING] ++
  [F.TS_STATUS_LAST_SWAP_OK, F.TS_STATUS_COLL_SEEN, F.TS_STATUS_DLL_UNLOCK, F.TS_STATUS_SAT, F.TS_STATUS_REJECT, F.TS_STATUS_REJ_SET, F.TS_STATUS_REJ_SLOT, F.TS_STATUS_REJ_EDGE, F.TS_SWAP_AT_VINDEX, F.TS_SWAP_AT_WHERE, F.TS_COLL_COUNT_COUNT, F.TS_COLL_FIRST_VINDEX, F.TS_COLL_FIRST_SLOT, F.TS_COLL_FIRST_EDGE, F.TS_COLL_FIRST_REASON, F.TS_COLL_FIRST_VALID, F.TS_CFG_COLL_FAIL, F.TS_DESKEW_A_E1, F.TS_DESKEW_A_E2, F.TS_DESKEW_A_E3, F.TS_DESKEW_A_E4W, F.TS_DESKEW_B_E4S, F.TS_LVL_DRV_VIL, F.TS_LVL_DRV_VIH, F.TS_LVL_DRV_VT, F.TS_LVL_DRV_VCOM, F.TS_LVL_CMP_VOL, F.TS_LVL_CMP_VOH, F.TS_LVL_CMP_IOL, F.TS_LVL_CMP_IOH, F.FL_CFG_RING_64K, F.FL_CFG_LEAF_EN, F.FL_WR_WR, F.FL_RD_RD, F.FL_DROPPED_COUNT, F.FL_LIMITED_COUNT, F.FL_STATUS_SAT, F.FL_APER_BASE, F.FL_WMARK_LEVEL, F.FL_LIMIT_MAX, F.UNIT_PFAIL_COUNT, F.UNIT_FVEC_COUNT, F.UNIT_FF_POS_VINDEX, F.UNIT_FF_POS_VALID, F.UNIT_FF_POS_LEAF, F.UNIT_FF_POS_MODULE, F.UNIT_FF_WHERE_STRAND, F.UNIT_FF_WHERE_BEAD, F.UNIT_FF_WHERE_VOFF, F.UNIT_FF_WHERE_PMASK, F.UNIT_FF_TICK_TICK, F.UNIT_FSTOP_MODE, F.UNIT_FSTOP_ACCUM, F.UNIT_FSTOP_THRESH, F.UNIT_FSTAT_FSTOP_HIT, F.UNIT_FSTAT_SAT, F.UNIT_FSTAT_FL_LOST, F.ACQ_GSTATUS_SKEW_DEFAULT, F.ACQ_GSTATUS_SAT, F.ACQ_APER_PAGE] ++
  [F.ACQ_CFG_SOURCE, F.ACQ_CFG_MEM, F.ACQ_CFG_RED, F.ACQ_CFG_SUM, F.ACQ_CFG_SUMSQ, F.ACQ_CFG_COUNT, F.ACQ_CFG_XOUT, F.ACQ_CFG_LEAFMASK, F.ACQ_CFG_SLOTMASK, F.ACQ_CFG_SOFS, F.ACQ_SRAM_BASE, F.ACQ_SRAM_PAGES, F.ACQ_DRAM_BASE, F.ACQ_DRAM_PAGES, F.ACQ_PRE_COUNT, F.ACQ_POST_COUNT, F.ACQ_TRIG_SRC, F.ACQ_TRIG_SLOTMASK, F.ACQ_TRIG_LEAFMASK, F.ACQ_TRIG_SEL, F.ACQ_TRIG_COUNT, F.ACQ_RED_NM1, F.ACQ_BW_UNITS, F.ACQ_STAT_STATE, F.ACQ_STAT_POST_CLIPPED, F.ACQ_STAT_SHORT, F.ACQ_STAT_GAP_SEEN, F.ACQ_STAT_REJECT, F.ACQ_POST_EFF_COUNT, F.ACQ_IGN_TRIG_COUNT, F.ACQ_GAPS_COUNT, F.ACQ_LOST_COUNT, F.ACQ_TRIG_TIME_TIME, F.ACQ_TRIG_LOC_SEQ, F.ACQ_TRIG_LOC_IDX, F.ACQ_TRIG_LOC_VALID, F.ACQ_SEQ_WR, F.ACQ_SEQ_OLDEST, F.ACQ_LATE_TRIG_COUNT, F.TMU_REF_SRC, F.TMU_REF_LOST, F.TMU_REF_LOST_SEEN, F.TMU_REF_FREQ, F.TMU_REF_QUAL_MS, F.TMU_REF_OFFSET, F.TMU_REF_CFG_REFOUT_EN, F.TMU_DLL_LOCK, F.TMU_DLL_UNLOCK_SEEN, F.TMU_EPOCH_EPOCH, F.TMU_GSTATUS_SAT, F.TMU_CDT_CTL_PIN, F.TMU_CDT_RES_BUSY, F.TMU_CDT_RES_DONE, F.TMU_CDT_RES_PASS, F.TMU_CDT_RES_UNCAL, F.TMU_CDT_RES_DNL, F.TMU_CDT_RES_INL, F.TMU_PIN_CFG_RISE, F.TMU_PIN_CFG_FALL, F.TMU_PIN_CFG_CMP] ++
  [F.TMU_MISSED_COUNT, F.TMU_LAST_TIME, F.TMU_PAIR_CFG_START_PIN, F.TMU_PAIR_CFG_STOP_PIN, F.TMU_PAIR_CFG_START_DIR, F.TMU_PAIR_CFG_STOP_DIR, F.TMU_PAIR_CFG_WMODE, F.TMU_PAIR_CFG_EN, F.TMU_PAIR_W_W, F.TMU_PAIR_LO_LO, F.TMU_PAIR_HI_HI, F.TMU_PAIR_LAST_DELTA, F.TMU_PAIR_LAST_COINCIDENT, F.TMU_PAIR_LAST_ORDER, F.TMU_PAIR_LAST_HOLDOVER, F.TMU_PAIR_LAST_MISSED_BEFORE, F.TMU_PAIR_LAST_UNCAL, F.TMU_PAIR_LAST_VALID, F.TMU_PAIR_COUNT_COUNT, F.TMU_UNPAIRED_COUNT, F.TMU_WIN_COUNT_COUNT, F.TMU_FC_CFG_PIN, F.TMU_FC_CFG_DIR, F.TMU_FC_CFG_GATE, F.TMU_FC_CFG_MODE, F.TMU_FC_TICK_TICK, F.TMU_FC_RES_COUNT, F.TMU_FC_RES_VALID, F.TMU_FC_RES_MISSED, F.TMU_FC_RES_HOLDOVER, F.TMU_FC_RES_UNCAL, F.TMU_FC_RES_GEN, F.TMU_FC_SPAN_SPAN, F.TMU_CDT_HIST_HITS, F.DC_GSTATUS_SAT, F.DC_PIN_CFG_MODE, F.DC_PIN_CFG_RANGE, F.DC_PIN_FORCE_VFORCE, F.DC_PIN_FORCE_IFORCE, F.DC_PIN_FORCE_VCLO, F.DC_PIN_FORCE_VCHI, F.DC_PIN_STAT_CONN, F.DC_PIN_STAT_CLAMP, F.DC_PIN_STAT_CLAMP_SEEN, F.DSA_CTL_MODE, F.DSA_CTL_CHAN, F.DSA_CTL_FIR, F.DSA_CTL_SUPPRESS, F.DSA_CTL_RATIO, F.DSA_CTL_SCANMASK, F.DSA_STAT_BUSY, F.DSA_STAT_SETTLING, F.DSA_STAT_START_FAIL, F.DSA_STAT_PATH_FAULT, F.DSA_RES_RESULT, F.DSA_RES_GEN, F.DSA_THR_CFG_THR_MODE, F.DSA_THR_CFG_THR_CHAN, F.DSA_THR_LVL_LO, F.DSA_THR_LVL_HI] ++
  [F.DSA_THR_COUNT_COUNT, F.DSA_SETTLE0_SET_CHAN, F.DSA_SETTLE0_SET_MODE, F.DSA_SETTLE0_SET_A, F.DSA_SETTLE0_SET_B, F.DSA_SETTLE0_SET_C, F.DSA_SETTLE1_SET_D, F.DSA_SETTLE1_SET_E, F.DC_DIAG_CFG_CODE, F.DC_DIAG_CFG_TARGET, F.DC_DIAG_CFG_TOL, F.DC_DIAG_RES_MEAS, F.DC_DIAG_RES_DONE, F.DC_DIAG_RES_PASS, F.DSA_CHV_RESULT, F.DSA_CHV_TICK, F.RS_CFG_MODE, F.RS_CFG_TSEL, F.RS_CFG_SYNC, F.RS_CFG_TE_RISE, F.RS_CFG_TE_PIN, F.RS_CFG_HS_INV, F.RS_CFG_VS_INV, F.RS_CFG_BEZEL_BLOCK, F.RS_CFG_RASTER, F.RS_STATIC_N, F.RS_STATIC_DIV, F.RS_BG_COLOUR, F.RS_L_CFG_EN, F.RS_L_CFG_FMT, F.RS_L_CFG_BLEND, F.RS_L_CFG_GALPHA, F.RS_L_POS_X, F.RS_L_POS_Y, F.RS_L_POS_W, F.RS_L_POS_H, F.RS_L_BASE_BASE, F.RS_L_STRIDE_STRIDE, F.RS_STATUS_RUNNING, F.RS_STATUS_COMMIT_PENDING, F.RS_STATUS_STATIC, F.RS_STATUS_WAITING, F.RS_STATUS_TE_TIMEOUT, F.RS_STATUS_TORN, F.RS_STATUS_FETCH_LATE, F.RS_STATUS_PERIOD_BAD, F.RS_STATUS_REJECT, F.RS_STATUS_SAT, F.RS_FRAME_FRAME, F.RS_GEN_GEN0, F.RS_GEN_GEN1, F.RS_GEN_GEN2, F.RS_TORN_COUNT_COUNT, F.RS_TORN_FRAME_FRAME, F.RS_TORN_FRAME_VALID, F.RS_LATE_COUNT_COUNT, F.MNT_STATUS_STATE, F.MNT_STATUS_LAST_OK, F.MNT_SRC_ADDR_ADDR, F.MNT_SRC_LEN_LEN] ++
  [F.MNT_REJECT_CODE, F.MNT_REJECT_OFFSET, F.MNT_REJECT_SECTION, F.LK_GSTATUS_SAT, F.LK_CFG_MAX_RATE, F.LK_CFG_ENABLE, F.LK_CFG_AUTO_WIDEN, F.LK_CFG_LANE_EN, F.LK_STAT_STATE, F.LK_STAT_RATE, F.LK_STAT_WIDTH, F.LK_STAT_LANES_USED, F.LK_STAT_LANES_GOOD, F.LK_STAT_FAIL_CODE, F.LK_STAT_HOP_NS, F.LK_STAT_PEER_PORT, F.LK_TRAIN_FAILS_COUNT, F.LK_CRC_ERR_COUNT, F.LK_REPLAY_COUNT, F.LK_TICK_LOST_COUNT, F.LK_DOWNSHIFT_COUNT, F.LK_EQ_CTLE, F.LK_EQ_DFE1, F.LK_EQ_DFE2, F.LK_EQ_DFE3, F.LK_EQ_DFE4, F.LK_EQ_DFE5, F.LK_EQ_LIMIT, F.LK_PRBS_CTL_PATTERN, F.LK_PRBS_CTL_GEN, F.LK_PRBS_CTL_CHK, F.LK_PRBS_STAT_LOCK, F.LK_PRBS_ERR_COUNT, F.ID_SERIAL_SERIAL, F.ID_STAT_STATE, F.ID_STAT_JOIN_WAIT, F.ID_STAT_MODULE, F.ID_STAT_ROLE, F.ID_STAT_TICK_HOLD, F.ID_STAT_ROOT_HOLDOVER, F.ID_STAT_ANCHOR, F.ID_STAT_REASON, F.ID_TOPO_KIND, F.ID_TOPO_N, F.ID_LEASE_EXPIRY, F.ID_LEASE_HELD, F.ID_LEASE_SEC_REG, F.ID_PHASE_ERR, F.ID_PHASE_STEER, F.ID_PHASE_PARENT, F.ID_PHASE_DEPTH, F.ID_FLAG_MISS_COUNT, F.ID_GSTATUS_SAT, F.ID_ROSTER_SERIAL, F.ID_ROSTER_VALID, F.ID_MAP_MSTATE, F.ID_MAP_LINKS, F.ID_MAP_SERIAL, F.ID_CG_FORMED, F.ID_CG_COPY1_OK] ++
  [F.ID_CG_BOUND0, F.ID_CG_BOUND1, F.PL_CFG_REPLICATE, F.PL_SRC_ADDR_ADDR, F.PL_SRC_LEN_LEN, F.PL_STATUS_NEXT, F.PL_STATUS_CUR, F.PL_STATUS_DEGRADED, F.PL_STATUS_REPLAN, F.PL_STATUS_SAT, F.PL_STATUS_REJECT, F.PL_REJECT_AT_ENTRY, F.PL_REJECT_AT_STRAND, F.PL_STREAM_DEMAND, F.PL_STREAM_AVAIL, F.PL_SCFAULT_SUB, F.PL_EXP_COUNT_COUNT, F.PL_PREFETCH_BEADS, F.PL_HINT_IGN_COUNT, F.PL_PROMOTIONS_COUNT, F.PL_LEAF_PIN_UNITS, F.PL_LEAF_OOS, F.PL_LEAF_COVER_US, F.PL_LEAF_PMIN, F.PL_LINK_CAP, F.PL_LINK_HOME, F.PL_LINK_PROMO, F.PL_EXPOSED_STRAND, F.PL_EXPOSED_UNIT, F.PL_EXPOSED_CLUSTER, F.PL_EXPOSED_COVER, F.PL_EXPOSED_NO_REPLICA, F.PL_EXPOSED_PATH, F.PL_EXPOSED_COVER_US, F.DM_STATUS_SR, F.DM_STATUS_SAT, F.DM_REGION_LEAF_Q, F.DM_REGION_CAP_256M, F.DM_REGION_RAS_64M, F.DM_MAP_STRAND, F.DM_MAP_RASTER, F.DM_MAP_CAPTURE, F.DM_MAP_JOURNAL, F.DM_SR_IDLE_US, F.DM_SCRUB_EN, F.DM_SCRUB_HOURS, F.DM_SC_STAT_FAULTY, F.DM_SC_STAT_CAUSE, F.DM_SC_STAT_HOT, F.DM_SC_STAT_TEMP, F.DM_CE_COUNT, F.DM_UE_COUNT, F.DM_CA_ALERT_COUNT, F.DM_CE_LAST_ADDR, F.DM_UE_LAST_ADDR, F.DM_BZ_BASE_BASE, F.DM_BZ_LIMIT_LIMIT, F.DM_BZ_CFG_EN, F.DM_BZ_CFG_MODE, F.DM_BZ_HIT_COUNT] ++
  [F.CAL_CFG_AUTO, F.CAL_CFG_DT, F.CAL_CFG_IDLE_S, F.CAL_STATUS_STATE, F.CAL_STATUS_NONE, F.CAL_STATUS_DUE, F.CAL_STATUS_DUE_SEEN, F.CAL_STATUS_REF_DRIFT, F.CAL_STATUS_SAT, F.CAL_STATUS_REJECT, F.CAL_STATUS_EXTRAP, F.CAL_STATUS_FROZEN, F.CAL_LBID_ID, F.CAL_RESULT_OUTCOME, F.CAL_RESULT_REASON, F.CAL_RESULT_PIN, F.CAL_RESULT_KIND, F.CAL_RESULT_SUB, F.CAL_RESULT_VALUE, F.CAL_RESULT_SLOT, F.CAL_REJ_COUNT_COUNT, F.CAL_PARTNER_PARTNER, F.CAL_LKT_INFO_VALID, F.CAL_LKT_INFO_KIND, F.CAL_LKT_INFO_SETPT, F.CAL_LKT_INFO_SEQ, F.CAL_LKT_LBID_ID, F.JN_CFG_AUTO, F.JN_WR_COUNT, F.JN_STATUS_LOSS_SEEN, F.JN_STATUS_SAT, F.JN_LOST_COUNT, F.JN_EXP_CFG_BASE, F.JN_EXP_CFG_SLOT_KIB, F.JN_EXP_FROM_TICK, F.JN_EXP_TO_TICK, F.JN_EXP_DROPPED_COUNT, F.JN_RPL_CFG_UNIT, F.JN_RPL_CFG_ARM, F.JN_RPL_CFG_CHECK, F.JN_RPL_CFG_SLOT, F.JN_RPL_SRC_UNIT, F.JN_RPL_SRC_CLUSTER, F.JN_RPL_SRC_MODULE, F.JN_RPL_RUN_TICK, F.JN_RPL_STAT_ACTIVE, F.JN_RPL_STAT_DIVERGED, F.JN_RPL_STAT_LEAF, F.JN_RPL_STAT_COND, F.JN_RPL_STAT_FLOW, F.JN_RPL_STAT_VINDEX, F.JN_RPL_DIVTICK_TICK, F.JN_SLOT_INFO_VALID, F.JN_SLOT_INFO_TRUNC, F.JN_SLOT_INFO_AUTO, F.JN_SLOT_INFO_LOSS, F.JN_SLOT_INFO_GEN, F.JN_SLOT_INFO_RECORDS, F.JN_SLOT_FROM_TICK, F.ENV_CFG_SAFE_HOLD_US] ++
  [F.ENV_CFG_CLEAR_S, F.ENV_CFG_AUTO_EXIT, F.ENV_CFG_DEW_SAFE, F.ENV_CFG_DEW_TMO_S, F.ENV_STATUS_MSTATE, F.ENV_STATUS_RETURN, F.ENV_STATUS_CLEAR_OK, F.ENV_STATUS_FLOW_LOW, F.ENV_STATUS_INLET_WARM, F.ENV_STATUS_INLET_COLD, F.ENV_STATUS_DIE_WARM, F.ENV_STATUS_VIN_HIGH, F.ENV_STATUS_DEW_RISK, F.ENV_STATUS_DEW_STALE, F.ENV_STATUS_SAT, F.ENV_SAFE_NOW_CAUSES, F.ENV_SAFE_SEEN_CAUSES, F.ENV_FAULT_CAUSE, F.ENV_FAULT_DETAIL, F.ENV_VIN_MV, F.ENV_VIN_MA, F.ENV_COOL_INLET, F.ENV_COOL_OUTLET, F.ENV_COOL_FLOW, F.ENV_TEMP_CHAMBER, F.ENV_TEMP_ASIC, F.ENV_TEMP_PFE_MAX, F.ENV_IMPL_SENSORS, F.ENV_DEW_DEW, F.ENV_PFE_FAULT, F.ENV_PFE_CAUSE, F.ENV_BOOT_BOOT_MS, F.ENV_BOOT_FW_BANK, F.ENV_BOOT_FALLBACK, F.ENV_BOOT_LAST_TRIP, F.ENV_BOOT_LAST_UV, F.ENV_SAFE_COUNT_COUNT, F.ENV_FW_STAT_STATE, F.ENV_FW_STAT_REJECT, F.ENV_FW_STAT_BYTES, F.GLB_TICK_TICK, F.GLB_ALARM_TICK, F.GLB_SNAP_CTL_FREEZE, F.GLB_ERR_ADDR_ADDR, F.GLB_ERR_ADDR_SRC, F.GLB_ERR_INFO_REASON, F.GLB_ERR_INFO_DETAIL, F.GLB_ERR_INFO_VALID, F.GLB_ERR_INFO_MORE, F.GLB_ERR_INFO_SAT, F.GLB_ERR_INFO_TICK, F.GLB_ERR_COUNT_COUNT, F.EVT_CFG_UPLINK, F.EVT_SEQ_NEXT, F.EVT_SEQ_SENT, F.EVT_LOST_COUNT, F.EVT_STATUS_SAT, F.EVT_ENABLE_EN, F.CAL_TLEAF_T, F.CAL_LKT_T] ++
  [F.LK_SKEW_V]

/-- The place and the fields of every register (the register tables). -/
def RegN.desc : RegN → RegDesc
  | .UNIT_CTL => ⟨0x100000, [(256, 0x1000)], [⟨0, 1, .wo, none⟩, ⟨1, 1, .wo, none⟩, ⟨2, 1, .wo, none⟩, ⟨3, 1, .wo, none⟩]⟩
  | .UNIT_STATUS => ⟨0x100008, [(256, 0x1000)], [⟨0, 3, .ro, some F.UNIT_STATUS_STATE⟩, ⟨3, 1, .ro, some F.UNIT_STATUS_START_PENDING⟩, ⟨4, 1, .ro, some F.UNIT_STATUS_LATE_ABORT⟩, ⟨5, 1, .ro, some F.UNIT_STATUS_TIMING_BROKEN⟩, ⟨6, 1, .ro, some F.UNIT_STATUS_UNDERRUN⟩, ⟨7, 1, .ro, some F.UNIT_STATUS_VCOUNT_WRAP⟩, ⟨8, 1, .ro, some F.UNIT_STATUS_HOLDING⟩, ⟨16, 8, .ro, some F.UNIT_STATUS_CAUSE⟩, ⟨24, 16, .ro, some F.UNIT_STATUS_CUR_STRAND⟩, ⟨40, 24, .ro, some F.UNIT_STATUS_CUR_BEAD⟩]⟩
  | .UNIT_KIND => ⟨0x100010, [(256, 0x1000)], [⟨0, 1, .ro, none⟩]⟩
  | .UNIT_DEPTH => ⟨0x100018, [(256, 0x1000)], [⟨0, 8, .ro, none⟩]⟩
  | .UNIT_START_TICK => ⟨0x100020, [(256, 0x1000)], [⟨0, 64, .rw, some F.UNIT_START_TICK_START_TICK⟩]⟩
  | .UNIT_START_STRAND => ⟨0x100028, [(256, 0x1000)], [⟨0, 16, .rw, some F.UNIT_START_STRAND_STRAND⟩]⟩
  | .UNIT_JUMP => ⟨0x100030, [(256, 0x1000)], [⟨0, 16, .rw, some F.UNIT_JUMP_TARGET⟩]⟩
  | .UNIT_JUMP_TICK => ⟨0x100038, [(256, 0x1000)], [⟨0, 64, .rw, some F.UNIT_JUMP_TICK_JUMP_TICK⟩]⟩
  | .UNIT_VCOUNT => ⟨0x100040, [(256, 0x1000)], [⟨0, 48, .ro, some F.UNIT_VCOUNT_VCOUNT⟩]⟩
  | .UNIT_HOLD_LIMIT => ⟨0x100048, [(256, 0x1000)], [⟨0, 32, .rw, some F.UNIT_HOLD_LIMIT_LIMIT⟩]⟩
  | .UNIT_HOLD_GAP => ⟨0x100050, [(256, 0x1000)], [⟨0, 48, .ro, some F.UNIT_HOLD_GAP_GAP⟩]⟩
  | .UNIT_SAFEPT => ⟨0x100058, [(256, 0x1000)], [⟨0, 16, .ro, some F.UNIT_SAFEPT_STRAND⟩, ⟨16, 24, .ro, some F.UNIT_SAFEPT_BEAD⟩, ⟨40, 1, .ro, some F.UNIT_SAFEPT_VALID⟩]⟩
  | .UNIT_ABORT_SRC => ⟨0x100060, [(256, 0x1000)], [⟨0, 10, .ro, some F.UNIT_ABORT_SRC_SRC_UNIT⟩, ⟨10, 4, .ro, some F.UNIT_ABORT_SRC_SRC_MODULE⟩, ⟨16, 8, .ro, some F.UNIT_ABORT_SRC_SRC_CAUSE⟩]⟩
  | .MC_CTL => ⟨0x20000, [], [⟨0, 1, .wo, none⟩]⟩
  | .MC_STATUS => ⟨0x20008, [], [⟨0, 2, .ro, some F.MC_STATUS_STATE⟩, ⟨2, 1, .ro, some F.MC_STATUS_LAST_OK⟩, ⟨3, 1, .w1c, some F.MC_STATUS_STACK_FAULT⟩, ⟨4, 4, .ro, some F.MC_STATUS_KEY_SLOT⟩, ⟨8, 1, .w1c, some F.MC_STATUS_SAT⟩, ⟨16, 16, .ro, some F.MC_STATUS_STACK_LEAVES⟩]⟩
  | .MC_VER => ⟨0x20010, [], [⟨0, 8, .ro, some F.MC_VER_MAJOR⟩, ⟨8, 8, .ro, some F.MC_VER_MINOR⟩, ⟨16, 16, .ro, some F.MC_VER_PATCH⟩, ⟨32, 32, .ro, some F.MC_VER_SVN⟩]⟩
  | .MC_DIGEST => ⟨0x20018, [], [⟨0, 64, .ro, some F.MC_DIGEST_DIGEST⟩]⟩
  | .MC_SRC_ADDR => ⟨0x20020, [], [⟨0, 40, .rw, some F.MC_SRC_ADDR_ADDR⟩]⟩
  | .MC_SRC_LEN => ⟨0x20028, [], [⟨0, 17, .rw, some F.MC_SRC_LEN_LEN⟩]⟩
  | .MC_REJECT => ⟨0x20030, [], [⟨0, 8, .ro, some F.MC_REJECT_CODE⟩, ⟨8, 24, .ro, some F.MC_REJECT_OFFSET⟩]⟩
  | .MC_OTP => ⟨0x20038, [], [⟨0, 6, .ro, some F.MC_OTP_MIN_SVN⟩, ⟨8, 4, .ro, some F.MC_OTP_PROG⟩, ⟨12, 4, .ro, some F.MC_OTP_REVOKED⟩]⟩
  | .MC_OTP_KEY => ⟨0x20040, [], [⟨0, 64, .wo, none⟩]⟩
  | .MC_OTP_CMD => ⟨0x20048, [], [⟨0, 2, .wo, none⟩, ⟨2, 2, .wo, none⟩]⟩
  | .MC_OTP_DATA => ⟨0x20050, [(4, 0x8)], [⟨0, 64, .rw, some F.MC_OTP_DATA_DATA⟩]⟩
  | .MC_HOSTFLAG => ⟨0x20070, [], [⟨0, 64, .rw, some F.MC_HOSTFLAG_FLAG⟩]⟩
  | .MC_LATE_INFO => ⟨0x20078, [], [⟨0, 4, .ro, some F.MC_LATE_INFO_LEAF⟩, ⟨4, 12, .ro, some F.MC_LATE_INFO_ADDR⟩, ⟨16, 12, .ro, some F.MC_LATE_INFO_PC⟩, ⟨28, 6, .ro, some F.MC_LATE_INFO_VECTOR⟩]⟩
  | .MC_VACT_LATE => ⟨0x20080, [], [⟨0, 32, .rw, some F.MC_VACT_LATE_COUNT⟩]⟩
  | .MC_UREG => ⟨0x20100, [(16, 0x80), (16, 0x8)], [⟨0, 32, .rw, some F.MC_UREG_VALUE⟩]⟩
  | .TS_PERIOD => ⟨0x201000, [(16, 0x4000), (16, 0x100)], [⟨0, 32, .rw, some F.TS_PERIOD_PERIOD⟩]⟩
  | .TS_ACT_PERIOD => ⟨0x200000, [(16, 0x4000), (16, 0x100)], [⟨0, 32, .ro, some F.TS_PERIOD_PERIOD⟩]⟩
  | .TS_PIN_A => ⟨0x201008, [(16, 0x4000), (16, 0x100), (9, 0x10)], [⟨0, 24, .rw, some F.TS_PIN_A_E1⟩, ⟨24, 24, .rw, some F.TS_PIN_A_E2⟩, ⟨48, 3, .rw, some F.TS_PIN_A_FMT⟩, ⟨51, 2, .rw, some F.TS_PIN_A_CMODE⟩, ⟨53, 1, .rw, some F.TS_PIN_A_ZCHK⟩, ⟨54, 2, .rw, some F.TS_PIN_A_TERM⟩]⟩
  | .TS_ACT_PIN_A => ⟨0x200008, [(16, 0x4000), (16, 0x100), (9, 0x10)], [⟨0, 24, .ro, some F.TS_PIN_A_E1⟩, ⟨24, 24, .ro, some F.TS_PIN_A_E2⟩, ⟨48, 3, .ro, some F.TS_PIN_A_FMT⟩, ⟨51, 2, .ro, some F.TS_PIN_A_CMODE⟩, ⟨53, 1, .ro, some F.TS_PIN_A_ZCHK⟩, ⟨54, 2, .ro, some F.TS_PIN_A_TERM⟩]⟩
  | .TS_PIN_B => ⟨0x201010, [(16, 0x4000), (16, 0x100), (9, 0x10)], [⟨0, 24, .rw, some F.TS_PIN_B_E3⟩, ⟨24, 24, .rw, some F.TS_PIN_B_E4⟩]⟩
  | .TS_ACT_PIN_B => ⟨0x200010, [(16, 0x4000), (16, 0x100), (9, 0x10)], [⟨0, 24, .ro, some F.TS_PIN_B_E3⟩, ⟨24, 24, .ro, some F.TS_PIN_B_E4⟩]⟩
  | .TS_CTL => ⟨0x202000, [(16, 0x4000)], [⟨0, 1, .wo, none⟩, ⟨1, 1, .wo, none⟩]⟩
  | .TS_SWAP_TICK => ⟨0x202008, [(16, 0x4000)], [⟨0, 64, .rw, some F.TS_SWAP_TICK_TICK⟩]⟩
  | .TS_STATUS => ⟨0x202010, [(16, 0x4000)], [⟨0, 1, .ro, some F.TS_STATUS_SWAP_PENDING⟩, ⟨1, 1, .ro, some F.TS_STATUS_LAST_SWAP_OK⟩, ⟨2, 1, .ro, some F.TS_STATUS_COLL_SEEN⟩, ⟨3, 1, .ro, some F.TS_STATUS_DLL_UNLOCK⟩, ⟨4, 1, .w1c, some F.TS_STATUS_SAT⟩, ⟨8, 8, .ro, some F.TS_STATUS_REJECT⟩, ⟨16, 4, .ro, some F.TS_STATUS_REJ_SET⟩, ⟨20, 4, .ro, some F.TS_STATUS_REJ_SLOT⟩, ⟨24, 3, .ro, some F.TS_STATUS_REJ_EDGE⟩]⟩
  | .TS_SWAP_AT => ⟨0x202018, [(16, 0x4000)], [⟨0, 48, .ro, some F.TS_SWAP_AT_VINDEX⟩, ⟨48, 2, .ro, some F.TS_SWAP_AT_WHERE⟩]⟩
  | .TS_COLL_COUNT => ⟨0x202020, [(16, 0x4000)], [⟨0, 32, .rw, some F.TS_COLL_COUNT_COUNT⟩]⟩
  | .TS_COLL_FIRST => ⟨0x202028, [(16, 0x4000)], [⟨0, 48, .ro, some F.TS_COLL_FIRST_VINDEX⟩, ⟨48, 4, .ro, some F.TS_COLL_FIRST_SLOT⟩, ⟨52, 3, .ro, some F.TS_COLL_FIRST_EDGE⟩, ⟨55, 2, .ro, some F.TS_COLL_FIRST_REASON⟩, ⟨57, 1, .ro, some F.TS_COLL_FIRST_VALID⟩]⟩
  | .TS_CFG => ⟨0x202030, [(16, 0x4000)], [⟨0, 1, .rw, some F.TS_CFG_COLL_FAIL⟩]⟩
  | .TS_DESKEW_A => ⟨0x202100, [(16, 0x4000), (9, 0x10)], [⟨0, 13, .ro, some F.TS_DESKEW_A_E1⟩, ⟨16, 13, .ro, some F.TS_DESKEW_A_E2⟩, ⟨32, 13, .ro, some F.TS_DESKEW_A_E3⟩, ⟨48, 13, .ro, some F.TS_DESKEW_A_E4W⟩]⟩
  | .TS_DESKEW_B => ⟨0x202108, [(16, 0x4000), (9, 0x10)], [⟨0, 13, .ro, some F.TS_DESKEW_B_E4S⟩]⟩
  | .TS_LVL_DRV => ⟨0x202200, [(16, 0x4000), (9, 0x10)], [⟨0, 16, .rw, some F.TS_LVL_DRV_VIL⟩, ⟨16, 16, .rw, some F.TS_LVL_DRV_VIH⟩, ⟨32, 16, .rw, some F.TS_LVL_DRV_VT⟩, ⟨48, 16, .rw, some F.TS_LVL_DRV_VCOM⟩]⟩
  | .TS_LVL_CMP => ⟨0x202208, [(16, 0x4000), (9, 0x10)], [⟨0, 16, .rw, some F.TS_LVL_CMP_VOL⟩, ⟨16, 16, .rw, some F.TS_LVL_CMP_VOH⟩, ⟨32, 16, .rw, some F.TS_LVL_CMP_IOL⟩, ⟨48, 16, .rw, some F.TS_LVL_CMP_IOH⟩]⟩
  | .FL_CTL => ⟨0x300000, [], [⟨0, 1, .wo, none⟩]⟩
  | .FL_CFG => ⟨0x300008, [], [⟨0, 7, .rw, some F.FL_CFG_RING_64K⟩, ⟨16, 16, .rw, some F.FL_CFG_LEAF_EN⟩]⟩
  | .FL_WR => ⟨0x300010, [], [⟨0, 32, .ro, some F.FL_WR_WR⟩]⟩
  | .FL_RD => ⟨0x300018, [], [⟨0, 32, .rw, some F.FL_RD_RD⟩]⟩
  | .FL_DROPPED => ⟨0x300020, [], [⟨0, 32, .rw, some F.FL_DROPPED_COUNT⟩]⟩
  | .FL_LIMITED => ⟨0x300028, [], [⟨0, 32, .rw, some F.FL_LIMITED_COUNT⟩]⟩
  | .FL_STATUS => ⟨0x300030, [], [⟨0, 19, .ro, none⟩, ⟨19, 1, .ro, none⟩, ⟨20, 1, .w1c, some F.FL_STATUS_SAT⟩]⟩
  | .FL_APER => ⟨0x300038, [], [⟨0, 18, .rw, some F.FL_APER_BASE⟩]⟩
  | .FL_WMARK => ⟨0x300040, [], [⟨0, 19, .rw, some F.FL_WMARK_LEVEL⟩]⟩
  | .FL_LIMIT => ⟨0x300080, [(16, 0x8)], [⟨0, 24, .rw, some F.FL_LIMIT_MAX⟩]⟩
  | .UNIT_PFAIL => ⟨0x100080, [(256, 0x1000), (9, 0x8)], [⟨0, 32, .rw, some F.UNIT_PFAIL_COUNT⟩]⟩
  | .UNIT_FVEC => ⟨0x1000c8, [(256, 0x1000)], [⟨0, 32, .rw, some F.UNIT_FVEC_COUNT⟩]⟩
  | .UNIT_FF_POS => ⟨0x1000d0, [(256, 0x1000)], [⟨0, 48, .ro, some F.UNIT_FF_POS_VINDEX⟩, ⟨48, 1, .ro, some F.UNIT_FF_POS_VALID⟩, ⟨49, 4, .ro, some F.UNIT_FF_POS_LEAF⟩, ⟨53, 4, .ro, some F.UNIT_FF_POS_MODULE⟩]⟩
  | .UNIT_FF_WHERE => ⟨0x1000d8, [(256, 0x1000)], [⟨0, 16, .ro, some F.UNIT_FF_WHERE_STRAND⟩, ⟨16, 24, .ro, some F.UNIT_FF_WHERE_BEAD⟩, ⟨40, 6, .ro, some F.UNIT_FF_WHERE_VOFF⟩, ⟨46, 9, .ro, some F.UNIT_FF_WHERE_PMASK⟩]⟩
  | .UNIT_FF_TICK => ⟨0x1000e0, [(256, 0x1000)], [⟨0, 64, .ro, some F.UNIT_FF_TICK_TICK⟩]⟩
  | .UNIT_FSTOP => ⟨0x1000e8, [(256, 0x1000)], [⟨0, 2, .rw, some F.UNIT_FSTOP_MODE⟩, ⟨2, 1, .rw, some F.UNIT_FSTOP_ACCUM⟩, ⟨8, 24, .rw, some F.UNIT_FSTOP_THRESH⟩]⟩
  | .UNIT_FSTAT => ⟨0x1000f0, [(256, 0x1000)], [⟨0, 1, .ro, some F.UNIT_FSTAT_FSTOP_HIT⟩, ⟨1, 1, .w1c, some F.UNIT_FSTAT_SAT⟩, ⟨2, 1, .ro, some F.UNIT_FSTAT_FL_LOST⟩]⟩
  | .ACQ_GSTATUS => ⟨0x310000, [], [⟨0, 8, .ro, none⟩, ⟨8, 1, .ro, some F.ACQ_GSTATUS_SKEW_DEFAULT⟩, ⟨9, 1, .w1c, some F.ACQ_GSTATUS_SAT⟩]⟩
  | .ACQ_BW_USED => ⟨0x310008, [], [⟨0, 7, .ro, none⟩]⟩
  | .ACQ_APER => ⟨0x310010, [], [⟨0, 11, .rw, some F.ACQ_APER_PAGE⟩]⟩
  | .ACQ_CTL => ⟨0x310100, [(8, 0x100)], [⟨0, 1, .wo, none⟩, ⟨1, 1, .wo, none⟩, ⟨2, 1, .wo, none⟩, ⟨3, 1, .wo, none⟩]⟩
  | .ACQ_CFG => ⟨0x310108, [(8, 0x100)], [⟨0, 4, .rw, some F.ACQ_CFG_SOURCE⟩, ⟨4, 1, .rw, some F.ACQ_CFG_MEM⟩, ⟨5, 1, .rw, some F.ACQ_CFG_RED⟩, ⟨6, 1, .rw, some F.ACQ_CFG_SUM⟩, ⟨7, 1, .rw, some F.ACQ_CFG_SUMSQ⟩, ⟨8, 1, .rw, some F.ACQ_CFG_COUNT⟩, ⟨9, 1, .rw, some F.ACQ_CFG_XOUT⟩, ⟨16, 16, .rw, some F.ACQ_CFG_LEAFMASK⟩, ⟨32, 9, .rw, some F.ACQ_CFG_SLOTMASK⟩, ⟨48, 11, .rw, some F.ACQ_CFG_SOFS⟩]⟩
  | .ACQ_SRAM => ⟨0x310110, [(8, 0x100)], [⟨0, 11, .rw, some F.ACQ_SRAM_BASE⟩, ⟨16, 12, .rw, some F.ACQ_SRAM_PAGES⟩]⟩
  | .ACQ_DRAM => ⟨0x310118, [(8, 0x100)], [⟨0, 22, .rw, some F.ACQ_DRAM_BASE⟩, ⟨32, 22, .rw, some F.ACQ_DRAM_PAGES⟩]⟩
  | .ACQ_PRE => ⟨0x310120, [(8, 0x100)], [⟨0, 32, .rw, some F.ACQ_PRE_COUNT⟩]⟩
  | .ACQ_POST => ⟨0x310128, [(8, 0x100)], [⟨0, 32, .rw, some F.ACQ_POST_COUNT⟩]⟩
  | .ACQ_TRIG => ⟨0x310130, [(8, 0x100)], [⟨0, 4, .rw, some F.ACQ_TRIG_SRC⟩, ⟨4, 9, .rw, some F.ACQ_TRIG_SLOTMASK⟩, ⟨16, 16, .rw, some F.ACQ_TRIG_LEAFMASK⟩, ⟨32, 16, .rw, some F.ACQ_TRIG_SEL⟩, ⟨48, 16, .rw, some F.ACQ_TRIG_COUNT⟩]⟩
  | .ACQ_RED => ⟨0x310138, [(8, 0x100)], [⟨0, 20, .rw, some F.ACQ_RED_NM1⟩]⟩
  | .ACQ_BW => ⟨0x310140, [(8, 0x100)], [⟨0, 7, .rw, some F.ACQ_BW_UNITS⟩]⟩
  | .ACQ_STAT => ⟨0x310148, [(8, 0x100)], [⟨0, 3, .ro, some F.ACQ_STAT_STATE⟩, ⟨3, 1, .ro, some F.ACQ_STAT_POST_CLIPPED⟩, ⟨4, 1, .ro, some F.ACQ_STAT_SHORT⟩, ⟨5, 1, .ro, some F.ACQ_STAT_GAP_SEEN⟩, ⟨8, 8, .ro, some F.ACQ_STAT_REJECT⟩]⟩
  | .ACQ_POST_EFF => ⟨0x310150, [(8, 0x100)], [⟨0, 32, .ro, some F.ACQ_POST_EFF_COUNT⟩]⟩
  | .ACQ_IGN_TRIG => ⟨0x310158, [(8, 0x100)], [⟨0, 32, .rw, some F.ACQ_IGN_TRIG_COUNT⟩]⟩
  | .ACQ_GAPS => ⟨0x310160, [(8, 0x100)], [⟨0, 32, .rw, some F.ACQ_GAPS_COUNT⟩]⟩
  | .ACQ_LOST => ⟨0x310168, [(8, 0x100)], [⟨0, 32, .rw, some F.ACQ_LOST_COUNT⟩]⟩
  | .ACQ_TRIG_TIME => ⟨0x310170, [(8, 0x100)], [⟨0, 64, .ro, some F.ACQ_TRIG_TIME_TIME⟩]⟩
  | .ACQ_TRIG_LOC => ⟨0x310178, [(8, 0x100)], [⟨0, 32, .ro, some F.ACQ_TRIG_LOC_SEQ⟩, ⟨32, 11, .ro, some F.ACQ_TRIG_LOC_IDX⟩, ⟨43, 1, .ro, some F.ACQ_TRIG_LOC_VALID⟩]⟩
  | .ACQ_SEQ => ⟨0x310180, [(8, 0x100)], [⟨0, 32, .ro, some F.ACQ_SEQ_WR⟩, ⟨32, 32, .ro, some F.ACQ_SEQ_OLDEST⟩]⟩
  | .ACQ_LATE_TRIG => ⟨0x310188, [(8, 0x100)], [⟨0, 32, .rw, some F.ACQ_LATE_TRIG_COUNT⟩]⟩
  | .TMU_REF => ⟨0x320000, [], [⟨0, 1, .ro, some F.TMU_REF_SRC⟩, ⟨1, 1, .ro, some F.TMU_REF_LOST⟩, ⟨2, 1, .w1c, some F.TMU_REF_LOST_SEEN⟩, ⟨3, 1, .ro, some F.TMU_REF_FREQ⟩, ⟨8, 10, .ro, some F.TMU_REF_QUAL_MS⟩, ⟨20, 12, .ro, some F.TMU_REF_OFFSET⟩]⟩
  | .TMU_REF_CFG => ⟨0x320008, [], [⟨0, 1, .rw, some F.TMU_REF_CFG_REFOUT_EN⟩]⟩
  | .TMU_DLL => ⟨0x320010, [], [⟨0, 1, .ro, some F.TMU_DLL_LOCK⟩, ⟨1, 1, .w1c, some F.TMU_DLL_UNLOCK_SEEN⟩]⟩
  | .TMU_EPOCH => ⟨0x320018, [], [⟨0, 16, .ro, some F.TMU_EPOCH_EPOCH⟩]⟩
  | .TMU_GSTATUS => ⟨0x320020, [], [⟨0, 1, .w1c, some F.TMU_GSTATUS_SAT⟩]⟩
  | .TMU_CDT_CTL => ⟨0x320028, [], [⟨0, 8, .rw, some F.TMU_CDT_CTL_PIN⟩, ⟨8, 1, .wo, none⟩]⟩
  | .TMU_CDT_RES => ⟨0x320030, [], [⟨0, 1, .ro, some F.TMU_CDT_RES_BUSY⟩, ⟨1, 1, .ro, some F.TMU_CDT_RES_DONE⟩, ⟨2, 1, .ro, some F.TMU_CDT_RES_PASS⟩, ⟨3, 1, .ro, some F.TMU_CDT_RES_UNCAL⟩, ⟨8, 16, .ro, some F.TMU_CDT_RES_DNL⟩, ⟨24, 16, .ro, some F.TMU_CDT_RES_INL⟩]⟩
  | .TMU_PIN_CFG => ⟨0x321000, [(144, 0x8)], [⟨0, 1, .rw, some F.TMU_PIN_CFG_RISE⟩, ⟨1, 1, .rw, some F.TMU_PIN_CFG_FALL⟩, ⟨2, 1, .rw, some F.TMU_PIN_CFG_CMP⟩]⟩
  | .TMU_MISSED => ⟨0x321800, [(144, 0x8)], [⟨0, 32, .rw, some F.TMU_MISSED_COUNT⟩]⟩
  | .TMU_LAST => ⟨0x322000, [(144, 0x8)], [⟨0, 64, .ro, some F.TMU_LAST_TIME⟩]⟩
  | .TMU_PAIR_CFG => ⟨0x323000, [(16, 0x40)], [⟨0, 8, .rw, some F.TMU_PAIR_CFG_START_PIN⟩, ⟨8, 8, .rw, some F.TMU_PAIR_CFG_STOP_PIN⟩, ⟨16, 1, .rw, some F.TMU_PAIR_CFG_START_DIR⟩, ⟨17, 1, .rw, some F.TMU_PAIR_CFG_STOP_DIR⟩, ⟨18, 2, .rw, some F.TMU_PAIR_CFG_WMODE⟩, ⟨20, 1, .rw, some F.TMU_PAIR_CFG_EN⟩]⟩
  | .TMU_PAIR_W => ⟨0x323008, [(16, 0x40)], [⟨0, 40, .rw, some F.TMU_PAIR_W_W⟩]⟩
  | .TMU_PAIR_LO => ⟨0x323010, [(16, 0x40)], [⟨0, 40, .rw, some F.TMU_PAIR_LO_LO⟩]⟩
  | .TMU_PAIR_HI => ⟨0x323018, [(16, 0x40)], [⟨0, 40, .rw, some F.TMU_PAIR_HI_HI⟩]⟩
  | .TMU_PAIR_LAST => ⟨0x323020, [(16, 0x40)], [⟨0, 40, .ro, some F.TMU_PAIR_LAST_DELTA⟩, ⟨40, 1, .ro, some F.TMU_PAIR_LAST_COINCIDENT⟩, ⟨41, 1, .ro, some F.TMU_PAIR_LAST_ORDER⟩, ⟨42, 1, .ro, some F.TMU_PAIR_LAST_HOLDOVER⟩, ⟨43, 1, .ro, some F.TMU_PAIR_LAST_MISSED_BEFORE⟩, ⟨44, 1, .ro, some F.TMU_PAIR_LAST_UNCAL⟩, ⟨45, 1, .ro, some F.TMU_PAIR_LAST_VALID⟩]⟩
  | .TMU_PAIR_COUNT => ⟨0x323028, [(16, 0x40)], [⟨0, 32, .rw, some F.TMU_PAIR_COUNT_COUNT⟩]⟩
  | .TMU_UNPAIRED => ⟨0x323030, [(16, 0x40)], [⟨0, 32, .rw, some F.TMU_UNPAIRED_COUNT⟩]⟩
  | .TMU_WIN_COUNT => ⟨0x323038, [(16, 0x40)], [⟨0, 32, .rw, some F.TMU_WIN_COUNT_COUNT⟩]⟩
  | .TMU_FC_CFG => ⟨0x323400, [(16, 0x20)], [⟨0, 8, .rw, some F.TMU_FC_CFG_PIN⟩, ⟨8, 1, .rw, some F.TMU_FC_CFG_DIR⟩, ⟨16, 16, .rw, some F.TMU_FC_CFG_GATE⟩, ⟨32, 2, .rw, some F.TMU_FC_CFG_MODE⟩]⟩
  | .TMU_FC_TICK => ⟨0x323408, [(16, 0x20)], [⟨0, 64, .rw, some F.TMU_FC_TICK_TICK⟩]⟩
  | .TMU_FC_RES => ⟨0x323410, [(16, 0x20)], [⟨0, 32, .ro, some F.TMU_FC_RES_COUNT⟩, ⟨32, 1, .ro, some F.TMU_FC_RES_VALID⟩, ⟨33, 1, .ro, some F.TMU_FC_RES_MISSED⟩, ⟨34, 1, .ro, some F.TMU_FC_RES_HOLDOVER⟩, ⟨35, 1, .ro, some F.TMU_FC_RES_UNCAL⟩, ⟨48, 16, .ro, some F.TMU_FC_RES_GEN⟩]⟩
  | .TMU_FC_SPAN => ⟨0x323418, [(16, 0x20)], [⟨0, 48, .ro, some F.TMU_FC_SPAN_SPAN⟩]⟩
  | .TMU_CDT_HIST => ⟨0x324000, [(1024, 0x8)], [⟨0, 32, .ro, some F.TMU_CDT_HIST_HITS⟩]⟩
  | .DC_GSTATUS => ⟨0x330000, [], [⟨0, 16, .ro, none⟩, ⟨16, 1, .w1c, some F.DC_GSTATUS_SAT⟩]⟩
  | .DC_PIN_CFG => ⟨0x331000, [(144, 0x10)], [⟨0, 2, .rw, some F.DC_PIN_CFG_MODE⟩, ⟨2, 3, .rw, some F.DC_PIN_CFG_RANGE⟩]⟩
  | .DC_PIN_FORCE => ⟨0x331008, [(144, 0x10)], [⟨0, 16, .rw, some F.DC_PIN_FORCE_VFORCE⟩, ⟨16, 16, .rw, some F.DC_PIN_FORCE_IFORCE⟩, ⟨32, 16, .rw, some F.DC_PIN_FORCE_VCLO⟩, ⟨48, 16, .rw, some F.DC_PIN_FORCE_VCHI⟩]⟩
  | .DC_PIN_STAT => ⟨0x331900, [(144, 0x8)], [⟨0, 1, .ro, some F.DC_PIN_STAT_CONN⟩, ⟨1, 1, .ro, some F.DC_PIN_STAT_CLAMP⟩, ⟨2, 1, .w1c, some F.DC_PIN_STAT_CLAMP_SEEN⟩]⟩
  | .DSA_CTL => ⟨0x332000, [(16, 0x100)], [⟨0, 2, .rw, some F.DSA_CTL_MODE⟩, ⟨2, 4, .rw, some F.DSA_CTL_CHAN⟩, ⟨6, 1, .rw, some F.DSA_CTL_FIR⟩, ⟨7, 1, .rw, some F.DSA_CTL_SUPPRESS⟩, ⟨9, 19, .rw, some F.DSA_CTL_RATIO⟩, ⟨28, 13, .rw, some F.DSA_CTL_SCANMASK⟩]⟩
  | .DSA_STAT => ⟨0x332008, [(16, 0x100)], [⟨0, 1, .ro, some F.DSA_STAT_BUSY⟩, ⟨1, 1, .ro, some F.DSA_STAT_SETTLING⟩, ⟨2, 1, .w1c, some F.DSA_STAT_START_FAIL⟩, ⟨3, 1, .w1c, some F.DSA_STAT_PATH_FAULT⟩]⟩
  | .DSA_RES => ⟨0x332010, [(16, 0x100)], [⟨0, 32, .ro, some F.DSA_RES_RESULT⟩, ⟨32, 16, .ro, some F.DSA_RES_GEN⟩]⟩
  | .DSA_THR_CFG => ⟨0x332018, [(16, 0x100)], [⟨0, 2, .rw, some F.DSA_THR_CFG_THR_MODE⟩, ⟨2, 4, .rw, some F.DSA_THR_CFG_THR_CHAN⟩]⟩
  | .DSA_THR_LVL => ⟨0x332020, [(16, 0x100)], [⟨0, 24, .rw, some F.DSA_THR_LVL_LO⟩, ⟨32, 24, .rw, some F.DSA_THR_LVL_HI⟩]⟩
  | .DSA_THR_COUNT => ⟨0x332028, [(16, 0x100)], [⟨0, 32, .rw, some F.DSA_THR_COUNT_COUNT⟩]⟩
  | .DSA_SETTLE0 => ⟨0x332030, [(16, 0x100)], [⟨0, 12, .rw, some F.DSA_SETTLE0_SET_CHAN⟩, ⟨12, 12, .rw, some F.DSA_SETTLE0_SET_MODE⟩, ⟨24, 12, .rw, some F.DSA_SETTLE0_SET_A⟩, ⟨36, 12, .rw, some F.DSA_SETTLE0_SET_B⟩, ⟨48, 12, .rw, some F.DSA_SETTLE0_SET_C⟩]⟩
  | .DSA_SETTLE1 => ⟨0x332038, [(16, 0x100)], [⟨0, 12, .rw, some F.DSA_SETTLE1_SET_D⟩, ⟨12, 12, .rw, some F.DSA_SETTLE1_SET_E⟩]⟩
  | .DSA_CMD => ⟨0x332040, [(16, 0x100)], [⟨0, 1, .wo, none⟩, ⟨1, 1, .wo, none⟩]⟩
  | .DC_DIAG_CFG => ⟨0x332048, [(16, 0x100)], [⟨0, 16, .rw, some F.DC_DIAG_CFG_CODE⟩, ⟨16, 4, .rw, some F.DC_DIAG_CFG_TARGET⟩, ⟨24, 24, .rw, some F.DC_DIAG_CFG_TOL⟩]⟩
  | .DC_DIAG_RES => ⟨0x332050, [(16, 0x100)], [⟨0, 24, .ro, some F.DC_DIAG_RES_MEAS⟩, ⟨24, 1, .ro, some F.DC_DIAG_RES_DONE⟩, ⟨25, 1, .ro, some F.DC_DIAG_RES_PASS⟩]⟩
  | .DSA_CHV => ⟨0x332080, [(16, 0x100), (13, 0x8)], [⟨0, 32, .ro, some F.DSA_CHV_RESULT⟩, ⟨32, 32, .ro, some F.DSA_CHV_TICK⟩]⟩
  | .RS_CTL => ⟨0x340000, [], [⟨0, 1, .wo, none⟩]⟩
  | .RS_COMMIT => ⟨0x340008, [], [⟨0, 1, .wo, none⟩]⟩
  | .RS_CFG => ⟨0x340010, [], [⟨0, 3, .rw, some F.RS_CFG_MODE⟩, ⟨3, 4, .rw, some F.RS_CFG_TSEL⟩, ⟨7, 1, .rw, some F.RS_CFG_SYNC⟩, ⟨8, 1, .rw, some F.RS_CFG_TE_RISE⟩, ⟨9, 6, .rw, some F.RS_CFG_TE_PIN⟩, ⟨15, 1, .rw, some F.RS_CFG_HS_INV⟩, ⟨16, 1, .rw, some F.RS_CFG_VS_INV⟩, ⟨17, 1, .rw, some F.RS_CFG_BEZEL_BLOCK⟩, ⟨18, 1, .rw, some F.RS_CFG_RASTER⟩]⟩
  | .RS_STATIC => ⟨0x340018, [], [⟨0, 8, .rw, some F.RS_STATIC_N⟩, ⟨8, 2, .rw, some F.RS_STATIC_DIV⟩]⟩
  | .RS_BG => ⟨0x340020, [], [⟨0, 24, .rw, some F.RS_BG_COLOUR⟩]⟩
  | .RS_ACT_BG => ⟨0x340120, [], [⟨0, 24, .ro, some F.RS_BG_COLOUR⟩]⟩
  | .RS_L_CFG => ⟨0x340040, [(3, 0x20)], [⟨0, 1, .rw, some F.RS_L_CFG_EN⟩, ⟨1, 2, .rw, some F.RS_L_CFG_FMT⟩, ⟨3, 1, .rw, some F.RS_L_CFG_BLEND⟩, ⟨4, 8, .rw, some F.RS_L_CFG_GALPHA⟩]⟩
  | .RS_ACT_L_CFG => ⟨0x340140, [(3, 0x20)], [⟨0, 1, .ro, some F.RS_L_CFG_EN⟩, ⟨1, 2, .ro, some F.RS_L_CFG_FMT⟩, ⟨3, 1, .ro, some F.RS_L_CFG_BLEND⟩, ⟨4, 8, .ro, some F.RS_L_CFG_GALPHA⟩]⟩
  | .RS_L_POS => ⟨0x340048, [(3, 0x20)], [⟨0, 11, .rw, some F.RS_L_POS_X⟩, ⟨16, 11, .rw, some F.RS_L_POS_Y⟩, ⟨32, 11, .rw, some F.RS_L_POS_W⟩, ⟨48, 11, .rw, some F.RS_L_POS_H⟩]⟩
  | .RS_ACT_L_POS => ⟨0x340148, [(3, 0x20)], [⟨0, 11, .ro, some F.RS_L_POS_X⟩, ⟨16, 11, .ro, some F.RS_L_POS_Y⟩, ⟨32, 11, .ro, some F.RS_L_POS_W⟩, ⟨48, 11, .ro, some F.RS_L_POS_H⟩]⟩
  | .RS_L_BASE => ⟨0x340050, [(3, 0x20)], [⟨0, 34, .rw, some F.RS_L_BASE_BASE⟩]⟩
  | .RS_ACT_L_BASE => ⟨0x340150, [(3, 0x20)], [⟨0, 34, .ro, some F.RS_L_BASE_BASE⟩]⟩
  | .RS_L_STRIDE => ⟨0x340058, [(3, 0x20)], [⟨0, 16, .rw, some F.RS_L_STRIDE_STRIDE⟩]⟩
  | .RS_ACT_L_STRIDE => ⟨0x340158, [(3, 0x20)], [⟨0, 16, .ro, some F.RS_L_STRIDE_STRIDE⟩]⟩
  | .RS_STATUS => ⟨0x3400a0, [], [⟨0, 1, .ro, some F.RS_STATUS_RUNNING⟩, ⟨1, 1, .ro, some F.RS_STATUS_COMMIT_PENDING⟩, ⟨2, 1, .ro, some F.RS_STATUS_STATIC⟩, ⟨3, 1, .ro, some F.RS_STATUS_WAITING⟩, ⟨4, 1, .ro, some F.RS_STATUS_TE_TIMEOUT⟩, ⟨5, 1, .w1c, some F.RS_STATUS_TORN⟩, ⟨6, 1, .w1c, some F.RS_STATUS_FETCH_LATE⟩, ⟨7, 1, .ro, some F.RS_STATUS_PERIOD_BAD⟩, ⟨8, 8, .ro, some F.RS_STATUS_REJECT⟩, ⟨16, 1, .w1c, some F.RS_STATUS_SAT⟩]⟩
  | .RS_FRAME => ⟨0x3400a8, [], [⟨0, 48, .ro, some F.RS_FRAME_FRAME⟩]⟩
  | .RS_GEN => ⟨0x3400b0, [], [⟨0, 16, .ro, some F.RS_GEN_GEN0⟩, ⟨16, 16, .ro, some F.RS_GEN_GEN1⟩, ⟨32, 16, .ro, some F.RS_GEN_GEN2⟩]⟩
  | .RS_TORN_COUNT => ⟨0x3400b8, [], [⟨0, 32, .rw, some F.RS_TORN_COUNT_COUNT⟩]⟩
  | .RS_TORN_FRAME => ⟨0x3400c0, [], [⟨0, 48, .ro, some F.RS_TORN_FRAME_FRAME⟩, ⟨48, 1, .ro, some F.RS_TORN_FRAME_VALID⟩]⟩
  | .RS_LATE_COUNT => ⟨0x3400c8, [], [⟨0, 32, .rw, some F.RS_LATE_COUNT_COUNT⟩]⟩
  | .MNT_CTL => ⟨0x30000, [], [⟨0, 1, .wo, none⟩, ⟨1, 1, .wo, none⟩]⟩
  | .MNT_STATUS => ⟨0x30008, [], [⟨0, 2, .ro, some F.MNT_STATUS_STATE⟩, ⟨2, 1, .ro, some F.MNT_STATUS_LAST_OK⟩, ⟨16, 10, .ro, none⟩]⟩
  | .MNT_SRC_ADDR => ⟨0x30010, [], [⟨0, 40, .rw, some F.MNT_SRC_ADDR_ADDR⟩]⟩
  | .MNT_SRC_LEN => ⟨0x30018, [], [⟨0, 21, .rw, some F.MNT_SRC_LEN_LEN⟩]⟩
  | .MNT_REJECT => ⟨0x30020, [], [⟨0, 8, .ro, some F.MNT_REJECT_CODE⟩, ⟨8, 24, .ro, some F.MNT_REJECT_OFFSET⟩, ⟨32, 16, .ro, some F.MNT_REJECT_SECTION⟩]⟩
  | .MNT_ID => ⟨0x30028, [], [⟨0, 64, .ro, none⟩]⟩
  | .MNT_HINTS => ⟨0x30030, [], [⟨0, 1, .ro, none⟩, ⟨1, 1, .ro, none⟩]⟩
  | .MNT_UMAP => ⟨0x30040, [(4, 0x8)], [⟨0, 64, .ro, none⟩]⟩
  | .MNT_LEAF => ⟨0x30080, [(16, 0x8)], [⟨0, 8, .ro, none⟩, ⟨8, 8, .ro, none⟩, ⟨16, 16, .ro, none⟩, ⟨32, 24, .ro, none⟩]⟩
  | .MNT_TRIG => ⟨0x30100, [(3, 0x8)], [⟨0, 64, .ro, none⟩]⟩
  | .MNT_ACQ => ⟨0x30140, [(8, 0x8)], [⟨0, 16, .ro, none⟩, ⟨16, 1, .ro, none⟩]⟩
  | .MNT_RASTER => ⟨0x30180, [(4, 0x8)], [⟨0, 64, .ro, none⟩]⟩
  | .MNT_PARENT => ⟨0x33000, [(256, 0x8)], [⟨0, 8, .ro, none⟩, ⟨8, 1, .ro, none⟩, ⟨9, 1, .ro, none⟩, ⟨16, 10, .ro, none⟩]⟩
  | .LK_GSTATUS => ⟨0x350000, [], [⟨0, 5, .ro, none⟩, ⟨5, 1, .w1c, some F.LK_GSTATUS_SAT⟩]⟩
  | .LK_CTL => ⟨0x350100, [(5, 0x100)], [⟨0, 1, .wo, none⟩, ⟨1, 1, .wo, none⟩, ⟨2, 1, .wo, none⟩]⟩
  | .LK_CFG => ⟨0x350108, [(5, 0x100)], [⟨0, 2, .rw, some F.LK_CFG_MAX_RATE⟩, ⟨2, 1, .rw, some F.LK_CFG_ENABLE⟩, ⟨3, 1, .rw, some F.LK_CFG_AUTO_WIDEN⟩, ⟨4, 4, .rw, some F.LK_CFG_LANE_EN⟩]⟩
  | .LK_STAT => ⟨0x350110, [(5, 0x100)], [⟨0, 4, .ro, some F.LK_STAT_STATE⟩, ⟨4, 2, .ro, some F.LK_STAT_RATE⟩, ⟨6, 2, .ro, some F.LK_STAT_WIDTH⟩, ⟨8, 4, .ro, some F.LK_STAT_LANES_USED⟩, ⟨12, 4, .ro, some F.LK_STAT_LANES_GOOD⟩, ⟨16, 8, .ro, some F.LK_STAT_FAIL_CODE⟩, ⟨24, 8, .ro, some F.LK_STAT_HOP_NS⟩, ⟨32, 3, .ro, some F.LK_STAT_PEER_PORT⟩]⟩
  | .LK_TRAIN_FAILS => ⟨0x350118, [(5, 0x100)], [⟨0, 32, .rw, some F.LK_TRAIN_FAILS_COUNT⟩]⟩
  | .LK_CRC_ERR => ⟨0x350120, [(5, 0x100)], [⟨0, 32, .rw, some F.LK_CRC_ERR_COUNT⟩]⟩
  | .LK_REPLAY => ⟨0x350128, [(5, 0x100)], [⟨0, 32, .rw, some F.LK_REPLAY_COUNT⟩]⟩
  | .LK_TICK_LOST => ⟨0x350130, [(5, 0x100)], [⟨0, 32, .rw, some F.LK_TICK_LOST_COUNT⟩]⟩
  | .LK_DOWNSHIFT => ⟨0x350138, [(5, 0x100)], [⟨0, 32, .rw, some F.LK_DOWNSHIFT_COUNT⟩]⟩
  | .LK_SKEW => ⟨0x350140, [(5, 0x100)], []⟩
  | .LK_EQ => ⟨0x350148, [(5, 0x100), (4, 0x8)], [⟨0, 4, .ro, some F.LK_EQ_CTLE⟩, ⟨4, 8, .ro, some F.LK_EQ_DFE1⟩, ⟨12, 8, .ro, some F.LK_EQ_DFE2⟩, ⟨20, 8, .ro, some F.LK_EQ_DFE3⟩, ⟨28, 8, .ro, some F.LK_EQ_DFE4⟩, ⟨36, 8, .ro, some F.LK_EQ_DFE5⟩, ⟨44, 1, .ro, some F.LK_EQ_LIMIT⟩]⟩
  | .LK_PRBS_CTL => ⟨0x350168, [(5, 0x100)], [⟨0, 2, .rw, some F.LK_PRBS_CTL_PATTERN⟩, ⟨2, 4, .rw, some F.LK_PRBS_CTL_GEN⟩, ⟨6, 4, .rw, some F.LK_PRBS_CTL_CHK⟩]⟩
  | .LK_PRBS_STAT => ⟨0x350170, [(5, 0x100)], [⟨0, 4, .ro, some F.LK_PRBS_STAT_LOCK⟩]⟩
  | .LK_PRBS_ERR => ⟨0x350178, [(5, 0x100), (4, 0x8)], [⟨0, 32, .rw, some F.LK_PRBS_ERR_COUNT⟩]⟩
  | .ID_SERIAL => ⟨0x60000, [], [⟨0, 48, .ro, some F.ID_SERIAL_SERIAL⟩]⟩
  | .ID_STAT => ⟨0x60008, [], [⟨0, 3, .ro, some F.ID_STAT_STATE⟩, ⟨3, 1, .ro, some F.ID_STAT_JOIN_WAIT⟩, ⟨4, 4, .ro, some F.ID_STAT_MODULE⟩, ⟨8, 2, .ro, some F.ID_STAT_ROLE⟩, ⟨10, 1, .ro, some F.ID_STAT_TICK_HOLD⟩, ⟨11, 1, .ro, some F.ID_STAT_ROOT_HOLDOVER⟩, ⟨12, 4, .ro, some F.ID_STAT_ANCHOR⟩, ⟨16, 3, .ro, some F.ID_STAT_REASON⟩]⟩
  | .ID_TOPO => ⟨0x60010, [], [⟨0, 3, .rw, some F.ID_TOPO_KIND⟩, ⟨3, 5, .rw, some F.ID_TOPO_N⟩]⟩
  | .ID_LEASE => ⟨0x60018, [], [⟨0, 40, .ro, some F.ID_LEASE_EXPIRY⟩, ⟨40, 1, .ro, some F.ID_LEASE_HELD⟩, ⟨41, 1, .ro, some F.ID_LEASE_SEC_REG⟩]⟩
  | .ID_PHASE => ⟨0x60020, [], [⟨0, 16, .ro, some F.ID_PHASE_ERR⟩, ⟨16, 16, .ro, some F.ID_PHASE_STEER⟩, ⟨32, 3, .ro, some F.ID_PHASE_PARENT⟩, ⟨35, 4, .ro, some F.ID_PHASE_DEPTH⟩]⟩
  | .ID_FLAG_MISS => ⟨0x60028, [], [⟨0, 32, .rw, some F.ID_FLAG_MISS_COUNT⟩]⟩
  | .ID_GSTATUS => ⟨0x60030, [], [⟨0, 1, .w1c, some F.ID_GSTATUS_SAT⟩]⟩
  | .ID_ROSTER => ⟨0x60100, [(16, 0x8)], [⟨0, 48, .rw, some F.ID_ROSTER_SERIAL⟩, ⟨48, 1, .rw, some F.ID_ROSTER_VALID⟩]⟩
  | .ID_MAP => ⟨0x60200, [(16, 0x8)], [⟨0, 3, .ro, some F.ID_MAP_MSTATE⟩, ⟨4, 4, .ro, some F.ID_MAP_LINKS⟩, ⟨8, 48, .ro, some F.ID_MAP_SERIAL⟩]⟩
  | .ID_CG => ⟨0x61000, [(1024, 0x8)], [⟨0, 1, .ro, some F.ID_CG_FORMED⟩, ⟨1, 1, .ro, some F.ID_CG_COPY1_OK⟩, ⟨2, 10, .ro, some F.ID_CG_BOUND0⟩, ⟨12, 10, .ro, some F.ID_CG_BOUND1⟩]⟩
  | .PL_CTL => ⟨0x40000, [], [⟨0, 1, .wo, none⟩, ⟨1, 1, .wo, none⟩, ⟨2, 1, .wo, none⟩]⟩
  | .PL_CFG => ⟨0x40008, [], [⟨0, 1, .rw, some F.PL_CFG_REPLICATE⟩]⟩
  | .PL_SRC_ADDR => ⟨0x40010, [], [⟨0, 40, .rw, some F.PL_SRC_ADDR_ADDR⟩]⟩
  | .PL_SRC_LEN => ⟨0x40018, [], [⟨0, 23, .rw, some F.PL_SRC_LEN_LEN⟩]⟩
  | .PL_STATUS => ⟨0x40020, [], [⟨0, 2, .ro, some F.PL_STATUS_NEXT⟩, ⟨2, 2, .ro, some F.PL_STATUS_CUR⟩, ⟨4, 1, .w1c, some F.PL_STATUS_DEGRADED⟩, ⟨5, 1, .w1c, some F.PL_STATUS_REPLAN⟩, ⟨6, 1, .w1c, some F.PL_STATUS_SAT⟩, ⟨8, 8, .ro, some F.PL_STATUS_REJECT⟩]⟩
  | .PL_REJECT_AT => ⟨0x40028, [], [⟨0, 32, .ro, some F.PL_REJECT_AT_ENTRY⟩, ⟨32, 16, .ro, some F.PL_REJECT_AT_STRAND⟩]⟩
  | .PL_STREAM => ⟨0x40030, [], [⟨0, 17, .ro, some F.PL_STREAM_DEMAND⟩, ⟨32, 17, .ro, some F.PL_STREAM_AVAIL⟩]⟩
  | .PL_SCFAULT => ⟨0x40038, [], [⟨0, 4, .ro, some F.PL_SCFAULT_SUB⟩]⟩
  | .PL_EXP_COUNT => ⟨0x40040, [], [⟨0, 32, .ro, some F.PL_EXP_COUNT_COUNT⟩]⟩
  | .PL_PREFETCH => ⟨0x40048, [], [⟨0, 32, .ro, some F.PL_PREFETCH_BEADS⟩]⟩
  | .PL_HINT_IGN => ⟨0x40050, [], [⟨0, 32, .rw, some F.PL_HINT_IGN_COUNT⟩]⟩
  | .PL_PROMOTIONS => ⟨0x40058, [], [⟨0, 32, .rw, some F.PL_PROMOTIONS_COUNT⟩]⟩
  | .PL_LEAF => ⟨0x40100, [(16, 0x8)], [⟨0, 6, .ro, some F.PL_LEAF_PIN_UNITS⟩, ⟨6, 1, .ro, some F.PL_LEAF_OOS⟩, ⟨8, 24, .ro, some F.PL_LEAF_COVER_US⟩, ⟨32, 32, .ro, some F.PL_LEAF_PMIN⟩]⟩
  | .PL_LINK => ⟨0x40200, [(5, 0x8)], [⟨0, 16, .ro, some F.PL_LINK_CAP⟩, ⟨16, 16, .ro, some F.PL_LINK_HOME⟩, ⟨32, 16, .ro, some F.PL_LINK_PROMO⟩]⟩
  | .PL_EXPOSED => ⟨0x48000, [(4096, 0x8)], [⟨0, 16, .ro, some F.PL_EXPOSED_STRAND⟩, ⟨16, 10, .ro, some F.PL_EXPOSED_UNIT⟩, ⟨26, 1, .ro, some F.PL_EXPOSED_CLUSTER⟩, ⟨27, 1, .ro, some F.PL_EXPOSED_COVER⟩, ⟨28, 1, .ro, some F.PL_EXPOSED_NO_REPLICA⟩, ⟨29, 1, .ro, some F.PL_EXPOSED_PATH⟩, ⟨32, 32, .ro, some F.PL_EXPOSED_COVER_US⟩]⟩
  | .DM_CTL => ⟨0x360000, [], [⟨0, 1, .wo, none⟩, ⟨4, 4, .wo, none⟩]⟩
  | .DM_STATUS => ⟨0x360008, [], [⟨0, 4, .ro, none⟩, ⟨4, 1, .ro, some F.DM_STATUS_SR⟩, ⟨5, 1, .w1c, some F.DM_STATUS_SAT⟩]⟩
  | .DM_REGION => ⟨0x360010, [], [⟨0, 4, .rw, some F.DM_REGION_LEAF_Q⟩, ⟨8, 6, .rw, some F.DM_REGION_CAP_256M⟩, ⟨16, 5, .rw, some F.DM_REGION_RAS_64M⟩]⟩
  | .DM_MAP => ⟨0x360018, [], [⟨0, 2, .rw, some F.DM_MAP_STRAND⟩, ⟨2, 2, .rw, some F.DM_MAP_RASTER⟩, ⟨4, 2, .rw, some F.DM_MAP_CAPTURE⟩, ⟨6, 2, .rw, some F.DM_MAP_JOURNAL⟩]⟩
  | .DM_BASE => ⟨0x360020, [(5, 0x8)], [⟨0, 34, .ro, none⟩]⟩
  | .DM_SR_IDLE => ⟨0x360048, [], [⟨0, 16, .rw, some F.DM_SR_IDLE_US⟩]⟩
  | .DM_SCRUB => ⟨0x360050, [], [⟨0, 1, .rw, some F.DM_SCRUB_EN⟩, ⟨8, 8, .rw, some F.DM_SCRUB_HOURS⟩]⟩
  | .DM_SC_STAT => ⟨0x360100, [(4, 0x40)], [⟨0, 1, .ro, some F.DM_SC_STAT_FAULTY⟩, ⟨1, 3, .ro, some F.DM_SC_STAT_CAUSE⟩, ⟨4, 1, .ro, some F.DM_SC_STAT_HOT⟩, ⟨8, 8, .ro, some F.DM_SC_STAT_TEMP⟩]⟩
  | .DM_CE => ⟨0x360108, [(4, 0x40)], [⟨0, 32, .rw, some F.DM_CE_COUNT⟩]⟩
  | .DM_UE => ⟨0x360110, [(4, 0x40)], [⟨0, 32, .rw, some F.DM_UE_COUNT⟩]⟩
  | .DM_CA_ALERT => ⟨0x360118, [(4, 0x40)], [⟨0, 32, .rw, some F.DM_CA_ALERT_COUNT⟩]⟩
  | .DM_CE_LAST => ⟨0x360120, [(4, 0x40)], [⟨0, 34, .ro, some F.DM_CE_LAST_ADDR⟩]⟩
  | .DM_UE_LAST => ⟨0x360128, [(4, 0x40)], [⟨0, 34, .ro, some F.DM_UE_LAST_ADDR⟩]⟩
  | .DM_BZ_BASE => ⟨0x360400, [(16, 0x20)], [⟨6, 28, .rw, some F.DM_BZ_BASE_BASE⟩]⟩
  | .DM_BZ_LIMIT => ⟨0x360408, [(16, 0x20)], [⟨6, 28, .rw, some F.DM_BZ_LIMIT_LIMIT⟩]⟩
  | .DM_BZ_CFG => ⟨0x360410, [(16, 0x20)], [⟨0, 1, .rw, some F.DM_BZ_CFG_EN⟩, ⟨1, 1, .rw, some F.DM_BZ_CFG_MODE⟩, ⟨2, 1, .ro, none⟩]⟩
  | .DM_BZ_HIT => ⟨0x360418, [(16, 0x20)], [⟨0, 32, .rw, some F.DM_BZ_HIT_COUNT⟩]⟩
  | .CAL_CTL => ⟨0x370000, [], [⟨0, 1, .wo, none⟩, ⟨1, 1, .wo, none⟩, ⟨2, 1, .wo, none⟩, ⟨3, 1, .wo, none⟩, ⟨8, 2, .wo, none⟩, ⟨16, 5, .wo, none⟩]⟩
  | .CAL_CFG => ⟨0x370008, [], [⟨0, 1, .rw, some F.CAL_CFG_AUTO⟩, ⟨8, 8, .rw, some F.CAL_CFG_DT⟩, ⟨16, 16, .rw, some F.CAL_CFG_IDLE_S⟩]⟩
  | .CAL_STATUS => ⟨0x370010, [], [⟨0, 2, .ro, some F.CAL_STATUS_STATE⟩, ⟨2, 1, .ro, some F.CAL_STATUS_NONE⟩, ⟨3, 1, .ro, some F.CAL_STATUS_DUE⟩, ⟨4, 1, .w1c, some F.CAL_STATUS_DUE_SEEN⟩, ⟨5, 1, .w1c, some F.CAL_STATUS_REF_DRIFT⟩, ⟨6, 1, .w1c, some F.CAL_STATUS_SAT⟩, ⟨8, 8, .ro, some F.CAL_STATUS_REJECT⟩, ⟨16, 16, .ro, some F.CAL_STATUS_EXTRAP⟩, ⟨32, 16, .ro, none⟩, ⟨48, 16, .ro, some F.CAL_STATUS_FROZEN⟩]⟩
  | .CAL_LBID => ⟨0x370018, [], [⟨0, 64, .ro, some F.CAL_LBID_ID⟩]⟩
  | .CAL_RESULT => ⟨0x370020, [], [⟨0, 3, .ro, some F.CAL_RESULT_OUTCOME⟩, ⟨8, 8, .ro, some F.CAL_RESULT_REASON⟩, ⟨16, 8, .ro, some F.CAL_RESULT_PIN⟩, ⟨24, 4, .ro, some F.CAL_RESULT_KIND⟩, ⟨28, 4, .ro, some F.CAL_RESULT_SUB⟩, ⟨32, 24, .ro, some F.CAL_RESULT_VALUE⟩, ⟨56, 5, .ro, some F.CAL_RESULT_SLOT⟩]⟩
  | .CAL_REJ_COUNT => ⟨0x370028, [], [⟨0, 32, .rw, some F.CAL_REJ_COUNT_COUNT⟩]⟩
  | .CAL_TLEAF => ⟨0x370040, [(4, 0x8)], []⟩
  | .CAL_PARTNER => ⟨0x370080, [(144, 0x8)], [⟨0, 8, .rw, some F.CAL_PARTNER_PARTNER⟩]⟩
  | .CAL_LKT_INFO => ⟨0x371000, [(32, 0x40)], [⟨0, 1, .ro, some F.CAL_LKT_INFO_VALID⟩, ⟨1, 1, .ro, none⟩, ⟨2, 1, .ro, some F.CAL_LKT_INFO_KIND⟩, ⟨8, 16, .ro, some F.CAL_LKT_INFO_SETPT⟩, ⟨32, 32, .ro, some F.CAL_LKT_INFO_SEQ⟩]⟩
  | .CAL_LKT_LBID => ⟨0x371008, [(32, 0x40)], [⟨0, 64, .ro, some F.CAL_LKT_LBID_ID⟩]⟩
  | .CAL_LKT_TEMP => ⟨0x371010, [(32, 0x40), (4, 0x8)], []⟩
  | .JN_CTL => ⟨0x380000, [], [⟨0, 1, .wo, none⟩]⟩
  | .JN_CFG => ⟨0x380008, [], [⟨0, 1, .rw, some F.JN_CFG_AUTO⟩]⟩
  | .JN_WR => ⟨0x380010, [], [⟨0, 64, .ro, some F.JN_WR_COUNT⟩]⟩
  | .JN_STATUS => ⟨0x380018, [], [⟨0, 12, .ro, none⟩, ⟨12, 1, .w1c, some F.JN_STATUS_LOSS_SEEN⟩, ⟨13, 1, .w1c, some F.JN_STATUS_SAT⟩, ⟨16, 3, .ro, none⟩]⟩
  | .JN_LOST => ⟨0x380020, [], [⟨0, 32, .rw, some F.JN_LOST_COUNT⟩]⟩
  | .JN_EXP_CFG => ⟨0x380028, [], [⟨0, 40, .rw, some F.JN_EXP_CFG_BASE⟩, ⟨48, 16, .rw, some F.JN_EXP_CFG_SLOT_KIB⟩]⟩
  | .JN_EXP_FROM => ⟨0x380030, [], [⟨0, 64, .rw, some F.JN_EXP_FROM_TICK⟩]⟩
  | .JN_EXP_TO => ⟨0x380038, [], [⟨0, 64, .rw, some F.JN_EXP_TO_TICK⟩]⟩
  | .JN_EXP_DROPPED => ⟨0x380040, [], [⟨0, 32, .rw, some F.JN_EXP_DROPPED_COUNT⟩]⟩
  | .JN_RPL_CFG => ⟨0x380048, [], [⟨0, 10, .rw, some F.JN_RPL_CFG_UNIT⟩, ⟨10, 1, .rw, some F.JN_RPL_CFG_ARM⟩, ⟨12, 3, .rw, some F.JN_RPL_CFG_CHECK⟩, ⟨16, 3, .rw, some F.JN_RPL_CFG_SLOT⟩]⟩
  | .JN_RPL_SRC => ⟨0x380050, [], [⟨0, 10, .rw, some F.JN_RPL_SRC_UNIT⟩, ⟨10, 1, .rw, some F.JN_RPL_SRC_CLUSTER⟩, ⟨12, 4, .rw, some F.JN_RPL_SRC_MODULE⟩]⟩
  | .JN_RPL_RUN => ⟨0x380058, [], [⟨0, 64, .rw, some F.JN_RPL_RUN_TICK⟩]⟩
  | .JN_RPL_STAT => ⟨0x380060, [], [⟨0, 1, .ro, some F.JN_RPL_STAT_ACTIVE⟩, ⟨1, 1, .ro, some F.JN_RPL_STAT_DIVERGED⟩, ⟨2, 4, .ro, some F.JN_RPL_STAT_LEAF⟩, ⟨6, 6, .ro, some F.JN_RPL_STAT_COND⟩, ⟨12, 1, .ro, some F.JN_RPL_STAT_FLOW⟩, ⟨16, 48, .ro, some F.JN_RPL_STAT_VINDEX⟩]⟩
  | .JN_RPL_DIVTICK => ⟨0x380068, [], [⟨0, 64, .ro, some F.JN_RPL_DIVTICK_TICK⟩]⟩
  | .JN_SLOT_INFO => ⟨0x380080, [(8, 0x10)], [⟨0, 1, .ro, some F.JN_SLOT_INFO_VALID⟩, ⟨1, 1, .ro, some F.JN_SLOT_INFO_TRUNC⟩, ⟨2, 1, .ro, some F.JN_SLOT_INFO_AUTO⟩, ⟨3, 1, .ro, some F.JN_SLOT_INFO_LOSS⟩, ⟨16, 16, .ro, some F.JN_SLOT_INFO_GEN⟩, ⟨32, 32, .ro, some F.JN_SLOT_INFO_RECORDS⟩]⟩
  | .JN_SLOT_FROM => ⟨0x380088, [(8, 0x10)], [⟨0, 64, .ro, some F.JN_SLOT_FROM_TICK⟩]⟩
  | .ENV_CTL => ⟨0x50000, [], [⟨0, 1, .wo, none⟩, ⟨1, 1, .wo, none⟩, ⟨2, 1, .wo, none⟩]⟩
  | .ENV_CFG => ⟨0x50008, [], [⟨0, 14, .rw, some F.ENV_CFG_SAFE_HOLD_US⟩, ⟨16, 8, .rw, some F.ENV_CFG_CLEAR_S⟩, ⟨24, 1, .rw, some F.ENV_CFG_AUTO_EXIT⟩, ⟨25, 1, .rw, some F.ENV_CFG_DEW_SAFE⟩, ⟨32, 8, .rw, some F.ENV_CFG_DEW_TMO_S⟩]⟩
  | .ENV_STATUS => ⟨0x50010, [], [⟨0, 3, .ro, some F.ENV_STATUS_MSTATE⟩, ⟨3, 3, .ro, some F.ENV_STATUS_RETURN⟩, ⟨6, 1, .ro, some F.ENV_STATUS_CLEAR_OK⟩, ⟨8, 1, .ro, some F.ENV_STATUS_FLOW_LOW⟩, ⟨9, 1, .ro, some F.ENV_STATUS_INLET_WARM⟩, ⟨10, 1, .ro, some F.ENV_STATUS_INLET_COLD⟩, ⟨11, 1, .ro, some F.ENV_STATUS_DIE_WARM⟩, ⟨12, 1, .ro, some F.ENV_STATUS_VIN_HIGH⟩, ⟨13, 1, .ro, some F.ENV_STATUS_DEW_RISK⟩, ⟨14, 1, .ro, some F.ENV_STATUS_DEW_STALE⟩, ⟨16, 1, .w1c, some F.ENV_STATUS_SAT⟩]⟩
  | .ENV_SAFE_NOW => ⟨0x50018, [], [⟨0, 9, .ro, some F.ENV_SAFE_NOW_CAUSES⟩]⟩
  | .ENV_SAFE_SEEN => ⟨0x50020, [], [⟨0, 9, .w1c, some F.ENV_SAFE_SEEN_CAUSES⟩]⟩
  | .ENV_FAULT => ⟨0x50028, [], [⟨0, 8, .ro, some F.ENV_FAULT_CAUSE⟩, ⟨8, 8, .ro, some F.ENV_FAULT_DETAIL⟩]⟩
  | .ENV_VIN => ⟨0x50030, [], [⟨0, 17, .ro, some F.ENV_VIN_MV⟩, ⟨32, 16, .ro, some F.ENV_VIN_MA⟩]⟩
  | .ENV_COOL => ⟨0x50038, [], [⟨0, 16, .ro, some F.ENV_COOL_INLET⟩, ⟨16, 16, .ro, some F.ENV_COOL_OUTLET⟩, ⟨32, 16, .ro, some F.ENV_COOL_FLOW⟩]⟩
  | .ENV_TEMP => ⟨0x50040, [], [⟨0, 16, .ro, some F.ENV_TEMP_CHAMBER⟩, ⟨16, 16, .ro, some F.ENV_TEMP_ASIC⟩, ⟨32, 16, .ro, some F.ENV_TEMP_PFE_MAX⟩]⟩
  | .ENV_IMPL => ⟨0x50048, [], [⟨0, 26, .ro, some F.ENV_IMPL_SENSORS⟩]⟩
  | .ENV_DEW => ⟨0x50050, [], [⟨0, 16, .rw, some F.ENV_DEW_DEW⟩]⟩
  | .ENV_PFE => ⟨0x50058, [], [⟨0, 4, .ro, some F.ENV_PFE_FAULT⟩, ⟨8, 8, .ro, some F.ENV_PFE_CAUSE⟩]⟩
  | .ENV_BOOT => ⟨0x50060, [], [⟨0, 16, .ro, some F.ENV_BOOT_BOOT_MS⟩, ⟨16, 1, .ro, some F.ENV_BOOT_FW_BANK⟩, ⟨17, 1, .ro, some F.ENV_BOOT_FALLBACK⟩, ⟨18, 1, .ro, some F.ENV_BOOT_LAST_TRIP⟩, ⟨19, 1, .ro, some F.ENV_BOOT_LAST_UV⟩]⟩
  | .ENV_SAFE_COUNT => ⟨0x50068, [], [⟨0, 32, .rw, some F.ENV_SAFE_COUNT_COUNT⟩]⟩
  | .ENV_FW_CTL => ⟨0x50070, [], [⟨0, 1, .wo, none⟩, ⟨1, 1, .wo, none⟩]⟩
  | .ENV_FW_STAT => ⟨0x50078, [], [⟨0, 2, .ro, some F.ENV_FW_STAT_STATE⟩, ⟨8, 8, .ro, some F.ENV_FW_STAT_REJECT⟩, ⟨16, 32, .ro, some F.ENV_FW_STAT_BYTES⟩]⟩
  | .ENV_FW_DATA => ⟨0x50080, [], [⟨0, 64, .wo, none⟩]⟩
  | .GLB_ID => ⟨0x0, [], [⟨0, 16, .ro, none⟩, ⟨16, 16, .ro, none⟩]⟩
  | .GLB_REV => ⟨0x8, [], [⟨0, 8, .ro, none⟩, ⟨8, 8, .ro, none⟩, ⟨16, 8, .ro, none⟩, ⟨24, 8, .ro, none⟩, ⟨32, 16, .ro, none⟩]⟩
  | .GLB_STATE => ⟨0x10, [], [⟨0, 3, .ro, none⟩, ⟨4, 3, .ro, none⟩, ⟨7, 1, .ro, none⟩, ⟨8, 4, .ro, none⟩]⟩
  | .GLB_CMD => ⟨0x18, [], [⟨0, 1, .wo, none⟩]⟩
  | .GLB_TICK => ⟨0x20, [], [⟨0, 64, .ro, some F.GLB_TICK_TICK⟩]⟩
  | .GLB_ALARM => ⟨0x28, [], [⟨0, 64, .rw, some F.GLB_ALARM_TICK⟩]⟩
  | .GLB_SNAP_CTL => ⟨0x30, [], [⟨0, 1, .rw, some F.GLB_SNAP_CTL_FREEZE⟩]⟩
  | .GLB_SNAP_TICK => ⟨0x38, [], [⟨0, 64, .ro, none⟩]⟩
  | .GLB_SNAP_STATE => ⟨0x40, [], [⟨0, 12, .ro, none⟩]⟩
  | .GLB_ERR_ADDR => ⟨0x48, [], [⟨0, 40, .ro, some F.GLB_ERR_ADDR_ADDR⟩, ⟨44, 8, .ro, some F.GLB_ERR_ADDR_SRC⟩]⟩
  | .GLB_ERR_INFO => ⟨0x50, [], [⟨0, 8, .ro, some F.GLB_ERR_INFO_REASON⟩, ⟨8, 8, .ro, some F.GLB_ERR_INFO_DETAIL⟩, ⟨16, 1, .w1c, some F.GLB_ERR_INFO_VALID⟩, ⟨17, 1, .w1c, some F.GLB_ERR_INFO_MORE⟩, ⟨18, 1, .w1c, some F.GLB_ERR_INFO_SAT⟩, ⟨24, 40, .ro, some F.GLB_ERR_INFO_TICK⟩]⟩
  | .GLB_ERR_COUNT => ⟨0x58, [], [⟨0, 32, .rw, some F.GLB_ERR_COUNT_COUNT⟩]⟩
  | .EVT_CFG => ⟨0x10000, [], [⟨0, 1, .rw, some F.EVT_CFG_UPLINK⟩]⟩
  | .EVT_SEQ => ⟨0x10008, [], [⟨0, 24, .ro, some F.EVT_SEQ_NEXT⟩, ⟨24, 24, .ro, some F.EVT_SEQ_SENT⟩]⟩
  | .EVT_LOST => ⟨0x10010, [], [⟨0, 32, .rw, some F.EVT_LOST_COUNT⟩]⟩
  | .EVT_STATUS => ⟨0x10018, [], [⟨0, 1, .ro, none⟩, ⟨1, 1, .w1c, some F.EVT_STATUS_SAT⟩]⟩
  | .EVT_ENABLE => ⟨0x10040, [(4, 0x8)], [⟨0, 64, .rw, some F.EVT_ENABLE_EN⟩]⟩

/-- The registers of each block, in the order of its table. -/
def RegN.ofGLB : List RegN := [.GLB_ID, .GLB_REV, .GLB_STATE, .GLB_CMD, .GLB_TICK, .GLB_ALARM, .GLB_SNAP_CTL, .GLB_SNAP_TICK, .GLB_SNAP_STATE, .GLB_ERR_ADDR, .GLB_ERR_INFO, .GLB_ERR_COUNT]
def RegN.ofEVT : List RegN := [.EVT_CFG, .EVT_SEQ, .EVT_LOST, .EVT_STATUS, .EVT_ENABLE]
def RegN.ofMC : List RegN := [.MC_CTL, .MC_STATUS, .MC_VER, .MC_DIGEST, .MC_SRC_ADDR, .MC_SRC_LEN, .MC_REJECT, .MC_OTP, .MC_OTP_KEY, .MC_OTP_CMD, .MC_OTP_DATA, .MC_HOSTFLAG, .MC_LATE_INFO, .MC_VACT_LATE, .MC_UREG]
def RegN.ofMNT : List RegN := [.MNT_CTL, .MNT_STATUS, .MNT_SRC_ADDR, .MNT_SRC_LEN, .MNT_REJECT, .MNT_ID, .MNT_HINTS, .MNT_UMAP, .MNT_LEAF, .MNT_TRIG, .MNT_ACQ, .MNT_RASTER, .MNT_PARENT]
def RegN.ofPL : List RegN := [.PL_CTL, .PL_CFG, .PL_SRC_ADDR, .PL_SRC_LEN, .PL_STATUS, .PL_REJECT_AT, .PL_STREAM, .PL_SCFAULT, .PL_EXP_COUNT, .PL_PREFETCH, .PL_HINT_IGN, .PL_PROMOTIONS, .PL_LEAF, .PL_LINK, .PL_EXPOSED]
def RegN.ofENV : List RegN := [.ENV_CTL, .ENV_CFG, .ENV_STATUS, .ENV_SAFE_NOW, .ENV_SAFE_SEEN, .ENV_FAULT, .ENV_VIN, .ENV_COOL, .ENV_TEMP, .ENV_IMPL, .ENV_DEW, .ENV_PFE, .ENV_BOOT, .ENV_SAFE_COUNT, .ENV_FW_CTL, .ENV_FW_STAT, .ENV_FW_DATA]
def RegN.ofID : List RegN := [.ID_SERIAL, .ID_STAT, .ID_TOPO, .ID_LEASE, .ID_PHASE, .ID_FLAG_MISS, .ID_GSTATUS, .ID_ROSTER, .ID_MAP, .ID_CG]
def RegN.ofUNIT : List RegN := [.UNIT_CTL, .UNIT_STATUS, .UNIT_KIND, .UNIT_DEPTH, .UNIT_START_TICK, .UNIT_START_STRAND, .UNIT_JUMP, .UNIT_JUMP_TICK, .UNIT_VCOUNT, .UNIT_HOLD_LIMIT, .UNIT_HOLD_GAP, .UNIT_SAFEPT, .UNIT_ABORT_SRC, .UNIT_PFAIL, .UNIT_FVEC, .UNIT_FF_POS, .UNIT_FF_WHERE, .UNIT_FF_TICK, .UNIT_FSTOP, .UNIT_FSTAT]
def RegN.ofTS : List RegN := [.TS_PERIOD, .TS_ACT_PERIOD, .TS_PIN_A, .TS_ACT_PIN_A, .TS_PIN_B, .TS_ACT_PIN_B, .TS_CTL, .TS_SWAP_TICK, .TS_STATUS, .TS_SWAP_AT, .TS_COLL_COUNT, .TS_COLL_FIRST, .TS_CFG, .TS_DESKEW_A, .TS_DESKEW_B, .TS_LVL_DRV, .TS_LVL_CMP]
def RegN.ofFL : List RegN := [.FL_CTL, .FL_CFG, .FL_WR, .FL_RD, .FL_DROPPED, .FL_LIMITED, .FL_STATUS, .FL_APER, .FL_WMARK, .FL_LIMIT]
def RegN.ofACQ : List RegN := [.ACQ_GSTATUS, .ACQ_BW_USED, .ACQ_APER, .ACQ_CTL, .ACQ_CFG, .ACQ_SRAM, .ACQ_DRAM, .ACQ_PRE, .ACQ_POST, .ACQ_TRIG, .ACQ_RED, .ACQ_BW, .ACQ_STAT, .ACQ_POST_EFF, .ACQ_IGN_TRIG, .ACQ_GAPS, .ACQ_LOST, .ACQ_TRIG_TIME, .ACQ_TRIG_LOC, .ACQ_SEQ, .ACQ_LATE_TRIG]
def RegN.ofTMU : List RegN := [.TMU_REF, .TMU_REF_CFG, .TMU_DLL, .TMU_EPOCH, .TMU_GSTATUS, .TMU_CDT_CTL, .TMU_CDT_RES, .TMU_PIN_CFG, .TMU_MISSED, .TMU_LAST, .TMU_PAIR_CFG, .TMU_PAIR_W, .TMU_PAIR_LO, .TMU_PAIR_HI, .TMU_PAIR_LAST, .TMU_PAIR_COUNT, .TMU_UNPAIRED, .TMU_WIN_COUNT, .TMU_FC_CFG, .TMU_FC_TICK, .TMU_FC_RES, .TMU_FC_SPAN, .TMU_CDT_HIST]
def RegN.ofDC : List RegN := [.DC_GSTATUS, .DC_PIN_CFG, .DC_PIN_FORCE, .DC_PIN_STAT, .DSA_CTL, .DSA_STAT, .DSA_RES, .DSA_THR_CFG, .DSA_THR_LVL, .DSA_THR_COUNT, .DSA_SETTLE0, .DSA_SETTLE1, .DSA_CMD, .DC_DIAG_CFG, .DC_DIAG_RES, .DSA_CHV]
def RegN.ofRS : List RegN := [.RS_CTL, .RS_COMMIT, .RS_CFG, .RS_STATIC, .RS_BG, .RS_ACT_BG, .RS_L_CFG, .RS_ACT_L_CFG, .RS_L_POS, .RS_ACT_L_POS, .RS_L_BASE, .RS_ACT_L_BASE, .RS_L_STRIDE, .RS_ACT_L_STRIDE, .RS_STATUS, .RS_FRAME, .RS_GEN, .RS_TORN_COUNT, .RS_TORN_FRAME, .RS_LATE_COUNT]
def RegN.ofLK : List RegN := [.LK_GSTATUS, .LK_CTL, .LK_CFG, .LK_STAT, .LK_TRAIN_FAILS, .LK_CRC_ERR, .LK_REPLAY, .LK_TICK_LOST, .LK_DOWNSHIFT, .LK_SKEW, .LK_EQ, .LK_PRBS_CTL, .LK_PRBS_STAT, .LK_PRBS_ERR]
def RegN.ofDM : List RegN := [.DM_CTL, .DM_STATUS, .DM_REGION, .DM_MAP, .DM_BASE, .DM_SR_IDLE, .DM_SCRUB, .DM_SC_STAT, .DM_CE, .DM_UE, .DM_CA_ALERT, .DM_CE_LAST, .DM_UE_LAST, .DM_BZ_BASE, .DM_BZ_LIMIT, .DM_BZ_CFG, .DM_BZ_HIT]
def RegN.ofCAL : List RegN := [.CAL_CTL, .CAL_CFG, .CAL_STATUS, .CAL_LBID, .CAL_RESULT, .CAL_REJ_COUNT, .CAL_TLEAF, .CAL_PARTNER, .CAL_LKT_INFO, .CAL_LKT_LBID, .CAL_LKT_TEMP]
def RegN.ofJN : List RegN := [.JN_CTL, .JN_CFG, .JN_WR, .JN_STATUS, .JN_LOST, .JN_EXP_CFG, .JN_EXP_FROM, .JN_EXP_TO, .JN_EXP_DROPPED, .JN_RPL_CFG, .JN_RPL_SRC, .JN_RPL_RUN, .JN_RPL_STAT, .JN_RPL_DIVTICK, .JN_SLOT_INFO, .JN_SLOT_FROM]

end Sys2Proof.Machine
end

