-- ==== Sys2Proof/Machine/Table.lean ====
section
/-! DEFINITION. Tables keyed by number, in one canonical form (keys strictly rising), and the file of register cells. -/

namespace Sys2Proof.Machine

/-- A sparse table: what is not listed holds the default its reader names. -/
abbrev Table (α : Type) := List (Nat × α)

/-- What the table lists under a key. -/
def Table.get? {α : Type} : Table α → Nat → Option α
  | [], _ => none
  | (k', v) :: t, k => if k' = k then some v else Table.get? t k

/-- The table with `v` listed under `k`. -/
def Table.set {α : Type} : Table α → Nat → α → Table α
  | [], k, v => [(k, v)]
  | (k', v') :: t, k, v =>
    if k < k' then (k, v) :: (k', v') :: t
    else if k' = k then (k, v) :: t
    else (k', v') :: Table.set t k v

/-- The table without key `k`. -/
def Table.erase {α : Type} (t : Table α) (k : Nat) : Table α := t.filter (fun e => e.1 != k)

/-- The table without the keys from `lo` to below `hi`. -/
def Table.eraseRange {α : Type} (t : Table α) (lo hi : Nat) : Table α :=
  t.filter (fun e => decide (e.1 < lo) || decide (hi ≤ e.1))

/-- The keys rise strictly: every key lies above the one before it. -/
def Table.rising {α : Type} : Nat → Table α → Bool
  | _, [] => true
  | n, (k, _) :: t => decide (n ≤ k) && Table.rising (k + 1) t

/-- The canonical form of a table. -/
def Table.wf {α : Type} (t : Table α) : Bool := Table.rising 0 t

/-- Bytes written from an address on. -/
def memWrite (m : Table Byte) (a : Nat) : List Byte → Table Byte
  | [] => m
  | b :: t => memWrite (Table.set m a b) (a + 1) t

/-- A memory: bytes by address, the canonical form being that of a table (an unlisted byte reads as a free value, log entry 3). -/
abbrev Memory := Table Byte

/-- The canonical form of a memory: addresses strictly rising. -/
def Memory.wf (m : Memory) : Bool := Table.wf m

/-- The file of register cells: `(cell number, value)`, a cell at its reset value not listed. -/
abbrev RegFile := Table Nat

/-- The number of copy `i` of a field. -/
def cellNo (f : Fld) (i : Nat) : Nat := f.key + 1024 * i

/-- The value of copy `i` of a field: its reset value where nothing else was stored. -/
def RegFile.get (r : RegFile) (f : Fld) (i : Nat) : Nat := (Table.get? r (cellNo f i)).getD f.rst

/-- Copy `i` of a field set to `v`, cut to the field's width. -/
def RegFile.put (r : RegFile) (f : Fld) (i : Nat) (v : Nat) : RegFile :=
  if v % 2 ^ f.w = f.rst then Table.erase r (cellNo f i) else Table.set r (cellNo f i) (v % 2 ^ f.w)

end Sys2Proof.Machine
end

