-- ==== Sys2Proof/Machine/State.lean ====
section
/-! DEFINITION. The machine's state: the file of register cells, and beside it what the chapters give the machine that no
register holds. Plain data throughout; a table lists only what differs from its reader's default. -/

namespace Sys2Proof.Machine

/-! ### Transactions, events, journal, snapshot (chapters 19, 17, 1) -/

/-- R400: a response, and the data bytes of a READB. -/
structure Resp where
  src : Nat := 0
  status : Nat := 0
  module : Nat := 0
  tag : Nat := 0
  tick : Nat := 0
  reason : Nat := 0
  detail : Nat := 0
  data : Nat := 0
  bytes : List Byte := []
  at_ : Nat := 0
  deriving DecidableEq, Repr, Inhabited

/-- R398, R401: a request this module has passed on: its key, where it went, when, the port it came in on (none: from the host),
and whether its response has come back (data flits may still follow). -/
structure Fwd where
  src : Nat := 0
  tag : Nat := 0
  dst : Nat := 0
  port : Nat := 0
  at_ : Nat := 0
  inPort : Option Nat := none
  answered : Bool := false
  deriving DecidableEq, Repr, Inhabited

/-- The transaction side: the responses kept for repeats (newest first, at most 64), the requests passed on, the response sent last, and
by port a WRITEB whose data flits are arriving (the request's payload, the bytes so far). -/
structure HostSt where
  kept : List Resp := []
  fwd : List Fwd := []
  tx : Option Resp := none
  asm : Table (Nat × List Byte) := []
  deriving DecidableEq, Repr, Inhabited

/-- R409: an event message. -/
structure EvtMsg where
  code : Nat := 0
  module : Nat := 0
  index : Nat := 0
  tick : Nat := 0
  seq : Nat := 0
  data : Nat := 0
  dataHi : Nat := 0
  deriving DecidableEq, Repr, Inhabited

/-- R410: the event ring (oldest first, at most 256), the messages overwritten unsent since sending last resumed, and the
message sent last. -/
structure EvtSt where
  ring : List EvtMsg := []
  lostNow : Nat := 0
  tx : Option EvtMsg := none
  deriving DecidableEq, Repr, Inhabited

/-- R364: a journal record. -/
structure JRec where
  tick : Nat := 0
  typ : Nat := 0
  leaf : Nat := 0
  module : Nat := 0
  replay : Bool := false
  seq : Nat := 0
  body : Nat := 0
  deriving DecidableEq, Repr, Inhabited

/-- R369: an export that waits or runs. -/
structure Export where
  from_ : Nat := 0
  to_ : Nat := 0
  auto : Bool := false
  asked : Nat := 0
  deriving DecidableEq, Repr, Inhabited

/-- R371 to R373: a replay in progress. -/
structure Replay where
  active : Bool := false
  unit : Nat := 0
  recs : List JRec := []
  map : List (Nat × Nat) := []
  diverged : Bool := false
  deriving DecidableEq, Repr, Inhabited

/-- R363, R367, R370: the staging queue (oldest first), the next SEQ, the losses of the episode in progress, the place of the ring
written next, the tick of the record overwritten last, the exports, the slot the next one takes, and the replay. -/
structure JnSt where
  queue : List JRec := []
  seq : Nat := 0
  lost : Nat := 0
  lostTick : Nat := 0
  pos : Nat := 0
  past : Option Nat := none
  exports : List Export := []
  slot : Nat := 0
  replay : Replay := {}
  deriving DecidableEq, Repr, Inhabited

/-- R27, R407: one snapshot bank. -/
structure Snap where
  tick : Nat := 0
  glb : Nat := 0
  recs : Table (List Nat) := []
  deriving DecidableEq, Repr, Inhabited

/-- R27: the two snapshot banks, and whether the back bank holds a copy that has not been exchanged. -/
structure SnapSt where
  front : Snap := {}
  back : Snap := {}
  fresh : Bool := false
  deriving DecidableEq, Repr, Inhabited

/-! ### Pattern flow (chapters 2, 3, 5, 6) -/

/-- R35: the six states of a pin. -/
inductive PS where
  | d0 | d1 | dz | cl | ch | x
  deriving DecidableEq, Repr, Inhabited

/-- R20: the flags a leaf publishes for a tick. -/
structure Flags where
  fail : Bool := false
  matched : Bool := false
  done : Bool := false
  underrun : Bool := false
  cb : Nat := 0
  deriving DecidableEq, Repr, Inhabited

/-- What a leaf publishes for one tick: its flags, its strand entries (R77), the periods it started (R144) and its stop request
(R162, the trigger instant). An entry holds the vector index, the strand, and the index among the periods started in the tick (R292);
`aborted` says that the leaf had ended ABORTED when the tick ended. -/
structure Pub where
  flags : Flags := {}
  entries : List (Nat × Nat × Nat) := []
  periods : List Nat := []
  stop : Option Nat := none
  aborted : Bool := false
  deriving DecidableEq, Repr, Inhabited

/-- R79, R107, R108: an entry of the loop stack that a vector pushes (micro loops are kept with the engine's values). -/
inductive Loop where
  | rpt (left : Nat)
  | loopb (strand s e left : Nat)
  | hold
  deriving DecidableEq, Repr

/-- R108: the vector action committed for a vector, category by category. -/
structure VAct where
  hold : Bool := false
  release : Option Nat := none
  repeatLast : Bool := false
  mask : Nat := 0
  altset : Option Nat := none
  rpt : Option Nat := none
  loopb : Option (Nat × Nat) := none
  resolved : Bool := false
  fixed : Bool := false
  deriving DecidableEq, Repr, Inhabited

/-- R99, R46: a vector in the issue queue: its number in the run, where it stands, its word, its bead's header, the fault found
at entry (byte position and value) and its action. -/
structure QEnt where
  qid : Nat := 0
  beadSeq : Nat := 0
  strand : Nat := 0
  bead : Nat := 0
  off : Nat := 0
  word : Nat := 0
  hdr : Nat := 0
  fault : Option (Nat × Nat) := none
  act : VAct := {}
  vindex : Option Nat := none
  start : Nat := 0
  deriving DecidableEq, Repr, Inhabited

/-- R137: an edge that has been launched and kept, until it is placed or cancelled. -/
structure Edge where
  vindex : Nat := 0
  slot : Nat := 0
  field : Nat := 0
  sbc : Bool := false
  prog : Nat := 0
  placed : Nat := 0
  state : PS := .x
  fmt : Nat := 0
  term : Nat := 0
  role : Nat := 0
  first : Bool := false
  deriving DecidableEq, Repr, Inhabited

/-- What a pin shows between edges: driver on, its level (false VIL, true VIH), and termination (0 HIZ, 1 VT, 2 LOAD, 3 none
because the driver or X disconnects it, 4 parked to PARK_VT). -/
structure PinDrv where
  on : Bool := false
  high : Bool := false
  term : Nat := 3
  deriving DecidableEq, Repr, Inhabited

/-- R133, R149: a compare of one vector that has not been formed. `counts` is false for one that forms no result (masked, or
suppressed with COLL_FAIL = 0). -/
structure Cmp where
  slot : Nat := 0
  state : PS := .x
  window : Bool := false
  inst : Nat := 0
  strobe : Nat := 0
  counts : Bool := true
  supp : Bool := false
  sample : Option (Bool × Bool) := none
  closed : Bool := false
  exc : Option (Bool × Bool) := none
  deriving DecidableEq, Repr, Inhabited

/-- R150: a vector that has issued, until its record instant and for as long as a routine can ask about it; `formed` is the latest
instant of the results formed. -/
structure VRec where
  qid : Nat := 0
  beadSeq : Nat := 0
  vindex : Nat := 0
  start : Nat := 0
  strand : Nat := 0
  bead : Nat := 0
  off : Nat := 0
  cmps : List Cmp := []
  nAct : Nat := 0
  fails : Nat := 0
  passes : Nat := 0
  obs : Nat := 0
  formed : Nat := 0
  recAt : Nat := 0
  done : Bool := false
  deriving DecidableEq, Repr, Inhabited

/-- R71, R74: a jump that has latched: class 0 host, 1 group-wide, 2 other micro-routine. -/
structure Jump where
  cls : Nat := 0
  target : Nat := 0
  at_ : Nat := 0
  deriving DecidableEq, Repr, Inhabited

/-- An abort that has been asked for: the first instant at which a period start is its abort instant, the cause (R97), whether
it waits for a bead boundary (R163), the unit, module and cause it stems from, and the queued vector at whose own period start it
takes effect, if any (R80, R109). -/
structure AbortReq where
  notBefore : Nat := 0
  cause : Nat := 0
  atBead : Bool := false
  srcUnit : Nat := 0
  srcModule : Nat := 0
  srcCause : Nat := 0
  vec : Option Nat := none
  deriving DecidableEq, Repr, Inhabited

/-- R83: a hold in progress: the first held vector's index and start, the tick it began, the vectors held, the cause (R97), the
instant the missing data is ready from, whether it is waited for after a fault, and the length a replay gives it (R372). -/
structure Hold where
  vindex : Nat := 0
  start : Nat := 0
  tick : Nat := 0
  len : Nat := 0
  cause : Nat := 0
  ready : Option Nat := none
  refetched : Bool := false
  forced : Option Nat := none
  deriving DecidableEq, Repr, Inhabited

/-- R50, R56, R57: a slot of the bead cache: what it holds, the header words whose parity was found in error, and from when a passed
landing check counts. -/
structure CSlot where
  strand : Nat := 0
  bead : Nat := 0
  payload : List Byte := []
  header : List Byte := []
  parity : Nat := 0
  landed : Option Nat := none
  bad : Bool := false
  deriving DecidableEq, Repr, Inhabited

/-- R65: a bead being fetched, and how many copies of it have failed. -/
structure Fetch where
  slot : Nat := 0
  strand : Nat := 0
  bead : Nat := 0
  fails : Nat := 0
  replica : Bool := false
  prefetch : Bool := false
  deriving DecidableEq, Repr, Inhabited

/-- R65: where the stream fetcher stands in the order of play. -/
structure FetchCur where
  strand : Nat := 0
  bead : Nat := 0
  loops : List Loop := []
  deriving DecidableEq, Repr, Inhabited

/-- The phases of a leaf: not playing; a start accepted and its tick not reached; playing; past the end of the run with
results outstanding (R70). -/
inductive Phase where
  | off | armed | play | ended
  deriving DecidableEq, Repr, Inhabited

/-- One leaf sequencer. -/
structure Leaf where
  phase : Phase := .off
  unit : Nat := 0
  startTick : Nat := 0
  replay : Bool := false
  raster : Bool := false
  bank : Nat := 0
  /- where play stands -/
  strand : Nat := 0
  bead : Nat := 0
  beadSeq : Nat := 0
  off : Nat := 0
  bdue : Bool := false
  nextStart : Nat := 0
  lastStart : Nat := 0
  seamEnd : Bool := false
  curRing : Bool := false
  moved : Bool := false
  enter : Bool := false
  seamIn : Bool := false
  lastStrand : Nat := 0
  stopHit : Option Nat := none
  nextQid : Nat := 0
  queue : List QEnt := []
  cur : Option QEnt := none
  last : List PS := []
  lastSet : Nat := 0
  lastBank : Nat := 0
  rptLeft : Nat := 0
  vhold : Bool := false
  vholdTick : Nat := 0
  hold : Option Hold := none
  loops : List Loop := []
  jumps : List Jump := []
  aborts : List AbortReq := []
  /- edges and results; `past`: the edges placed since the launch edge last passed (slot, field, placed time) -/
  edges : List Edge := []
  past : List (Nat × Nat × Nat) := []
  chain : Table Nat := []
  drv : Table PinDrv := []
  vrecs : List VRec := []
  lastRes : Nat := 0
  collFail : Bool := true
  deskew : Table Int := []
  /- flags and counts -/
  pubs : Table Pub := []
  runFails : Nat := 0
  beadFails : Nat := 0
  runVecFails : Nat := 0
  flCount : Nat := 0
  flLost : Bool := false
  minFail : Option Nat := none
  cancelled : Nat := 0
  condLast : Table Bool := []
  condEval : Table Nat := []
  /- the vector indexes of the run's last exchange and last jump (R373) -/
  swapAt : Option Nat := none
  jumpAt : Option Nat := none
  deriving DecidableEq, Repr, Inhabited

/-- The bead side of a leaf: its cache slots, its ring (slots in play order), the pinned region of the plan in force
(strand, bead, slot), its fetches and the fetcher's place. -/
structure Cache where
  slots : Table CSlot := []
  ring : List Nat := []
  pinned : List (Nat × Nat × Nat) := []
  pinSlots : Nat := 4096
  fetches : List Fetch := []
  cur : Option FetchCur := none
  deriving DecidableEq, Repr, Inhabited

/-- A unit the host starts: the start it has accepted, its host jump (target, latch tick), and whether UNIT_END has been
raised for the run; `per` holds, for each vector index that some but not all member leaves have begun, the periods they gave it, and
`differ` says that a difference was found in the run (R144); `decided` is the tick in which the decisions of the unit were given last (R25); `src` is the first
abort of the run that another module has told of (R292: unit, module, cause). -/
structure UnitSt where
  pending : Option Nat := none
  strand : Nat := 0
  hostJump : Option (Nat × Nat) := none
  endRaised : Bool := false
  per : Table (List (Nat × Nat)) := []
  differ : Bool := false
  decided : Nat := 0
  src : Option (Nat × Nat × Nat) := none
  deriving DecidableEq, Repr, Inhabited

/-- R87: a pulse on TRIGOUT outputs: from its start instant, 8 ns long. -/
structure Pulse where
  leaf : Nat := 0
  outs : Nat := 0
  start : Nat := 0
  strand : Nat := 0
  cluster : Bool := false
  deriving DecidableEq, Repr, Inhabited

/-- R62: the strand table: descriptors in force, and the bytes staged for each. -/
structure StrandSt where
  table : Table Nat := []
  staged : Table (List (Nat × Byte)) := []
  deriving DecidableEq, Repr, Inhabited

/-! ### The micro-engine (chapter 4) -/

/-- R111: what a micro-engine computes with. A micro loop is its count, and how many entries the vectors had on the loop stack
when it was pushed. -/
structure Ctx where
  u : Table Nat := []
  z : Bool := false
  n : Bool := false
  c : Bool := false
  cb : Nat := 0
  loops : List (Nat × Nat) := []
  calls : List Nat := []
  deriving DecidableEq, Repr, Inhabited

/-- R100, R103: a routine that has been dispatched. -/
structure Disp where
  qid : Nat := 0
  beadSeq : Nat := 0
  off : Nat := 0
  hdr : Nat := 0
  strand : Nat := 0
  bead : Nat := 0
  entry : Nat := 0
  at_ : Nat := 0
  noCmp : Bool := false
  deriving DecidableEq, Repr, Inhabited

/-- R114: the strand actions, arms and events a commit makes visible. -/
inductive Eff where
  | jump (target : Nat)
  | seamEnd
  | arm (cond target qid : Nat)
  | event (code qid : Nat)
  deriving DecidableEq, Repr

/-- R108, R78, R79: what a microword asks of its dispatching vector. -/
inductive VEff where
  | hold
  | release
  | repeatLast
  | mask (m : Nat)
  | altset (k : Nat)
  | rpt (n : Nat)
  | loopb (s n : Nat)
  deriving DecidableEq, Repr

/-- R114: a commit that waits for its bead to begin: the engine's values and the effects. -/
structure Staged where
  beadSeq : Nat := 0
  ctx : Ctx := {}
  effs : List Eff := []
  deriving DecidableEq, Repr, Inhabited

/-- R100: the routine that runs: its dispatch, the micro-PC, the PC to resume from, whether it waits, the tick its TICKWAIT
waits for, and what it has asked for since its last commit. -/
structure Routine where
  d : Disp := {}
  pc : Nat := 0
  saved : Nat := 0
  waiting : Bool := false
  tickTo : Option Nat := none
  pendV : List VEff := []
  pendE : List Eff := []
  deriving DecidableEq, Repr, Inhabited

/-- R117: an armed decision, bound to a tick once its vector has issued. -/
structure Arm where
  cond : Nat := 0
  target : Nat := 0
  qid : Nat := 0
  tick : Option Nat := none
  deriving DecidableEq, Repr, Inhabited

/-- One micro-engine: the dispatch FIFO, the routine that runs, the instant its next microcycle begins, the committed values (`w`),
the working copy (`c`), the staged commits, the arms, the last decision, and the interrupts (R115, R116; by priority, 6 being a
starvation under STARVE ABORT): those pending, those raised while a handler runs, whether the pending ones run one after another, and
the instant at which the handler that runs ends. -/
structure Engine where
  fifo : List Disp := []
  run : Option Routine := none
  t : Nat := 0
  w : Ctx := {}
  c : Ctx := {}
  staged : List Staged := []
  arms : List Arm := []
  decLast : Bool := false
  ints : List Nat := []
  later : List Nat := []
  batch : Bool := false
  handled : Nat := 0
  deriving DecidableEq, Repr, Inhabited

/-- R121, R122: a control-store image being loaded, its key open (R124: until when), and the store itself. -/
structure McSt where
  loading : Option (List Byte) := none
  loadSrc : Nat := 0
  words : List Nat := []
  dispatch : List Nat := []
  imageSvn : Nat := 0
  keyOpen : Option Nat := none
  otpHash : Table Nat := []
  hostFlags : Nat := 0
  deriving DecidableEq, Repr, Inhabited

/-- R154, R155: the fail-log queue (record instant × 16 + leaf, and the record as a 128-bit word; in the order of writing), whether FL_FULL has been raised for
the episode, whether the level of FL_WMARK stands, and the base cycle of the record that the writer took last. -/
structure FlSt where
  queue : List (Nat × Nat) := []
  fullEp : Bool := false
  above : Bool := false
  wrote : Option Nat := none
  deriving DecidableEq, Repr, Inhabited

/-! ### Mount image (chapter 11) -/

/-- R251: a cluster group this module's image declares. -/
structure CGroup where
  cunit : Nat := 0
  parent : Option Nat := none
  modmask : Nat := 0
  locals : List Nat := []
  tag : Nat := 0
  deriving DecidableEq, Repr, Inhabited

/-- R253: the record of one leaf. -/
structure LeafRec where
  pinMin : Nat := 16
  pinMax : Nat := 16
  parkVt : Nat := 0
  rsafe : Nat := 215 + 256 * 215 + 65536 * 215
  deriving DecidableEq, Repr, Inhabited

/-- R245: what a mounted image fixes. -/
structure MntImg where
  imageId : Nat := 0
  leaves : List Nat := []
  groups : List (Nat × List Nat) := []
  leafRecs : List LeafRec := []
  names : Table (List Byte) := []
  trig : List Byte := []
  acq : List Nat := []
  raster : Option (List Byte) := none
  ref100 : Bool := false
  priCand : Bool := false
  secCand : Bool := false
  cgs : List CGroup := []
  deriving DecidableEq, Repr, Inhabited

/-- R259 to R261: the image staged (with who asked, the module number when the mount was accepted, and whether SAFE or FAULT has
abandoned it), the image mounted, the parking levels and anchor hints that outlast it, and whether an image has been mounted since
BOOT. -/
structure MntSt where
  staging : Option (List Byte) := none
  stageSrc : Nat := 0
  stageMod : Option Nat := none
  abandon : Bool := false
  img : Option MntImg := none
  park : List Nat := []
  priCand : Bool := false
  secCand : Bool := false
  everMounted : Bool := false
  deriving DecidableEq, Repr, Inhabited

/-! ### Placement (chapter 14) -/

/-- R306: an entry of a run-set table. -/
structure PEnt where
  unit : Nat := 0
  cluster : Bool := false
  strand : Nat := 0
  pmin : Nat := 0
  entry : Bool := false
  target : Bool := false
  hintPin : Bool := false
  hintStream : Bool := false
  home : Option Nat := none
  deriving DecidableEq, Repr, Inhabited

/-- R317, R318: a leaf's stream on the links: from where, to where, at PMIN_L; a quarter of its rate where only one subchannel's beads are
meant. -/
structure PFlow where
  src : Nat := 0
  dst : Nat := 0
  pmin : Nat := 0
  quarter : Bool := false
  deriving DecidableEq, Repr, Inhabited

/-- What a plan gives a strand: its residency, its home (with SC0 of R316 on another module) and its replica. -/
structure PStrand where
  strand : Nat := 0
  res : Nat := 0
  home : Nat := 0
  sc0 : Nat := 0
  replica : Option Nat := none
  repValid : Bool := false
  deriving DecidableEq, Repr, Inhabited

/-- R309: a plan: the run sets, the strands, for each leaf its pinned slots and the layout of the pinned region, and what the rest of the
cluster asks of the links. -/
structure Plan where
  src : Nat := 0
  thenCommit : Bool := false
  raw : List Nat := []
  runset : List PEnt := []
  strands : List PStrand := []
  pins : Table Nat := []
  layout : Table (List (Nat × Nat × Nat)) := []
  units : List Nat := []
  stale : Bool := false
  hintIgn : Nat := 0
  net : PlanNet := {}
  deriving DecidableEq, Repr, Inhabited

/-- The planner: the plan in force, the plan PLANNING or READY, whether its commit waits for the tick boundary, the
leaves whose front end has failed but which leave service at the next boundary, the strands that stay exposed with reason PATH until the
next plan, the subchannels of other modules that are faulty (R321), and since the last commit: whether a fault has struck, the streams
promoted by leaf, and the strands, by leaf, beyond what the reservations held (R323). -/
structure PlSt where
  cur : Plan := {}
  next : Option Plan := none
  commitAt : Option Nat := none
  oosNext : List Nat := []
  paths : List Nat := []
  far : List (Nat × Nat) := []
  fault : Bool := false
  promoted : List (Nat × PFlow) := []
  starved : List (Nat × Nat) := []
  deriving DecidableEq, Repr, Inhabited

/-! ### Memory (chapter 15) -/

/-- The DRAM and its controller: bytes written and still defined, the number of times content became undefined, the bursts
with an uncorrectable error and those with a correctable one, per subchannel the tick of the last DM_UE message, the instants of the last errors, the stall,
the alerts of the oldest command, and per bezel window the tick of its last message, the subchannels in an
episode above 95 °C, the devices whose reading is implausible, the subchannels being retrained, the instant of the last access and
the instants of the last refreshes. -/
structure DramSt where
  mem : Table Byte := []
  epoch : Nat := 0
  ue : List Nat := []
  soft : List Nat := []
  ueTick : Table Nat := []
  ueTimes : Table (List Nat) := []
  stalled : List Nat := []
  alertRun : Table Nat := []
  bzTick : Table Nat := []
  hotEp : List Nat := []
  implEp : List Nat := []
  retrain : Option Nat := none
  lastAccess : Nat := 0
  refreshes : Table Nat := []
  deriving DecidableEq, Repr, Inhabited

/-- The capture SRAM: the bytes written (R153, R165). -/
structure SramSt where
  mem : Table Byte := []
  deriving DecidableEq, Repr, Inhabited
/-! ### Cluster (chapter 13) -/

/-- R292, R271: a TICK flit received: tick, source module, part, its two entries, and the copies passed on. -/
structure FlagRx where
  tick : Nat := 0
  src : Nat := 0
  part : Nat := 0
  data : Nat := 0
  copies : List Nat := []
  deriving DecidableEq, Repr, Inhabited

/-- R284: the HELLO last received on a port: the peer's serial, port letter, role, anchor, state and certificate chain. -/
structure Peer where
  serial : Nat := 0
  port : Nat := 0
  role : Nat := 0
  anchor : Nat := 0
  state : Nat := 0
  chain : List Byte := []
  deriving DecidableEq, Repr, Inhabited

/-- R285: a challenge that the anchor has sent: the serial it goes to, the number of its nonce, the instant it was sent, the failed
attempts, the chain of the HELLO that asked. -/
structure Chal where
  serial : Nat := 0
  nonce : Nat := 0
  sentAt : Nat := 0
  fails : Nat := 0
  chain : List Byte := []
  deriving DecidableEq, Repr, Inhabited

/-- R252, R295: a cluster group that the anchor has announced: its number, parent, member modules, and its depth. -/
structure CluGroup where
  cunit : Nat := 0
  parent : Option Nat := none
  modmask : Nat := 0
  depth : Nat := 0
  deriving DecidableEq, Repr, Inhabited

/-- R290: the last phase marker sent: its tick and offset. -/
structure Marker where
  tick : Nat := 0
  ports : Nat := 0
  deriving DecidableEq, Repr, Inhabited

/-- The cluster side of a module. The link masks in force by module, and those that take effect at a tick; the flags of cluster groups
folded (unit cell, tick, OR, AND, missing), and their stop instants; the TICK flits received; per module the tick of its last
heartbeat; per group and module the last tick whose flags were missing; the groups announced; per port the peer and the instant of
the last HELLO sent; the challenges out; the admission ticks given; the nonces drawn; the full expiry tick, the tick of the next
renewal, whether one is asked for, the tick of a claim; the secondary; the tick at which the anchor was lost, and at which the
module becomes PARTITIONED; ports that are fenced or miswired; the last marker sent; per group
and module the last snapshots of its part, newest first (R161: tick, words); by port what the last HELLO said (R284); the messages to other
modules formed in this tick, with the module, or 16 + p for the neighbour at port p. -/
structure CluSt where
  routes : Table Nat := []
  newRoutes : Option (Nat × Table Nat) := none
  folds : List (Nat × Nat × Nat × Nat × Bool) := []
  rx : List FlagRx := []
  beats : Table Nat := []
  missed : Table Nat := []
  groups : List CluGroup := []
  peers : Table Peer := []
  helloAt : Table Nat := []
  chals : Table Chal := []
  adopt : Table Nat := []
  nonce : Nat := 0
  expiry : Nat := 0
  renewAt : Nat := 0
  asked : Bool := false
  claimAt : Option Nat := none
  secondary : Option Nat := none
  lostAt : Option Nat := none
  partAt : Option Nat := none
  fenced : List Nat := []
  marker : Marker := {}
  parts : Table (List (Nat × List Nat)) := []
  said : Table (List Nat) := []
  out : List (Nat × CluMsg) := []
  deriving DecidableEq, Repr, Inhabited

/-! ### Links (chapter 12) -/

/-- R273: a flit that waits or is unacknowledged: its type, its SEQ once sent, its payload, and how often it was replayed. -/
structure TxFlit where
  typ : Nat := 0
  seq : Nat := 0
  payload : Nat := 0
  replays : Nat := 0
  deriving DecidableEq, Repr, Inhabited

/-- One port: the instant it entered its state; the settings in force since it last came up; whether the failure of a run of
failures was reported; the lanes and target rate of CAPS; the one-way delay; the instant of the last good flit; the next SEQ to send
and to receive; the flits unacknowledged and those waiting; a NAK sent and not answered; the narrowing or widening in progress (lanes,
whether it narrows); the TICK payloads sent in this tick; the flit slots since a CAPTURE flit; the lanes that the peer has locked; the rate
and width before the link went down last; whether a flit has come in sequence since it came up; the flits sent in this tick (the instant,
the 256 bits), and the widths asked for in it. -/
structure Port where
  since : Nat := 0
  maxRate : Nat := 3
  widen : Bool := true
  laneEn : Nat := 15
  failRun : Bool := false
  target : Nat := 0
  delay : Nat := 0
  lastGood : Nat := 0
  txSeq : Nat := 0
  rxSeq : Nat := 0
  unacked : List TxFlit := []
  waiting : List TxFlit := []
  nak : Bool := false
  change : Option (Nat × Bool) := none
  ticks : List Nat := []
  captureRun : Nat := 0
  peerLanes : Nat := 15
  lastRate : Nat := 0
  lastWidth : Nat := 0
  got : Bool := false
  out : List (Nat × Nat) := []
  asks : List Nat := []
  deriving DecidableEq, Repr, Inhabited

/-- The five ports. -/
structure LkSt where
  ports : Table Port := []
  deriving DecidableEq, Repr, Inhabited

/-! ### Acquisition (chapter 7) -/

/-- R168, R169, R171: a sample on its way to a channel, or a HOLD gap of a watched leaf (`gap`: its length; `opens`: it begins). `val` is the
value it has for a reduction, none where it does not enter one. -/
structure AcqItem where
  leaf : Nat := 0
  inst : Nat := 0
  pos : Nat := 0
  data : Nat := 0
  val : Option Int := none
  gap : Option Nat := none
  opens : Bool := false
  deriving DecidableEq, Repr, Inhabited

/-- R172, R173: an open capture page: its number since the arm, its leaf, its entries (the last first; gap entries flagged), the
position of its first sample, its MARK, the number of its first sample since the arm, how many samples it holds, the index of the trigger
sample, whether it is closed and waits to be written, and the instant of its first sample. -/
structure AcqPage where
  pid : Nat := 0
  leaf : Nat := 0
  items : List (Nat × Bool) := []
  pos : Nat := 0
  mark : Nat := 0
  ord0 : Nat := 0
  n : Nat := 0
  trig : Option Nat := none
  closed : Bool := false
  t0 : Nat := 0
  deriving DecidableEq, Repr, Inhabited

/-- A page that has its SEQ: its number since the arm, SEQ, leaf, first sample, samples, and the first one's instant. -/
structure AcqDone where
  pid : Nat := 0
  seq : Nat := 0
  leaf : Nat := 0
  ord0 : Nat := 0
  n : Nat := 0
  t0 : Nat := 0
  deriving DecidableEq, Repr, Inhabited

/-- R185: the open interval of a reduction; `t0` is its first sample's instant. -/
structure AcqRed where
  n : Nat := 0
  mn : Int := 0
  mx : Int := 0
  sum : Int := 0
  sumsq : Nat := 0
  count : Nat := 0
  tick : Nat := 0
  t0 : Nat := 0
  deriving DecidableEq, Repr, Inhabited

/-- R174: a gap that waits to be written: key of the leaf, cause, instant of the first missing sample, length. -/
structure AcqGap where
  leaf : Nat := 0
  cause : Nat := 0
  inst : Nat := 0
  len : Nat := 0
  deriving DecidableEq, Repr, Inhabited

/-- R182: an occurrence of the trigger source that has not been looked at: its trigger instant, and whether it is a FORCE. -/
structure AcqOcc where
  inst : Nat := 0
  force : Bool := false
  deriving DecidableEq, Repr, Inhabited

/-- One channel. `counts` holds the samples that have reached it (by leaf for PIN, else under 0), `hist` the samples of the last 4
ticks (leaf, instant, number since the arm, tick), `locs` where those stored lie (leaf, number, page, index), `hits` the qualifying
occurrences, each by the trigger samples it selects (R182), `marked` the pages that hold the trigger sample, by leaf, and `trigEdge` the
base-clock edge on which the trigger registered, with what ACQ_TRIG_TIME was before. -/
structure AcqCh where
  armAt : Option Nat := none
  feed : List AcqItem := []
  occ : List AcqOcc := []
  pages : List AcqPage := []
  nextPid : Nat := 0
  seq : Nat := 0
  written : List AcqDone := []
  counts : Table Nat := []
  hist : List (Nat × Nat × Nat × Nat) := []
  locs : List (Nat × Nat × Nat × Nat) := []
  hits : List (List Nat) := []
  forced : Bool := false
  trigT : Option Nat := none
  trigOrd : Table Nat := []
  marked : Table Nat := []
  trigEdge : Option (Nat × Nat) := none
  gaps : List AcqGap := []
  red : AcqRed := {}
  prev : Option Nat := none
  fifo : List (AcqDone × List Byte) := []
  drainAt : Nat := 0
  deriving DecidableEq, Repr, Inhabited

/-- The eight channels; the base cycle in which the SRAM write port was used last, with what it took (in 1/63 byte); the opcode
events whose vector has not issued (leaf, vector, code); the triggers sent to other modules (channel, instant). -/
structure AcqSt where
  ch : Table AcqCh := []
  port : Nat × Nat := (0, 0)
  events : List (Nat × Nat × Nat) := []
  sent : List (Nat × Nat) := []
  deriving DecidableEq, Repr, Inhabited

/-! ### Edge time measurement (chapter 8) -/

/-- R198, R200: the TMU of a pin: the setting in force, the one that takes effect at a tick boundary, the last edge recorded, and
whether one was lost since. Settings hold RISE in bit 0, FALL in bit 1, CMP in bit 2. -/
structure TmuPin where
  cfg : Nat := 4
  next : Option (Nat × Nat) := none
  last : Option Nat := none
  missed : Bool := false
  deriving DecidableEq, Repr, Inhabited

/-- R201: a recorded edge as a pair engine sees it. -/
structure TmuEdge where
  time : Nat := 0
  start : Bool := false
  missed : Bool := false
  hold : Bool := false
  uncal : Bool := false
  deriving DecidableEq, Repr, Inhabited

/-- R204: a pair engine: the edges that wait to be acted on, and the pending start and stop. -/
structure PairEng where
  queue : List TmuEdge := []
  pStart : Option TmuEdge := none
  pStop : Option TmuEdge := none
  deriving DecidableEq, Repr, Inhabited

/-- R207: one gate of a frequency counter: its first tick, its first and last recorded edge, the edges resolved since the first,
those resolved up to the last, the lost edges among both. -/
structure FcGate where
  tick : Nat := 0
  first : Option Nat := none
  last : Nat := 0
  seen : Nat := 0
  count : Nat := 0
  lostSeen : Bool := false
  lost : Bool := false
  hold : Bool := false
  uncal : Bool := false
  deriving DecidableEq, Repr, Inhabited

/-- R207: a frequency counter: the gate in progress, and one that has ended and whose result is to come. -/
structure FcSt where
  cur : Option FcGate := none
  ended : Option FcGate := none
  deriving DecidableEq, Repr, Inhabited

/-- R192 to R195, R200, R209: the frequency in force is known; the frequency a qualification runs on (0 10 MHz, 1 100 MHz); the
gates passed in BOOT; the pull-in; per leaf the records not drained (slot, instant) and the last drain; the code-density test's
lost lock and its pin. -/
structure TmuSt where
  pins : Table TmuPin := []
  pairs : Table PairEng := []
  fcs : Table FcSt := []
  queues : Table (List (Nat × Nat)) := []
  drained : Table Nat := []
  known : Bool := false
  cand : Option Nat := none
  bootGates : Nat := 0
  pullIn : Option Nat := none
  cdtUncal : Bool := false
  cdtPin : Nat := 0
  deriving DecidableEq, Repr, Inhabited

/-! ### DC (chapter 9) -/

/-- R214: the PMU of a pin: its mode, range and forces in force, and the tick from which the registers take effect. -/
structure Pmu where
  mode : Nat := 0
  range : Nat := 4
  vforce : Nat := 0
  iforce : Nat := 0
  next : Option Nat := none
  deriving DecidableEq, Repr, Inhabited

/-- R217: an output that ended before a change took effect, and that is delivered after it: its sample instant, node, place among the invalid
ones, SUPPRESS, and the memory of the watched node before it. -/
structure DsaTail where
  at_ : Nat := 0
  node : Nat := 0
  late : Bool := false
  settle : Nat := 0
  suppress : Bool := false
  prev : Option Int := none
  deriving DecidableEq, Repr, Inhabited

/-- R217 to R225: the converter of a leaf. `phase`: 0 powered down, 1 waiting for the reference buffer, 2 converting. The settings
in force; the tick of a DSA_CTL write and of a GO that have not taken effect; the start from power-down, the boundary of the last
change and its settling time, the restart instant, the outputs since, the invalid ones among them; the tick of the next node of a
scan; the settling times of changes that take effect at the next boundary, those of pins with their slots; SUPPRESS in force; an output that
ended before the last change and is to come; the memory of the watched node. -/
structure Dsa where
  phase : Nat := 0
  mode : Nat := 0
  node : Nat := 0
  fir : Bool := false
  ratio : Nat := 10000
  next : Option Nat := none
  go : Option Nat := none
  t0 : Nat := 0
  tc : Nat := 0
  ts : Nat := 0
  tf : Nat := 0
  n : Nat := 0
  inval : Nat := 0
  scanAt : Option Nat := none
  changes : List Nat := []
  pins : List (Nat × Nat) := []
  suppress : Bool := false
  tail : Option DsaTail := none
  prev : Option Int := none
  deriving DecidableEq, Repr, Inhabited

/-- R226: a diagnosis that runs: the tick it starts, the node, and the sum of the valid outputs taken. -/
structure Diag where
  at_ : Nat := 0
  node : Nat := 9
  sum : Int := 0
  count : Nat := 0
  begun : Bool := false
  deriving DecidableEq, Repr, Inhabited

/-- The PMUs by pin, the converters, diagnoses and test DAC codes by leaf. -/
structure DcSt where
  pmus : Table Pmu := []
  dsas : Table Dsa := []
  diags : Table Diag := []
  dacs : Table Nat := []
  deriving DecidableEq, Repr, Inhabited

/-- R232 to R243: the raster run. The pixels played, and of the last one its section of the frame (0 active, 1 front porch, 2 sync,
3 back porch), line, place in the line, and signals (HS, VS, DE, colour); the front porch: its first pixel's events have happened,
its lines, the lines added for TE, whether a commit has cut it; the count of still porches; the STOP; the wait for TE: its start,
the edge, whether it was given up, and whether the engine free-runs; the frames below `torn` are marked or past; the frame whose
RS_FETCH_LATE was sent, plus one; whether the generations in force have been retired. -/
structure RasSt where
  k : Nat := 0
  sect : Nat := 0
  line : Nat := 0
  px : Nat := 0
  hs : Bool := false
  vs : Bool := false
  de : Bool := false
  colour : Nat := 0
  judged : Bool := false
  porch : Nat := 0
  added : Nat := 0
  cut : Bool := false
  still : Nat := 0
  stop : Bool := false
  wait : Option Nat := none
  edge : Option Nat := none
  gaveUp : Bool := false
  free : Bool := false
  torn : Nat := 0
  late : Nat := 0
  bad : List Nat := []
  retired : Bool := true
  deriving DecidableEq, Repr, Inhabited
/-! ### Calibration (chapter 16) -/

/-- R346 to R361: a start that waits for its boundary, the procedure, and whether the module started it itself; the live trims but
those that TS_DESKEW shows, and the trim DACs by leaf; the leaves that slew; the trims of the lockets by slot; the targets of frozen
leaves; what the loadboard-ID EEPROM answers; the slots to free at a boundary; the next SEQ; since when an automatic start could
begin, and whether one has been tried. `factory`, `windows` and `spread` are the factory data: the trims that apply when no locket is in
force, the window of each trim, and the spread limit of each KIND and SUB (key 16 × KIND + SUB); what is not listed is a trim of 0, a
window of the whole range, and no limit. `staged` is the new set that has passed its checks and is being written: the leaf temperatures and
the trims. -/
structure CalSt where
  startAt : Option Nat := none
  proc : Nat := 0
  auto : Bool := false
  live : Table Int := []
  dac : Table (Table Int) := []
  slew : Nat := 0
  lockets : Table (Table Int) := []
  frozen : Table Int := []
  eeprom : Option Nat := none
  deletes : List (Nat × Nat) := []
  nextSeq : Nat := 0
  autoSince : Option Nat := none
  tried : Bool := false
  factory : Table Int := []
  windows : Table (Int × Int) := []
  spread : Table Nat := []
  staged : Option (List Int × List Int) := none
  deriving DecidableEq, Repr, Inhabited

/-! ### Power and guards (chapter 18) -/

/-- R375 to R396: whether the module is OFF, and held there by a thermal trip; what the next BOOT reports; the bank that becomes
active; the samples of each sensor (newest first), those that report an open or shorted element, since when each is implausible;
since when the input is above 60 V; the causes present; the tick of SAFE entry and of SAFE exit; since when no cause is present; the
leaves that park later; the instant of the last dew point; the firmware image. -/
structure EnvSt where
  off : Bool := false
  locked : Bool := false
  uv : Bool := false
  trip : Bool := false
  bank : Nat := 0
  samples : Table (List Int) := []
  broken : List Nat := []
  implSince : Table Nat := []
  highSince : Option Nat := none
  causes : Nat := 0
  safeAt : Option Nat := none
  exitAt : Option Nat := none
  /- R394: the edge and the source of the SAFE_EXIT accepted last, and the edge on which a cause registered last -/
  exitBy : Option (Nat × Nat) := none
  causeAt : Option Nat := none
  /- R380: under cause RAIL, what the pins are left with -/
  rail : Option Nat := none
  clearSince : Option Nat := none
  parkWait : List Nat := []
  dewAt : Nat := 0
  fw : List Byte := []
  deriving DecidableEq, Repr, Inhabited


/-- R393, R110: the deglitched TRIGIN levels and their sample at the last tick boundary; the leaves whose DSA crossed its
threshold, and those with a TMU window event, in the tick in progress and in the last complete tick. -/
structure TrigSt where
  level : Nat := 0
  sample : Nat := 0
  thrNow : Nat := 0
  thrLast : Nat := 0
  winNow : Nat := 0
  winLast : Nat := 0
  deriving DecidableEq, Repr, Inhabited

/-! ### The whole machine -/

/-- Why a step can stop with a fault. No rule of the spec stops the block, and no meaning raises one: safe. -/
inductive Fault where
  /-- Raised by no meaning: safe. -/
  | none
  deriving DecidableEq, Repr

/-- Why a command has no meaning. -/
inductive Refusal where
  /-- Raised by an arm of `exec` whose command is not modelled yet: safe. -/
  | notModelled (mnemonic : String)
  deriving DecidableEq, Repr

/-- R8, R408: what the module itself has added to counters, and the W1C bits it has set, in a base cycle: by cell; and the first rejection that
found GLB_ERR_INFO.VALID at 1 in it: address, source, reason, detail, and MORE before it. -/
structure HotSt where
  cycle : Nat := 0
  cells : Table Nat := []
  rej : Option (Nat × Nat × Nat × Nat × Bool) := none
  deriving DecidableEq, Repr, Inhabited

/-- R129: the levels of pins: in force where they are not those after reset (TS_LVL_DRV as the low word, TS_LVL_CMP above it), and the
pins written since the last tick boundary. -/
structure LvlSt where
  live : Table Nat := []
  written : List Nat := []
  deriving DecidableEq, Repr, Inhabited

/-- The block: its register cells, the place inside the tick (in tu, below 327 680), the commands that wait, the parts of the
chapters, the values of each leaf's engine as they are visible (R112: but for the U registers, which are MC_UREG), the commits whose effects register at an instant still to come (the instant, the leaf, its engine's values: R101, R112),
what was counted and flagged in the present base cycle (R8), the levels (R129), and the number of the next free value. -/
structure State where
  regs : RegFile := []
  sub : Nat := 0
  pending : List Instr := []
  host : HostSt := {}
  evt : EvtSt := {}
  jn : JnSt := {}
  snap : SnapSt := {}
  leaves : Table Leaf := []
  caches : Table Cache := []
  engines : Table Engine := []
  units : Table UnitSt := []
  pulses : List Pulse := []
  strands : StrandSt := {}
  mc : McSt := {}
  fl : FlSt := {}
  mnt : MntSt := {}
  pl : PlSt := {}
  dram : DramSt := {}
  sram : SramSt := {}
  trig : TrigSt := {}
  acq : AcqSt := {}
  tmu : TmuSt := {}
  dc : DcSt := {}
  ras : RasSt := {}
  lk : LkSt := {}
  clu : CluSt := {}
  cal : CalSt := {}
  env : EnvSt := {}
  shown : Table Ctx := []
  vis : List (Nat × Nat × Ctx) := []
  hot : HotSt := {}
  lvl : LvlSt := {}
  free : Nat := 0
  deriving DecidableEq, Repr

/-- The machine right after reset: every register cell at its reset value, nothing waiting, and every part as it is when
power has come up and BOOT begins (R377). -/
def State.reset : State := {}

end Sys2Proof.Machine
end

