-- ==== Sys2Proof/Machine/Ops.lean ====
section
/-! DEFINITION. The named operations every chapter shares: register cells, the clock, event messages, the journal, counters,
recorded rejections, the units of the mounted image, and answers to the host. -/

namespace Sys2Proof.Machine

/-! ### Cells -/

/-- Copy `i` of a register field. -/
def State.rd (s : State) (f : Fld) (i : Nat) : Nat := RegFile.get s.regs f i

/-- Copy `i` of a register field, set. -/
def State.wr (s : State) (f : Fld) (i v : Nat) : State := { s with regs := RegFile.put s.regs f i v }

/-- Several fields set, in order. -/
def State.wrs (s : State) : List (Fld × Nat × Nat) → State
  | [] => s
  | (f, i, v) :: t => State.wrs (s.wr f i v) t

/-- A one-bit field as a flag. -/
def State.on (s : State) (f : Fld) (i : Nat) : Bool := s.rd f i != 0

/-! ### Time (R1, R19, R196) -/

/-- R1: a base cycle in tu. -/
def cyc : Nat := 1024

/-- R19: the site tick in tu (320 base cycles). -/
def tickTu : Nat := 327680

/-- R19: GLB_TICK. -/
def State.tick (s : State) : Nat := s.rd F.GLB_TICK_TICK 0

/-- The instant of T(n), in tu since T(0). -/
def tickAt (n : Nat) : Nat := n * tickTu

/-- R19: the tick that holds an instant. -/
def tickOf (t : Nat) : Nat := t / tickTu

/-- The present instant. -/
def State.now (s : State) : Nat := tickAt s.tick + s.sub

/-- An instant the present tick has reached or will reach: what lies in a later tick is not due. -/
def State.due (s : State) (t : Nat) : Bool := decide (t < tickAt (s.tick + 1))

/-- R66, R102: the base-clock edge at or immediately before an instant. -/
def edgeOf (t : Nat) : Nat := t / cyc * cyc

/-- The first base-clock edge at or after an instant. -/
def edgeUp (t : Nat) : Nat := ceilDiv t cyc * cyc

/-- The first tick boundary on or after the edge on which a request registers (R90). -/
def State.nextBoundary (s : State) : Nat := if s.sub = 0 then s.tick else s.tick + 1

/-! ### The module (R377, R283) -/

/-- R377: ENV_STATUS.MSTATE. -/
def State.mstate (s : State) : Nat := s.rd F.ENV_STATUS_MSTATE 0

def mBoot : Nat := 1
def mStandby : Nat := 2
def mMounted : Nat := 3
def mSafe : Nat := 4
def mFault : Nat := 5

/-- R283: the module is ADMITTED. -/
def State.admitted (s : State) : Bool := s.rd F.ID_STAT_STATE 0 == 3

/-- R409: the module number, 0 when it is not ADMITTED. -/
def State.module (s : State) : Nat := if s.admitted then s.rd F.ID_STAT_MODULE 0 else 0

/-! ### Event messages (R409 to R412) -/

/-- R410: a message formed and put into the ring; `true` when that overwrites one that was not sent. A code that is not
enabled forms none. -/
def State.raiseCore (s : State) (code index data dataHi : Nat) : State × Bool :=
  if (s.rd F.EVT_ENABLE_EN (code / 64)).testBit (code % 64) then
    let next := s.rd F.EVT_SEQ_NEXT 0
    let sent := s.rd F.EVT_SEQ_SENT 0
    let m : EvtMsg := { code := code, module := s.module, index := index % 65536, tick := s.tick % 2 ^ 40, seq := next,
                        data := data % 2 ^ 64, dataHi := dataHi % 2 ^ 32 }
    let lost := decide ((next + 2 ^ 24 - sent) % 2 ^ 24 = 256)
    let r := s.evt.ring ++ [m]
    let s1 := { s with evt := { s.evt with ring := r.drop (r.length - 256),
                                            lostNow := if lost then s.evt.lostNow + 1 else s.evt.lostNow } }
    let s2 := s1.wr F.EVT_SEQ_NEXT 0 (next + 1)
    (if lost then s2.wr F.EVT_SEQ_SENT 0 (sent + 1) else s2, lost)
  else (s, false)

/-- R8: what the module has added to a counter, or the bits it has set in a W1C field, in the present base cycle. -/
def State.hotOf (s : State) (f : Fld) (i : Nat) : Nat :=
  if s.hot.cycle = s.now / cyc then (Table.get? s.hot.cells (cellNo f i)).getD 0 else 0

/-- R8: what `hotOf` answers for a cell until the base cycle ends. -/
def State.mark (s : State) (f : Fld) (i v : Nat) : State :=
  let old := if s.hot.cycle = s.now / cyc then s.hot else {}
  { s with hot := { old with cycle := s.now / cyc, cells := Table.set old.cells (cellNo f i) v } }

/-- R6, R8: the module sets bits of a W1C field. -/
def State.flagBits (s : State) (f : Fld) (i m : Nat) : State := (s.wr f i (s.rd f i ||| m)).mark f i (s.hotOf f i ||| m)

/-- R6, R8: the module sets a W1C bit. -/
def State.flag (s : State) (f : Fld) (i : Nat) : State := s.flagBits f i 1

/-- R6, R8: the host clears bits of a W1C field: those set in the same base cycle stay. -/
def State.unflag (s : State) (f : Fld) (i m : Nat) : State := s.wr f i ((s.rd f i - (s.rd f i &&& m)) ||| (s.rd f i &&& s.hotOf f i))

/-- R406, R8: the host clears a counter: what was counted in the same base cycle stays. -/
def State.uncount (s : State) (f : Fld) (i : Nat) : State := s.wr f i (s.hotOf f i)

/-- R406: a counter stepped; the flag says whether it has just reached its greatest value. -/
def State.count (s : State) (f : Fld) (i n : Nat) : State × Bool :=
  let v := s.rd f i
  let v' := satAdd 32 v n
  ((s.wr f i v').mark f i (satAdd 32 (s.hotOf f i) n), decide (v < 2 ^ 32 - 1) && decide (v' = 2 ^ 32 - 1))

/-- R410, R406: a message raised; a message it overwrites unsent counts in EVT_LOST. -/
def State.raise (s : State) (code index data dataHi : Nat) : State :=
  let (s1, lost) := s.raiseCore code index data dataHi
  if lost then
    let (s2, full) := s1.count F.EVT_LOST_COUNT 0 1
    if full && !(s2.on F.EVT_STATUS_SAT 0) then
      ((s2.flag F.EVT_STATUS_SAT 0).raiseCore 0x01 0 0x10 0).1
    else s2
  else s1

/-- R406: a counter stepped by `n`; when it reaches its greatest value with its block's flag clear, the flag is set and
COUNTER_SAT raised. `row` is the block's row of R411 and `off` the counter's offset from its block. -/
def State.bump (s : State) (f : Fld) (i n : Nat) (sat : Fld) (si row off : Nat) : State :=
  let (s1, full) := s.count f i n
  if full && !(s1.on sat si) then (s1.flag sat si).raise 0x01 row off 0 else s1

/-! ### The journal (R363 to R367) -/

/-- R367: a record staged, with the next SEQ; with the queue full it is lost. -/
def State.journal (s : State) (typ leaf : Nat) (rep : Bool) (body : Nat) : State :=
  if s.jn.queue.length < 2048 then
    let r : JRec := { tick := s.tick, typ := typ, leaf := leaf, module := s.module, replay := rep, seq := s.jn.seq,
                      body := body }
    { s with jn := { s.jn with queue := s.jn.queue ++ [r], seq := (s.jn.seq + 1) % 2 ^ 32 } }
  else
    let s1 := if s.jn.lost = 0 then (s.flag F.JN_STATUS_LOSS_SEEN 0) else s
    let s2 := { s1 with jn := { s1.jn with lost := s1.jn.lost + 1,
                                            lostTick := if s1.jn.lost = 0 then s.tick else s1.jn.lostTick } }
    let s3 := s2.bump F.JN_LOST_COUNT 0 1 F.JN_STATUS_SAT 0 15 0x20
    if s.jn.lost = 0 then
      s3.raise 0xF6 0 (pack [(0, 12, s3.jn.queue.length), (12, 1, 1), (13, 1, s3.rd F.JN_STATUS_SAT 0),
                             (16, 3, s3.jn.exports.length)]) 0
    else s3

/-- R365: an INPUT record with its timestamp. -/
def State.journalInput (s : State) (kind index : Nat) (value : Bool) (leaf t : Nat) : State :=
  s.journal 0x09 leaf false (pack [(0, 4, kind), (4, 8, index), (12, 1, bit value), (64, 64, t)])

/-- R365: a TIMEBASE record. -/
def State.journalTime (s : State) (kind value : Nat) : State :=
  s.journal 0x0A 0 false (pack [(0, 4, kind), (64, 64, value)])

/-- R365: a PLATFORM record. -/
def State.journalPlat (s : State) (kind index code value : Nat) : State :=
  s.journal 0x0B 0 false (pack [(0, 4, kind), (4, 4, index), (8, 8, code), (64, 64, value)])

/-! ### Rejections (R404, R405, R408) -/

/-- R405: the reason codes. -/
abbrev rRESERVED_BIT : Nat := 0x01
abbrev rRANGE : Nat := 0x02
abbrev rRO_REGISTER : Nat := 0x03
abbrev rALIGN : Nat := 0x05
abbrev rUNMAPPED : Nat := 0x06
abbrev rWINDOW_WRITE : Nat := 0x07
abbrev rACTION_BITS : Nat := 0x08
abbrev rSTATE : Nat := 0x09
abbrev rCOUNTER_VALUE : Nat := 0x0A
abbrev rBURST : Nat := 0x0B
abbrev rSERVICE_ONLY : Nat := 0x0C
abbrev rSERVICE_DENIED : Nat := 0x0D
abbrev rNOT_ADMITTED : Nat := 0x0E
abbrev rNOT_MOUNTED : Nat := 0x10
abbrev rUNIT_IS_MEMBER : Nat := 0x11
abbrev rUNIT_BUSY : Nat := 0x12
abbrev rSTART_TOO_SOON : Nat := 0x13
abbrev rSTART_NOT_LANDED : Nat := 0x14
abbrev rLEAF_OOS : Nat := 0x15
abbrev rJUMP_TOO_SOON : Nat := 0x16
abbrev rRS_TIMING : Nat := 0x17
abbrev rRPL_SOURCE : Nat := 0x18
abbrev rRPL_INCOMPLETE : Nat := 0x19
abbrev rRPL_SHAPE : Nat := 0x1A
abbrev rRPL_IMAGE : Nat := 0x1B
abbrev rRPL_STRAND : Nat := 0x1C
abbrev rSTR_LEN : Nat := 0x20
abbrev rSTR_RANGE : Nat := 0x21
abbrev rSTR_SAFE : Nat := 0x22
abbrev rSTR_RESERVED : Nat := 0x23
abbrev rSTR_BUSY : Nat := 0x24
abbrev rDM_DESC_RANGE : Nat := 0x25
abbrev rDM_PROTECTED : Nat := 0x26
abbrev rDM_FAULTY : Nat := 0x27
abbrev rACQ_BUSY : Nat := 0x28
abbrev rBEZEL_FAULT : Nat := 0x29
abbrev rTS_PENDING : Nat := 0x30
abbrev rDC_BUSY : Nat := 0x31
abbrev rCAL_BUSY : Nat := 0x32
abbrev rRS_PENDING : Nat := 0x33
abbrev rPL_BUSY : Nat := 0x34
abbrev rPL_STALE : Nat := 0x35
abbrev rMOUNTED_ITEM : Nat := 0x36
abbrev rOTP_KEY : Nat := 0x37
abbrev rBLOCK_REJECT : Nat := 0x38

/-- GLB_ERR_ADDR as it reads. -/
def State.glbErrAddr (s : State) : Nat := pack [(0, 40, s.rd F.GLB_ERR_ADDR_ADDR 0), (44, 8, s.rd F.GLB_ERR_ADDR_SRC 0)]

/-- GLB_ERR_INFO [31:0] as it reads. -/
def State.glbErrInfoLo (s : State) : Nat :=
  pack [(0, 8, s.rd F.GLB_ERR_INFO_REASON 0), (8, 8, s.rd F.GLB_ERR_INFO_DETAIL 0), (16, 1, s.rd F.GLB_ERR_INFO_VALID 0),
        (17, 1, s.rd F.GLB_ERR_INFO_MORE 0), (18, 1, s.rd F.GLB_ERR_INFO_SAT 0), (24, 8, s.rd F.GLB_ERR_INFO_TICK 0)]

/-- R408: a rejection fills GLB_ERR and raises WRITE_REJECTED. -/
def State.fillReject (s : State) (addr src reason detail : Nat) : State :=
  let s0 := (s.wrs [(F.GLB_ERR_ADDR_ADDR, 0, addr), (F.GLB_ERR_ADDR_SRC, 0, src), (F.GLB_ERR_INFO_REASON, 0, reason),
                    (F.GLB_ERR_INFO_DETAIL, 0, detail), (F.GLB_ERR_INFO_TICK, 0, s.tick)]).flag F.GLB_ERR_INFO_VALID 0
  s0.raise 0x00 0 s0.glbErrAddr s0.glbErrInfoLo

/-- R408: a rejection that finds VALID = 1 sets MORE; it is kept until the base cycle ends, for a W1C of VALID on the same edge. -/
def State.moreReject (s : State) (addr src reason detail : Nat) : State :=
  let s1 := s.flag F.GLB_ERR_INFO_MORE 0
  { s1 with hot := { s1.hot with rej := match s1.hot.rej with
      | some r => some r
      | none => some (addr, src, reason, detail, s.on F.GLB_ERR_INFO_MORE 0) } }

/-- R408: a rejection recorded: with VALID = 0 it fills GLB_ERR and raises WRITE_REJECTED, otherwise it sets MORE; it counts
either way. -/
def State.recordReject (s : State) (addr src reason detail : Nat) : State :=
  (if s.on F.GLB_ERR_INFO_VALID 0 then s.moreReject addr src reason detail else s.fillReject addr src reason detail).bump F.GLB_ERR_COUNT_COUNT 0 1
    F.GLB_ERR_INFO_SAT 0 0 0x58

/-! ### Answers to the host (R398 to R401) -/

/-- R400: what a request is answered with. -/
inductive Ans where
  | ok
  | data (v : Nat)
  | bytes (l : List Byte)
  | ueData (v : Nat) (l : List Byte)
  | rejected (reason detail : Nat)
  | absent
  | noRoute
  | timeout
  deriving DecidableEq, Repr

/-- R400: the STATUS of an answer. -/
def Ans.status : Ans → Nat
  | .ok => 0
  | .data _ => 0
  | .bytes _ => 0
  | .ueData _ _ => 3
  | .rejected _ _ => 1
  | .absent => 2
  | .noRoute => 5
  | .timeout => 4

/-- R400: the response to a request. -/
def State.respOf (s : State) (h : Hdr) (a : Ans) : Resp :=
  { src := h.src.val, status := a.status, module := s.module, tag := h.tag.val, tick := s.tick % 2 ^ 40,
    reason := match a with | .rejected r _ => r | _ => 0
    detail := match a with | .rejected _ d => d | _ => 0
    data := match a with | .data v => v | .ueData v _ => v | _ => 0
    bytes := match a with | .bytes l => l | .ueData _ l => l | _ => []
    at_ := s.now }

/-- R400, R401: the response to an executed request, sent and kept for repeats of the request. -/
def State.respond (s : State) (h : Hdr) (a : Ans) : State :=
  let r := s.respOf h a
  { s with host := { s.host with kept := (r :: s.host.kept).take 64, tx := some r } }

/-- R400: the response of a module that did not execute the request, sent. -/
def State.reply (s : State) (h : Hdr) (a : Ans) : State := { s with host := { s.host with tx := some (s.respOf h a) } }

/-- R401: how long a response is kept (2 ms, in tu). -/
def keepTu : Nat := 2560000000

/-- R401: the kept response that a repeated request is answered with. -/
def State.keptFor (s : State) (h : Hdr) : Option Resp :=
  s.host.kept.find? (fun r => r.src == h.src.val && r.tag == h.tag.val && decide (s.now ≤ r.at_ + keepTu))

/-- R286: the module is FOREIGN. -/
def State.foreign (s : State) : Bool := s.rd F.ID_STAT_STATE 0 == 2

/-- R398, R286: the request names this module: its own number, or module 0 where it is in no cluster; a FOREIGN module, which has no number
of its own, takes those that reach it. -/
def State.isOwn (s : State) (h : Hdr) : Bool :=
  if s.admitted then h.dst.val == s.rd F.ID_STAT_MODULE 0
  else s.foreign || h.dst.val == 0

/-- R380: the module is in FAULT because no firmware verified: the recovery loader serves identity, power state and update only. -/
def State.bootAuth (s : State) : Bool := s.mstate == mFault && s.rd F.ENV_FAULT_CAUSE 0 == 1

/-- R376, R380: the module cannot take a request: it is OFF, or in FAULT, where only the service port works. -/
def State.deaf (s : State) (h : Hdr) : Bool := s.env.off || (s.mstate == mFault && h.src.val != 0x81)

/-- R395: what the service port reaches: reads of the ID block, the ENV block, reads of the export slots. -/
def State.serviceOpen (s : State) (addr len : Nat) (isWrite : Bool) : Bool :=
  let base := 0x100000000
  let slot0 := s.rd F.JN_EXP_CFG_BASE 0
  let size := if s.bootAuth then 0 else 8 * s.rd F.JN_EXP_CFG_SLOT_KIB 0 * 1024
  (decide (0x60000 ≤ addr) && decide (addr < 0x70000) && !isWrite)
  || (decide (0x50000 ≤ addr) && decide (addr < 0x60000))
  || (!isWrite && decide (base ≤ addr) && decide (slot0 ≤ addr) && decide (addr + len ≤ slot0 + size))

/-- The link masks of the routes in force. -/
def State.routeLinks (s : State) (m : Nat) : Nat := (Table.get? s.clu.routes m).getD 0

/-- R293: the route of a copy from this module. -/
def State.routeTo (s : State) (copy d : Nat) : Option (List (Nat × Nat)) :=
  routeHops (s.rd F.ID_TOPO_KIND 0) (s.rd F.ID_TOPO_N 0) copy s.routeLinks (s.rd F.ID_STAT_MODULE 0) d

/-- R404: what a refused request leaves behind: the rejection recorded. -/
def State.settleAns (s : State) (h : Hdr) (addr : Nat) (a : Ans) : State :=
  match a with
  | .rejected r d => s.recordReject addr h.src.val r d
  | _ => s

/-- R404: the effect of a request this module executes: what `f` does, its rejection recorded, and the response. What the request itself
counts and flags belongs to another base cycle than the next request (R8). -/
def State.execute (s : State) (h : Hdr) (addr : Nat) (f : State → State × Ans) : State :=
  let (s1, a) := f s
  { s1.settleAns h addr a with hot := s.hot }.respond h a

/-- R399: what a request asks, with the data it carries. -/
inductive Req where
  | read64
  | write64 (data : Nat)
  | readb (len : Nat)
  | writeb (bytes : List Byte)
  deriving DecidableEq, Repr

/-- R399: how many bytes a request names. -/
def Req.len : Req → Nat
  | .read64 => 8
  | .write64 _ => 8
  | .readb n => n
  | .writeb l => l.length

/-- The request writes. -/
def Req.isWrite : Req → Bool
  | .write64 _ => true
  | .writeb _ => true
  | _ => false

/-- R399: the data flits that carry bytes, 24 in each. -/
def dataFlits (src tag : Nat) : Nat → Nat → List Byte → List Nat
  | 0, _, _ => []
  | fuel + 1, i, l =>
    if l.isEmpty then []
    else pack [(0, 4, 6), (4, 4, i), (8, 8, src), (16, 16, tag), (32, 192, ofBytes (l.take 24))] :: dataFlits src tag fuel (i + 1) (l.drop 24)

/-- R399: the payloads of the CONTROL flits of a request. -/
def reqFlits (h : Hdr) (addr : Nat) (q : Req) : List Nat :=
  let head (op lenm1 data : Nat) : Nat :=
    pack [(0, 4, op), (4, 4, h.dst.val), (8, 8, h.src.val), (16, 16, h.tag.val), (32, 40, addr), (72, 8, lenm1), (96, 64, data)]
  match q with
  | .read64 => [head 0 0 0]
  | .write64 d => [head 1 0 d]
  | .readb n => [head 2 (n - 1) 0]
  | .writeb l => head 3 (l.length - 1) 0 :: dataFlits h.src.val h.tag.val 11 1 l

/-! ### Sending flits (R270 to R273) -/

/-- One port of a link. -/
def State.port (s : State) (p : Nat) : Port := (Table.get? s.lk.ports p).getD {}

/-- One port, set. -/
def State.setPort (s : State) (p : Nat) (x : Port) : State := { s with lk := { s.lk with ports := Table.set s.lk.ports p x } }

/-- R270: a flit: header, payload and CRC, as 256 bits; an ACK is valid once a flit has come in sequence. -/
def flitWord (typ seq ack payload : Nat) (av : Bool) : Nat :=
  let h := pack [(0, 3, typ), (3, 6, seq), (9, 6, ack), (15, 1, bit av), (16, 224, payload)]
  h + crc16 (toBytes 30 h) * 2 ^ 240

/-- R270, R273: a flit as the port sends it now, with the ACK of the last flit received in sequence. -/
def Port.flit (x : Port) (typ seq payload : Nat) : Nat := flitWord typ seq ((x.rxSeq + 63) % 64) payload x.got

/-- R272: a flit leaves at instant `t`: one slot of the port, and one more since a CAPTURE flit left. -/
def Port.sent (x : Port) (t typ seq payload : Nat) : Port :=
  { x with out := x.out ++ [(t, x.flit typ seq payload)], captureRun := if typ = 4 then 0 else x.captureRun + 1 }

/-- R266: the port carries traffic. -/
def State.lkActive (s : State) (p : Nat) : Bool := s.rd F.LK_STAT_STATE p == 6

/-- R272: which waiting flit goes next: CONTROL before STREAM before CAPTURE, but CAPTURE once in every 32. -/
def Port.pick (x : Port) : Option TxFlit :=
  match (if 31 ≤ x.captureRun then x.waiting.find? (fun f => f.typ == 4) else none) with
  | some f => some f
  | none =>
    match x.waiting.find? (fun f => f.typ == 2) with
    | some f => some f
    | none =>
      match x.waiting.find? (fun f => f.typ == 3) with
      | some f => some f
      | none => x.waiting.head?

/-- R273: waiting flits sent while fewer than 63 are unacknowledged. -/
def Port.pump (t : Nat) : Nat → Port → Port
  | 0, x => x
  | fuel + 1, x =>
    if 63 ≤ x.unacked.length then x
    else match x.pick with
      | none => x
      | some f =>
        let y := x.sent t f.typ x.txSeq f.payload
        Port.pump t fuel
          { y with waiting := x.waiting.erase f
                   unacked := x.unacked ++ [{ f with seq := x.txSeq }]
                   txSeq := (x.txSeq + 1) % 64 }

/-- R272, R273, R277: a flit given to a port, which sends it as soon as it may; none crosses while the link narrows or widens. -/
def State.lkSend (s : State) (p typ payload : Nat) : State :=
  let x := s.port p
  let x1 := { x with waiting := x.waiting ++ [{ typ := typ, payload := payload }] }
  s.setPort p (if s.lkActive p && x1.change.isNone then x1.pump s.now 64 else x1)

/-- A message to another module, or to the neighbour at port p (16 + p). How it is cut into CONTROL flits the manual does not give (log entry
163): it is kept with those of the tick. -/
def State.tell (s : State) (dst : Nat) (m : CluMsg) : State := { s with clu := { s.clu with out := s.clu.out ++ [(dst, m)] } }

/-- R181, R255: an event sent to every other module of the cluster. -/
def State.tellAll (s : State) (m : CluMsg) : State :=
  if s.admitted then
    ((List.range 16).filter (fun d => d != s.module && s.rd F.ID_MAP_MSTATE d == 3)).foldl (fun (s : State) d => s.tell d m) s
  else s

/-- R398: a request passed on over a port. -/
def State.passOn (s : State) (h : Hdr) (addr : Nat) (q : Req) (p : Nat) : State :=
  let others := s.host.fwd.filter (fun f => (f.src != h.src.val || f.tag != h.tag.val) && !(f.answered && decide (f.at_ + keepTu < s.now)))
  let f : Fwd := { src := h.src.val, tag := h.tag.val, dst := h.dst.val, port := p, at_ := s.now }
  (reqFlits h addr q).foldl (fun (s : State) w => s.lkSend p 2 w) { s with host := { s.host with fwd := others ++ [f] } }

/-- R289, R403: a write to the window of a cluster group. -/
def cluWrite (addr : Nat) (q : Req) : Bool := q.isWrite && decide (0x600000 ≤ addr) && decide (addr < 0xA00000)

/-- R289: what the anchor sends to the member modules for a write to a cluster group's window: the write, and before a host jump
whose tick is 0 the tick it stands for. -/
def State.cluFlits (s : State) (h : Hdr) (addr : Nat) (q : Req) : List Nat :=
  let c := 256 + (addr - 0x600000) / 0x1000
  if addr % 0x1000 = 0 ∧ q = .write64 4 ∧ s.rd F.UNIT_JUMP_TICK_JUMP_TICK c = 0 then
    reqFlits h (addr + 0x38) (.write64 (s.tick + 4)) ++ reqFlits h addr q
  else reqFlits h addr q

/-- R289: an accepted write to a cluster group's window goes to every other member module. -/
def State.cluSpread (s : State) (h : Hdr) (addr : Nat) (q : Req) : State :=
  match s.clu.groups.find? (fun g => g.cunit == (addr - 0x600000) / 0x1000) with
  | none => s
  | some g =>
    ((maskList 16 g.modmask).filter (· != s.module)).foldl (fun (s : State) d =>
      match s.routeTo 0 d with
      | some ((_, p) :: _) =>
        (s.cluFlits { src := Fin.ofNat 256 s.module, tag := h.tag, dst := Fin.ofNat 16 d } addr q).foldl (fun (s : State) w => s.lkSend p 2 w) s
      | _ => s) s

/-- R289: a write to a cluster group's window is executed at the anchor, which spreads it, and at a member module as the anchor sent
it; any other module holds no such window. -/
def State.executeClu (s : State) (h : Hdr) (addr : Nat) (q : Req) (f : State → State × Ans) : State :=
  let c := (addr - 0x600000) / 0x1000
  if s.on F.ID_LEASE_HELD 0 then
    s.execute h addr (fun s =>
      let (s1, a) := f s
      (match a with | .ok => s1.cluSpread h addr q | _ => s1, a))
  else if h.src.val < 16 ∧ s.on F.ID_CG_FORMED c then
    s.execute h addr (fun s => let (s1, a) := f (s.wr F.ID_LEASE_HELD 0 1); (s1.wr F.ID_LEASE_HELD 0 0, a))
  else s.execute h addr f

/-- R286: a read of registers of the ID block, the one request that a FOREIGN module takes. -/
def idRead (addr : Nat) (q : Req) : Bool := !q.isWrite && decide (0x60000 ≤ addr) && decide (addr < 0x70000)

/-- R398 to R401, R395: a request on its way through the module: repeated, refused by the service port, executed here, passed
on, or answered NO_ROUTE. -/
def State.request (s : State) (h : Hdr) (addr : Nat) (q : Req) (f : State → State × Ans) : State :=
  if s.deaf h then s
  else match s.keptFor h with
  | some r => { s with host := { s.host with tx := some r } }
  | none =>
    if h.src.val = 0x81 ∧ s.serviceOpen addr q.len q.isWrite = false then
      s.execute h addr (fun s => (s, .rejected rSERVICE_DENIED 0))
    else if h.src.val ≠ 0x81 ∧ s.foreign ∧ idRead addr q = false then s.reply h .noRoute
    else if s.isOwn h ∨ h.src.val = 0x81 then (if cluWrite addr q then s.executeClu h addr q f else s.execute h addr f)
    else
      match s.admitted, s.routeTo 0 h.dst.val with
      | true, some ((_, p) :: _) =>
        let ms := s.rd F.ID_MAP_MSTATE h.dst.val
        if ms = 3 ∨ (ms = 2 ∧ idRead addr q) then s.passOn h addr q p
        else s.reply h .noRoute
      | _, _ => s.reply h .noRoute

/-! ### Shared by several chapters -/

/-- A µs in tu. -/
def usTu : Nat := 1280000

/-- R349: a calibration procedure runs. -/
def State.calBusy (s : State) : Bool := s.rd F.CAL_STATUS_STATE 0 != 0

/-- R193, R291: timestamps carry HOLDOVER: REFIN is lost here or at the anchor. -/
def State.holdover (s : State) : Bool := s.on F.TMU_REF_LOST 0 || s.on F.ID_STAT_ROOT_HOLDOVER 0

/-- R253: nine pins parked. -/
def parkedDrv : Table PinDrv := (List.range 9).map (fun j => (j, { on := false, high := false, term := 4 }))

/-- R253: the pins of some leaves park. -/
def State.parkPins (s : State) (ls : List Nat) : State :=
  ls.foldl (fun (s : State) l =>
    { s with leaves := Table.set s.leaves l { (Table.get? s.leaves l).getD {} with drv := parkedDrv } }) s

/-- R359: the trim DACs of a leaf take the live trims. -/
def State.latchTrims (s : State) (l : Nat) : State := { s with cal := { s.cal with dac := Table.set s.cal.dac l s.cal.live } }

/-- R349: a running calibration procedure is cancelled with a reason: nothing changes but CAL_RESULT, and the pins park. -/
def State.calCancel (s : State) (reason : Nat) : State :=
  if s.calBusy || s.cal.startAt.isSome then
    let s1 := { s with cal := { s.cal with startAt := none, auto := false, tried := s.cal.auto, staged := none } }.wrs
      [(F.CAL_STATUS_STATE, 0, 0), (F.CAL_RESULT_OUTCOME, 0, 4), (F.CAL_RESULT_REASON, 0, reason), (F.CAL_RESULT_PIN, 0, 0xFF),
       (F.CAL_RESULT_KIND, 0, 0), (F.CAL_RESULT_SUB, 0, 0), (F.CAL_RESULT_VALUE, 0, 0), (F.CAL_RESULT_SLOT, 0, 0)]
    s1.parkPins (List.range 16)
  else s

/-- R354: the slots whose locket is in force. -/
def State.inForce (s : State) : List Nat :=
  let id := s.rd F.CAL_LBID_ID 0
  if id = 0 then []
  else (List.range 32).filter (fun k => s.on F.CAL_LKT_INFO_VALID k && s.rd F.CAL_LKT_LBID_ID k == id)

/-- R354, R183: CAL_STATUS.NONE and ACQ_GSTATUS.SKEW_DEFAULT follow the lockets in force. -/
def State.lktRefresh (s : State) : State :=
  s.wrs [(F.CAL_STATUS_NONE, 0, bit s.inForce.isEmpty), (F.ACQ_GSTATUS_SKEW_DEFAULT, 0, bit s.inForce.isEmpty)]

/-- R354: the loadboard ID that the EEPROM's ten bytes hold: 0 without an answer or with a bad CRC. -/
def lbidOf (e : Option Nat) : Nat :=
  match e with
  | none => 0
  | some v => if crc16 (toBytes 8 (v % 2 ^ 64)) = bits v 64 16 then v % 2 ^ 64 else 0

/-- R354: the module reads the loadboard-ID EEPROM, which answers `e`. -/
def State.readLbid (s : State) (e : Option Nat) : State :=
  ({ s with cal := { s.cal with eeprom := e } }.wr F.CAL_LBID_ID 0 (lbidOf e)).lktRefresh

/-! ### Units (R13 to R17, R96) -/

/-- The index of a unit's cells: local units 0 to 255, cluster group c at 256 + c. -/
def uix : UnitRef → Nat
  | .loc u => u.val
  | .clu c => 256 + c.val

/-- R96, R403: the base address of a unit's window. -/
def unitAddr : UnitRef → Nat
  | .loc u => 0x100000 + u.val * 0x1000
  | .clu c => 0x600000 + c.val * 0x1000

/-- R261: the image whose units exist now. -/
def State.image (s : State) : Option MntImg := if s.rd F.MNT_STATUS_STATE 0 = 2 then s.mnt.img else none

/-- R255: a byte of the TRIG payload in force; without an image every TRIGOUT takes all leaves, every TRIGIN is enabled, nothing is
exported or imported. -/
def State.trigByte (s : State) (i : Nat) : Nat :=
  match s.image with
  | some g => (g.trig.getD i 0).toNat
  | none => if i < 8 then 0xFF else if i = 9 then 0x0F else 0

/-- R249: the members of a local group. -/
def MntImg.members (g : MntImg) (u : Nat) : Option (List Nat) := (g.groups.find? (fun e => e.1 == u)).map (·.2)

/-- R250: the unit exists in the image. -/
def MntImg.has (g : MntImg) (u : Nat) : Bool := g.leaves.contains u || g.groups.any (fun e => e.1 == u)

/-- R14: the local group that has the unit as a member. -/
def MntImg.parent (g : MntImg) (u : Nat) : Option Nat := (g.groups.find? (fun e => e.2.contains u)).map (·.1)

/-- R251: the cluster group that has the local unit as a member. -/
def MntImg.cgOf (g : MntImg) (u : Nat) : Option CGroup := g.cgs.find? (fun c => c.locals.contains u)

/-- R15: the leaves of a local unit, by at most `fuel` levels. -/
def MntImg.leavesOf (g : MntImg) : Nat → Nat → List Nat
  | 0, u => if u < 16 then [u] else []
  | fuel + 1, u =>
    if u < 16 then [u]
    else match g.members u with
      | none => []
      | some l => l.flatMap (g.leavesOf fuel)

/-- R15: the depth of a local unit. -/
def MntImg.depthOf (g : MntImg) : Nat → Nat → Nat
  | 0, _ => 0
  | fuel + 1, u =>
    match g.members u with
    | none => 0
    | some l => 1 + (l.map (g.depthOf fuel)).foldl max 0

/-- R251: the cluster groups enclosed by `c`, itself among them, that this module declares. -/
def MntImg.cgsIn (g : MntImg) : Nat → Nat → List CGroup
  | 0, _ => []
  | fuel + 1, c =>
    (g.cgs.filter (fun x => x.cunit == c)) ++
    (g.cgs.filter (fun x => x.parent == some c)).flatMap (fun x => g.cgsIn fuel x.cunit)

/-- Leaves in ascending order. -/
def sortLeaves (l : List Nat) : List Nat := (List.range 16).filter (fun i => l.contains i)

/-- R16: this module's leaves of a unit (by cell index), in ascending order. -/
def State.leavesOf (s : State) (u : Nat) : List Nat :=
  match s.image with
  | none => []
  | some g =>
    if u < 256 then (if g.has u then sortLeaves (g.leavesOf 16 u) else [])
    else sortLeaves (((g.cgsIn 17 (u - 256)).flatMap (·.locals)).flatMap (g.leavesOf 16))

/-- R110: the outermost local unit that contains a unit. -/
def MntImg.outerLocal (g : MntImg) : Nat → Nat → Nat
  | 0, u => u
  | fuel + 1, u => match g.parent u with | none => u | some p => g.outerLocal fuel p

/-- R251: the outermost cluster group that encloses a cluster group. -/
def MntImg.outerCg (g : MntImg) : Nat → Nat → Nat
  | 0, c => c
  | fuel + 1, c =>
    match (g.cgs.find? (fun x => x.cunit == c)).bind (·.parent) with
    | none => c
    | some p => g.outerCg fuel p

/-- R110: the outermost unit (cell index) that contains a local unit. -/
def State.outerOf (s : State) (u : Nat) : Nat :=
  match s.image with
  | none => u
  | some g =>
    let o := g.outerLocal 16 u
    match g.cgOf o with
    | none => o
    | some c => 256 + g.outerCg 17 c.cunit

/-- R13, R252: the unit's window exists: a local unit of the mounted image, or a cluster group the anchor has formed. -/
def State.unitExists (s : State) (u : Nat) : Bool :=
  if u < 256 then (match s.image with | none => false | some g => g.has u)
  else s.on F.ID_CG_FORMED (u - 256) && s.on F.ID_LEASE_HELD 0

/-- R14: the unit belongs to a group; a cluster group also where another module's declaration says so. -/
def State.isMember (s : State) (u : Nat) : Bool :=
  (match s.image with
  | none => false
  | some g =>
    if u < 256 then (g.parent u).isSome || (g.cgOf u).isSome
    else ((g.cgs.find? (fun x => x.cunit == u - 256)).bind (·.parent)).isSome) ||
  (decide (256 ≤ u) && ((s.clu.groups.find? (fun g => g.cunit == u - 256)).bind (·.parent)).isSome)

/-- A leaf sequencer's state. -/
def State.leaf (s : State) (l : Nat) : Leaf := (Table.get? s.leaves l).getD {}

/-- A leaf sequencer's state, set. -/
def State.setLeaf (s : State) (l : Nat) (x : Leaf) : State := { s with leaves := Table.set s.leaves l x }

/-- A leaf's bead cache. -/
def State.cache (s : State) (l : Nat) : Cache := (Table.get? s.caches l).getD {}

/-- A leaf's bead cache, set. -/
def State.setCache (s : State) (l : Nat) (x : Cache) : State := { s with caches := Table.set s.caches l x }

/-- A leaf's micro-engine. -/
def State.eng (s : State) (l : Nat) : Engine := (Table.get? s.engines l).getD {}

/-- A leaf's micro-engine, set. -/
def State.setEng (s : State) (l : Nat) (x : Engine) : State := { s with engines := Table.set s.engines l x }

/-- A unit's start and host jump. -/
def State.unit (s : State) (u : Nat) : UnitSt := (Table.get? s.units u).getD {}

/-- A unit's start and host jump, set. -/
def State.setUnit (s : State) (u : Nat) (x : UnitSt) : State := { s with units := Table.set s.units u x }

/-- R17: the STATE of a group (0 IDLE, 1 RUNNING, 2 DONE, 3 ABORTED) whose members have these. -/
def groupState (st : List Nat) : Nat :=
  if st.contains 3 then 3 else if st.contains 1 then 1 else if st ≠ [] ∧ st.all (· == 2) then 2 else 0

/-- R161: the modules that hold members of a cluster group the anchor has announced. -/
def State.cluMods (s : State) (c : Nat) : List Nat :=
  match s.clu.groups.find? (fun g => g.cunit == c) with
  | some g => maskList 16 g.modmask
  | none => []

/-- R161: the snapshots of a member module's part of a cluster group, newest first. -/
def State.parts (s : State) (c m : Nat) : List (Nat × List Nat) := (Table.get? s.clu.parts (c * 16 + m)).getD []

/-- R161: a module's part of a cluster group in the snapshot of a tick; the last 8 are kept. -/
def State.addPart (s : State) (c m tick : Nat) (w : List Nat) : State :=
  { s with clu := { s.clu with parts := Table.set s.clu.parts (c * 16 + m) (((tick, w) :: s.parts c m).take 8) } }

/-- R17, R289: the states of a cluster group's parts on other modules, as their last snapshots that have come in show them. -/
def State.farStates (s : State) (c : Nat) : List Nat :=
  ((s.cluMods c).filter (· != s.module)).filterMap (fun m => ((s.parts c m).head?).map (fun e => bits (e.2.getD 0 0) 0 3))

/-- R17: a unit's STATE composed from this module's leaves alone. -/
def State.ownState (s : State) (u : Nat) : Nat :=
  if u < 16 then s.rd F.UNIT_STATUS_STATE u else groupState ((s.leavesOf u).map (s.rd F.UNIT_STATUS_STATE))

/-- R17: a unit's STATE (0 IDLE, 1 RUNNING, 2 DONE, 3 ABORTED), composed from this module's leaves and, for a cluster group, what is known
of the other member modules. -/
def State.unitState (s : State) (u : Nat) : Nat :=
  if u < 16 then s.rd F.UNIT_STATUS_STATE u
  else groupState ((s.leavesOf u).map (s.rd F.UNIT_STATUS_STATE) ++ (if u < 256 then [] else s.farStates (u - 256)))

/-- R88: the unit has a start pending. -/
def State.startPending (s : State) (u : Nat) : Bool := (s.unit (s.outerOf u)).pending.isSome

/-- The unit is RUNNING or start-pending, by its outermost unit (R111, R157). -/
def State.unitBusy (s : State) (u : Nat) : Bool :=
  let o := s.outerOf u
  s.startPending o || (s.leavesOf o).any (fun l => s.rd F.UNIT_STATUS_STATE l == 1)

/-- R157: some unit of the module is RUNNING or start-pending. -/
def State.anyBusy (s : State) : Bool :=
  match s.image with
  | none => false
  | some g => g.leaves.any (fun l => s.unitBusy l) || g.groups.any (fun e => s.startPending e.1)

/-- R62: the descriptor of a strand, as a 256-bit word. -/
def State.desc (s : State) (id : Nat) : Nat := (Table.get? s.strands.table id).getD 0

/-- R62: the fields of a descriptor. -/
def dStart (d : Nat) : Nat := bits d 0 32
def dLen (d : Nat) : Nat := bits d 32 25
def dNext (d : Nat) : Nat := bits d 64 16
def dEnd (d : Nat) : Bool := d.testBit 80
def dTrigOut (d : Nat) : Nat := bits d 96 4
def dTrigCluster (d : Nat) : Bool := d.testBit 100
def dTrigOff (d : Nat) : Nat := bits d 104 24
def dSafe (d : Nat) : Nat := bits d 128 24
def dHold (d : Nat) : Bool := d.testBit 152
def dRes (d : Nat) : Nat := bits d 153 2
def dHome (d : Nat) : Nat := bits d 160 4
def dReplica (d : Nat) : Nat := bits d 164 4
def dRepValid (d : Nat) : Bool := d.testBit 168

/-- A descriptor with the planner's bits set. -/
def dPlanned (d res home replica : Nat) (valid : Bool) : Nat :=
  pack [(0, 153, bits d 0 153), (153, 2, res), (160, 4, home), (164, 4, replica), (168, 1, bit valid)]

/-- The descriptor of a strand, replaced. -/
def State.setDesc (s : State) (id d : Nat) : State :=
  let t := s.strands.table
  let t' := if d = 0 then Table.erase t id else Table.set t id d
  { s with strands := { s.strands with table := t' } }

/-- A fresh free value (a value the spec leaves open), and the state that has used it. -/
def State.fresh (s : State) : State × Nat := ({ s with free := s.free + 1 }, Config.freeValue s.free)

/-! ### Units as they read, and the snapshot (R17, R27, R28, R161, R407) -/

/-- R17, R96: UNIT_STATUS of a unit on this module: a leaf's own, or composed from the member leaves: flag bits ORed, CAUSE of the
lowest member that has one, the place of the lowest member. -/
def State.unitStatus (s : State) (u : Nat) : Nat :=
  let ls := if u < 16 then [u] else s.leavesOf u
  let low := ls.headD 0
  let any (f : Fld) : Nat := bit (ls.any (s.on f))
  let cause := ((ls.map (s.rd F.UNIT_STATUS_CAUSE)).find? (· != 0)).getD 0
  pack [(0, 3, s.ownState u), (3, 1, bit (s.startPending u)), (4, 1, any F.UNIT_STATUS_LATE_ABORT),
        (5, 1, any F.UNIT_STATUS_TIMING_BROKEN), (6, 1, any F.UNIT_STATUS_UNDERRUN), (7, 1, any F.UNIT_STATUS_VCOUNT_WRAP),
        (8, 1, any F.UNIT_STATUS_HOLDING), (16, 8, cause), (24, 16, s.rd F.UNIT_STATUS_CUR_STRAND low),
        (40, 24, s.rd F.UNIT_STATUS_CUR_BEAD low)]

/-- R3: a register's word, each field that has a cell at the cell's value. -/
def packSlots (v : Fld → Nat) (l : List Slot) : Nat :=
  pack (l.map (fun (x : Slot) => (x.lo, x.w, match x.cell with | some f => v f | none => 0)))

/-- Copy `i` of a register, from its cells. -/
def State.cells (s : State) (r : RegN) (i : Nat) : Nat := packSlots (fun f => s.rd f i) r.desc.slots

/-- The leaves that a unit's registers are composed from. -/
def State.partsOf (s : State) (u : Nat) : List Nat := if u < 16 then [u] else s.leavesOf u

/-- R161: a saturating sum of member counts. -/
def satSum (l : List Nat) : Nat := min (l.foldl (· + ·) 0) (2 ^ 32 - 1)

/-- R161: UNIT_PFAIL_j of a unit. -/
def State.unitPfail (s : State) (u j : Nat) : Nat := satSum ((s.partsOf u).map (fun l => s.rd F.UNIT_PFAIL_COUNT (l * 9 + j)))

/-- R161: UNIT_FVEC of a unit. -/
def State.unitFvec (s : State) (u : Nat) : Nat := satSum ((s.partsOf u).map (s.rd F.UNIT_FVEC_COUNT))

/-- R161: the member leaf with the lowest failing position. -/
def State.unitFirst (s : State) (u : Nat) : Option Nat :=
  ((s.partsOf u).filter (s.on F.UNIT_FF_POS_VALID)).foldl (fun (a : Option Nat) l =>
    match a with
    | none => some l
    | some b => if s.rd F.UNIT_FF_POS_VINDEX l < s.rd F.UNIT_FF_POS_VINDEX b then some l else some b) none

/-- R161: a first-fail register of a unit. -/
def State.unitFf (s : State) (r : RegN) (u : Nat) : Nat := match s.unitFirst u with | some l => s.cells r l | none => 0

/-- R161: UNIT_FSTAT of a unit. -/
def State.unitFstat (s : State) (u : Nat) : Nat :=
  let any (f : Fld) : Nat := bit ((s.partsOf u).any (s.on f))
  packSlots any RegN.UNIT_FSTAT.desc.slots

/-- R96: a position register of a unit: the lowest member leaf's. -/
def State.unitLow (s : State) (r : RegN) (u : Nat) : Nat := match (s.partsOf u).head? with | some l => s.cells r l | none => 0

/-- R407: a unit's record in the snapshot. -/
def State.snapRec (s : State) (u : Nat) : List Nat :=
  [s.unitStatus u, s.unitLow .UNIT_VCOUNT u] ++ (List.range 9).map (s.unitPfail u)
    ++ [s.unitFvec u, s.unitFf .UNIT_FF_POS u, s.unitFf .UNIT_FF_WHERE u, s.unitFf .UNIT_FF_TICK u, s.unitFstat u]

/-- R161, R17: the record of a cluster group, composed from the records of its parts in order of module. -/
def composeRec (ws : List (List Nat)) : List Nat :=
  let w (k : Nat) : List Nat := ws.map (fun r => r.getD k 0)
  let low := ws.headD []
  let first := (ws.filter (fun r => (r.getD 12 0).testBit 48)).foldl (fun (a : List Nat) r =>
    if a = [] ∨ bits (r.getD 12 0) 0 48 < bits (a.getD 12 0) 0 48 then r else a) []
  let or_ (l : List Nat) : Nat := l.foldl (· ||| ·) 0
  [pack [(0, 3, groupState ((w 0).map (fun x => bits x 0 3))), (3, 6, bits (or_ (w 0)) 3 6),
         (16, 8, (((w 0).map (fun x => bits x 16 8)).find? (· != 0)).getD 0), (24, 40, bits (low.getD 0 0) 24 40)], low.getD 1 0]
    ++ (List.range 10).map (fun k => satSum (w (k + 2))) ++ [first.getD 12 0, first.getD 13 0, first.getD 14 0, or_ (w 15)]

/-- R161: the record of a cluster group at the anchor: of the newest tick whose snapshot has come from every member module. -/
def State.cluRec (s : State) (c : Nat) : List Nat :=
  let ms := s.cluMods c
  let has (m t : Nat) : Option (List Nat) := ((s.parts c m).find? (fun e => e.1 == t)).map (·.2)
  match ms with
  | [] => []
  | m :: _ =>
    match (s.parts c m).find? (fun e => ms.all (fun k => (has k e.1).isSome)) with
    | some e => composeRec (ms.map (fun k => (has k e.1).getD []))
    | none => []

/-- R408: GLB_STATE as it reads. -/
def State.glbState (s : State) : Nat :=
  pack [(0, 3, s.mstate), (4, 3, s.rd F.ID_STAT_STATE 0), (7, 1, s.rd F.ID_LEASE_HELD 0), (8, 4, s.rd F.ID_STAT_MODULE 0)]

/-- R27: the copy of the covered state into the back bank. -/
def State.snapCopy (s : State) : State :=
  let us := match s.image with
    | some g => g.leaves ++ g.groups.map (fun (e : Nat × List Nat) => e.1) ++ g.cgs.map (fun (x : CGroup) => 256 + x.cunit)
    | none => []
  let recs := us.foldl (fun (t : Table (List Nat)) u => Table.set t u (s.snapRec u)) []
  { s with snap := { s.snap with back := { tick := s.tick, glb := s.glbState, recs := recs }, fresh := true } }

/-- R112: the values of a leaf's engine as they are visible, but for the U registers. -/
def State.shownCtx (s : State) (l : Nat) : Ctx := (Table.get? s.shown l).getD {}

/-- R112: an engine's values made visible: MC_UREG, the CB bits, flags and micro loops. -/
def State.reveal (s : State) (l : Nat) (c : Ctx) : State :=
  { s with shown := Table.set s.shown l { c with u := [] } }.wrs (c.u.map (fun (e : Nat × Nat) => (F.MC_UREG_VALUE, l * 16 + e.1, e.2)))

/-- R101, R112: the commits whose effects register at `t` or before become visible, in order. -/
def State.showDue (s : State) (t : Nat) : State :=
  if s.vis.isEmpty then s
  else
    (s.vis.filter (fun e => decide (e.1 ≤ t))).foldl (fun (s : State) (e : Nat × Nat × Ctx) => s.reveal e.2.1 e.2.2)
      { s with vis := s.vis.filter (fun e => decide (t < e.1)) }

/-- The place inside the tick, moved. When the clock leaves the base-clock edge of a boundary, the back bank takes the state as every
update registered on that edge has left it (R28). -/
def State.subTo (s : State) (n : Nat) : State :=
  (if s.sub = 0 ∧ 0 < n ∧ s.snap.fresh then { s.snapCopy with sub := n } else { s with sub := n }).showDue (tickAt s.tick + n)

/-- The clock moved to an instant of the present tick; it never runs back. -/
def State.goto (s : State) (t : Nat) : State :=
  if s.due t then s.subTo (max s.sub (t - tickAt s.tick)) else s

end Sys2Proof.Machine
end

