-- ==== Sys2Proof/Machine/AcqFeed.lean ====
section
/-! DEFINITION. What the rest of the module hands to the acquisition channels: samples of their sources and occurrences of their
trigger sources (07_acquisition.md R168 to R171, R181). -/

namespace Sys2Proof.Machine

/-- R179: the states of a channel. -/
abbrev aIDLE : Nat := 0
abbrev aFILLING : Nat := 1
abbrev aARMED : Nat := 2
abbrev aTRIGGERED : Nat := 3
abbrev aDONE : Nat := 4
abbrev aSTOPPED : Nat := 5

/-- A channel. -/
def State.acqCh (s : State) (n : Nat) : AcqCh := (Table.get? s.acq.ch n).getD {}

/-- A channel, set. -/
def State.setAcq (s : State) (n : Nat) (x : AcqCh) : State := { s with acq := { s.acq with ch := Table.set s.acq.ch n x } }

/-- ACQ_STAT.STATE of a channel. -/
def State.acqState (s : State) (n : Nat) : Nat := s.rd F.ACQ_STAT_STATE n

/-- R179: a channel collects: it is ARMED_FILLING, ARMED or TRIGGERED. -/
def State.acqLive (s : State) (n : Nat) : Bool := s.acqState n == aFILLING || s.acqState n == aARMED || s.acqState n == aTRIGGERED

/-- R176: a channel is IDLE, DONE or STOPPED: it does not collect, and no arm that has been accepted waits for its boundary. -/
def State.acqQuiet (s : State) (n : Nat) : Bool := !s.acqLive n && (s.acqCh n).armAt.isNone

/-- R167, R176, R179: a channel is not IDLE, which an accepted arm ends. -/
def State.acqHeld (s : State) (n : Nat) : Bool := s.acqState n != aIDLE || (s.acqCh n).armAt.isSome

/-- R167, R176: SRAM pages `lo` to below `hi` touch those of a channel that is not IDLE. -/
def State.acqOverlap (s : State) (lo hi : Nat) : Bool :=
  (List.range 8).any (fun m =>
    s.acqHeld m && s.rd F.ACQ_CFG_SOURCE m != 0 &&
    decide (s.rd F.ACQ_SRAM_BASE m < hi) && decide (lo < s.rd F.ACQ_SRAM_BASE m + s.rd F.ACQ_SRAM_PAGES m))

/-- R188: what the SRAM write port has taken in the base cycle now running, in 1/63 byte. -/
def State.portUsed (s : State) : Nat := if s.acq.port.1 = s.now / cyc then s.acq.port.2 else 0

/-- R188: the write port takes `n` sixty-thirds of a byte. -/
def State.usePort (s : State) (n : Nat) : State := { s with acq := { s.acq with port := (s.now / cyc, s.portUsed + n) } }

/-- A sample put before a channel. -/
def State.pushItem (s : State) (n : Nat) (i : AcqItem) : State :=
  s.setAcq n { s.acqCh n with feed := (s.acqCh n).feed ++ [i] }

/-- The channels that collect from a leaf of a source. -/
def State.watchers (s : State) (source l : Nat) : List Nat :=
  (List.range 8).filter (fun n => s.acqLive n && s.rd F.ACQ_CFG_SOURCE n == source && (s.rd F.ACQ_CFG_LEAFMASK n).testBit l)

/-- R169: the sample of a vector period that a leaf starts. -/
def State.feedPin (s : State) (l vindex start : Nat) : State :=
  (s.watchers 1 l).foldl
    (fun s n => s.pushItem n { leaf := l, inst := start + s.rd F.ACQ_CFG_SOFS n, pos := vindex }) s

/-- R170: a fail record formed in a leaf. -/
def State.feedFail (s : State) (l start word fails : Nat) : State :=
  (s.watchers 2 l).foldl (fun s n => s.pushItem n { leaf := l, inst := start, data := word, val := some (popcount 9 fails : Nat) }) s

/-- R171: a DSA output of a leaf. -/
def State.feedDsa (s : State) (l inst result : Nat) (val : Option Int) : State :=
  (s.watchers 3 l).foldl (fun s n =>
    s.pushItem n { leaf := l, inst := inst, data := pack [(0, 32, result), (32, 4, l), (64, 64, inst)], val := val }) s

/-- R168, R185, R349: a TMU record of a pin, which of a reduction only an edge enters; one from the edges of a calibration procedure reaches no
channel. -/
def State.feedTmu (s : State) (l slot inst word : Nat) (edge : Bool) : State :=
  if s.calBusy then s
  else ((s.watchers 4 l).filter (fun n => (s.rd F.ACQ_CFG_SLOTMASK n).testBit slot)).foldl
    (fun s n => s.pushItem n { leaf := l, inst := inst, data := word, val := if edge then some 0 else none }) s

/-- R186, R173: a STARVE HOLD gap of a leaf begins, for every channel that watches it. -/
def State.feedHoldStart (s : State) (l start : Nat) : State :=
  ([1, 2, 3, 4].flatMap (fun k => s.watchers k l)).foldl (fun s n => s.pushItem n { leaf := l, inst := start, opens := true }) s

/-- R186: a STARVE HOLD gap of a leaf, for every channel that watches it. -/
def State.feedHold (s : State) (l start len : Nat) : State :=
  ([1, 2, 3, 4].flatMap (fun k => s.watchers k l)).foldl
    (fun s n => s.pushItem n { leaf := l, inst := start, gap := some len }) s

/-! ### Occurrences (R181) -/

/-- R181: an occurrence of source `src` for every channel whose qualifier it meets. -/
def State.occurs (s : State) (src t : Nat) (ok : Nat → Bool) : State :=
  ((List.range 8).filter (fun n => s.acqLive n && s.rd F.ACQ_TRIG_SRC n == src && ok n)).foldl
    (fun s n => s.setAcq n { s.acqCh n with occ := (s.acqCh n).occ ++ [{ inst := t }] }) s

/-- The channel's trigger looks at a leaf. -/
def State.trigLeaf (s : State) (l n : Nat) : Bool := (s.rd F.ACQ_TRIG_LEAFMASK n).testBit l

/-- The channel's trigger looks at a slot. -/
def State.trigSlot (s : State) (slot n : Nat) : Bool := (s.rd F.ACQ_TRIG_SLOTMASK n).testBit slot

/-- OPCODE_EVENT: an event code of a leaf. -/
def State.occursEvent (s : State) (l code t : Nat) : State :=
  s.occurs 1 t (fun n => s.trigLeaf l n && s.rd F.ACQ_TRIG_SEL n % 256 == code)

/-- COMPARE: a fail result. -/
def State.occursFail (s : State) (l slot t : Nat) : State := s.occurs 2 t (fun n => s.trigLeaf l n && s.trigSlot slot n)

/-- DSA_THR: a threshold crossing. -/
def State.occursThr (s : State) (l t : Nat) : State := s.occurs 3 t (s.trigLeaf l)

/-- TMU_EVENT: a window event of a pin. -/
def State.occursWin (s : State) (l slot t : Nat) : State := s.occurs 4 t (fun n => s.trigLeaf l n && s.trigSlot slot n)

/-- TRIGIN: a rising edge. -/
def State.occursTrigin (s : State) (j t : Nat) : State := s.occurs 5 t (fun n => s.rd F.ACQ_TRIG_SEL n % 4 == j)

/-- CLUSTER_STRAND: a strand trigger of some module of the cluster. -/
def State.occursStrand (s : State) (strand t : Nat) : State := s.occurs 6 t (fun n => s.rd F.ACQ_TRIG_SEL n == strand)

/-- CLUSTER_XTRIG: the trigger of a channel of some module. -/
def State.occursXtrig (s : State) (module chan t : Nat) : State :=
  s.occurs 7 t (fun n => s.rd F.ACQ_TRIG_SEL n % 16 == module && s.rd F.ACQ_TRIG_SEL n / 16 % 8 == chan)

/-- START: the start of a unit. -/
def State.occursStart (s : State) (u t : Nat) : State :=
  if u < 256 then s.occurs 8 t (fun n => s.rd F.ACQ_TRIG_SEL n % 256 == u) else s

/-- R105, R181: an opcode event made visible: it occurs at its vector's period start, at once when the vector has issued. -/
def State.opEvent (s : State) (l qid code : Nat) : State :=
  match (s.leaf l).vrecs.find? (fun v => v.qid == qid) with
  | some v => s.occursEvent l code v.start
  | none =>
    match (s.leaf l).cur with
    | some c =>
      if c.qid = qid then s.occursEvent l code c.start
      else { s with acq := { s.acq with events := s.acq.events ++ [(l, qid, code)] } }
    | none => { s with acq := { s.acq with events := s.acq.events ++ [(l, qid, code)] } }

/-- R181: a vector issues: the events it has raised occur at its period start. -/
def State.flushEvents (s : State) (l qid t : Nat) : State :=
  let mine := s.acq.events.filter (fun e => e.1 == l && e.2.1 == qid)
  let s1 := { s with acq := { s.acq with events := s.acq.events.filter (fun e => !(e.1 == l && e.2.1 == qid)) } }
  mine.foldl (fun (s : State) e => s.occursEvent l e.2.2 t) s1

end Sys2Proof.Machine
end

