-- ==== Sys2Proof/Machine/Operands.lean ====
section
/-! DEFINITION. The operand forms: pin states in bytes (R35, R41 to R43), the vector word and bead header (R47, R51), what a
timing set gives a pin (R127, R128), the microword and its operands (R105, R107), microword and dispatch fields (R103). -/

namespace Sys2Proof.Machine

/-! ### Vectors -/

/-- R35: the state a code names. -/
def psOf (c : Nat) : PS :=
  if c = 0 then .d0 else if c = 1 then .d1 else if c = 2 then .dz else if c = 3 then .cl else if c = 4 then .ch else .x

/-- R41: the three states of a byte of 0 to 215. -/
def byteStates (b : Nat) : List PS := [psOf (b % 6), psOf (b / 6 % 6), psOf (b / 36)]

/-- R47: byte A, B or C of a vector word (i = 0, 1, 2). -/
def vecByte (w i : Nat) : Nat := bits w (8 * i) 8

/-- R47: the timing set a vector names. -/
def vecTsel (w : Nat) : Nat := bits w 24 4

/-- R47: the opcode of a vector. -/
def vecOp (w : Nat) : Nat := bits w 28 4

/-- R46, R45: the first byte at fault: a value above 216, or a ditto byte where no vector came before. -/
def vecFault (w : Nat) (noPrev : Bool) : Option (Nat × Nat) :=
  ([0, 1, 2].find? (fun i => decide (216 < vecByte w i) || (noPrev && vecByte w i == 216))).map
    (fun i => (i, vecByte w i))

/-- R43, R44: the nine states of a vector, ditto bytes taking the states that came before. -/
def vecStates (prev : List PS) (w : Nat) : List PS :=
  [0, 1, 2].flatMap (fun i =>
    if vecByte w i = 216 then (prev.drop (3 * i)).take 3 else byteStates (vecByte w i))

/-- R50: the word of vector `off` of a bead's payload. -/
def beadWord (payload : List Byte) (off : Nat) : Nat := field payload (4 * off) 4

/-- R51: the fields of a bead header. -/
def hPage (h : Nat) : Nat := bits h 0 4
def hLast (h : Nat) : Bool := h.testBit 4
def hSafept (h : Nat) : Bool := h.testBit 5
def hSeamtrig (h : Nat) : Bool := h.testBit 6
def hReserved (h : Nat) : Nat := bits h 7 9
def hCrc (h : Nat) : Nat := bits h 16 16
def hArg (h i : Nat) : Nat := bits h (32 + 24 * i) 24

/-! ### Timing sets -/

/-- What one set gives one pin (R127). -/
structure PinSet where
  e1 : Nat
  e2 : Nat
  e3 : Nat
  e4 : Nat
  fmt : Nat
  cmode : Nat
  zchk : Bool
  term : Nat
  deriving DecidableEq, Repr

/-- The cell copy of a set of a bank of a leaf. -/
def tsIdx (bank l set : Nat) : Nat := (bank * 16 + l) * 16 + set

/-- The cell copy of a pin of a set. -/
def pinIdx (bank l set slot : Nat) : Nat := tsIdx bank l set * 9 + slot

/-- R127: PERIOD of a set. -/
def State.period (s : State) (bank l set : Nat) : Nat := s.rd F.TS_PERIOD_PERIOD (tsIdx bank l set)

/-- R127: a pin's part of a set. -/
def State.pinSet (s : State) (bank l set slot : Nat) : PinSet :=
  let i := pinIdx bank l set slot
  { e1 := s.rd F.TS_PIN_A_E1 i, e2 := s.rd F.TS_PIN_A_E2 i, e3 := s.rd F.TS_PIN_B_E3 i, e4 := s.rd F.TS_PIN_B_E4 i,
    fmt := s.rd F.TS_PIN_A_FMT i, cmode := s.rd F.TS_PIN_A_CMODE i, zchk := s.on F.TS_PIN_A_ZCHK i,
    term := s.rd F.TS_PIN_A_TERM i }

/-- R127: the offset of edge field k (1 to 4). -/
def PinSet.edge (p : PinSet) (k : Nat) : Nat := if k = 1 then p.e1 else if k = 2 then p.e2 else if k = 3 then p.e3 else p.e4

/-- R128: the drive edges a format uses, in chain order. -/
def driveEdges (fmt : Nat) : List Nat :=
  if fmt = 1 then [1] else if fmt = 2 ∨ fmt = 3 then [1, 2] else if fmt = 4 then [4, 1, 2] else []

/-- R128: the compare edges a compare mode uses. -/
def compareEdges (cmode : Nat) : List Nat := if cmode = 1 then [3] else if cmode = 2 then [3, 4] else []

/-- R38: a compare is active. -/
def cmpActive (st : PS) (p : PinSet) : Bool :=
  (p.cmode == 1 || p.cmode == 2) && (st == .cl || st == .ch || (st == .dz && p.zchk))

/-- R131: the level a placed drive edge commands (true VIH); none where the state drives nothing. -/
def driveLevel (fmt : Nat) (st : PS) (k : Nat) : Option Bool :=
  match st with
  | .d0 => some (if k = 1 then false else if k = 2 then (fmt == 3 || fmt == 4) else true)
  | .d1 => some (if k = 1 then true else if k = 2 then fmt == 3 else false)
  | _ => none

/-- R35, R130, R132, R40: the driver and termination a pin takes at its switch instant; the level is kept where an edge sets
it. -/
def pinTake (old : PinDrv) (fmt term : Nat) (st : PS) : PinDrv :=
  match st with
  | .d0 => if fmt = 0 then { old with on := false, term := term } else { old with on := true, term := 3 }
  | .d1 => if fmt = 0 then { old with on := false, term := term } else { old with on := true, term := 3 }
  | .x => { old with on := false, term := 3 }
  | _ => { old with on := false, term := term }

/-! ### Microwords -/

/-- R105: the fields of a microword. -/
def uSeq (w : Nat) : Nat := bits w 0 3
def uCond (w : Nat) : Nat := bits w 3 6
def uAddr (w : Nat) : Nat := bits w 9 12
def uLoopop (w : Nat) : Nat := bits w 21 3
def uUsrc (w : Nat) : Nat := bits w 24 4
def uUdst (w : Nat) : Nat := bits w 28 4
def uImm (w : Nat) : Nat := bits w 32 16
def uAlu (w : Nat) : Nat := bits w 48 4
def uVact (w : Nat) : Nat := bits w 52 4
def uEvent (w : Nat) : Nat := bits w 56 8
def uCommit (w : Nat) : Bool := w.testBit 64
def uTickwait (w : Nat) : Bool := w.testBit 65
def uSact (w : Nat) : Nat := bits w 66 2
def uTsrc (w : Nat) : Nat := bits w 68 2

/-- R103: the fields of a dispatch entry. -/
def eAddr (e : Nat) : Nat := bits e 0 12
def eFlow (e : Nat) : Bool := e.testBit 12
def eVreq (e : Nat) : Bool := e.testBit 13

/-- R107: the operand a microword names. -/
def uOperand (c : Ctx) (hdr vcount w : Nat) : Nat :=
  let src := uUsrc w
  if src ≤ 3 then hArg hdr src
  else if src = 4 then uImm w
  else if src = 5 then twos 32 (sx 16 (uImm w))
  else if src = 6 then (Table.get? c.u (uImm w % 16)).getD 0
  else vcount % 2 ^ 32

end Sys2Proof.Machine
end

