-- ==== Sys2Proof/Machine/Flags.lean ====
section
/-! DEFINITION. The ALU and its flags (R107), the conditions (R110) and the fold of the leaf flags (R20, R110). -/

namespace Sys2Proof.Machine

/-- U register i of a context. -/
def Ctx.ureg (c : Ctx) (i : Nat) : Nat := (Table.get? c.u i).getD 0

/-- U register i of a context, set to 32 bits. -/
def Ctx.setU (c : Ctx) (i v : Nat) : Ctx := { c with u := Table.set c.u i (v % 2 ^ 32) }

/-- R107: Z and N set by a result, and C as given. -/
def Ctx.flags (c : Ctx) (r : Nat) (carry : Bool) : Ctx :=
  { c with z := r % 2 ^ 32 == 0, n := (r % 2 ^ 32).testBit 31, c := carry }

/-- R107: the ALU: the operation's effect on the working copy. -/
def aluExec (c : Ctx) (op dst operand : Nat) : Ctx :=
  let a := c.ureg dst
  let m := 2 ^ 32
  if op = 1 then (c.setU dst operand).flags operand false
  else if op = 2 then (c.setU dst (a + operand)).flags (a + operand) (decide (m ≤ a + operand))
  else if op = 3 then (c.setU dst (a + m - operand)).flags (a + m - operand) (decide (operand ≤ a))
  else if op = 4 then (c.setU dst (a &&& operand)).flags (a &&& operand) false
  else if op = 5 then (c.setU dst (a ||| operand)).flags (a ||| operand) false
  else if op = 6 then (c.setU dst (a ^^^ operand)).flags (a ^^^ operand) false
  else if op = 7 then
    let k := operand % 32
    (c.setU dst (a * 2 ^ k)).flags (a * 2 ^ k) (if k = 0 then Config.shiftZeroCarry a else a.testBit (32 - k))
  else if op = 8 then
    let k := operand % 32
    (c.setU dst (a / 2 ^ k)).flags (a / 2 ^ k) (if k = 0 then Config.shiftZeroCarry a else a.testBit (k - 1))
  else if op = 9 then c.flags (a + m - operand) (decide (operand ≤ a))
  else if op = 10 then c.flags (a &&& operand) false
  else if op = 11 then { c with cb := operand % 256 }
  else if op = 12 then (c.setU dst (a + m - 1)).flags (a + m - 1) (decide (1 ≤ a))
  else c

/-- R20: a leaf's publication for a tick. -/
def Leaf.pub (x : Leaf) (n : Nat) : Pub := (Table.get? x.pubs n).getD {}

/-- A leaf's publication for a tick, changed. -/
def Leaf.setPub (x : Leaf) (n : Nat) (f : Pub → Pub) : Leaf := { x with pubs := Table.set x.pubs n (f (x.pub n)) }

/-- R292: the flags of several leaves folded: OR in `or_`, AND in `and_`, each as bits 0 FAIL, 1 MATCH, 2 DONE, 3 UNDERRUN,
8 to 15 CB0 to CB7. -/
structure Fold where
  or_ : Nat := 0
  and_ : Nat := 0xFF0F
  deriving DecidableEq, Repr

/-- The flags as bits, for folding. -/
def Flags.word (f : Flags) : Nat :=
  pack [(0, 1, bit f.fail), (1, 1, bit f.matched), (2, 1, bit f.done), (3, 1, bit f.underrun), (8, 8, f.cb)]

/-- One more leaf's flags, or module's partial, folded in. -/
def Fold.add (a : Fold) (o n : Nat) : Fold := { or_ := a.or_ ||| o, and_ := a.and_ &&& n }

/-- R23: the fold of leaf flags. -/
def foldFlags (l : List Flags) : Fold := l.foldl (fun a f => a.add f.word f.word) {}

/-- R110: what a group-wide condition gives on a fold. -/
def groupCond (f : Fold) (cond : Nat) : Bool :=
  if cond = 0x18 then f.or_.testBit 0
  else if cond = 0x19 then f.and_.testBit 0
  else if cond = 0x1A then f.or_.testBit 1
  else if cond = 0x1B then f.and_.testBit 1
  else if cond = 0x1C then f.or_.testBit 3
  else if 0x20 ≤ cond ∧ cond ≤ 0x27 then f.or_.testBit (8 + (cond - 0x20))
  else if 0x28 ≤ cond ∧ cond ≤ 0x2F then f.and_.testBit (8 + (cond - 0x28))
  else false

/-- R110: the group-wide conditions. -/
def isGroupCond (c : Nat) : Bool := decide (0x18 ≤ c) && decide (c ≤ 0x2F)

/-- R110: the conditions in class "journalled". -/
def isJournalled (c : Nat) : Bool :=
  (decide (0x02 ≤ c) && decide (c ≤ 0x05)) || (isGroupCond c && c != 0x1D && c != 0x1E && c != 0x1F)
  || (decide (0x30 ≤ c) && decide (c ≤ 0x39)) || c == 0x3B

/-- R105, R110: the reserved condition codes. -/
def condReserved (c : Nat) : Bool :=
  c == 0x0F || (decide (0x1D ≤ c) && decide (c ≤ 0x1F)) || decide (0x3D ≤ c)

end Sys2Proof.Machine
end

