-- ==== Sys2Proof/Machine/Fail.lean ====
section
/-! DEFINITION. Compare results, fail records, counters, first fail, stop on fail and the fail-log ring (06_compare.md). -/

namespace Sys2Proof.Machine

/-- R149: the observed state of comparator outputs (CL reports, CH reports). -/
def obsCode (cl ch : Bool) : Nat := if ch then 2 else if cl then 1 else 3

/-- R36: the compare of a state passes on the comparator outputs. -/
def cmpPass (st : PS) (cl ch : Bool) : Bool :=
  match st with
  | .cl => cl
  | .ch => ch
  | .dz => !cl && !ch
  | _ => false

/-- R163: the first instant from which a stop on fail with this trigger ends the run. -/
def stopFrom (mode trig : Nat) : Nat := if mode = 2 then edgeUp trig else edgeUp (trig + 16 * cyc)

/-- R162, R163: a stop on fail asked of a leaf. -/
def stopReq (mode trig srcUnit srcModule : Nat) : AbortReq :=
  { notBefore := stopFrom mode trig, cause := 0x0C, atBead := mode == 2, srcUnit := srcUnit, srcModule := srcModule,
    srcCause := 0x0C }

/-- R150, R158, R162: the first fail result of a vector counts it, and the THRESH-th failing vector sets the trigger: at once
for a leaf alone, published with the tick's flags for a member of a group. -/
def State.countFailVec (s : State) (l t : Nat) : State :=
  let s1 := s.bump F.UNIT_FVEC_COUNT l 1 F.UNIT_FSTAT_SAT l 6 (l * 0x1000 + 0x0C8)
  let x := s1.leaf l
  let n := x.runVecFails + 1
  let x1 := { x with runVecFails := n }
  let mode := s1.rd F.UNIT_FSTOP_MODE x.unit
  if mode ≠ 0 ∧ n = s1.rd F.UNIT_FSTOP_THRESH x.unit ∧ (x.phase = .play ∨ x.phase = .ended) then
    if x.unit < 16 then
      s1.setLeaf l { x1 with aborts := x1.aborts ++ [stopReq mode t l s1.module], stopHit := some t }
    else s1.setLeaf l (x1.setPub (tickOf t) (fun p => { p with stop := some (match p.stop with | none => t | some a => min a t) }))
  else s1.setLeaf l x1

/-- R159, R160: the first-fail registers hold this vector: same position, same tick (with ACCUM the position alone may be that of
an earlier run). -/
def State.ffIs (s : State) (l : Nat) (v : VRec) : Bool :=
  s.on F.UNIT_FF_POS_VALID l && s.rd F.UNIT_FF_POS_VINDEX l == v.vindex && s.rd F.UNIT_FF_TICK_TICK l == tickOf v.recAt

/-- R159: the first-fail registers take a failing vector that lies before the one they hold, and each further fail of that one. -/
def State.firstFail (s : State) (l : Nat) (v : VRec) : State :=
  if s.on F.UNIT_FF_POS_VALID l && decide (s.rd F.UNIT_FF_POS_VINDEX l ≤ v.vindex) && !s.ffIs l v then s
  else s.wrs [(F.UNIT_FF_POS_VINDEX, l, v.vindex), (F.UNIT_FF_POS_VALID, l, 1), (F.UNIT_FF_POS_LEAF, l, l),
              (F.UNIT_FF_POS_MODULE, l, s.module), (F.UNIT_FF_WHERE_STRAND, l, v.strand), (F.UNIT_FF_WHERE_BEAD, l, v.bead),
              (F.UNIT_FF_WHERE_VOFF, l, v.off), (F.UNIT_FF_WHERE_PMASK, l, v.fails), (F.UNIT_FF_TICK_TICK, l, tickOf v.recAt)]

/-- R152: a fail record, its FIRST and DROPPED_BEFORE bits still 0. -/
def failWord (l : Nat) (rep : Bool) (v : VRec) : Nat :=
  pack [(0, 16, v.strand), (16, 40, v.vindex), (56, 9, v.fails), (65, 18, v.obs), (83, 4, l), (89, 1, bit rep),
        (96, 8, v.vindex / 2 ^ 40), (104, 24, tickOf v.recAt)]

/-- R152: the vector index of a fail record. -/
def failIndex (w : Nat) : Nat := bits w 16 40 + 2 ^ 40 * bits w 96 8

/-- R154: a record put into the queue, in order of record instant, then of leaf, then of vector. -/
def flInsert (q : List (Nat × Nat)) (e : Nat × Nat) : List (Nat × Nat) :=
  match q with
  | [] => [e]
  | a :: t =>
    if e.1 < a.1 ∨ (e.1 = a.1 ∧ failIndex e.2 < failIndex a.2) then e :: a :: t else a :: flInsert t e

/-- R150, R155: the record of a failing vector, formed at its record instant. -/
def State.formRecord (s : State) (l : Nat) (v : VRec) : State :=
  if (s.rd F.FL_CFG_LEAF_EN 0).testBit l then
    let s := s.feedFail l v.start (failWord l (s.leaf l).replay v + bit ((s.leaf l).minFail == some v.vindex) * 2 ^ 87) v.fails
    if s.fl.queue.length < 256 then
      { s with fl := { s.fl with queue := flInsert s.fl.queue (v.recAt * 16 + l, failWord l (s.leaf l).replay v) } }
    else
      let s1 := s.bump F.FL_DROPPED_COUNT 0 1 F.FL_STATUS_SAT 0 8 0x20
      (s1.setLeaf l { s1.leaf l with flLost := true }).wr F.UNIT_FSTAT_FL_LOST l 1
  else s

/-- The vectors a routine or the queue can still ask about. -/
def keepRecs (refs : List Nat) (l : List VRec) : List VRec := l.filter (fun v => !v.done || refs.contains v.qid)

/-- The vectors that routines dispatched or running name. -/
def State.refs (s : State) (l : Nat) : List Nat :=
  let e := s.eng l
  (e.fifo.map (·.qid)) ++ (match e.run with | none => [] | some r => [r.d.qid])
    ++ (match (s.leaf l).cur with | none => [] | some c => [c.qid])

/-- R150, R20: a vector whose compares are all past their instants: its fail record, or MATCH in the tick of its record instant. -/
def State.finishVec (s : State) (l : Nat) (v : VRec) : State :=
  if v.done || !v.cmps.isEmpty then s
  else
    let x := s.leaf l
    let v' := { v with done := true }
    let x1 := { x with vrecs := keepRecs (s.refs l) (x.vrecs.map (fun w => if w.vindex = v.vindex then v' else w)) }
    if v.fails ≠ 0 then (s.setLeaf l x1).formRecord l v'
    else if v.passes ≠ 0 then
      s.setLeaf l (x1.setPub (tickOf v.recAt) (fun p => { p with flags := { p.flags with matched := true } }))
    else s.setLeaf l x1

/-- R149, R158: one compare of a vector formed at its instant: pass or fail, the observed state, the counters and the leaf's
FAIL flag. -/
def State.formCmp (s : State) (l : Nat) (v : VRec) (c : Cmp) : State :=
  let (pass, obs) : Bool × Nat :=
    if c.supp then (false, 0)
    else
      let (a, b) := c.sample.getD (false, false)
      match c.window, c.exc with
      | true, some (ea, eb) => (false, obsCode ea eb)
      | _, _ => (cmpPass c.state a b, obsCode a b)
  let v1 := { v with cmps := v.cmps.erase c, formed := max v.formed c.inst, obs := v.obs + obs * 2 ^ (2 * c.slot),
                     fails := if pass then v.fails else v.fails + 2 ^ c.slot, passes := if pass then v.passes + 1 else v.passes }
  let x := s.leaf l
  let put (s : State) (w : VRec) : State :=
    s.setLeaf l { s.leaf l with vrecs := (s.leaf l).vrecs.map (fun d => if d.vindex = w.vindex then w else d) }
  if pass then (put s v1).finishVec l v1
  else
    let s1 := put s v1
    let x1 := (s1.leaf l).setPub (tickOf c.inst) (fun p => { p with flags := { p.flags with fail := true } })
    let s2 := s1.setLeaf l { x1 with runFails := x1.runFails + 1,
                                     beadFails := if v.beadSeq = x.beadSeq then x1.beadFails + 1 else x1.beadFails,
                                     minFail := some (match x1.minFail with | none => v.vindex | some m => min m v.vindex) }
    let s3 := s2.bump F.UNIT_PFAIL_COUNT (l * 9 + c.slot) 1 F.UNIT_FSTAT_SAT l 6 (l * 0x1000 + 0x080 + 8 * c.slot)
    let s4 := (if v.fails = 0 then s3.countFailVec l c.inst else s3).occursFail l c.slot v.start
    (s4.firstFail l v1).finishVec l v1

/-- R110: a compare that forms no result is past its instant. -/
def State.passCmp (s : State) (l : Nat) (v : VRec) (c : Cmp) : State :=
  let v1 := { v with cmps := v.cmps.erase c, formed := max v.formed c.inst }
  let x := s.leaf l
  (s.setLeaf l { x with vrecs := x.vrecs.map (fun d => if d.vindex = v.vindex then v1 else d) }).finishVec l v1

/-- The compare of a pin of a leaf whose instant comes next. -/
def nextCmp (recs : List VRec) (slot : Nat) : Option (VRec × Cmp) :=
  (recs.flatMap (fun v => ((if v.done then [] else v.cmps).filter (fun c => c.slot == slot)).map (fun c => (v, c)))).foldl
    (fun a e => match a with
      | none => some e
      | some b => if e.2.inst < b.2.inst then some e else a) none

/-- A compare whose sample has been taken, or that needs none. -/
def Cmp.ready (c : Cmp) : Bool := c.supp || (c.sample.isSome && (!c.window || c.closed))

/-- COMPARE_RESULT (R21, R149, R110): the next result of a pin forms, 12 base cycles after its strobe or window close; a masked compare
forms none there, and counts as formed. -/
def compareResult (l slot : Nat) (s : State) : State :=
  match nextCmp (s.leaf l).vrecs slot with
  | none => s
  | some (v, c) =>
    if s.due c.inst then
      if !c.counts then (s.goto c.inst).passCmp l v c
      else if c.ready then (s.goto c.inst).formCmp l v c
      else s
    else s

/-- COMPARE_RESULT. -/
def execCompareResult (l : Fin 16) (slot : Fin 9) (s : State) : Host.Outcome State Fault Refusal :=
  .next (compareResult l.val slot.val s)

/-! ### The ring -/

/-- R153: the capacity of the ring, in records. -/
def State.flCap (s : State) : Nat := s.rd F.FL_CFG_RING_64K 0 * 4096

/-- R154: the records in the ring. -/
def State.flOcc (s : State) : Nat := (s.rd F.FL_WR_WR 0 + 2 ^ 32 - s.rd F.FL_RD_RD 0) % 2 ^ 32

/-- FL_STATUS as it reads. -/
def State.flStatus (s : State) : Nat :=
  pack [(0, 19, s.flOcc), (19, 1, bit (decide (s.flCap ≤ s.flOcc))), (20, 1, s.rd F.FL_STATUS_SAT 0)]

/-- R164: whether the watermark stands. -/
def State.flMark (s : State) : State :=
  let lev := s.rd F.FL_WMARK_LEVEL 0
  let reached := decide (lev ≠ 0) && decide (lev ≤ s.flOcc)
  let s1 := { s with fl := { s.fl with above := reached } }
  if reached && !s.fl.above then s1.raise 0x81 0 s1.flStatus 0 else s1

/-- R154, R188: the writer can take the record at the head of the queue: its instant has come, no other was taken in this base cycle, and
the SRAM's write port has 16 bytes left in it. -/
def State.flReady (s : State) (key : Nat) : Bool :=
  decide (key / 16 ≤ s.now) && s.fl.wrote != some (s.now / cyc) && decide (s.portUsed + 1008 ≤ 4032)

/-- R154, R155: one queued record taken by the writer: lost to the leaf's limit, lost to a full ring, or written. -/
def failLogWrite (s : State) : State :=
  match s.fl.queue with
  | [] => s
  | (key, w) :: t =>
    if s.flReady key then
    let l := key % 16
    let s0 := { s with fl := { s.fl with queue := t, wrote := some (s.now / cyc) } }
    let x := s0.leaf l
    let lim := s0.rd F.FL_LIMIT_MAX l
    let lose (s : State) : State :=
      (s.setLeaf l { s.leaf l with flLost := true }).wr F.UNIT_FSTAT_FL_LOST l 1
    if lim ≠ 0 ∧ lim ≤ x.flCount then
      (lose s0).bump F.FL_LIMITED_COUNT 0 1 F.FL_STATUS_SAT 0 8 0x28
    else if s0.flCap ≤ s0.flOcc then
      let s1 := (lose s0).bump F.FL_DROPPED_COUNT 0 1 F.FL_STATUS_SAT 0 8 0x20
      if s1.fl.fullEp then s1 else { s1 with fl := { s1.fl with fullEp := true } }.raise 0x80 0 s1.flStatus 0
    else
      let first := x.minFail == some (failIndex w)
      let w' := w + bit first * 2 ^ 87 + bit x.flLost * 2 ^ 88
      let n := s0.rd F.FL_WR_WR 0
      let s1 := { s0 with sram := { s0.sram with mem := memWrite s0.sram.mem (16 * (n % s0.flCap)) (toBytes 16 w') } }.usePort 1008
      let s2 := s1.wr F.FL_WR_WR 0 (n + 1)
      (s2.setLeaf l { s2.leaf l with flCount := (s2.leaf l).flCount + 1, flLost := false }).flMark
    else s

/-- FAIL_LOG_WRITE: the writer takes one record, one base cycle long. -/
def execFailLogWrite (s : State) : Host.Outcome State Fault Refusal := .next (failLogWrite s)

/-- R157: the ring reset. -/
def State.flReset (s : State) : State :=
  { (s.wr F.FL_WR_WR 0 0).wr F.FL_RD_RD 0 0 with
    fl := { s.fl with fullEp := false, above := false } }

/-- R157: a write of FL_CTL. -/
def wrFlCtl (s : State) (data : Nat) : State × Ans :=
  if data.testBit 0 then
    if s.anyBusy then (s, .rejected rSTATE 0) else (s.flReset, .ok)
  else (s, .ok)

/-- R157, R164: a write of FL_CFG. -/
def wrFlCfg (s : State) (data : Nat) : State × Ans :=
  let r := bits data 0 7
  if bits data 7 9 ≠ 0 ∨ 2 ^ 32 ≤ data then (s, .rejected rRESERVED_BIT 0)
  else if r < 1 ∨ 64 < r then (s, .rejected rRANGE 0)
  else if s.anyBusy then (s, .rejected rSTATE 0)
  else if s.acqOverlap 0 (16 * r) then (s, .rejected rSTATE 0)
  else
    let changed := decide (r ≠ s.rd F.FL_CFG_RING_64K 0)
    let s1 := s.wrs [(F.FL_CFG_RING_64K, 0, r), (F.FL_CFG_LEAF_EN, 0, bits data 16 16)]
    (if changed then s1.flReset else s1, .ok)

/-- R156: a write of FL_RD: accepted between the old FL_RD and FL_WR, modulo 2³². -/
def wrFlRd (s : State) (data : Nat) : State × Ans :=
  if 2 ^ 32 ≤ data then (s, .rejected rRESERVED_BIT 0)
  else if s.flOcc < (data + 2 ^ 32 - s.rd F.FL_RD_RD 0) % 2 ^ 32 then (s, .rejected rRANGE 0)
  else
    let s1 := s.wr F.FL_RD_RD 0 data
    let s2 := if s1.flOcc < s1.flCap then { s1 with fl := { s1.fl with fullEp := false } } else s1
    (s2.flMark, .ok)

/-- RESET: a write of FL_CTL.RESET. -/
def execFlReset (h : Hdr) (s : State) : Host.Outcome State Fault Refusal :=
  .next (s.request h 0x300000 (.write64 1) (fun s => wrFlCtl s 1))

/-- FL_CFG_WRITE. -/
def execFlCfgWrite (h : Hdr) (data : Word) (s : State) : Host.Outcome State Fault Refusal :=
  .next (s.request h 0x300008 (.write64 data.toNat) (fun s => wrFlCfg s data.toNat))

/-- FL_RD_WRITE. -/
def execFlRdWrite (h : Hdr) (data : Word) (s : State) : Host.Outcome State Fault Refusal :=
  .next (s.request h 0x300018 (.write64 data.toNat) (fun s => wrFlRd s data.toNat))

end Sys2Proof.Machine
end

