-- ==== Sys2Proof/Machine/Mem.lean ====
section
/-! DEFINITION. The DRAM as an addressed memory: regions, address maps, bytes read and written, uncorrectable bursts and faulty
subchannels (15_dram.md R326 to R336). -/

namespace Sys2Proof.Machine

/-! ### Regions (R327, R328) -/

/-- R326: the size of the DRAM. -/
def dramSize : Nat := 2 ^ 34

def State.leafQ (s : State) : Nat := s.rd F.DM_REGION_LEAF_Q 0
def State.capSize (s : State) : Nat := s.rd F.DM_REGION_CAP_256M 0 * 0x10000000
def State.rasSize (s : State) : Nat := s.rd F.DM_REGION_RAS_64M 0 * 0x4000000
def State.hdrBase (s : State) : Nat := s.leafQ * 0x40000000
def State.foreignBase (s : State) : Nat := s.leafQ * 0x44000000
def journalBase : Nat := 0x3F0000000
def State.captureBase (s : State) : Nat := journalBase - s.capSize
def State.rasterBase (s : State) : Nat := journalBase - s.capSize - s.rasSize

/-- R328: the size of a leaf's strand space, in beads. -/
def State.strandBeads (s : State) : Nat := s.leafQ * 262144

/-- R328: where a bead's payload lies. -/
def State.payloadAt (s : State) (l b : Nat) : Nat := l * s.leafQ * 0x04000000 + b * 0x100

/-- R328: where a bead's header lies. -/
def State.headerAt (s : State) (l b : Nat) : Nat := s.hdrBase + l * s.leafQ * 0x00400000 + b * 0x10

/-- R340: the DRAM window. -/
def dramWin : Nat := 0x100000000

/-- R122, R259, R308: a source range given by window address and length lies within the capture region. -/
def State.inCapture (s : State) (addr len : Nat) : Bool :=
  decide (dramWin + s.captureBase ≤ addr) && decide (addr + len ≤ dramWin + journalBase)

/-- R331: the map, start and size of the region that holds a DRAM address. -/
def State.regionOf (s : State) (a : Nat) : Nat × Nat × Nat :=
  if a < s.rasterBase then (s.rd F.DM_MAP_STRAND 0, 0, s.rasterBase)
  else if a < s.captureBase then (s.rd F.DM_MAP_RASTER 0, s.rasterBase, s.rasSize)
  else if a < journalBase then (s.rd F.DM_MAP_CAPTURE 0, s.captureBase, s.capSize)
  else (s.rd F.DM_MAP_JOURNAL 0, journalBase, 0x10000000)

/-- R331: the subchannel of a byte. -/
def State.scOf (s : State) (a : Nat) : Nat :=
  let (m, base, size) := s.regionOf a
  let o := a - base
  if m = 2 then o / 256 % 4 else if size = 0 then 0 else o / (size / 4)

/-! ### Bytes -/

/-- What a byte of DRAM reads as: what was written, or a free value where nothing has been since its content became
undefined. -/
def DramSt.byte (d : DramSt) (a : Nat) : Byte := (Table.get? d.mem a).getD (Config.freeByte d.epoch a)

/-- `n` bytes from an address. -/
def DramSt.read (d : DramSt) (a : Nat) : Nat → List Byte
  | 0 => []
  | n + 1 => d.byte a :: d.read (a + 1) n

/-- The bursts that a range touches (R326: 64 bytes each). -/
def burstHit (a n b : Nat) : Bool := decide (a < (b + 1) * 64) && decide (b * 64 < a + n)

/-- Bytes written to DRAM: their bursts' uncorrectable errors are gone. -/
def State.dramWrite (s : State) (a : Nat) (l : List Byte) : State :=
  { s with dram := { s.dram with mem := memWrite s.dram.mem a l, ue := s.dram.ue.filter (fun b => !burstHit a l.length b),
                                 soft := s.dram.soft.filter (fun b => !burstHit a l.length b),
                                 lastAccess := s.now } }

/-- R330, R337: the content of a range becomes undefined. -/
def State.undefine (s : State) (lo hi : Nat) : State :=
  { s with dram := { s.dram with mem := Table.eraseRange s.dram.mem lo hi, epoch := s.dram.epoch + 1 } }

/-- R336: a subchannel is faulty. -/
def State.scFaulty (s : State) (k : Nat) : Bool := s.on F.DM_SC_STAT_FAULTY k

/-- How many subchannels are healthy. -/
def State.healthy (s : State) : Nat := ([0, 1, 2, 3].filter (fun k => !s.scFaulty k)).length

/-- R336: some byte of a range lies on a faulty subchannel. -/
def State.rangeFaulty (s : State) (a n : Nat) : Bool :=
  if s.healthy = 4 then false
  else (List.range (n / 64 + 2)).any (fun i => decide (i * 64 < n + a % 64) && s.scFaulty (s.scOf ((a / 64 + i) * 64)))

/-- R335: some byte of a range lies on a subchannel that stalls. -/
def State.stalledAt (s : State) (a n : Nat) : Bool :=
  !s.dram.stalled.isEmpty && (List.range (n / 64 + 2)).any (fun i => decide (i * 64 < n + a % 64) && s.dram.stalled.contains (s.scOf ((a / 64 + i) * 64)))

/-- R334, R336: a read of a range meets an uncorrectable error. -/
def State.rangeUe (s : State) (a n : Nat) : Bool := s.rangeFaulty a n || s.dram.ue.any (fun b => burstHit a n b)

/-- R339: an access wakes the DRAM. -/
def State.wake (s : State) : State := ({ s with dram := { s.dram with lastAccess := s.now } }).wr F.DM_STATUS_SR 0 0

end Sys2Proof.Machine
end

