-- ==== Sys2Proof/Machine/Failover.lean ====
section
/-! DEFINITION. The streams that placement puts on the links, failover to replicas, and the errors that start it (14_placement.md R317,
R318, R321 to R323; 15_dram.md R334, R336). -/

namespace Sys2Proof.Machine

/-! ### Streams (R317, R318) -/

/-- The cell index of a run-set entry's unit. -/
def PEnt.uix (e : PEnt) : Nat := if e.cluster then 256 + e.unit else e.unit

/-- The strands that a leaf plays under a run set, once each, ascending. -/
def State.strandsOn (s : State) (rs : List PEnt) (l : Nat) : List Nat :=
  (((rs.filter (fun e => (s.leavesOf e.uix).contains l)).map (fun (e : PEnt) => e.strand)).eraseDups).mergeSort (· ≤ ·)

/-- R317: the smallest PMIN among entries of a leaf whose strand is of the residencies given; 0 when there is none. -/
def State.pminOn (s : State) (rs : List PEnt) (res : Nat → Nat) (ok : Nat → Bool) (l : Nat) : Nat :=
  let ps := (rs.filter (fun e => (s.leavesOf e.uix).contains l && (res e.strand == 2 || res e.strand == 3) && ok e.strand)).map
    (fun (e : PEnt) => e.pmin)
  match ps with
  | [] => 0
  | p :: t => t.foldl min p

/-- R317: the rate of a stream, 4.25 bytes per PMIN_L in MB/s, added to a sum; sums are exact fractions. -/
def addRate (a : Nat × Nat) (f : PFlow) : Nat × Nat :=
  let d := if f.quarter then 4 * f.pmin else f.pmin
  if d = 0 then a else (a.1 * d + 5440000 * a.2, a.2 * d)

/-- The rate of streams together. -/
def rateSum (l : List PFlow) : Nat × Nat := l.foldl addRate (0, 1)

/-- One rate does not exceed another. -/
def rateLe (a b : Nat × Nat) : Bool := decide (a.1 * b.2 ≤ b.1 * a.2)

/-- Two rates together. -/
def rateAdd (a b : Nat × Nat) : Nat × Nat := (a.1 * b.2 + b.1 * a.2, a.2 * b.2)

/-- A rate in MB/s, rounded up. -/
def rateUp (a : Nat × Nat) : Nat := ceilDiv a.1 a.2

/-- R264: the payload of a port at width 4, in MB/s. -/
def payloadMb (rate : Nat) : Nat := if rate = 0 then 440 else if rate = 1 then 2650 else if rate = 2 then 5300 else 10940

/-- R318: the capacity of an own port: 0.85 × its payload rate. -/
def State.linkCapX (s : State) (p : Nat) : Nat × Nat :=
  if s.rd F.LK_STAT_STATE p = 6 then
    let lanes := if s.rd F.LK_STAT_WIDTH p = 3 then 4 else s.rd F.LK_STAT_WIDTH p
    (payloadMb (s.rd F.LK_STAT_RATE p) * 85 * lanes, 400)
  else (0, 1)

/-- R318: PL_LINK.CAP of a port. -/
def State.linkCap (s : State) (p : Nat) : Nat := (s.linkCapX p).1 / (s.linkCapX p).2

/-- R318: the capacity of a hop. -/
def State.hopCap (s : State) (net : PlanNet) (h : Nat × Nat) : Nat × Nat :=
  if h.1 = s.module then s.linkCapX h.2
  else match net.ports.find? (fun x => x.module.val == h.1 && x.port.val == h.2) with
    | some x => (payloadMb x.rate.val * 85 * x.lanes.val, 400)
    | none => (0, 1)

/-- R318: the copy-0 route from one module to another. -/
def State.planHops (s : State) (a b : Nat) : Option (List (Nat × Nat)) :=
  routeHops (s.rd F.ID_TOPO_KIND 0) (s.rd F.ID_TOPO_N 0) 0 s.routeLinks a b

/-- R318: the rate of the streams of a list that cross a hop. -/
def State.loadOn (s : State) (fs : List PFlow) (h : Nat × Nat) : Nat × Nat :=
  rateSum (fs.filter (fun f => ((s.planHops f.src f.dst).getD []).contains h))

/-- The strand is STREAMED or LANDING in a placement. -/
def PStrand.streams (x : PStrand) : Bool := x.res == 2 || x.res == 3

/-- The residency that a placement gives a strand. -/
def resIn (ps : List PStrand) (st : Nat) : Nat := match ps.find? (fun x => x.strand == st) with | some x => x.res | none => 0

/-- R317: PMIN_L under a placement. -/
def State.pminIn (s : State) (rs : List PEnt) (ps : List PStrand) (l : Nat) : Nat := s.pminOn rs (resIn ps) (fun _ => true) l

/-- The streamed strands of a placement that a leaf plays. -/
def State.streamsOn (s : State) (rs : List PEnt) (ps : List PStrand) (l : Nat) : List PStrand :=
  ps.filter (fun x => x.streams && (s.strandsOn rs l).contains x.strand)

/-- R318: the home streams: each leaf's full rate from each remote home of its strands; those of the other modules' leaves beside. -/
def State.homeFlows (s : State) (rs : List PEnt) (ps : List PStrand) (net : PlanNet) : List PFlow :=
  (List.range 16).flatMap (fun l =>
    (((s.streamsOn rs ps l).filter (fun x => x.home != s.module)).map (fun (x : PStrand) => x.home)).eraseDups.map (fun h =>
      { src := h, dst := s.module, pmin := s.pminIn rs ps l }))
  ++ net.streams.map (fun x => { src := x.src.val, dst := x.dst.val, pmin := x.pmin.toNat })

/-- R331: some bead of a strand, in the strand space of a leaf, lies on a subchannel. -/
def State.leafOnSc (s : State) (l st k : Nat) : Bool :=
  let d := s.desc st
  let span (lo n : Nat) : Bool := decide (s.scOf lo ≤ k) && decide (k ≤ s.scOf (lo + n - 1))
  decide (dLen d ≠ 0) && (if s.rd F.DM_MAP_STRAND 0 = 2 then true
    else span (s.payloadAt l (dStart d)) (dLen d * 256) || span (s.headerAt l (dStart d)) (dLen d * 16))

/-- R316, R331: the subchannel of a remote home that holds a bead: from SC0 on under MAP_C, SC0 under the other maps. -/
def State.farSc (s : State) (sc0 b : Nat) : Nat := if s.rd F.DM_MAP_STRAND 0 = 2 then (sc0 + b) % 4 else sc0

/-- A strand of a placement has beads, for a leaf, on a subchannel of its home. -/
def State.homeOnSc (s : State) (l : Nat) (x : PStrand) (k : Nat) : Bool :=
  if x.home = s.module then s.leafOnSc l x.strand k
  else (List.range (min 4 (dLen (s.desc x.strand)))).any (fun b => s.farSc x.sc0 b == k)

/-- R318, R321: the streams that promotion adds on a fault: of a subchannel of a home, or of a remote home; by leaf, ascending. -/
def State.promoFlows (s : State) (rs : List PEnt) (ps : List PStrand) (fault : Nat × Option Nat) : List (Nat × PFlow) :=
  (List.range 16).flatMap (fun l =>
    (((s.streamsOn rs ps l).filter (fun x => x.home == fault.1 &&
      (match fault.2 with | some k => s.homeOnSc l x k | none => fault.1 != s.module))).filterMap (fun (x : PStrand) => x.replica)).eraseDups.map
        (fun r => (l, { src := r, dst := s.module, pmin := s.pminIn rs ps l, quarter := fault.2.isSome && s.rd F.DM_MAP_STRAND 0 == 2 })))

/-- R318: the single faults to reckon with: of each subchannel of each home, and the loss of each remote home. -/
def State.planFaults (s : State) (ps : List PStrand) (net : PlanNet) : List (Nat × Option Nat) :=
  (((s.module :: (ps.filter PStrand.streams).map (fun (x : PStrand) => x.home)).flatMap (fun h => (h, none) :: [0, 1, 2, 3].map (fun k => (h, some k))))
    ++ net.promos.map (fun (x : PromoIn) => (x.module.val, x.sub.map Fin.val))).eraseDups

/-- R318: all streams that a fault adds. -/
def State.faultFlows (s : State) (rs : List PEnt) (ps : List PStrand) (net : PlanNet) (fault : Nat × Option Nat) : List PFlow :=
  (s.promoFlows rs ps fault).map (·.2)
  ++ (net.promos.filter (fun x => x.module.val == fault.1 && x.sub.map (·.val) == fault.2)).map (fun x =>
    { src := x.stream.src.val, dst := x.stream.dst.val, pmin := x.stream.pmin.toNat, quarter := x.quarter })

/-- R318: the largest rate on a hop over all single faults, of the streams that `ok` lets count. -/
def State.promoOn (s : State) (rs : List PEnt) (ps : List PStrand) (net : PlanNet) (ok : PFlow → Bool) (h : Nat × Nat) : Nat × Nat :=
  ((s.planFaults ps net).map (fun f => s.loadOn ((s.faultFlows rs ps net f).filter ok) h)).foldl (fun a b => if rateLe b a then a else b) (0, 1)

/-- R318: both reservations fit a hop. -/
def State.hopFits (s : State) (rs : List PEnt) (ps : List PStrand) (net : PlanNet) (h : Nat × Nat) : Bool :=
  rateLe (rateAdd (s.loadOn (s.homeFlows rs ps net) h) (s.promoOn rs ps net (fun _ => true) h)) (s.hopCap net h)

/-- R318, R321: a promotion's stream can be reserved: its route has at most 2 hops, and each of them fits. -/
def State.held (s : State) (rs : List PEnt) (ps : List PStrand) (net : PlanNet) (f : PFlow) : Bool :=
  match s.planHops f.src f.dst with
  | some hs => decide (hs.length ≤ 2) && hs.all (s.hopFits rs ps net)
  | none => false

/-- R308, R318: a home stream does not fit some hop. -/
def State.linkFails (s : State) (rs : List PEnt) (ps : List PStrand) (net : PlanNet) : Bool :=
  let fs := s.homeFlows rs ps net
  (fs.flatMap (fun f => (s.planHops f.src f.dst).getD [])).any (fun h => !rateLe (s.loadOn fs h) (s.hopCap net h))

/-- R318: a strand whose promotion cannot be reserved, or whose home stream no longer fits. -/
def State.noPath (s : State) (rs : List PEnt) (ps : List PStrand) (net : PlanNet) (x : PStrand) : Bool :=
  x.streams &&
    ((match x.replica with | some r => !s.held rs ps net { src := r, dst := s.module } | none => false)
     || (x.home != s.module && (match s.planHops x.home s.module with
          | some hs => hs.any (fun h => !rateLe (s.loadOn (s.homeFlows rs ps net) h) (s.hopCap net h))
          | none => true)))

/-- The placement in force, as the descriptors show it. -/
def State.placed (s : State) : List PStrand :=
  ((s.pl.cur.runset.map (fun (e : PEnt) => e.strand)).eraseDups).map (fun st =>
    let d := s.desc st
    { strand := st, res := dRes d, home := dHome d, replica := if dRepValid d then some (dReplica d) else none, repValid := dRepValid d,
      sc0 := match s.pl.cur.strands.find? (fun x => x.strand == st) with | some x => x.sc0 | none => 0 })

/-- R318, R325: PL_LINK.HOME of a port. -/
def State.plHome (s : State) (p : Nat) : Nat :=
  if s.admitted then rateUp (s.loadOn (s.homeFlows s.pl.cur.runset s.placed s.pl.cur.net) (s.module, p)) else 0

/-- R318, R325: PL_LINK.PROMO of a port: the reservation for the promotions that can be reserved. -/
def State.plPromo (s : State) (p : Nat) : Nat :=
  let (rs, ps, net) := (s.pl.cur.runset, s.placed, s.pl.cur.net)
  if s.admitted then rateUp (s.promoOn rs ps net (s.held rs ps net) (s.module, p)) else 0

/-- R318: at a change of the map the reservations are computed again: what no longer fits stays exposed until the next plan. -/
def State.pathLatch (s : State) : State :=
  if s.admitted then
    let (rs, ps, net) := (s.pl.cur.runset, s.placed, s.pl.cur.net)
    let new := ((ps.filter (s.noPath rs ps net)).map (fun (x : PStrand) => x.strand)).filter (fun st => !s.pl.paths.contains st)
    { s with pl := { s.pl with paths := s.pl.paths ++ new } }
  else s

/-! ### Where a bead is fetched (R58, R65, R321) -/

/-- R321: a bead, for a leaf, lies on a faulty subchannel of its home. -/
def State.onLost (s : State) (l st b : Nat) : Bool :=
  let d := s.desc st
  if dHome d = s.module then
    let a := dStart d + b
    s.scFaulty (s.scOf (s.payloadAt l a)) || s.scFaulty (s.scOf (s.headerAt l a))
  else
    let sc0 := match s.pl.cur.strands.find? (fun x => x.strand == st) with | some x => x.sc0 | none => 0
    s.pl.far.contains (dHome d, s.farSc sc0 b)

/-- R58, R323: a strand's replica serves a leaf. -/
def State.repOk (s : State) (l st : Nat) : Bool := dRepValid (s.desc st) && !s.pl.starved.contains (l, st)

/-- R65, R58, R321: the module that a fetch of a leaf reads from: the strand's home, or its replica's module. -/
def State.fetchFrom (s : State) (l : Nat) (f : Fetch) : Nat :=
  let d := s.desc f.strand
  if f.replica then dReplica d
  else if dRes d = 0 then s.module
  else if s.onLost l f.strand f.bead && s.repOk l f.strand then dReplica d
  else dHome d

/-- R65, R272: a fetch from another module's memory is asked for there (log entry 163). -/
def State.askFar (s : State) (l : Nat) (f : Fetch) : State :=
  if s.admitted ∧ s.fetchFrom l f ≠ s.module then
    s.tell (s.fetchFrom l f) (.bead (Fin.ofNat 16 s.module) (Fin.ofNat 16 l) (BitVec.ofNat 32 (dStart (s.desc f.strand) + f.bead)))
  else s

/-- A fetch asked for. -/
def State.askFetch (s : State) (l : Nat) (f : Fetch) : State :=
  (s.setCache l { s.cache l with fetches := (s.cache l).fetches ++ [f] }).askFar l f

/-- R321: the fetches in flight that are now served from another module than before are asked for there. -/
def State.reask (s : State) (was : State) : State :=
  (List.range 16).foldl (fun (s : State) l =>
    ((s.cache l).fetches.filter (fun f => s.fetchFrom l f != was.fetchFrom l f)).foldl (fun (s : State) f => s.askFar l f) s) s

/-- R277: the fetches in flight whose beads come over another route than before are asked for again: what was on the old one may be lost. -/
def State.reaskMoved (s : State) (was : State) : State :=
  (List.range 16).foldl (fun (s : State) l =>
    ((s.cache l).fetches.filter (fun f => s.fetchFrom l f != s.module &&
      s.planHops (s.fetchFrom l f) s.module != was.planHops (s.fetchFrom l f) s.module)).foldl (fun (s : State) f => s.askFar l f) s) s

/-! ### Failover (R321 to R323) -/

/-- PL_STATUS as it reads. -/
def State.plStatus (s : State) : Nat :=
  pack [(0, 2, s.rd F.PL_STATUS_NEXT 0), (2, 2, s.rd F.PL_STATUS_CUR 0), (4, 1, s.rd F.PL_STATUS_DEGRADED 0),
        (5, 1, s.rd F.PL_STATUS_REPLAN 0), (6, 1, s.rd F.PL_STATUS_SAT 0), (8, 8, s.rd F.PL_STATUS_REJECT 0)]

/-- The strand plays under STREAMED or LANDING residency. -/
def streamed (d : Nat) : Bool := dRes d == 2 || dRes d == 3

/-- R331: some bead of a strand lies on a subchannel, in the strand space of some leaf. -/
def State.strandOnSc (s : State) (id k : Nat) : Bool :=
  let d := s.desc id
  if s.rd F.DM_MAP_STRAND 0 = 2 then decide (dLen d ≠ 0)
  else
    (List.range 16).any (fun l =>
      let lo := s.payloadAt l (dStart d)
      decide (s.scOf lo ≤ k) && decide (k ≤ s.scOf (lo + dLen d * 256 - 1))
      || (let h := s.headerAt l (dStart d); decide (s.scOf h ≤ k) && decide (k ≤ s.scOf (h + dLen d * 16 - 1))))

/-- R322: the strands moved to their replicas by one fault: counted once, and journalled one by one. -/
def State.promote (s : State) (moved : List Nat) (index code : Nat) : State :=
  let s1 := (s.bump F.PL_PROMOTIONS_COUNT 0 1 F.PL_STATUS_SAT 0 3 0x058).flag F.PL_STATUS_DEGRADED 0
  let s2 := s1.raise 0x33 0 s1.plStatus 0
  moved.foldl (fun s id => s.journalPlat 2 index code id) s2

/-- R323: a leaf's promotion still fits what is reserved on each hop of its route, beside the promotions before it. -/
def State.roomFor (s : State) (done : List (Nat × PFlow)) (f : PFlow) : Bool :=
  let (rs, ps, net) := (s.pl.cur.runset, s.placed, s.pl.cur.net)
  match s.planHops f.src f.dst with
  | some hs => hs.all (fun h => rateLe (s.loadOn (done.map (·.2) ++ [f]) h) (s.promoOn rs ps net (s.held rs ps net) h))
  | none => false

/-- R323: the promotions of a fault, in ascending leaf order: all of the first fault's, and as many of a later one's as the reservations
hold; with those made before it. -/
def State.promotes (s : State) (moved : List Nat) (fault : Nat × Option Nat) : List (Nat × PFlow) :=
  let fs := s.promoFlows s.pl.cur.runset (s.placed.filter (fun x => moved.contains x.strand)) fault
  if s.pl.fault then
    (fs.foldl (fun (a : List (Nat × PFlow) × Bool) e =>
      if a.2 && s.roomFor a.1 e.2 then (a.1 ++ [e], true) else (a.1, false)) (s.pl.promoted, true)).1
  else s.pl.promoted ++ fs

/-- R322, R323: one fault: the strands with a replica are promoted, leaf by leaf; those beyond the reservations starve. `index` and `code`
stand in the journal. -/
def State.failover (s : State) (moved : List Nat) (fault : Nat × Option Nat) (index code : Nat) : State :=
  let done := s.promotes moved fault
  let served (l st : Nat) : Bool := done.any (fun e => e.1 == l && e.2.src == dReplica (s.desc st))
  let pairs := (List.range 16).flatMap (fun l => ((s.strandsOn s.pl.cur.runset l).filter moved.contains).map (fun st => (l, st)))
  let starve := pairs.filter (fun e => !served e.1 e.2)
  let gone := moved.filter (fun st => pairs.any (fun e => e.2 == st && served e.1 e.2))
  let s1 := { s with pl := { s.pl with fault := true, promoted := done, starved := s.pl.starved ++ starve } }
  if gone = [] then s1 else s1.promote gone index code

/-- R321: the strands a subchannel's loss moves: home here, streamed, with a replica in force, and a bead on it. -/
def State.scMoves (s : State) (k : Nat) : List Nat :=
  (s.pl.cur.strands.map (·.strand)).filter (fun id =>
    let d := s.desc id
    streamed d && dHome d == s.module && dRepValid d && s.strandOnSc id k)

/-- R336, R321: a subchannel is marked faulty: the event, the journal, promotion of the replicas, and word to the other modules. -/
def State.markFaulty (s : State) (k cause : Nat) : State :=
  if s.scFaulty k then s
  else
    let s1 := s.wrs [(F.DM_SC_STAT_FAULTY, k, 1), (F.DM_SC_STAT_CAUSE, k, cause)]
    let s2 := ((s1.raise 0xE1 k (pack [(0, 1, 1), (1, 3, cause), (4, 1, s.rd F.DM_SC_STAT_HOT k), (8, 8, s.rd F.DM_SC_STAT_TEMP k)])
      0).journalPlat 3 k cause 0).tellAll (.faulty (Fin.ofNat 16 s.module) (Fin.ofNat 4 k) true)
    let moved := s2.scMoves k
    if moved = [] then s2
    else ((s2.wr F.PL_SCFAULT_SUB 0 (setBit (s2.rd F.PL_SCFAULT_SUB 0) k true)).failover moved (s.module, some k) k 3).reask s

/-- R321: a subchannel of another module is faulty: strands homed on it are promoted, and replicas on it are lost. -/
def State.farFault (s : State) (m k : Nat) : State :=
  if m = s.module ∨ s.pl.far.contains (m, k) then s
  else
    let hit (x : PStrand) : Bool := x.streams && x.home == m && s.homeOnSc 0 x k
    let moved := ((s.placed.filter (fun x => hit x && x.repValid)).map (fun (x : PStrand) => x.strand))
    let lost := ((s.placed.filter (fun x => x.repValid && x.replica == some m)).map (fun (x : PStrand) => x.strand))
    let s1 := { s with pl := { s.pl with far := s.pl.far ++ [(m, k)] } }
    let s2 := lost.foldl (fun (s : State) st =>
      let d := s.desc st
      s.setDesc st (dPlanned d (dRes d) (dHome d) (dReplica d) false)) s1
    (if moved = [] then s2 else s2.failover moved (m, some k) m 3).reask s

/-- R337: a subchannel of another module is no longer faulty. -/
def State.farMended (s : State) (m k : Nat) : State := { s with pl := { s.pl with far := s.pl.far.filter (· != (m, k)) } }

/-- R333: one corrected error: counted, its burst recorded. -/
def State.recordCe (s : State) (burst : Nat) : State :=
  let k := s.scOf (burst * 64)
  (s.bump F.DM_CE_COUNT k 1 F.DM_STATUS_SAT 0 14 (0x100 + 0x40 * k + 0x08)).wr F.DM_CE_LAST_ADDR k (burst * 64)

/-- R334, R336: an uncorrectable error met at an address: counted, recorded, journalled, one message per subchannel and tick;
16 within 1 s mark the subchannel. -/
def State.recordUe (s : State) (a : Nat) : State :=
  let k := s.scOf a
  let addr := a / 64 * 64
  let s1 := (s.bump F.DM_UE_COUNT k 1 F.DM_STATUS_SAT 0 14 (0x100 + 0x40 * k + 0x10)).wr F.DM_UE_LAST_ADDR k addr
  let s2 := s1.journalPlat 4 k 0 addr
  let s3 := if Table.get? s2.dram.ueTick k = some s2.tick then s2
    else { s2 with dram := { s2.dram with ueTick := Table.set s2.dram.ueTick k s2.tick } }.raise 0xE0 k addr 0
  let times := (s3.now :: (Table.get? s3.dram.ueTimes k).getD []).take 16
  let s4 := { s3 with dram := { s3.dram with ueTimes := Table.set s3.dram.ueTimes k times } }
  if times.length = 16 ∧ s4.now ≤ (times.getLast?.getD 0) + 1280000000000 then s4.markFaulty k 3 else s4

/-- The first burst of a range with an error, if any (an error counts where the subchannel is not marked already). -/
def State.ueIn (s : State) (a n : Nat) : Option Nat := (s.dram.ue.find? (fun b => burstHit a n b)).map (· * 64)

/-- R333, R334: a reader meets the errors of a range: those that are corrected on the way, which stay in the memory, and an uncorrectable
one. -/
def State.readerUe (s : State) (a n : Nat) : State :=
  let s1 := (s.dram.soft.filter (fun b => burstHit a n b && !s.scFaulty (s.scOf (b * 64)))).foldl (fun (s : State) b => s.recordCe b) s
  match s1.ueIn a n with
  | some b => if s1.scFaulty (s1.scOf b) then s1 else s1.recordUe b
  | none => s1

end Sys2Proof.Machine
end

