-- ==== Sys2Proof/Machine/Acq.lean ====
section
/-! DEFINITION. The acquisition engine: arming, storing, triggers, reductions, gaps and draining (07_acquisition.md). -/

namespace Sys2Proof.Machine

/-! ### Sizes (R172, R173, R176) -/

def State.acqSource (s : State) (n : Nat) : Nat := s.rd F.ACQ_CFG_SOURCE n
def State.acqRed (s : State) (n : Nat) : Bool := s.on F.ACQ_CFG_RED n
def State.acqDram (s : State) (n : Nat) : Bool := s.on F.ACQ_CFG_MEM n
def State.acqLeaves (s : State) (n : Nat) : List Nat := maskList 16 (s.rd F.ACQ_CFG_LEAFMASK n)

/-- The channel stores PIN pages. -/
def State.acqPin (s : State) (n : Nat) : Bool := s.acqSource n == 1 && !s.acqRed n

/-- R178: the keys by which a channel counts: its leaves for PIN, otherwise one for all. -/
def State.acqKeys (s : State) (n : Nat) : List Nat := if s.acqPin n then s.acqLeaves n else [0]

/-- R167: the pages of the channel's buffer. -/
def State.acqPages (s : State) (n : Nat) : Nat := if s.acqDram n then s.rd F.ACQ_DRAM_PAGES n else s.rd F.ACQ_SRAM_PAGES n

/-- R176: the capacity of the buffer. -/
def State.acqCap (s : State) (n : Nat) : Nat :=
  let p := s.acqPages n
  let L := (s.acqLeaves n).length
  if s.acqPin n then (p - 2 * L) / L * 1792
  else (p - 2) * (if s.acqRed n then 126 else 252)

/-- The least number of pages of a buffer. -/
def State.acqMin (s : State) (n : Nat) : Nat := if s.acqSource n = 1 then 2 * (s.acqLeaves n).length + 1 else 3

/-! ### Status -/

/-- ACQ_STAT as it reads. -/
def State.acqStat (s : State) (n : Nat) : Nat :=
  pack [(0, 3, s.acqState n), (3, 1, s.rd F.ACQ_STAT_POST_CLIPPED n), (4, 1, s.rd F.ACQ_STAT_SHORT n),
        (5, 1, s.rd F.ACQ_STAT_GAP_SEEN n), (8, 8, s.rd F.ACQ_STAT_REJECT n)]

/-- ACQ_TRIG_LOC as it reads. -/
def State.acqTrigLoc (s : State) (n : Nat) : Nat :=
  pack [(0, 32, s.rd F.ACQ_TRIG_LOC_SEQ n), (32, 11, s.rd F.ACQ_TRIG_LOC_IDX n), (43, 1, s.rd F.ACQ_TRIG_LOC_VALID n)]

/-- R190: a counter of a channel stepped. -/
def State.acqBump (s : State) (f : Fld) (n k off : Nat) : State :=
  s.bump f n k F.ACQ_GSTATUS_SAT 0 9 (0x100 + 0x100 * n + off)

/-! ### Arming (R176, R177) -/

/-- R176: the sum of ACQ_BW over the other non-IDLE DRAM-mode channels. -/
def State.acqBwOthers (s : State) (n : Nat) : Nat :=
  (((List.range 8).filter (fun m => m != n && s.acqHeld m && s.acqDram m && s.acqSource m != 0)).map
    (s.rd F.ACQ_BW_UNITS)).foldl (· + ·) 0

/-- R176: DRAM pages of the channel touch those of another DRAM-mode channel that is not IDLE. -/
def State.acqDramOverlap (s : State) (n : Nat) : Bool :=
  (List.range 8).any (fun m => m != n && s.acqHeld m && s.acqDram m && s.acqSource m != 0 &&
    decide (s.rd F.ACQ_DRAM_BASE m < s.rd F.ACQ_DRAM_BASE n + s.rd F.ACQ_DRAM_PAGES n) &&
    decide (s.rd F.ACQ_DRAM_BASE n < s.rd F.ACQ_DRAM_BASE m + s.rd F.ACQ_DRAM_PAGES m))

/-- R176: SRAM pages of the channel touch those of another channel that is not IDLE. -/
def State.acqSramOverlap (s : State) (n : Nat) : Bool :=
  (List.range 8).any (fun m => m != n && s.acqHeld m && s.acqSource m != 0 &&
    decide (s.rd F.ACQ_SRAM_BASE m < s.rd F.ACQ_SRAM_BASE n + s.rd F.ACQ_SRAM_PAGES n) &&
    decide (s.rd F.ACQ_SRAM_BASE n < s.rd F.ACQ_SRAM_BASE m + s.rd F.ACQ_SRAM_PAGES m))

/-- R176, code 0x02: the selection is not allowed. -/
def State.acqSourceBad (s : State) (n : Nat) : Bool :=
  let src := s.acqSource n
  let leaves := (s.acqLeaves n).length
  let slots := popcount 9 (s.rd F.ACQ_CFG_SLOTMASK n)
  decide (9 ≤ s.rd F.ACQ_TRIG_SRC n) || decide (5 ≤ src)
  || (src != 0 && (leaves == 0 || (src == 4 && slots == 0)
      || (s.acqRed n && ((src == 1 && leaves != 1) || (src == 3 && (leaves != 1 || s.on F.ACQ_CFG_COUNT n))
                         || (src == 4 && (leaves != 1 || slots != 1))))))

/-- R176: the first check of an arm that fails. -/
def State.acqArmFault (s : State) (n : Nat) : Option Nat :=
  let sram := s.rd F.ACQ_SRAM_PAGES n
  if s.acqQuiet n = false ∨ s.mstate ≠ mMounted then some 0x01
  else if s.acqSourceBad n then some 0x02
  else if s.acqSource n = 0 then none
  else if 2048 < s.rd F.ACQ_SRAM_BASE n + sram ∨ s.rd F.ACQ_SRAM_BASE n < 16 * s.rd F.FL_CFG_RING_64K 0 ∨ s.acqSramOverlap n
      ∨ sram < (if s.acqDram n then 2 else s.acqMin n) then some 0x03
  else if s.acqDram n ∧ (s.capSize / 4096 < s.rd F.ACQ_DRAM_BASE n + s.rd F.ACQ_DRAM_PAGES n ∨ s.acqDramOverlap n
      ∨ s.rd F.ACQ_DRAM_PAGES n < s.acqMin n) then some 0x04
  else if s.acqDram n ∧ (s.rd F.ACQ_BW_UNITS n = 0 ∨ 80 < s.rd F.ACQ_BW_UNITS n + s.acqBwOthers n) then some 0x05
  else if s.acqCap n < s.rd F.ACQ_PRE_COUNT n then some 0x06
  else none

/-- R176, R177: a write of ACQ_CTL.ARM. -/
def acqArm (n : Nat) (s : State) : State × Ans :=
  match s.acqArmFault n with
  | some code =>
    let s1 := s.wr F.ACQ_STAT_REJECT n code
    (s1.raise 0x90 n (s1.acqStat n) 0, .rejected rBLOCK_REJECT code)
  | none =>
    let pre := s.rd F.ACQ_PRE_COUNT n
    let post := s.rd F.ACQ_POST_COUNT n
    let clip := decide (s.acqSource n ≠ 0) && decide (s.acqCap n < pre + post)
    let eff := if s.acqSource n = 0 then 0 else if clip then s.acqCap n - pre else post
    let s1 := s.wrs [(F.ACQ_IGN_TRIG_COUNT, n, 0), (F.ACQ_LATE_TRIG_COUNT, n, 0), (F.ACQ_GAPS_COUNT, n, 0), (F.ACQ_LOST_COUNT, n, 0),
      (F.ACQ_TRIG_LOC_SEQ, n, 0), (F.ACQ_TRIG_LOC_IDX, n, 0), (F.ACQ_TRIG_LOC_VALID, n, 0), (F.ACQ_SEQ_WR, n, 0),
      (F.ACQ_STAT_SHORT, n, 0), (F.ACQ_STAT_GAP_SEEN, n, 0), (F.ACQ_STAT_POST_CLIPPED, n, bit clip), (F.ACQ_POST_EFF_COUNT, n, eff)]
    (s1.setAcq n { armAt := some (s.tick + 1) }, .ok)

/-- R177, R180: at the tick boundary after its arm a channel starts collecting. -/
def State.acqBegin (s : State) (n : Nat) : State :=
  let x := s.acqCh n
  match x.armAt with
  | none => s
  | some k =>
    if k ≤ s.tick then
      let st := if s.acqSource n ≠ 0 ∧ s.rd F.ACQ_PRE_COUNT n ≠ 0 then aFILLING else aARMED
      (s.setAcq n { x with armAt := none }).wr F.ACQ_STAT_STATE n st
    else s

/-! ### Pages (R172, R173) -/

/-- R174: a gap record. -/
def gapRecord (cause leaf len inst : Nat) : Nat :=
  pack [(0, 2, cause), (2, 1, 1), (4, 4, leaf), (16, 32, min len (2 ^ 32 - 1)), (64, 64, inst)]

/-- R173: the payload: samples of 18 bits, or entries of 128, the list's first the newest. -/
def payloadWord (w : Nat) (items : List (Nat × Bool)) : Nat := items.foldl (fun a i => a * 2 ^ w + i.1 % 2 ^ w) 0

/-- R172: the gap map of a record page: a bit for each gap entry. -/
def gapMap (items : List (Nat × Bool)) : Nat := items.foldl (fun a i => 2 * a + bit i.2) 0

/-- R172: the header of a page, as a 512-bit word. -/
def State.acqHeader (s : State) (n : Nat) (p : AcqPage) (seq : Nat) : Nat :=
  let pin := s.acqPin n
  pack [(0, 4, if pin then 1 else 2), (4, 3, n), (8, 4, if pin then p.leaf else 0), (12, 4, s.acqSource n),
        (16, 11, p.items.length), (27, 1, bit p.trig.isSome), (32, 32, seq), (64, 48, if pin then p.pos else 0),
        (112, 11, p.trig.getD 0), (128, 128, if pin then p.mark else 0), (256, 256, if pin then 0 else gapMap p.items)]

/-- R172: the 4 096 bytes of a page. -/
def State.acqBytes (s : State) (n : Nat) (p : AcqPage) (seq : Nat) : List Byte :=
  toBytes 64 (s.acqHeader n p seq) ++ toBytes 4032 (payloadWord (if s.acqPin n then 18 else 128) p.items)

/-- R168: the time to drain a page at the channel's allocation, in tu. -/
def State.acqDrainTu (s : State) (n : Nat) : Nat := ceilDiv 41943040 (max 1 (s.rd F.ACQ_BW_UNITS n))

/-- The SRAM byte address of buffer page `seq`. -/
def State.acqSramAt (s : State) (n seq : Nat) : Nat := (s.rd F.ACQ_SRAM_BASE n + seq % max 1 (s.acqPages n)) * 4096

/-- The DRAM byte address of buffer page `seq`. -/
def State.acqDramAt (s : State) (n seq : Nat) : Nat :=
  s.captureBase + (s.rd F.ACQ_DRAM_BASE n + seq % max 1 (s.acqPages n)) * 4096

/-- R179: page `seq` would take the slot of a page that holds a counted pre-trigger sample. -/
def State.acqClash (s : State) (n : Nat) (x : AcqCh) (seq : Nat) : Bool :=
  s.acqState n == aTRIGGERED &&
  x.written.any (fun d => d.seq + s.acqPages n == seq &&
    (match Table.get? x.trigOrd d.leaf with
     | some o => decide (d.ord0 < o) && decide (o ≤ d.ord0 + d.n - 1 + s.rd F.ACQ_PRE_COUNT n) && decide (d.n ≠ 0)
     | none => false))

/-- R173, R189: a page gets its SEQ and is written to SRAM, or put into the write-behind FIFO. -/
def State.acqWrite (s : State) (n : Nat) (p : AcqPage) : State :=
  let x := s.acqCh n
  let d : AcqDone := { pid := p.pid, seq := x.seq, leaf := p.leaf, ord0 := p.ord0, n := p.n, t0 := p.t0 }
  let b := s.acqBytes n p x.seq
  let x1 := { x with pages := x.pages.filter (fun q => q.pid != p.pid), seq := x.seq + 1,
                     written := x.written.filter (fun e => decide (x.seq < e.seq + s.acqPages n)) ++ [d] }
  let lead := s.acqKeys n |>.headD 0
  let s0 := if p.trig.isSome && p.leaf == lead then s.wr F.ACQ_TRIG_LOC_SEQ n x.seq else s
  if s.acqDram n then
    s0.setAcq n { x1 with fifo := x1.fifo ++ [(d, b)], drainAt := if x.fifo = [] then s.now + s.acqDrainTu n else x.drainAt }
  else
    (({ s0 with sram := { s0.sram with mem := memWrite s0.sram.mem (s.acqSramAt n x.seq) b } }).setAcq n x1).wr
      F.ACQ_SEQ_WR n (x.seq + 1)

/-- R173: a page is full. -/
def State.acqFull (s : State) (n : Nat) (p : AcqPage) : Bool :=
  decide ((if s.acqPin n then 1792 else 252) ≤ p.items.length)

/-- R186: a FIFO page is free. -/
def State.acqRoom (s : State) (n : Nat) : Bool := !s.acqDram n || decide ((s.acqCh n).fifo.length < s.rd F.ACQ_SRAM_PAGES n)

/-- The open page of a key, or a new one. -/
def AcqCh.page (x : AcqCh) (key pos : Nat) : AcqPage :=
  match x.pages.find? (fun p => p.leaf == key && !p.closed) with
  | some p => p
  | none => { pid := x.nextPid, leaf := key, pos := pos, ord0 := (Table.get? x.counts key).getD 0 }

/-- A page put back in its place, or as the last. -/
def AcqCh.setPage (x : AcqCh) (p : AcqPage) : AcqCh :=
  { x with pages := if x.pages.any (fun q => q.pid == p.pid) then x.pages.map (fun q => if q.pid = p.pid then p else q) else x.pages ++ [p]
           nextPid := max x.nextPid (p.pid + 1) }

/-- R173: the open page of a key closed, where it holds anything. -/
def State.closePage (s : State) (n key : Nat) : State :=
  let x := s.acqCh n
  let p := x.page key 0
  if p.items = [] ∧ p.mark = 0 then s else s.setAcq n (x.setPage { p with closed := true })

/-- A page of a key waits to be written. -/
def AcqCh.waits (x : AcqCh) (key : Nat) : Bool := x.pages.any (fun p => p.closed && p.leaf == key)

/-- R173, R186: closed pages written while there is room for them; `true` when one would take the slot of a page that holds a counted
pre-trigger sample (R179): it is not written. -/
def State.writeClosed (n : Nat) : Nat → State → State × Bool
  | 0, s => (s, false)
  | fuel + 1, s =>
    match (s.acqCh n).pages.find? (fun p => p.closed) with
    | none => (s, false)
    | some p =>
      if s.acqRoom n = false then (s, false)
      else if s.acqClash n (s.acqCh n) (s.acqCh n).seq then (s, true)
      else State.writeClosed n fuel (s.acqWrite n p)

/-! ### Gaps (R174, R186) -/

/-- R185: the record of the open interval, or of a whole one. -/
def State.redRecord (s : State) (n : Nat) (r : AcqRed) (isPart : Bool) : Nat :=
  let on (f : Fld) : Bool := s.on f n
  pack [(4, 1, bit (on F.ACQ_CFG_SUM)), (5, 1, bit (on F.ACQ_CFG_SUMSQ)), (6, 1, bit (on F.ACQ_CFG_COUNT)), (7, 1, bit isPart),
        (8, 20, r.n - 1), (28, 3, n), (32, 24, twos 24 r.mn), (56, 24, twos 24 r.mx),
        (80, 48, if on F.ACQ_CFG_SUM then twos 48 r.sum else 0), (128, 72, if on F.ACQ_CFG_SUMSQ then r.sumsq else 0),
        (200, 24, if on F.ACQ_CFG_COUNT then min r.count (2 ^ 24 - 1) else 0), (224, 32, r.tick)]

/-- R186: a gap has begun: the first since the arm is shown and reported, and one of lost samples is counted. -/
def State.gapBegins (s : State) (n : Nat) (lossy : Bool) : State :=
  let s1 := if lossy then s.acqBump F.ACQ_GAPS_COUNT n 1 0x60 else s
  if s1.on F.ACQ_STAT_GAP_SEEN n then s1
  else
    let s2 := s1.wr F.ACQ_STAT_GAP_SEEN n 1
    s2.raise 0x92 n (s2.acqStat n) 0

/-- R186: lost samples counted. -/
def State.gapLoses (s : State) (n k : Nat) : State := s.acqBump F.ACQ_LOST_COUNT n (min k (2 ^ 32 - 1)) 0x68

/-- R365: an OVERFLOW or DRAM_UE gap record journalled, under the leaf of a PIN gap. -/
def State.journalGap (s : State) (n : Nat) (g : AcqGap) : State :=
  if g.cause = 1 then s
  else s.journal 0x07 (if s.acqPin n then g.leaf else 0) false
    (pack [(48, 2, g.cause), (50, 3, n), (53, 1, 1), (64, 32, min g.len (2 ^ 32 - 1))])

/-- R173: entries appended to the open page of a key; a full page is closed first. -/
def State.acqAppend (s : State) (n key pos inst : Nat) (es : List (Nat × Bool)) (samples : Nat) : State :=
  let s1 := if s.acqFull n ((s.acqCh n).page key pos) then s.closePage n key else s
  let x1 := s1.acqCh n
  let p := x1.page key pos
  let p0 := if p.items = [] then { p with pos := pos, ord0 := (Table.get? x1.counts key).getD 0 } else p
  let p1 := if p0.n = 0 then { p0 with t0 := inst } else p0
  s1.setAcq n (x1.setPage { p1 with items := es.reverse ++ p1.items, n := p1.n + samples })

/-- R174: a gap record written: the MARK of the leaf's next PIN page, or an entry. A gap of lost DRAM pages is the MARK of the leaf's page in
progress, which is the next to be written, where that has none. -/
def State.writeGap (s : State) (n : Nat) (g : AcqGap) : State :=
  let w := gapRecord g.cause (if s.acqPin n ∨ g.cause = 1 then g.leaf else 0) g.len g.inst
  let s0 := s.journalGap n g
  if s.acqPin n then
    let p0 := (s0.acqCh n).page g.leaf 0
    let s1 := if p0.mark ≠ 0 ∨ (p0.items ≠ [] ∧ g.cause ≠ 2) then s0.closePage n g.leaf else s0
    let x1 := s1.acqCh n
    let p := x1.page g.leaf 0
    s1.setAcq n (x1.setPage { p with mark := w, t0 := if p.n = 0 then g.inst else p.t0 })
  else s0.acqAppend n 0 0 g.inst (if s.acqRed n then [(w, true), (0, true)] else [(w, true)]) 0

/-- The gaps that wait for a key, written. -/
def State.flushGaps (s : State) (n key : Nat) : State :=
  let x := s.acqCh n
  let mine := x.gaps.filter (fun g => g.leaf == key || !s.acqPin n)
  mine.foldl (fun s g => s.writeGap n g) (s.setAcq n { x with gaps := x.gaps.filter (fun g => !(g.leaf == key || !s.acqPin n)) })

/-! ### Where the trigger sample lies (R183, R184) -/

/-- R183: the number, in a key, of the first sample at or after an instant. -/
def AcqCh.ordAt (x : AcqCh) (key t : Nat) : Nat :=
  match x.hist.find? (fun h => h.1 == key && decide (t ≤ h.2.1)) with
  | some (_, _, o, _) => o
  | none => (Table.get? x.counts key).getD 0

/-- R172: a page's bytes with TRIG and TRIG_IDX set, or cleared. -/
def markBytes (b : List Byte) (idx : Option Nat) : List Byte :=
  let h := ofBytes (b.take 16)
  toBytes 16 (h % 2 ^ 27 + bit idx.isSome * 2 ^ 27 + bits h 28 84 * 2 ^ 28 + (idx.getD 0) % 2 ^ 11 * 2 ^ 112) ++ b.drop 16

/-- R184: TRIG and TRIG_IDX of a page of the channel, wherever it lies by now. -/
def State.setMark (s : State) (n pid : Nat) (idx : Option Nat) : State :=
  let x := s.acqCh n
  let s1 := s.setAcq n { x with
    pages := x.pages.map (fun q => if q.pid = pid then { q with trig := idx } else q)
    fifo := x.fifo.map (fun (e : AcqDone × List Byte) => if e.1.pid = pid then (e.1, markBytes e.2 idx) else e) }
  if x.pages.any (fun p => p.pid == pid) ∨ x.fifo.any (fun e => e.1.pid == pid) then s1
  else
    match x.written.find? (fun d => d.pid == pid) with
    | none => s1
    | some d =>
      if s.acqDram n then s1.dramWrite (s.acqDramAt n d.seq) (markBytes (s1.dram.read (s.acqDramAt n d.seq) 16) idx)
      else
        let a := s.acqSramAt n d.seq
        let old := (List.range 16).map (fun i => (Table.get? s1.sram.mem (a + i)).getD 0)
        { s1 with sram := { s1.sram with mem := memWrite s1.sram.mem a (markBytes old idx) } }

/-- R184, R189: the SEQ of a page of the channel: the one it has, or the one it will take. -/
def State.pageSeq (s : State) (n pid : Nat) : Option Nat :=
  let x := s.acqCh n
  match x.pages.find? (fun p => p.pid == pid) with
  | some p =>
    let before (q : AcqPage) : Bool := decide (p.items.length < q.items.length) || (q.items.length == p.items.length && decide (q.leaf < p.leaf))
    some (x.seq + (x.pages.filter (fun q => q.pid != pid && (if q.closed then !p.closed || decide (q.pid < pid) else !p.closed && before q))).length)
  | none => (x.written.find? (fun d => d.pid == pid)).map (·.seq)

/-- R184: the trigger sample of a key found in a page: the page is marked; the page of the lowest leaf is ACQ_TRIG_LOC. -/
def State.markTrig (s : State) (n key pid idx : Nat) : State :=
  let x := s.acqCh n
  let s1 := (s.setAcq n { x with marked := Table.set x.marked key pid }).setMark n pid (some idx)
  match key == (s.acqKeys n).headD 0, s.pageSeq n pid with
  | true, some q => s1.wrs [(F.ACQ_TRIG_LOC_SEQ, n, q), (F.ACQ_TRIG_LOC_IDX, n, idx), (F.ACQ_TRIG_LOC_VALID, n, 1)]
  | _, _ => s1

/-- R184: the trigger sample of a key, if it has been stored already. -/
def State.seekTrig (s : State) (n key : Nat) : State :=
  let x := s.acqCh n
  match Table.get? x.trigOrd key with
  | none => s
  | some o =>
    match x.locs.find? (fun e => e.1 == key && decide (o ≤ e.2.1)) with
    | some (_, _, pid, idx) => if (Table.get? x.marked key).isSome then s else s.markTrig n key pid idx
    | none => s

/-- R184: a trigger that no longer governs leaves no mark. -/
def State.unmark (s : State) (n : Nat) : State :=
  let x := s.acqCh n
  ((x.marked.foldl (fun (s : State) (e : Nat × Nat) => s.setMark n e.2 none) s).setAcq n
    { (x.marked.foldl (fun (s : State) (e : Nat × Nat) => s.setMark n e.2 none) s).acqCh n with marked := [] }).wrs
    [(F.ACQ_TRIG_LOC_SEQ, n, 0), (F.ACQ_TRIG_LOC_IDX, n, 0), (F.ACQ_TRIG_LOC_VALID, n, 0)]

/-! ### The end of a channel (R179) -/

/-- R172, R184: an entry stored in the open page of a key: where it lies is kept, and the trigger sample looked for. -/
def State.acqPut (s : State) (n key pos inst : Nat) (es : List (Nat × Bool)) : State :=
  let ord := (Table.get? (s.acqCh n).counts key).getD 0
  let s1 := s.acqAppend n key pos inst es 1
  let x := s1.acqCh n
  let p := x.page key pos
  s1.setAcq n { x with locs := x.locs ++ [(key, ord, p.pid, p.items.length - es.length)] }

/-- R178: a sample or record of a key counted. -/
def State.acqCount (s : State) (n key : Nat) : State :=
  let x := s.acqCh n
  let s1 := s.setAcq n { x with counts := Table.set x.counts key ((Table.get? x.counts key).getD 0 + 1) }
  if x.trigT.isSome then s1.seekTrig n key else s1

/-- R185: the open interval written with PARTIAL. -/
def State.closeRed (s : State) (n : Nat) : State :=
  let x := s.acqCh n
  if s.acqRed n ∧ x.red.n ≠ 0 then
    let w := s.redRecord n x.red true
    ((s.setAcq n { x with red := {} }).acqPut n 0 0 x.red.t0 [(w % 2 ^ 128, false), (w / 2 ^ 128, false)]).acqCount n 0
  else s

/-- R179: the closed pages of a channel that ends, written whether the FIFO has room or not; one that would take a counted slot is not, which
SHORT shows. -/
def State.writeLast (n : Nat) : Nat → State → State
  | 0, s => s
  | fuel + 1, s =>
    match (s.acqCh n).pages.find? (fun p => p.closed) with
    | none => s
    | some p =>
      if s.acqClash n (s.acqCh n) (s.acqCh n).seq then s.wr F.ACQ_STAT_SHORT n 1
      else State.writeLast n fuel (s.acqWrite n p)

/-- R179: a channel ends: its open interval and its open pages are written, in order of leaf. -/
def State.acqEnd (s : State) (n st : Nat) : State :=
  let s0 := (s.acqKeys n).foldl (fun s k => s.flushGaps n k) s
  let s1 := s0.closeRed n
  let s2 := (s1.acqKeys n).foldl (fun s k => s.closePage n k) s1
  let s3 := State.writeLast n 64 s2
  let x := s3.acqCh n
  let s4 := (s3.setAcq n { x with pages := [], feed := [], occ := [], armAt := none, red := {}, gaps := [] }).wr F.ACQ_STAT_STATE n st
  if st = aDONE then s4.raise 0x93 n (s4.acqStat n) 0 else s4

/-- R179: an active channel stopped; an arm that waits for its boundary is dropped. -/
def State.acqStop (s : State) (n : Nat) : State :=
  if s.acqLive n then s.acqEnd n aSTOPPED else s.setAcq n { s.acqCh n with armAt := none }

/-- R173, R179: what is closed is written; a page that would take a counted slot ends the channel, SHORT. -/
def State.acqPump (s : State) (n : Nat) : State :=
  let (s1, clash) := State.writeClosed n 64 s
  if clash then (s1.wr F.ACQ_STAT_SHORT n 1).acqEnd n aDONE else s1

/-! ### Triggers (R181 to R184) -/

/-- R184: 4 ticks. -/
def acqLateTu : Nat := 4 * tickTu

/-- R179: the post part is complete in every leaf. -/
def State.acqComplete (s : State) (n : Nat) : Bool :=
  let x := s.acqCh n
  s.acqState n == aTRIGGERED && (s.acqKeys n).all (fun k =>
    match Table.get? x.trigOrd k with
    | some o => decide (o + s.rd F.ACQ_POST_EFF_COUNT n ≤ (Table.get? x.counts k).getD 0)
    | none => false)

/-- R184: a trigger sent to the cluster, and to this module's channels that watch it. -/
def State.sendXtrig (s : State) (n t : Nat) : State :=
  if s.on F.ACQ_CFG_XOUT n then
    let sent := if (s.trigByte 10).testBit 1 then s.acq.sent ++ [(n, t)] else s.acq.sent
    let s1 := { s with acq := { s.acq with sent := sent } }.occursXtrig s.module n t
    if (s.trigByte 10).testBit 1 then s1.tellAll (.xtrig (Fin.ofNat 16 s.module) (Fin.ofNat 8 n) (BitVec.ofNat 96 t)) else s1
  else s

/-- R184, R180: the trigger of a channel, aligned to `t`; `again`: it takes the place of a FORCE whose trigger sample is later, which has been
reported already. -/
def State.acqTrigger (s : State) (n t : Nat) (force again : Bool) : State :=
  let edge := some (edgeUp s.now, s.rd F.ACQ_TRIG_TIME_TIME n)
  if s.acqSource n = 0 then
    let s1 := ((s.setAcq n { s.acqCh n with trigEdge := edge }).wrs
      [(F.ACQ_STAT_STATE, n, aTRIGGERED), (F.ACQ_TRIG_TIME_TIME, n, t)]).sendXtrig n t
    (s1.raise 0x91 n (s1.acqStat n) (s1.acqTrigLoc n)).acqEnd n aDONE
  else
    let keys := s.acqKeys n
    let s0 := if again then s.unmark n else s
    let x := s0.acqCh n
    let x1 := { x with trigT := some t, forced := force, trigOrd := keys.foldl (fun m k => Table.set m k (x.ordAt k t)) []
                       trigEdge := if again then x.trigEdge else edge }
    let s1 := (s0.setAcq n x1).wrs [(F.ACQ_STAT_STATE, n, aTRIGGERED), (F.ACQ_TRIG_TIME_TIME, n, t)]
    let s2 := keys.foldl (fun s k => s.seekTrig n k) s1
    let s3 := if again then s2 else (s2.sendXtrig n t).raise 0x91 n (s2.acqStat n) (s2.acqTrigLoc n)
    if s3.acqComplete n then s3.acqEnd n aDONE else s3

/-- R182, R184: one occurrence looked at. -/
def State.acqOccur (s : State) (n : Nat) (o : AcqOcc) : State :=
  let x := s.acqCh n
  let st := s.acqState n
  let keys := s.acqKeys n
  let ords := keys.map (fun k => x.ordAt k o.inst)
  let early := ords.any (fun k => decide (k < s.rd F.ACQ_PRE_COUNT n)) && s.acqSource n != 0
  let hits := if s.acqSource n ≠ 0 ∧ x.hits.contains ords then x.hits else ords :: x.hits
  let now_ := s.setAcq n { x with hits := hits }
  if st = aFILLING then s.acqBump F.ACQ_IGN_TRIG_COUNT n 1 0x58
  else if st = aARMED then
    if o.force then s.acqTrigger n o.inst true false
    else if o.inst + acqLateTu < s.now then s.acqBump F.ACQ_LATE_TRIG_COUNT n 1 0x88
    else if early then s.acqBump F.ACQ_IGN_TRIG_COUNT n 1 0x58
    else if s.rd F.ACQ_TRIG_COUNT n ≤ hits.length then now_.acqTrigger n o.inst false false
    else now_
  else if st = aTRIGGERED ∧ x.forced ∧ !o.force ∧ !early ∧ s.now ≤ o.inst + acqLateTu
      ∧ (ords.headD 0) < (Table.get? x.trigOrd (keys.headD 0)).getD 0 then
    (if s.rd F.ACQ_TRIG_COUNT n ≤ hits.length then now_.acqTrigger n o.inst false true else now_)
  else s

/-- The occurrences that have arrived, the earliest trigger instant first. -/
def State.firstOcc (s : State) (n : Nat) : Option AcqOcc :=
  ((s.acqCh n).occ.filter (fun o => s.due o.inst)).foldl (fun (a : Option AcqOcc) o =>
    match a with
    | some b => if o.inst < b.inst then some o else some b
    | none => some o) none

/-- TRIGGER_OCCURRENCE (R182): the next occurrence of the channel's trigger source arrives. -/
def triggerOccurrence (n : Nat) (s : State) : State :=
  match s.firstOcc n with
  | none => s
  | some o => (s.setAcq n { s.acqCh n with occ := (s.acqCh n).occ.erase o }).acqOccur n o

/-! ### Samples (R168, R178, R185, R186) -/

/-- R188: what storing a sample takes of the write port, in 1/63 byte. -/
def State.acqCost (s : State) (n : Nat) : Nat := if s.acqPin n then 144 else 1024

/-- R188: what the samples that wait before a channel in the present base cycle take of the write port: of a reduction, its whole records. -/
def State.acqDemand (s : State) (n : Nat) : Nat :=
  let x := s.acqCh n
  let k := (x.feed.filter (fun i => i.gap.isNone && !i.opens && i.inst / cyc == s.now / cyc)).length
  if s.acqLive n = false ∨ s.acqSource n = 0 then 0
  else if s.acqRed n then (x.red.n + k) / (s.rd F.ACQ_RED_NM1 n + 1) * 2048
  else k * s.acqCost n

/-- R188, R154: what the write port keeps for those that come before a channel: the channels of lower number, and the fail-log writer with the
record it has ready. -/
def State.portKept (s : State) (n : Nat) : Nat :=
  ((List.range n).map s.acqDemand).foldl (· + ·) 0 +
  (match s.fl.queue with
   | (key, _) :: _ => if key / 16 ≤ s.now ∧ s.fl.wrote ≠ some (s.now / cyc) then 1008 else 0
   | [] => 0)

/-- R186, R173: a sample dropped: the gap of its leaf grows, or begins, and a PIN page ends there. -/
def State.acqDrop (s : State) (n : Nat) (key inst : Nat) : State :=
  let x := s.acqCh n
  let begins : State :=
    (s.setAcq n { x with gaps := x.gaps ++ [{ leaf := key, cause := 0, inst := inst, len := 1 }] }).gapBegins n true
  let s1 : State := match (x.gaps.filter (fun g => g.leaf == key)).getLast? with
    | some g =>
      if g.cause = 0 then s.setAcq n { x with gaps := x.gaps.map (fun (h : AcqGap) => if h = g then { g with len := g.len + 1 } else h) }
      else begins
    | none => begins
  let s2 := s1.gapLoses n 1
  if s.acqPin n then s2.closePage n key else s2

/-- What a channel does with a sample or reduction record of a key: stored where there is room, lost in a gap otherwise; counted
either way. -/
def State.acqStore (s : State) (n key inst pos : Nat) (es : List (Nat × Bool)) : State :=
  let cost := s.acqCost n * es.length
  let room := decide (s.portUsed + s.portKept n + cost ≤ 4032) && !(s.acqCh n).waits key
  let s2 := if room then ((s.usePort cost).flushGaps n key).acqPut n key pos inst es else s.acqDrop n key inst
  let s5 := s2.acqCount n key
  let s6 := if s5.acqState n = aFILLING ∧ (s5.acqKeys n).all (fun k =>
      decide (s5.rd F.ACQ_PRE_COUNT n ≤ (Table.get? (s5.acqCh n).counts k).getD 0)) then s5.wr F.ACQ_STAT_STATE n aARMED else s5
  if s6.acqComplete n then s6.acqEnd n aDONE
  else
    (if s6.acqFull n ((s6.acqCh n).page key pos) then s6.closePage n key else s6).acqPump n

/-- R185: the value of a sample, and what it adds to COUNT. -/
def State.redValue (s : State) (n : Nat) (x : AcqCh) (i : AcqItem) (pins : Nat) : Option (Int × Nat) :=
  let src := s.acqSource n
  if src = 1 then
    let high := ((List.range 9).filter (fun j => pins.testBit (2 * j + 1))).length
    let changed := match x.prev with
      | none => 0
      | some p => ((List.range 9).filter (fun j => bits p (2 * j) 2 != bits pins (2 * j) 2)).length
    some (high, changed)
  else if src = 2 then i.val.map (fun v => (v, 1))
  else if src = 3 then i.val.map (fun v => (v, 0))
  else match x.prev, i.val with
    | some p, some _ => some (((min (i.inst - p) 8388607 : Nat) : Int), 1)
    | _, _ => none

/-- R185: a value put into the open interval. -/
def AcqRed.add (r : AcqRed) (v : Int) (c inst : Nat) : AcqRed :=
  if r.n = 0 then { n := 1, mn := v, mx := v, sum := v, sumsq := (v * v).toNat, count := c, tick := tickOf inst % 2 ^ 32, t0 := inst }
  else { n := r.n + 1, mn := min r.mn v, mx := max r.mx v, sum := r.sum + v, sumsq := r.sumsq + (v * v).toNat,
         count := r.count + c, tick := r.tick, t0 := r.t0 }

/-- A sample that reaches a channel, remembered for 4 ticks. -/
def AcqCh.note (x : AcqCh) (key inst tick : Nat) : AcqCh :=
  let o := (Table.get? x.counts key).getD 0
  let h := x.hist.filter (fun e => decide (tick < e.2.2.2 + 6)) ++ [(key, inst, o, tick)]
  { x with hist := h, locs := x.locs.filter (fun e => h.any (fun g => g.1 == e.1 && decide (g.2.2.1 ≤ e.2.1))) }

/-- ACQ_SAMPLE (R168): the next sample of a channel arrives; for PIN, `pins` are the raw comparator outputs it holds. It is stored,
reduced or lost, and the channel's state advances; a HOLD gap is written. -/
def acqSample (n pins : Nat) (s : State) : State :=
  let x := s.acqCh n
  match x.feed with
  | [] => s
  | i :: rest =>
    if s.acqLive n = false then s.setAcq n { x with feed := [] }
    else if !s.due i.inst then s
    else
      let s0 := (s.goto i.inst).setAcq n { x with feed := rest }
      if i.opens then ((if s.acqPin n then s0.closePage n i.leaf else s0).gapBegins n false).acqPump n
      else match i.gap with
      | some len =>
        let s1 := s0.flushGaps n (if s.acqPin n then i.leaf else 0)
        (s1.writeGap n { leaf := i.leaf, cause := 1, inst := i.inst, len := len }).acqPump n
      | none =>
        if s.acqRed n then
          let y := (s0.acqCh n).note 0 i.inst s0.tick
          let z := { y with prev := if s.acqSource n = 1 then some pins else if s.acqSource n = 4 ∧ i.val = none then y.prev else some i.inst }
          match s.redValue n x i pins with
          | none => s0.setAcq n z
          | some (v, c) =>
            let r := z.red.add v c i.inst
            if r.n = s.rd F.ACQ_RED_NM1 n + 1 then
              let w := s.redRecord n r false
              (s0.setAcq n { z with red := {} }).acqStore n 0 r.t0 0 [(w % 2 ^ 128, false), (w / 2 ^ 128, false)]
            else s0.setAcq n { z with red := r }
        else
          let key := if s.acqPin n then i.leaf else 0
          let s1 := s0.setAcq n ((s0.acqCh n).note key i.inst s0.tick)
          s1.acqStore n key i.inst i.pos [(if s.acqPin n then pins else i.data, false)]

/-- ACQ_DRAIN (R187): the oldest FIFO page reaches DRAM; a page that waited for a free FIFO page follows. A page whose DRAM write
meets an uncorrectable error is lost; a stalled subchannel holds it back (R335). -/
def acqDrain (n : Nat) (s : State) : State :=
  let x := s.acqCh n
  match x.fifo with
  | [] => s
  | (d, b) :: rest =>
    let a := s.acqDramAt n d.seq
    if s.due x.drainAt ∧ s.stalledAt a 4096 = false then
      let s0 := s.goto x.drainAt
      let y := { x with fifo := rest, drainAt := x.drainAt + s.acqDrainTu n }
      let lost := s.rangeFaulty a 4096
      let s1 := if lost then
          ((s0.setAcq n { y with gaps := y.gaps ++ [{ leaf := d.leaf, cause := 2, inst := d.t0, len := d.n }] }).gapBegins n true).gapLoses n d.n
        else ((s0.setAcq n y).wake).dramWrite a b
      (s1.wr F.ACQ_SEQ_WR n (d.seq + 1)).acqPump n
    else s

/-! ### ACQ_CTL (R179, R181) -/

/-- R181, R182: a write of ACQ_CTL.FORCE: it triggers at the tick boundary after it; during the fill it is ignored and counted. -/
def acqForce (n : Nat) (s : State) : State × Ans :=
  let st := s.acqState n
  if st = aFILLING then (s.acqBump F.ACQ_IGN_TRIG_COUNT n 1 0x58, .ok)
  else if st = aARMED then
    (s.setAcq n { s.acqCh n with occ := (s.acqCh n).occ ++ [{ inst := tickAt (s.tick + 1), force := true }] }, .ok)
  else (s, .ok)

/-- R184: a trigger that registered on this base-clock edge undone: no time, place or mark of it stays, and no message or event that has not
left. -/
def State.untrigger (s : State) (n old : Nat) : State :=
  let t := s.rd F.ACQ_TRIG_TIME_TIME n
  let drop (s : State) (c : Nat) : State :=
    match s.evt.ring.getLast? with
    | some m =>
      if m.code = c ∧ m.index = n ∧ m.seq ≠ s.rd F.EVT_SEQ_SENT 0 - 1 ∧ (m.seq + 1) % 2 ^ 24 = s.rd F.EVT_SEQ_NEXT 0 then
        { s with evt := { s.evt with ring := s.evt.ring.dropLast } }.wr F.EVT_SEQ_NEXT 0 m.seq
      else s
    | none => s
  let s1 := ((s.unmark n).wr F.ACQ_TRIG_TIME_TIME n old)
  let s2 := drop (if s.acqState n = aDONE then drop s1 0x93 else s1) 0x91
  { s2 with acq := { s2.acq with sent := s2.acq.sent.filter (fun e => e != (n, t)) }
            clu := { s2.clu with out := s2.clu.out.filter (fun e => e.2 != .xtrig (Fin.ofNat 16 s.module) (Fin.ofNat 8 n) (BitVec.ofNat 96 t)) } }

/-- R179, R184: a write of ACQ_CTL.STOP; on the edge on which the trigger registers it governs. -/
def acqStopWrite (n : Nat) (s : State) : State × Ans :=
  let s1 := match (s.acqCh n).trigEdge with
    | some (e, old) =>
      if e = edgeUp s.now ∧ (s.acqState n = aTRIGGERED ∨ s.acqState n = aDONE) then
        (s.untrigger n old).wr F.ACQ_STAT_STATE n aARMED
      else s
    | none => s
  if s1.acqLive n then (s1.acqEnd n aSTOPPED, .ok) else (s1, .ok)

/-- R179: a write of ACQ_CTL.CLEAR. -/
def acqClear (n : Nat) (s : State) : State × Ans :=
  if (s.acqState n = aDONE ∨ s.acqState n = aSTOPPED) ∧ s.acqQuiet n then (s.wr F.ACQ_STAT_STATE n aIDLE, .ok) else (s, .rejected rSTATE 0)

/-- R190: a write of ACQ_CTL. -/
def wrAcqCtl (n : Nat) (s : State) (data : Nat) : State × Ans :=
  if 1 < popcount 4 data then (s, .rejected rACTION_BITS 0)
  else if data.testBit 0 then acqArm n s
  else if data.testBit 1 then acqStopWrite n s
  else if data.testBit 2 then acqForce n s
  else if data.testBit 3 then acqClear n s
  else (s, .ok)

/-- R190: a write of a setup register of a channel: only while the channel is IDLE, DONE or STOPPED, and in range. -/
def acqSetup (n : Nat) (ok : Nat → Bool) (put : State → Nat → State) (s : State) (data : Nat) : State × Ans :=
  if s.acqQuiet n = false then (s, .rejected rSTATE 0)
  else if ok data then (put s data, .ok)
  else (s, .rejected rRANGE 0)

/-- R190: the range of ACQ_CFG. -/
def acqCfgOk (data : Nat) : Bool := decide (bits data 0 4 ≤ 4) && decide (bits data 48 11 ≤ 1279)

/-- R190: the range of ACQ_TRIG. -/
def acqTrigOk (data : Nat) : Bool := bits data 48 16 != 0

/-- The address of ACQ_CTL of a channel. -/
def acqCtlAddr (n : Nat) : Nat := 0x310100 + 0x100 * n

/-- ARM_CHANNEL. -/
def execArmChannel (h : Hdr) (n : Fin 8) (s : State) : Host.Outcome State Fault Refusal :=
  .next (s.request h (acqCtlAddr n.val) (.write64 1) (acqArm n.val))

/-- STOP. -/
def execStop (h : Hdr) (n : Fin 8) (s : State) : Host.Outcome State Fault Refusal :=
  .next (s.request h (acqCtlAddr n.val) (.write64 2) (acqStopWrite n.val))

/-- FORCE. -/
def execForce (h : Hdr) (n : Fin 8) (s : State) : Host.Outcome State Fault Refusal :=
  .next (s.request h (acqCtlAddr n.val) (.write64 4) (acqForce n.val))

/-- CLEAR_CHANNEL. -/
def execClearChannel (h : Hdr) (n : Fin 8) (s : State) : Host.Outcome State Fault Refusal :=
  .next (s.request h (acqCtlAddr n.val) (.write64 8) (acqClear n.val))

/-- ACQ_SAMPLE. -/
def execAcqSample (n : Fin 8) (pins : BitVec 18) (s : State) : Host.Outcome State Fault Refusal :=
  .next (acqSample n.val pins.toNat s)

/-- TRIGGER_OCCURRENCE. -/
def execTriggerOccurrence (n : Fin 8) (s : State) : Host.Outcome State Fault Refusal := .next (triggerOccurrence n.val s)

/-- ACQ_DRAIN. -/
def execAcqDrain (n : Fin 8) (s : State) : Host.Outcome State Fault Refusal := .next (acqDrain n.val s)

end Sys2Proof.Machine
end

