-- ==== Sys2Proof/Machine/Dc.lean ====
section
/-! DEFINITION. DC force and measure: the PMUs, the delta-sigma converters, thresholds and path diagnosis (09_dc.md). -/

namespace Sys2Proof.Machine

/-- A PMU. -/
def State.pmu (s : State) (p : Nat) : Pmu := (Table.get? s.dc.pmus p).getD {}

/-- A PMU, set. -/
def State.setPmu (s : State) (p : Nat) (x : Pmu) : State := { s with dc := { s.dc with pmus := Table.set s.dc.pmus p x } }

/-- The converter of a leaf. -/
def State.dsa (s : State) (l : Nat) : Dsa := (Table.get? s.dc.dsas l).getD {}

/-- The converter of a leaf, set. -/
def State.setDsa (s : State) (l : Nat) (x : Dsa) : State := { s with dc := { s.dc with dsas := Table.set s.dc.dsas l x } }

/-! ### The PMU (R212 to R215) -/

/-- R220: the settling time of a range, in µs. -/
def State.setRange (s : State) (l range : Nat) : Nat :=
  if range = 0 then s.rd F.DSA_SETTLE0_SET_A l else if range = 1 then s.rd F.DSA_SETTLE0_SET_B l
  else if range = 2 then s.rd F.DSA_SETTLE0_SET_C l else if range = 3 then s.rd F.DSA_SETTLE1_SET_D l
  else s.rd F.DSA_SETTLE1_SET_E l

/-- R223: the lowest node of a scan from `c` on, or from the beginning. -/
def scanNode (mask c : Nat) : Nat :=
  let l := maskList 13 mask
  match l.find? (fun k => decide (c ≤ k)) with
  | some k => k
  | none => l.headD 0

/-- R216, R223: the node that DSA_CTL selects. -/
def State.ctlNode (s : State) (l : Nat) : Nat :=
  if s.rd F.DSA_CTL_MODE l = 3 then scanNode (s.rd F.DSA_CTL_SCANMASK l) 0 else s.rd F.DSA_CTL_CHAN l

/-- R220: a change to a pin, with its settling time in µs: at the next boundary it counts where the leaf's converter converts the pin. -/
def State.dsaChange (s : State) (p us : Nat) : State :=
  let x := s.dsa (p / 9)
  s.setDsa (p / 9) { x with pins := x.pins ++ [(p % 9, us)] }

/-- R212: the mode forces a voltage or a current. -/
def forcing (mode : Nat) : Bool := mode == 1 || mode == 2

/-- R213, R214, R220: a PMU takes new settings. RANGE is ignored in OFF and MVHZ, in which nothing holds the pad either. -/
def State.pmuSet (s : State) (p : Nat) (y0 : Pmu) : State :=
  let x := s.pmu p
  let l := p / 9
  let y := if forcing y0.mode then y0 else { y0 with range := x.range }
  let s1 := (s.setPmu p { y with next := none }).wr F.DC_PIN_STAT_CONN p (bit (decide (y.mode ≠ 0)))
  let s2 := if x.mode ≠ y.mode then s1.dsaChange p (s.rd F.DSA_SETTLE0_SET_MODE l) else s1
  if forcing y.mode then
    (if x.range ≠ y.range ∨ x.vforce ≠ y.vforce ∨ x.iforce ≠ y.iforce then s2.dsaChange p (s.setRange l y.range) else s2)
  else s2.wr F.DC_PIN_STAT_CLAMP p 0

/-- R212, R380: what a pin's pad gets from the pattern path: while its PMU is connected, nothing; under FAULT cause RAIL no driver. -/
def State.pad (s : State) (l j : Nat) : PinDrv :=
  match s.env.rail with
  | some term => { on := false, high := false, term := term }
  | none => if (s.pmu (9 * l + j)).mode ≠ 0 then {} else (Table.get? (s.leaf l).drv j).getD {}

/-- R214: a PMU's registers take effect at a tick boundary. -/
def State.pmuTick (s : State) (p : Nat) : State :=
  match (s.pmu p).next with
  | some k =>
    if k ≤ s.tick then
      s.pmuSet p { mode := s.rd F.DC_PIN_CFG_MODE p, range := s.rd F.DC_PIN_CFG_RANGE p, vforce := s.rd F.DC_PIN_FORCE_VFORCE p,
                   iforce := s.rd F.DC_PIN_FORCE_IFORCE p }
    else s
  | none => s

/-- R215: a connected PMU goes to OFF. -/
def State.pmuOff (s : State) (p : Nat) : State :=
  let x := s.pmu p
  let s1 := s.wr F.DC_PIN_CFG_MODE p 0
  if x.mode ≠ 0 then s1.pmuSet p { x with mode := 0 } else s1.setPmu p { x with next := none }

/-- R215: an accepted start disconnects the PMUs of the unit's leaves. -/
def State.dcStart (s : State) (ls : List Nat) : State :=
  ls.foldl (fun s l => (List.range 9).foldl (fun s j =>
    if (s.pmu (9 * l + j)).mode ≠ 0 ∨ s.rd F.DC_PIN_CFG_MODE (9 * l + j) ≠ 0 then s.pmuOff (9 * l + j) else s) s) s

/-- R217: the output period. -/
def Dsa.tout (x : Dsa) : Nat := x.ratio * 128000

/-- R217: at a boundary `T` at which the conversion restarts or ends, the output that has ended and is not delivered yet is kept. -/
def Dsa.keepTail (x : Dsa) (T : Nat) : Dsa :=
  let t := x.tf + (x.n + 1) * x.tout
  if x.phase = 2 ∧ x.scanAt = none ∧ t ≤ T then
    let late := decide (x.inval < x.n + 1)
    { x with tail := some { at_ := t, node := x.node, late := late, settle := if late then 0 else min 7 (x.inval - (x.n + 1)),
                            suppress := x.suppress, prev := x.prev } }
  else x

/-- R225: MODE goes to OFF: the converter is powered down and the memory of the watched node cleared. -/
def State.dsaOff (s : State) (l : Nat) : State :=
  let x := s.dsa l
  (s.setDsa l { x with phase := 0, mode := 0, next := none, go := none, scanAt := none, changes := [], pins := [], prev := none, n := 0 }).wrs
    [(F.DSA_CTL_MODE, l, 0), (F.DSA_STAT_BUSY, l, 0), (F.DSA_STAT_SETTLING, l, 0)]

/-- R215: the module unmounts or enters SAFE: every PMU and DSA goes to OFF and every test DAC to 0. -/
def State.dcOff (s : State) : State :=
  let s1 := (List.range 144).foldl (fun s p => if (s.pmu p).mode ≠ 0 ∨ s.rd F.DC_PIN_CFG_MODE p ≠ 0 then s.pmuOff p else s) s
  let s2 := (List.range 16).foldl (fun s l => (s.setDsa l { s.dsa l with tail := none }).dsaOff l) s1
  { s2 with dc := { s2.dc with diags := [], dacs := [] } }

/-- A signed field in a range. -/
def sxIn (lo hi : Int) (w v : Nat) : Bool := decide (lo ≤ sx w v) && decide (sx w v ≤ hi)

/-- R213, R215: a write of DC_PIN_CFG. -/
def wrDcPinCfg (p : Nat) (s : State) (data : Nat) : State × Ans :=
  if s.calBusy then (s, .rejected rCAL_BUSY 0)
  else if 4 < bits data 2 3 then (s, .rejected rRANGE 0)
  else if data % 4 ≠ 0 ∧ s.unitBusy (p / 9) then (s, .rejected rDC_BUSY 0)
  else
    ((s.wrs [(F.DC_PIN_CFG_MODE, p, data % 4), (F.DC_PIN_CFG_RANGE, p, bits data 2 3)]).setPmu p { s.pmu p with next := some (s.tick + 1) },
     .ok)

/-- R213: a write of DC_PIN_FORCE. -/
def wrDcPinForce (p : Nat) (s : State) (data : Nat) : State × Ans :=
  let v := bits data 0 16
  let i := bits data 16 16
  let lo := bits data 32 16
  let hi := bits data 48 16
  if s.calBusy then (s, .rejected rCAL_BUSY 0)
  else if sxIn (-6000) 26000 16 v && sxIn (-16384) 16384 16 i && sxIn (-6000) 26000 16 lo && sxIn (-6000) 26000 16 hi
      && decide (sx 16 lo ≤ sx 16 hi) then
    ((s.wrs [(F.DC_PIN_FORCE_VFORCE, p, v), (F.DC_PIN_FORCE_IFORCE, p, i), (F.DC_PIN_FORCE_VCLO, p, lo), (F.DC_PIN_FORCE_VCHI, p, hi)]).setPmu p
      { s.pmu p with next := some (s.tick + 1) }, .ok)
  else (s, .rejected rRANGE 0)

/-- DC_PIN_STAT as it reads. -/
def State.dcPinStat (s : State) (p : Nat) : Nat :=
  pack [(0, 1, s.rd F.DC_PIN_STAT_CONN p), (1, 1, s.rd F.DC_PIN_STAT_CLAMP p), (2, 1, s.rd F.DC_PIN_STAT_CLAMP_SEEN p)]

/-- DC_CLAMP (R214): the limit of FVMI or a clamp of FIMV begins to hold the pad. -/
def dcClamp (p : Nat) (s : State) : State :=
  if ((s.pmu p).mode = 1 ∨ (s.pmu p).mode = 2) ∧ s.rd F.DC_PIN_STAT_CLAMP p = 0 then
    let s1 := (s.wr F.DC_PIN_STAT_CLAMP p 1).flag F.DC_PIN_STAT_CLAMP_SEEN p
    s1.raise 0xB0 p (s1.dcPinStat p) 0
  else s

/-- DC_CLAMP. -/
def execDcClamp (p : Fin 144) (s : State) : Host.Outcome State Fault Refusal := .next (dcClamp p.val s)

/-- CLAMP_RETURNED (R214): nothing holds the pad any more. -/
def execClampReturned (p : Fin 144) (s : State) : Host.Outcome State Fault Refusal := .next (s.wr F.DC_PIN_STAT_CLAMP p.val 0)

/-! ### The converter (R216 to R224) -/

/-- R221: how many outputs are invalid after a restart at `tf`. -/
def Dsa.invalid (x : Dsa) (tf : Nat) : Nat := (if x.fir then 5 else 2) + ceilDiv (x.ts - (tf - x.tc)) (max 1 x.tout)

/-- R221: the decimator restarts. -/
def Dsa.restart (x : Dsa) (tf : Nat) : Dsa := { x with phase := 2, tf := tf, n := 0, inval := x.invalid tf }

/-- DSA_STAT as it reads. -/
def State.dsaStat (s : State) (l : Nat) : Nat :=
  pack [(0, 1, s.rd F.DSA_STAT_BUSY l), (1, 1, s.rd F.DSA_STAT_SETTLING l), (2, 1, s.rd F.DSA_STAT_START_FAIL l),
        (3, 1, s.rd F.DSA_STAT_PATH_FAULT l)]

/-- R223, R220: the settings of DSA_CTL that take effect: those in force, and the settling times of what changes. A diagnosis in progress
keeps its node (R226). -/
def State.dsaTake (s : State) (l : Nat) (x : Dsa) : Dsa :=
  let mode := s.rd F.DSA_CTL_MODE l
  let node := if (Table.get? s.dc.diags l).any (fun d => d.begun) then x.node else s.ctlNode l
  let fir := s.on F.DSA_CTL_FIR l
  let ratio := s.rd F.DSA_CTL_RATIO l
  let ch1 := if node ≠ x.node then [s.rd F.DSA_SETTLE0_SET_CHAN l] else []
  let ch2 := if fir ≠ x.fir ∨ ratio ≠ x.ratio then [0] else []
  { x with mode := mode, node := node, fir := fir, ratio := ratio, suppress := s.on F.DSA_CTL_SUPPRESS l, next := none, scanAt := none,
           changes := x.changes ++ ch1 ++ ch2, go := if mode = 2 then x.go else none, prev := if mode = 0 then none else x.prev }

/-- R220, R223, R224: a converter at a tick boundary: its settings, a GO, the next node of a scan, a diagnosis, and the changes
to what it converts take effect. -/
def State.dsaTick (s : State) (l : Nat) : State :=
  let T := tickAt s.tick
  let x0 := s.dsa l
  let took := match x0.next with | some k => decide (k ≤ s.tick) | none => false
  let x1 := if took then s.dsaTake l x0 else x0
  let x2 := match x1.scanAt with
    | some k => if k ≤ s.tick then
        { x1 with scanAt := none, node := scanNode (s.rd F.DSA_CTL_SCANMASK l) (x1.node + 1),
                  changes := x1.changes ++ [s.rd F.DSA_SETTLE0_SET_CHAN l] }
      else x1
    | none => x1
  let (x3, dg) : Dsa × Option Diag := match Table.get? s.dc.diags l with
    | some d =>
      if d.begun = false ∧ d.at_ ≤ s.tick then
        ({ x2 with node := d.node, fir := s.on F.DSA_CTL_FIR l, ratio := s.rd F.DSA_CTL_RATIO l, suppress := s.on F.DSA_CTL_SUPPRESS l,
                   changes := x2.changes ++ [s.rd F.DSA_SETTLE0_SET_CHAN l] }, some { d with begun := true })
      else (x2, none)
    | none => (x2, none)
  let changes := x3.changes ++ (x3.pins.filter (fun e => e.1 == x3.node)).map (·.2)
  let go := match x3.go with | some k => decide (k ≤ s.tick) && x3.mode == 2 | none => false
  let ts := (changes.foldl max 0) * usTu
  let free := dg.isNone && (Table.get? s.dc.diags l).isNone
  let off := took && x3.mode == 0 && free
  let start := dg.isSome || (x3.phase == 0 && free && (go || (took && (x3.mode == 1 || x3.mode == 3))))
  let stop := took && x3.mode == 2 && x0.mode != 2 && free
  let x4 : Dsa := { x3 with changes := [], pins := [], go := if go then none else x3.go, tail := (x0.keepTail T).tail }
  if off then (s.setDsa l { s.dsa l with tail := x4.tail }).dsaOff l
  else if start then
    let s1 := match dg with | some d => { s with dc := { s.dc with diags := Table.set s.dc.diags l d } } | none => s
    (s1.setDsa l { x4 with phase := 1, t0 := T, tc := T, ts := ts, n := 0 }).wrs [(F.DSA_STAT_BUSY, l, 1), (F.DSA_STAT_SETTLING, l, 1)]
  else if stop then (s.setDsa l { x4 with phase := 0 }).wrs [(F.DSA_STAT_BUSY, l, 0), (F.DSA_STAT_SETTLING, l, 0)]
  else if changes = [] then s.setDsa l { x4 with tail := x0.tail }
  else if x4.phase = 2 then (s.setDsa l ({ x4 with tc := T, ts := ts }.restart T)).wr F.DSA_STAT_SETTLING l 1
  else if x4.phase = 1 then s.setDsa l { x4 with tc := T, ts := ts }
  else s.setDsa l x4

/-- R214, R220: PMUs and converters at a tick boundary. -/
def State.dcTick (s : State) : State :=
  let s1 := s.dc.pmus.foldl (fun (s : State) e => s.pmuTick e.1) s
  (List.range 16).foldl (fun s l =>
    let x := s.dsa l
    if x.next = none ∧ x.go = none ∧ x.scanAt = none ∧ x.changes = [] ∧ x.pins = [] ∧ (Table.get? s.dc.diags l).isNone then s else s.dsaTick l) s1

/-- DSA_REF_READY (R224): the reference buffer reports ready; 40 µs after the start at the earliest the first sample follows. -/
def dsaRefReady (l : Nat) (s : State) : State :=
  let x := s.dsa l
  let t := max s.now (x.t0 + 40 * usTu)
  if x.phase = 1 ∧ s.due t ∧ t < x.t0 + 100 * usTu then (s.goto t).setDsa l (x.restart t) else s

/-- DSA_REF_READY. -/
def execDsaRefReady (l : Fin 16) (s : State) : Host.Outcome State Fault Refusal := .next (dsaRefReady l.val s)

/-- DSA_START_TIMEOUT (R224): a buffer not ready 100 µs after the start abandons the conversion. -/
def dsaStartTimeout (l : Nat) (s : State) : State :=
  let x := s.dsa l
  let t := x.t0 + 100 * usTu
  if x.phase = 1 ∧ s.due t then
    let s0 := s.goto t
    let s1 := ({ s0 with dc := { s0.dc with diags := Table.erase s0.dc.diags l } }.dsaOff l).flag F.DSA_STAT_START_FAIL l
    s1.raise 0xB1 l (s1.dsaStat l) 0
  else s

/-- DSA_START_TIMEOUT. -/
def execDsaStartTimeout (l : Fin 16) (s : State) : Host.Outcome State Fault Refusal := .next (dsaStartTimeout l.val s)

/-- R225: a valid output of the watched node compared with the one before, `before`. -/
def State.dsaThr (s : State) (l node : Nat) (before : Option Int) (v : Int) (t : Nat) : State :=
  if node = s.rd F.DSA_THR_CFG_THR_CHAN l then
    let mode := s.rd F.DSA_THR_CFG_THR_MODE l
    let hi := sx 24 (s.rd F.DSA_THR_LVL_HI l)
    let lo := sx 24 (s.rd F.DSA_THR_LVL_LO l)
    let hit := match before with
      | none => false
      | some p => ((mode == 1 || mode == 3) && decide (p < hi) && decide (hi ≤ v))
                  || ((mode == 2 || mode == 3) && decide (lo < p) && decide (v ≤ lo))
    if hit then
      let s2 := s.bump F.DSA_THR_COUNT_COUNT l 1 F.DC_GSTATUS_SAT 0 11 (0x2000 + 0x100 * l + 0x28)
      let tr := s2.trig
      let s3 := { s2 with trig := if tickOf t < s2.tick then { tr with thrLast := setBit tr.thrLast l true }
                                  else { tr with thrNow := setBit tr.thrNow l true } }
      (s3.journalInput 3 l true l t).occursThr l t
    else s
  else s

/-- R226: a valid output taken by the diagnosis that runs. -/
def State.diagTake (s : State) (l : Nat) (v : Int) : State :=
  match Table.get? s.dc.diags l with
  | some d => if d.begun ∧ d.count < 16 then
      { s with dc := { s.dc with diags := Table.set s.dc.diags l { d with sum := d.sum + v, count := d.count + 1 } } }
    else s
  | none => s

/-- R219, R221: the result word of an output. -/
def dsaWord (v : Int) (valid : Bool) (settle node : Nat) : Nat := pack [(0, 24, twos 24 v), (24, 1, bit valid), (25, 3, settle), (28, 4, node)]

/-- R217, R219, R222, R225: an output of a node, sampled at `t`, delivered: its word in DSA_RES and to the acquisition engine unless it is withheld;
a valid one in the node's register and against the threshold. -/
def State.dsaDeliver (s : State) (l node t : Nat) (v : Int) (valid suppress : Bool) (settle : Nat) (before : Option Int) : State :=
  let w := dsaWord v valid settle node
  let s1 := if suppress && !valid then s
    else (s.wrs [(F.DSA_RES_RESULT, l, w), (F.DSA_RES_GEN, l, s.rd F.DSA_RES_GEN l + 1)]).feedDsa l t w (if valid then some v else none)
  if valid then (s1.wrs [(F.DSA_CHV_RESULT, l * 13 + node, w), (F.DSA_CHV_TICK, l * 13 + node, tickOf t)]).dsaThr l node before v t else s1

/-- R225: the memory of the watched node after a valid output. -/
def State.dsaRemember (s : State) (l node : Nat) (v : Int) : State :=
  if node = s.rd F.DSA_THR_CFG_THR_CHAN l then s.setDsa l { s.dsa l with prev := some v } else s

/-- DSA_OUTPUT (R217, R219, R221 to R223): an output ends, is marked, and 160 base cycles later is delivered or withheld; one that ended before
a change took effect comes first. `raw` is the value before it saturates. -/
def dsaOutput (l : Nat) (raw : Int) (s : State) : State :=
  let x := s.dsa l
  let v := max (-8388608) (min 8388607 raw)
  match x.tail with
  | some a =>
    if s.due (a.at_ + 160 * cyc) then
      let valid := a.late && decide (v = raw)
      let s1 := ((s.goto (a.at_ + 160 * cyc)).setDsa l { x with tail := none }).dsaDeliver l a.node a.at_ v valid a.suppress a.settle a.prev
      if valid ∧ x.prev.isSome then s1.dsaRemember l a.node v else s1
    else s
  | none =>
  let t := x.tf + (x.n + 1) * x.tout
  if x.phase = 2 ∧ x.scanAt = none ∧ s.due (t + 160 * cyc) then
    let s0 := s.goto (t + 160 * cyc)
    let late := decide (x.inval < x.n + 1)
    let valid := late && decide (v = raw)
    let settle := if late then 0 else min 7 (x.inval - (x.n + 1))
    let s1 := (s0.setDsa l { x with n := x.n + 1 }).wr F.DSA_STAT_SETTLING l (bit (decide (x.n + 1 < x.inval)))
    let s2 := s1.dsaDeliver l x.node t v valid x.suppress settle x.prev
    if valid then
      let s4 := (s2.dsaRemember l x.node v).diagTake l v
      if (Table.get? s.dc.diags l).isSome then s4
      else if x.mode = 2 then (s4.setDsa l { s4.dsa l with phase := 0 }).wrs [(F.DSA_STAT_BUSY, l, 0), (F.DSA_STAT_SETTLING, l, 0)]
      else if x.mode = 3 then s4.setDsa l { s4.dsa l with scanAt := some (s4.tick + 1) }
      else s4
    else s2
  else s

/-- DSA_OUTPUT. -/
def execDsaOutput (l : Fin 16) (raw : BitVec 32) (s : State) : Host.Outcome State Fault Refusal := .next (dsaOutput l.val raw.toInt s)

/-! ### Commands (R223, R226) -/

/-- R216, R217, R223: a write of DSA_CTL. -/
def wrDsaCtl (l : Nat) (s : State) (data : Nat) : State × Ans :=
  let ratio := bits data 9 19
  if s.calBusy then (s, .rejected rCAL_BUSY 0)
  else if 12 < bits data 2 4 ∨ ratio < 160 ∨ 500000 < ratio ∨ (data % 4 = 3 ∧ bits data 28 13 = 0) then (s, .rejected rRANGE 0)
  else
    ((s.wrs [(F.DSA_CTL_MODE, l, data % 4), (F.DSA_CTL_CHAN, l, bits data 2 4), (F.DSA_CTL_FIR, l, bits data 6 1),
      (F.DSA_CTL_SUPPRESS, l, bits data 7 1), (F.DSA_CTL_RATIO, l, ratio), (F.DSA_CTL_SCANMASK, l, bits data 28 13)]).setDsa l
      { s.dsa l with next := some (s.tick + 1) }, .ok)

/-- R223: a write of DSA_CMD.GO. -/
def dsaGo (l : Nat) (s : State) : State × Ans :=
  if s.calBusy then (s, .rejected rCAL_BUSY 0)
  else if s.rd F.DSA_CTL_MODE l ≠ 2 ∨ s.on F.DSA_STAT_BUSY l then (s, .rejected rSTATE 0)
  else (s.setDsa l { s.dsa l with go := some (s.tick + 1) }, .ok)

/-- R226: the node of a target. -/
def diagNode (target : Nat) : Nat := if target = 0 then 9 else target - 1

/-- R226: a write of DSA_CMD.DIAG. -/
def dsaDiag (l : Nat) (s : State) : State × Ans :=
  let target := s.rd F.DC_DIAG_CFG_TARGET l
  if s.calBusy then (s, .rejected rCAL_BUSY 0)
  else if s.rd F.DSA_CTL_MODE l ≠ 0 ∨ (Table.get? s.dc.diags l).isSome
      ∨ (target ≠ 0 ∧ ((s.pmu (9 * l + (target - 1))).mode ≠ 0 ∨ s.rd F.DC_PIN_CFG_MODE (9 * l + (target - 1)) ≠ 0)) then
    (s, .rejected rSTATE 0)
  else
    let d : Diag := { at_ := s.tick + 1, node := diagNode target }
    ({ s with dc := { s.dc with diags := Table.set s.dc.diags l d, dacs := Table.set s.dc.dacs l (s.rd F.DC_DIAG_CFG_CODE l) } }, .ok)

/-- R228: a write of DSA_CMD. -/
def wrDsaCmd (l : Nat) (s : State) (data : Nat) : State × Ans :=
  if s.calBusy then (s, .rejected rCAL_BUSY 0)
  else if data % 4 = 3 then (s, .rejected rACTION_BITS 0)
  else if data.testBit 0 then dsaGo l s
  else if data.testBit 1 then dsaDiag l s
  else (s, .ok)

/-- R228: a write of DC_DIAG_CFG; the test DAC takes CODE at once when no diagnosis runs. -/
def wrDcDiagCfg (l : Nat) (s : State) (data : Nat) : State × Ans :=
  if s.calBusy then (s, .rejected rCAL_BUSY 0)
  else if 9 < bits data 16 4 then (s, .rejected rRANGE 0)
  else
    let s1 := s.wrs [(F.DC_DIAG_CFG_CODE, l, bits data 0 16), (F.DC_DIAG_CFG_TARGET, l, bits data 16 4), (F.DC_DIAG_CFG_TOL, l, bits data 24 24)]
    (if (Table.get? s.dc.diags l).isSome then s1
     else { s1 with dc := { s1.dc with dacs := Table.set s1.dc.dacs l (bits data 0 16) } }, .ok)

/-- R225: a write of DSA_THR_CFG. -/
def wrDsaThrCfg (l : Nat) (s : State) (data : Nat) : State × Ans :=
  if 12 < bits data 2 4 then (s, .rejected rRANGE 0)
  else ((s.wrs [(F.DSA_THR_CFG_THR_MODE, l, data % 4), (F.DSA_THR_CFG_THR_CHAN, l, bits data 2 4)]).setDsa l { s.dsa l with prev := none }, .ok)

/-- R225: a write of DSA_THR_LVL. -/
def wrDsaThrLvl (l : Nat) (s : State) (data : Nat) : State × Ans :=
  if sx 24 (bits data 32 24) < sx 24 (bits data 0 24) then (s, .rejected rRANGE 0)
  else (s.wrs [(F.DSA_THR_LVL_LO, l, bits data 0 24), (F.DSA_THR_LVL_HI, l, bits data 32 24)], .ok)

/-- The address of DSA_CMD of a leaf. -/
def dsaCmdAddr (l : Nat) : Nat := 0x332040 + 0x100 * l

/-- GO. -/
def execGo (h : Hdr) (l : Fin 16) (s : State) : Host.Outcome State Fault Refusal := .next (s.request h (dsaCmdAddr l.val) (.write64 1) (dsaGo l.val))

/-- DIAG. -/
def execDiag (h : Hdr) (l : Fin 16) (s : State) : Host.Outcome State Fault Refusal := .next (s.request h (dsaCmdAddr l.val) (.write64 2) (dsaDiag l.val))

/-- R226: CODE × 78.125, rounded to the nearest integer (a half up). -/
def diagExpected (code : Nat) : Int := ((code * 625 + 4) / 8 : Nat)

/-- DSA_DIAG_DONE (R226): 16 valid outputs taken, the diagnosis reports. A mean that is no integer is rounded up or down: which is
open. -/
def dsaDiagDone (l : Nat) (s : State) : State :=
  match Table.get? s.dc.diags l with
  | none => s
  | some d =>
    if d.count < 16 then s
    else
      let (s0, r) : State × Nat := if d.sum % 16 = 0 then (s, 0) else s.fresh
      let meas := d.sum / 16 + ((r % 2 : Nat) : Int)
      let pass := decide ((meas - diagExpected (s.rd F.DC_DIAG_CFG_CODE l)).natAbs ≤ s.rd F.DC_DIAG_CFG_TOL l)
      let s1 := ({ s0 with dc := { s0.dc with diags := Table.erase s0.dc.diags l } }.dsaOff l).wrs
        [(F.DC_DIAG_RES_MEAS, l, twos 24 meas), (F.DC_DIAG_RES_DONE, l, 1), (F.DC_DIAG_RES_PASS, l, bit pass)]
      let res (s : State) : Nat := pack [(0, 24, s.rd F.DC_DIAG_RES_MEAS l), (24, 1, 1), (25, 1, bit pass)]
      let s2 := if pass then s1
        else (s1.flag F.DSA_STAT_PATH_FAULT l).raise 0xB2 l ((s1.flag F.DSA_STAT_PATH_FAULT l).dsaStat l) 0
      s2.raise 0xB3 l (res s2) 0

/-- DSA_DIAG_DONE. -/
def execDsaDiagDone (l : Fin 16) (s : State) : Host.Outcome State Fault Refusal := .next (dsaDiagDone l.val s)

end Sys2Proof.Machine
end

