-- ==== Sys2Proof/Machine/Flow.lean ====
section
/-! DEFINITION. Pattern flow of a leaf: the issue queue, bead boundaries, vector issue and its edges, holds, aborts and the end
of a run (02_vectors.md, 03_strands.md, 05_timing.md R134 to R138, R144, R145). -/

namespace Sys2Proof.Machine

/-! ### Beads in the cache -/

/-- A slot of a leaf's bead cache. -/
def Cache.slot (c : Cache) (k : Nat) : CSlot := (Table.get? c.slots k).getD {}

/-- R64: the pinned slot that the plan in force gives a bead. -/
def Cache.pinSlot (c : Cache) (strand bead : Nat) : Option Nat :=
  (c.pinned.find? (fun e => e.1 == strand && e.2.1 == bead)).map (fun e => e.2.2)

/-- R65: the ring slots that hold what plays next: without the head while the bead in play is a ring bead. -/
def Cache.ahead (c : Cache) (x : Leaf) : List Nat := if x.curRing then c.ring.drop 1 else c.ring

/-- R311: the pinned slot that serves a bead: none for a strand that the plan in force shows UNPLANNED. -/
def State.pinned (s : State) (l strand bead : Nat) : Option Nat :=
  if dRes (s.desc strand) = 0 then none else (s.cache l).pinSlot strand bead

/-- The slot in which a bead of the order of play is, or will be, found. -/
def State.beadSlot (s : State) (l strand bead : Nat) : Option Nat :=
  let c := s.cache l
  match s.pinned l strand bead with
  | some k => some k
  | none => (c.ahead (s.leaf l)).find? (fun k => (c.slot k).strand == strand && (c.slot k).bead == bead)

/-- R65: the slot of bead number `bs` of the run: the head of the ring while the leaf plays that bead from the ring. -/
def State.slotAt (s : State) (l bs strand bead : Nat) : Option Nat :=
  if (s.leaf l).curRing ∧ bs = (s.leaf l).beadSeq then (s.cache l).ring.head? else s.beadSlot l strand bead

/-- A slot's header as a 128-bit word. -/
def CSlot.hdr (c : CSlot) : Nat := ofBytes c.header

/-- R60: the first check that fails on a whole bead (R97 code): header parity or play check; then LAST and reserved bits. -/
def State.beadFault (s : State) (c : CSlot) (strand bead : Nat) : Option Nat :=
  if c.parity != 0 || c.bad || crc16 c.payload != hCrc c.hdr then some 0x03
  else if hReserved c.hdr ≠ 0 || (hLast c.hdr != (bead + 1 == dLen (s.desc strand))) then some 0x04
  else none

/-- R67: the slot's bead has landed 16 base cycles before a launch edge. -/
def CSlot.present (c : CSlot) (le : Nat) : Bool :=
  match c.landed with
  | none => false
  | some t => decide (t + 16 * cyc ≤ le)

/-! ### What plays next -/

/-- R74: of the jumps latched on or before a launch edge, the one that applies. -/
def jumpWinner (js : List Jump) (le : Nat) : Option Jump :=
  (js.filter (fun j => decide (j.at_ ≤ le))).foldl
    (fun a j => match a with
      | none => some j
      | some b => if j.cls ≤ b.cls then some j else a) none

/-- What plays after a bead. -/
structure NextB where
  strand : Nat
  bead : Nat
  loops : List Loop
  jump : Option Jump
  seam : Bool
  stop : Bool
  deriving DecidableEq, Repr

/-- R79, R70, R68: what follows bead `bead` of `strand` when no jump applies: the loop's body, the next bead, the successor,
or the end of the run. -/
def State.follow (s : State) (x : Leaf) (strand bead : Nat) (loops : List Loop) : NextB :=
  let d := s.desc strand
  let cont (loops : List Loop) : NextB :=
    if bead + 1 < dLen d then ⟨strand, bead + 1, loops, none, false, false⟩
    else if x.seamEnd || dEnd d then ⟨strand, bead, loops, none, true, true⟩
    else ⟨dNext d, 0, loops, none, true, false⟩
  match loops with
  | .loopb st a e left :: rest =>
    if st = strand ∧ e = bead then
      if left ≠ 0 then ⟨strand, a, .loopb st a e (left - 1) :: rest, none, false, false⟩ else cont rest
    else cont loops
  | _ => cont loops

/-- What plays at the boundary that a leaf stands at, or at the end of the bead it plays. -/
def State.nextB (s : State) (l le : Nat) : NextB :=
  let x := s.leaf l
  match jumpWinner x.jumps le with
  | some j => ⟨j.target, 0, [], some j, false, false⟩
  | none =>
    if x.moved then ⟨x.strand, x.bead, x.loops, none, false, false⟩
    else if x.beadSeq = 0 then ⟨(s.unit x.unit).strand, 0, [], none, false, false⟩
    else s.follow x x.strand x.bead x.loops

/-! ### The issue queue (R46, R99, R100) -/

/-- The position (number of its bead in the run, strand, bead, offset) of the next vector to enter the queue. -/
def State.entryPos (s : State) (l : Nat) : Option (Nat × Nat × Nat × Nat) :=
  let x := s.leaf l
  match x.queue.getLast? with
  | some q =>
    if q.off < 63 then some (q.beadSeq, q.strand, q.bead, q.off + 1)
    else
      let n := if q.beadSeq = x.beadSeq then s.nextB l s.now else s.follow x q.strand q.bead x.loops
      if n.stop then none else some (q.beadSeq + 1, n.strand, n.bead, 0)
  | none =>
    if x.bdue ∨ x.phase = .armed then
      let n := s.nextB l s.now
      if n.stop then none else some (x.beadSeq + 1, n.strand, n.bead, 0)
    else if x.off < 64 then some (x.beadSeq, x.strand, x.bead, x.off)
    else
      let n := s.nextB l s.now
      if n.stop then none else some (x.beadSeq + 1, n.strand, n.bead, 0)

/-- R43: the states as written that a vector entering the queue will take, all vectors before it applied. -/
def Leaf.statesAhead (x : Leaf) (w : Nat) : List PS := vecStates (x.queue.foldl (fun p q => vecStates p q.word) x.last) w

/-- R110: a vector that, as written, has no active compare. -/
def State.noCompare (s : State) (l : Nat) (x : Leaf) (w : Nat) : Bool :=
  ((List.range 9).zip (x.statesAhead w)).all (fun e => !(cmpActive e.2 (s.pinSet x.bank l (vecTsel w) e.1)))

/-- R100: a routine put into the dispatch FIFO. Where 16 wait already a further one is put behind them: the model's choice (log entry 158). -/
def State.dispatch (s : State) (l : Nat) (q : QEnt) (noCmp : Bool) : State :=
  let e := (s.mc.dispatch.getD (hPage q.hdr * 16 + vecOp q.word) 0)
  if vecOp q.word = 0 ∨ e = 0 ∨ q.fault.isSome then s
  else
    let g := s.eng l
    let d : Disp := { qid := q.qid, beadSeq := q.beadSeq, off := q.off, hdr := q.hdr, strand := q.strand, bead := q.bead,
                      entry := e, at_ := s.now, noCmp := noCmp }
    s.setEng l { g with fifo := g.fifo ++ [d] }

/-- A vector put into the queue from its bead's slot. -/
def State.enqueue (s : State) (l : Nat) (pos : Nat × Nat × Nat × Nat) : State :=
  let (bs, strand, bead, off) := pos
  match s.slotAt l bs strand bead with
  | none => s
  | some k =>
    let c := (s.cache l).slot k
    if c.landed.isNone || c.bad then s
    else
      let x := s.leaf l
      let w := beadWord c.payload off
      let q : QEnt := { qid := x.nextQid + 1, beadSeq := bs, strand := strand, bead := bead, off := off, word := w,
                        hdr := c.hdr, fault := vecFault w (x.last.isEmpty && x.queue.isEmpty) }
      let noCmp := s.noCompare l x w
      (s.setLeaf l { x with nextQid := x.nextQid + 1, queue := x.queue ++ [q] }).dispatch l q noCmp

/-- R99: the instant from which the first 16 vectors of a start are in the queue. -/
def fillFrom (startTick : Nat) : Nat := tickAt startTick - 32 * cyc

/-- R108: a vector action HOLD ends with the period that began 16 base cycles after its release. -/
def Leaf.settles (x : Leaf) : Bool :=
  x.vhold && (match x.cur.bind (fun q => q.act.release) with | some c => decide (c + 16 * cyc ≤ x.lastStart) | none => false)

/-- R99: the queue advances: no repeat is still to play, and no HOLD is in progress. -/
def Leaf.queueMoves (x : Leaf) : Bool := x.rptLeft == 0 && (!x.vhold || x.settles) && x.hold.isNone

/-- QUEUE_ENTRY (R46, R99, R100): the next vector in the order of play enters the leaf's issue queue, is checked, and its
routine is dispatched. Nothing enters behind a vector at fault. -/
def queueEntry (l : Nat) (s : State) : State :=
  let x := s.leaf l
  if x.raster = false ∧ x.queue.length < 16 ∧ x.queue.all (fun q => q.fault.isNone) ∧ x.queueMoves then
    match x.phase with
    | .play => match s.entryPos l with | none => s | some p => s.enqueue l p
    | .armed =>
      if s.due (fillFrom x.startTick) then
        match s.entryPos l with | none => s | some p => (s.goto (fillFrom x.startTick)).enqueue l p
      else s
    | _ => s
  else s

/-- QUEUE_ENTRY. -/
def execQueueEntry (l : Fin 16) (s : State) : Host.Outcome State Fault Refusal := .next (queueEntry l.val s)

/-! ### Jumps that latch (R71 to R74, R118) -/

/-- The engine's values as the commits that were not staged have made or will make them visible: U registers from MC_UREG. -/
def State.visCtx (s : State) (l : Nat) : Ctx :=
  match (s.vis.filter (fun (e : Nat × Nat × Ctx) => e.2.1 == l)).getLast? with
  | some e => e.2.2
  | none =>
    { s.shownCtx l with u := (List.range 16).map (fun i => (i, s.rd F.MC_UREG_VALUE (l * 16 + i))) }

/-- R118, R114: what was dispatched from beads after number `b` is abandoned: queued vectors, routines, staged commits. -/
def State.abandon (s : State) (l b : Nat) : State :=
  let x := s.leaf l
  let g := s.eng l
  let dropStaged := g.staged.any (fun st => decide (b < st.beadSeq))
  let stopRun := match g.run with | some r => decide (b < r.d.beadSeq) | none => false
  let v := s.visCtx l
  let g1 := { g with fifo := g.fifo.filter (fun d => decide (d.beadSeq ≤ b)),
                     staged := g.staged.filter (fun st => decide (st.beadSeq ≤ b)),
                     run := if stopRun then none else g.run,
                     w := if dropStaged then v else g.w,
                     c := if dropStaged then v else if stopRun then g.w else g.c }
  (s.setLeaf l { x with queue := x.queue.filter (fun q => decide (q.beadSeq ≤ b)) }).setEng l g1

/-- R65: the ring beads after the bead in play, but for the first `more` of them, are freed, and the fetcher starts anew. -/
def State.freeAhead (s : State) (l more : Nat) (cur : Option FetchCur) : State :=
  let c := s.cache l
  let x := s.leaf l
  let keep := c.ring.take (if x.curRing then more + 1 else more)
  let gone := c.ring.filter (fun k => !keep.contains k)
  s.setCache l { c with ring := keep, cur := cur, fetches := c.fetches.filter (fun f => !gone.contains f.slot) }

/-- R71, R72: the launch edge of the boundary that the leaf stands at has passed before `t`: what latches then applies one bead later. -/
def Leaf.pastEdge (x : Leaf) (t : Nat) : Bool := x.bdue && decide (edgeOf x.nextStart < t) && x.hold.isNone

/-- R65, R74: the jump that the fetcher follows: of those latched, the one that will apply, at the boundary that the leaf stands at or,
with that boundary's launch edge past, at the one after it. -/
def Leaf.jumpAhead (x : Leaf) (t : Nat) : Option Jump :=
  if x.pastEdge t then jumpWinner (x.jumps.filter (fun j => decide (edgeOf x.nextStart < j.at_))) t else jumpWinner x.jumps t

/-- R65: the ring slots of what plays next that a jump latched at `t` leaves standing: the bead whose launch edge has passed. -/
def State.ringKept (s : State) (l t : Nat) : Nat :=
  let x := s.leaf l
  if x.pastEdge t then
    let n := s.nextB l (edgeOf x.nextStart)
    match s.beadSlot l n.strand n.bead with
    | some k => if ((s.cache l).ahead x).head? = some k then 1 else 0
    | none => 0
  else 0

/-- R71, R72, R65, R118: a jump latches: what lies beyond the boundary where it applies is dropped, and the fetcher turns to the target of
the jump that will apply there. A leaf that holds at a boundary takes the jump there (R98). -/
def State.latchJump (s : State) (l cls target t : Nat) : State :=
  let x := s.leaf l
  if x.phase = .play ∧ x.raster = false then
    let b := if x.pastEdge t then x.beadSeq + 1 else x.beadSeq
    let hold := match x.hold with
      | some h => if x.bdue then some { h with ready := some t } else some h
      | none => none
    let x1 := { x with jumps := x.jumps ++ [{ cls := cls, target := target, at_ := t }], hold := hold }
    let s2 := (s.setLeaf l x1).abandon l b
    match x1.jumpAhead t with
    | some j => s2.freeAhead l (s2.ringKept l t) (some { strand := j.target, bead := 0, loops := [] })
    | none => s2
  else s

/-! ### Faults, starvation, aborts -/

/-- R115: the priority of an interrupt: 6 is a starvation (2) under STARVE ABORT. -/
def intPri (p : Nat) : Nat := if p = 6 then 2 else p

/-- R115: an interrupt made pending, in order of priority. -/
def insInt (q : List Nat) (p : Nat) : List Nat :=
  match q with
  | [] => [p]
  | a :: t => if intPri p < intPri a then p :: a :: t else a :: insInt t p

/-- R116: an abort, or a starvation under STARVE ABORT, which is taken at once and discards the routine and the handlers that remain. -/
def intDiscards (p : Nat) : Bool := p == 1 || p == 6

/-- R115, R116: an interrupt raised to a leaf's engine: behind those pending while a handler runs, but one that is taken at once. -/
def State.raiseInt (s : State) (l p : Nat) : State :=
  let g := s.eng l
  if intDiscards p then s.setEng l { g with ints := [p], later := [], batch := false }
  else if s.now < g.handled then s.setEng l { g with later := insInt g.later p }
  else s.setEng l { g with ints := insInt g.ints p }

/-- An abort asked of a leaf. -/
def State.askAbort (s : State) (l : Nat) (a : AbortReq) : State :=
  s.setLeaf l { s.leaf l with aborts := (s.leaf l).aborts ++ [a] }

/-- An abort of a leaf's own, from a period start on or after `t`. -/
def State.ownAbort (s : State) (l cause t : Nat) : State :=
  s.askAbort l { notBefore := t, cause := cause, srcUnit := l, srcModule := s.module, srcCause := cause }

/-- R365: a FAULT record. -/
def State.journalFault (s : State) (l cause strand bead off bytePos detail : Nat) : State :=
  s.journal 0x06 l (s.leaf l).replay
    (pack [(0, 48, s.rd F.UNIT_VCOUNT_VCOUNT l), (48, 8, cause), (56, 16, strand), (72, 24, bead), (96, 6, off),
           (102, 2, bytePos), (104, 24, detail)])

/-- R80, R107, R109: an abort by a vector's routine: at that vector's own period start while it is still to come, else from a
period start on or after `t`. -/
def State.vecAbort (s : State) (l cause t qid : Nat) : State :=
  s.askAbort l { notBefore := t, cause := cause, srcUnit := l, srcModule := s.module, srcCause := cause, vec := some qid }

/-- R107, R80: a loop-stack fault: it is recorded, sticky, and the run ends LOOP_OVERFLOW. -/
def State.stackFault (s : State) (l t qid : Nat) : State :=
  let x := s.leaf l
  let s1 := (s.flag F.MC_STATUS_STACK_FAULT 0).flagBits F.MC_STATUS_STACK_LEAVES 0 (2 ^ l)
  (s1.journalFault l 0x0B x.strand x.bead x.off 0 0).vecAbort l 0x0B t qid

/-- R20: UNDERRUN in the leaf's flags of a tick. -/
def State.flagUnderrun (s : State) (l t : Nat) : State :=
  s.setLeaf l ((s.leaf l).setPub (tickOf t) (fun p => { p with flags := { p.flags with underrun := true } }))

/-- R61: the bead at fault is fetched again into its slot, from its replica if the plan holds one. -/
def State.refetch (s : State) (l strand bead : Nat) : State :=
  match s.slotAt l (s.leaf l).beadSeq strand bead with
  | none => s
  | some k =>
    let c := s.cache l
    let s1 := s.setCache l { c with slots := Table.set c.slots k { c.slot k with landed := none, bad := false, parity := 0 } }
    s1.askFetch l { slot := k, strand := strand, bead := bead, replica := s.repOk l strand }

/-- R61: the leaf has held for this fault already, and the bead has been fetched again. -/
def Leaf.again (x : Leaf) : Bool := match x.hold with | some h => h.refetched | none => false

/-- R82 to R85: the strand's policy at the leaf's place is to hold. In a member of a group HOLD acts as ABORT, and what a re-fetch has not
cured ends the run. -/
def State.holds (s : State) (l strand : Nat) : Bool := dHold (s.desc strand) && decide ((s.leaf l).unit < 16) && !(s.leaf l).again

/-- R83, R98: from when what a hold at the leaf's place waits for is there: a jump that has latched, or the bead, where it has landed. -/
def State.readyFrom (s : State) (l cause strand bead : Nat) : Option Nat :=
  let x := s.leaf l
  if cause = 0x03 ∨ cause = 0x04 then none
  else match (if x.bdue then (x.jumps.getLast?).map (·.at_) else none) with
    | some t => some t
    | none => ((s.beadSlot l strand bead).bind (fun k => ((s.cache l).slot k).landed)).map
        (fun t => if cause = 0x05 then max t (edgeOf x.nextStart) else t)

/-- R83, R84: a hold begins at the leaf's place. -/
def State.beginHold (s : State) (l : Nat) (h : Hold) : State :=
  let s1 := s.wrs [(F.UNIT_STATUS_HOLDING, l, 1), (F.UNIT_STATUS_TIMING_BROKEN, l, 1)]
  (s1.setLeaf l { s1.leaf l with hold := some h }).raiseInt l 2

/-- R82 to R85, R61, R75: what follows when the vector at the leaf's place cannot be filled: the fault is journalled, and the strand's
policy ends the run there or holds. A fault that the re-fetch has not cured is not journalled again (R46: one record for each faulting
vector; log entry 149). -/
def State.starve (s : State) (l cause strand bead off bytePos detail : Nat) : State :=
  let x := s.leaf l
  let s0 := if x.again then s else s.journalFault l cause strand bead off bytePos detail
  let s1 := s0.flagUnderrun l x.nextStart
  let s2 := if cause = 0x02 ∨ cause = 0x05 then s1.wr F.UNIT_STATUS_UNDERRUN l 1 else s1
  if s.holds l strand then
    let s3 := s2.beginHold l { vindex := s.rd F.UNIT_VCOUNT_VCOUNT l, start := x.nextStart, tick := tickOf x.nextStart, cause := cause,
                               ready := s.readyFrom l cause strand bead, refetched := cause == 0x03 || cause == 0x04 }
    if cause = 0x03 ∨ cause = 0x04 then s3.refetch l strand bead
    else if cause = 0x05 ∧ (s.beadSlot l strand bead).isNone then s3.freeAhead l 0 (some { strand := strand, bead := bead, loops := [] })
    else s3
  else ((s2.setLeaf l { s2.leaf l with hold := none }).raiseInt l 6).ownAbort l cause x.nextStart

/-! ### Bead boundaries -/

/-- R54, R86, R181: what a bead's start fires: the pulse, and the occurrence of a strand trigger (0xF1) or a segment trigger
(0xF0); a strand trigger with TRIG_CLUSTER goes to the cluster as well. -/
def State.firePulse (s : State) (l strand t : Nat) (entry seam : Bool) : State :=
  let d := s.desc strand
  let p : Pulse := { leaf := l, outs := dTrigOut d, start := t + dTrigOff d, strand := strand,
                     cluster := dTrigCluster d && entry && (s.trigByte 10).testBit 0 }
  let s0 := { s with pulses := s.pulses ++ [p] }
  let sa := if entry then s0.occursEvent l 0xF1 t else s0
  let s1 := if seam then sa.occursEvent l 0xF0 t else sa
  if dTrigCluster d && entry then
    let s2 := s1.occursStrand strand t
    if p.cluster then s2.tellAll (.strand (Fin.ofNat 16 s.module) (BitVec.ofNat 16 strand) (BitVec.ofNat 96 t)) else s2
  else s1

/-- R145: the deskew values a leaf latches at a boundary, keyed by slot and use (E1, E2, E3, E4 as window close, E4 under
SBC). -/
def State.latchDeskew (s : State) (l : Nat) : Table Int :=
  (List.range 9).flatMap (fun j =>
    let i := l * 9 + j
    [(j * 5, sx 13 (s.rd F.TS_DESKEW_A_E1 i)), (j * 5 + 1, sx 13 (s.rd F.TS_DESKEW_A_E2 i)),
     (j * 5 + 2, sx 13 (s.rd F.TS_DESKEW_A_E3 i)), (j * 5 + 3, sx 13 (s.rd F.TS_DESKEW_A_E4W i)),
     (j * 5 + 4, sx 13 (s.rd F.TS_DESKEW_B_E4S i))])

/-- R25: the ready instant of a unit's decision for tick `n`. -/
def readyAt (u n : Nat) : Nat := if u < 256 then tickAt (n + 1) + 160 * cyc else tickAt (n + 3)

/-- R20, R110: the flags of a unit for tick `n`, folded: over the leaves of a local unit, or as the cluster's fold gave
them. -/
def State.unitFold (s : State) (u n : Nat) : Fold :=
  if u < 256 then foldFlags ((s.leavesOf u).map (fun l => ((s.leaf l).pub n).flags))
  else
    match s.clu.folds.find? (fun e => e.1 == u && e.2.1 == n) with
    | some (_, _, o, a, _) => { or_ := o, and_ := a }
    | none => { or_ := 0, and_ := 0 }

/-- R117: an arm that becomes visible at `t`: it takes a slot before its decision is ready; afterwards the history answers it
for 16 ticks, and then the run ends MICRO_LATE. -/
def State.addArm (s : State) (l t cond target qid : Nat) : State :=
  let x := s.leaf l
  let g := s.eng l
  match x.vrecs.find? (fun v => v.qid == qid) with
  | none => s.setEng l { g with arms := g.arms ++ [{ cond := cond, target := target, qid := qid, tick := none }] }
  | some v =>
    let n := tickOf v.recAt
    if t ≤ readyAt x.unit n then
      s.setEng l { g with arms := g.arms ++ [{ cond := cond, target := target, qid := qid, tick := some n }] }
    else if tickOf t ≤ n + 16 then
      let out := groupCond (s.unitFold x.unit n) cond
      let s1 := s.setEng l { g with decLast := out }
      if out then s1.latchJump l 1 target t else s1
    else s.ownAbort l 0x07 t

/-- R112, R118: the strand actions, arms and events of a commit made visible; a jump latches at `t`. -/
def State.applyEffs (s : State) (l t : Nat) : List Eff → State
  | [] => s
  | .jump target :: r => State.applyEffs (s.latchJump l 2 target t) l t r
  | .seamEnd :: r => State.applyEffs (s.setLeaf l { s.leaf l with seamEnd := true }) l t r
  | .arm cond target qid :: r => State.applyEffs (s.addArm l t cond target qid) l t r
  | .event code qid :: r => State.applyEffs (s.opEvent l qid code) l t r

/-- R112, R114, R20: staged values made visible at a launch edge; on the edge of T(n) itself they count in the tick that ends
there. -/
def State.publish (s : State) (l t : Nat) (c : Ctx) : State :=
  let s1 := s.reveal l c
  if t = tickAt s.tick then
    s1.setLeaf l ((s1.leaf l).setPub (s.tick - 1) (fun p => { p with flags := { p.flags with cb := c.cb } }))
  else s1

/-- R114: the commits staged for the bead that begins are released, oldest first; a staged jump latches on the edge after. -/
def State.release (s : State) (l le : Nat) : State :=
  let b := (s.leaf l).beadSeq
  let mine := (s.eng l).staged.filter (fun st => decide (st.beadSeq ≤ b))
  let s1 := s.setEng l { s.eng l with staged := (s.eng l).staged.filter (fun st => !decide (st.beadSeq ≤ b)) }
  mine.foldl (fun s st => (s.publish l le st.ctx).applyEffs l (le + cyc) st.effs) s1

/-- A bead that has passed its checks begins. -/
def State.beginBead (s : State) (l k : Nat) (le : Nat) : State :=
  let x := s.leaf l
  let c := (s.cache l).slot k
  let pinned := (s.pinned l x.strand x.bead).isSome
  let drop := match x.queue.head? with
    | some q => q.beadSeq ≠ x.beadSeq + 1 || q.strand != x.strand || q.bead != x.bead || q.off != 0
    | none => false
  let s0 := if drop then s.abandon l x.beadSeq else s
  let x0 := s0.leaf l
  let t := x.nextStart
  let x1 := { x0 with beadSeq := x0.beadSeq + 1, off := 0, bdue := false, moved := false, enter := false,
                      curRing := !pinned, beadFails := 0, deskew := s0.latchDeskew l,
                      collFail := s0.on F.TS_CFG_COLL_FAIL l }
  let x2 := if x.enter then x1.setPub (tickOf t) (fun p => { p with entries := p.entries ++ [(s0.rd F.UNIT_VCOUNT_VCOUNT l, x.strand, p.periods.length)] })
            else x1
  let s1 := (s0.setLeaf l x2).wrs [(F.UNIT_STATUS_CUR_STRAND, l, x.strand), (F.UNIT_STATUS_CUR_BEAD, l, x.bead)]
  let s2 := if hSafept c.hdr then
      s1.wrs [(F.UNIT_SAFEPT_STRAND, l, x.strand), (F.UNIT_SAFEPT_BEAD, l, x.bead), (F.UNIT_SAFEPT_VALID, l, 1)]
    else s1
  let s3 := if x.enter || hSeamtrig c.hdr then s2.firePulse l x.strand t x.enter (hSeamtrig c.hdr) else s2
  let ring := if pinned then (s3.cache l).ring else k :: ((s3.cache l).ring.filter (fun j => j != k))
  let s4 := s3.setCache l { s3.cache l with ring := ring }
  (s4.latchTrims l).release l le

/-- What a bead boundary finds at the leaf's place: a descriptor that names no strand, a bead that cannot be filled (its cause, R97),
or the slot of a bead that begins. -/
inductive BeadCheck where
  | unused
  | fault (cause : Nat)
  | ok (slot : Nat)
  deriving DecidableEq, Repr

/-- R75, R68, R67, R60: what the place the leaf has moved to is found to be; `par` are the words of the bead's header in which the
header SRAM's parity fails (R56). -/
def State.beadCheck (s : State) (l le : Nat) (checkRes : Bool) (par : Nat) : BeadCheck :=
  let x := s.leaf l
  let d := s.desc x.strand
  if checkRes && x.enter && decide (dLen d = 0) then .unused
  else if checkRes && x.enter && (dRes d == 0 || (dRes d == 3 && x.moved && !x.seamIn)) then .fault 0x05
  else
    match s.beadSlot l x.strand x.bead with
    | none => .fault 0x02
    | some k =>
      let c := (s.cache l).slot k
      if c.present le then
        match s.beadFault { c with parity := c.parity ||| par } x.strand x.bead with
        | some f => .fault f
        | none => .ok k
      else .fault 0x02

/-- R75, R68, R60, R67: the place the leaf has moved to: unused, not filled, or the bead begins. A fault found in the header has no byte
position and no byte value: the FAULT record of a VECTOR_FORMAT then carries 0 in both (DESIGN CHOICE, log entry 150). -/
def State.tryBegin (s : State) (l le : Nat) (checkRes : Bool) (par : Nat) : State :=
  let x := s.leaf l
  match s.beadCheck l le checkRes par with
  | .unused =>
    (((s.journalFault l 0x05 x.strand 0 0 0 0).wr F.UNIT_STATUS_UNDERRUN l 1).flagUnderrun l x.nextStart).ownAbort l 0x05 x.nextStart
  | .fault f => s.starve l f x.strand x.bead 0 0 0
  | .ok k => s.beginBead l k le

/-- R365: a JUMP record. -/
def State.journalJump (s : State) (l from_ : Nat) (j : Jump) (superseded : Bool) : State :=
  s.journal 0x03 l (s.leaf l).replay
    (pack [(0, 48, s.rd F.UNIT_VCOUNT_VCOUNT l), (48, 16, j.target), (64, 16, from_), (80, 2, j.cls), (82, 1, bit superseded)])

/-- R107: what happens to the micro loops on a leaf's loop stack, in every copy of the engine's values. -/
def State.mapLoops (s : State) (l : Nat) (f : List (Nat × Nat) → List (Nat × Nat)) : State :=
  let c (x : Ctx) : Ctx := { x with loops := f x.loops }
  let g := s.eng l
  let s1 := s.setEng l { g with w := c g.w, c := c g.c, staged := g.staged.map (fun (e : Staged) => { e with ctx := c e.ctx }) }
  { s1 with vis := s1.vis.map (fun (e : Nat × Nat × Ctx) => if e.2.1 = l then (e.1, e.2.1, c e.2.2) else e)
            shown := match Table.get? s1.shown l with | some x => Table.set s1.shown l (c x) | none => s1.shown }

/-- R107: an entry that a vector had on the loop stack has gone: what micro loops stood above stands that much lower. -/
def State.lowerLoops (s : State) (l : Nat) : State :=
  let n := (s.leaf l).loops.length
  s.mapLoops l (fun q => q.map (fun e => (min e.1 n, e.2)))

/-- R73, R74, R76, R79: the leaf's place moves to what plays next; the jump that applies and those it supersedes are journalled. A jump
empties the loop stack, and, to another strand, takes back what SEAM_END asked for (R118: at the current strand's seam). -/
def State.moveTo (s : State) (l le : Nat) (n : NextB) : State :=
  let x := s.leaf l
  let gone := x.jumps.filter (fun j => decide (j.at_ ≤ le))
  let keep := x.jumps.filter (fun j => !decide (j.at_ ≤ le))
  let s1 := match n.jump with
    | none => s
    | some j =>
      let s0 := (gone.erase j).foldl (fun (s : State) g => s.journalJump l x.strand g true) s
      (s0.journalJump l x.strand j false).mapLoops l (fun _ => [])
  let x1 := s1.leaf l
  (s1.setLeaf l { x1 with strand := n.strand, bead := n.bead, loops := n.loops, jumps := keep, moved := true,
                          seamIn := n.seam, seamEnd := x1.seamEnd && (n.jump.isNone || n.strand == x.strand),
                          jumpAt := if n.jump.isSome then some (s.rd F.UNIT_VCOUNT_VCOUNT l) else x1.jumpAt,
                          enter := n.jump.isSome || n.seam || decide (x.beadSeq = 0) || (x.moved && x.enter),
                          lastStrand := if x.beadSeq = 0 then n.strand else if x.moved then x.lastStrand else x.strand }).lowerLoops l

/-- R80, R109: the period start that the leaf stands at is no earlier than that of the queued vector which an abort waits for. -/
def Leaf.vecReached (x : Leaf) (a : AbortReq) : Bool :=
  match a.vec with
  | none => true
  | some q =>
    if x.queue.any (fun e => e.qid == q) then
      x.rptLeft == 0 && !x.vhold && x.hold.isNone && (x.queue.head?.map (·.qid)) == some q
    else true

/-- R90, R18, R77, R144, R296: the causes of an abort that is sampled at a tick boundary, as a host abort is. -/
def sampledCause (c : Nat) : Bool := [0x01, 0x06, 0x08, 0x09, 0x0D, 0x0E, 0x0F].contains c

/-- R90, R92, R163: an abort takes effect at the period start, or end of run, that the leaf stands at. At the end of a run one that is
sampled there comes too late. -/
def Leaf.abortNow (x : Leaf) (atEnd : Bool) : List AbortReq :=
  x.aborts.filter (fun a =>
    (!a.atBead || x.bdue) && x.vecReached a &&
    (if atEnd && sampledCause a.cause then decide (a.notBefore < x.nextStart) else decide (a.notBefore ≤ x.nextStart)))

/-- R229: the columns of the mode table: H active, FP, sync, BP, V active, FP, sync, BP, HS and VS active high, PERIOD. -/
structure RMode where
  ha : Nat
  hf : Nat
  hs : Nat
  hb : Nat
  va : Nat
  vf : Nat
  vs : Nat
  vb : Nat
  hpos : Bool
  vpos : Bool
  period : Nat
  deriving DecidableEq, Repr

/-- R229: the six modes. -/
def rmode (m : Nat) : RMode :=
  if m = 0 then ⟨640, 16, 96, 48, 480, 10, 2, 33, false, false, 50844⟩
  else if m = 1 then ⟨800, 40, 128, 88, 600, 1, 4, 23, true, true, 32000⟩
  else if m = 2 then ⟨1024, 24, 136, 160, 768, 3, 6, 29, false, false, 19692⟩
  else if m = 3 then ⟨1280, 110, 40, 220, 720, 5, 5, 20, true, true, 17239⟩
  else if m = 4 then ⟨1280, 48, 32, 80, 800, 3, 6, 14, true, false, 18028⟩
  else ⟨1920, 88, 44, 148, 1080, 4, 5, 36, true, true, 8620⟩

/-- R229: the mode selected. -/
def State.rmode (s : State) : RMode := Machine.rmode (s.rd F.RS_CFG_MODE 0)

/-- R229: the pixels of a line, and the lines of a frame. -/
def RMode.ht (m : RMode) : Nat := m.ha + m.hf + m.hs + m.hb
def RMode.vt (m : RMode) : Nat := m.va + m.vf + m.vs + m.vb

/-- R233: the last pixel played is the last of a frame's vertical back porch. -/
def State.rasFrameEnd (s : State) : Bool :=
  s.ras.k != 0 && s.ras.sect == 3 && s.ras.line + 1 == s.rmode.vb && s.ras.px + 1 == s.rmode.ht

/-- R233: a raster leaf stands at the end of the run that RS_CTL.STOP asked for. -/
def State.rasAtEnd (s : State) (l : Nat) : Bool :=
  s.ras.stop && s.rasFrameEnd && s.rd F.UNIT_VCOUNT_VCOUNT l == s.ras.k % 2 ^ 48

/-- The run ends at the boundary the leaf stands at. -/
def State.atEnd (s : State) (l : Nat) : Bool :=
  let x := s.leaf l
  if x.raster then s.rasAtEnd l
  else x.bdue && !x.moved && decide (x.beadSeq ≠ 0) && (s.nextB l (edgeOf x.nextStart)).stop

/-- R46, R141: the vector that the leaf stands at is at fault, in the queue or, where it has not entered it, in its bead's slot. -/
def State.headFault (s : State) (l : Nat) : Bool :=
  let x := s.leaf l
  match x.queue.head? with
  | some q => q.fault.isSome
  | none =>
    match s.slotAt l x.beadSeq x.strand x.bead with
    | some k => (vecFault (beadWord ((s.cache l).slot k).payload x.off) x.last.isEmpty).isSome
    | none => false

/-- R141: an exchange is due at the boundary with which the bead the leaf stands at has begun; not while a hold is to come at its first
vector. -/
def State.swapDue (s : State) (l : Nat) : Bool :=
  let x := s.leaf l
  s.on F.TS_STATUS_SWAP_PENDING l && x.phase == .play && !x.bdue && x.off == 0 && x.hold.isNone
    && !(s.headFault l && s.holds l x.strand) && decide (tickAt (s.rd F.TS_SWAP_TICK_TICK l) ≤ edgeOf x.nextStart)

/-- R70: from the end of the run a pin whose last state is X holds its driver off with the last set's termination, which its last switch
edge, where it has not come, brings with it. -/
def State.restPins (s : State) (l : Nat) : State :=
  let x := s.leaf l
  let last (j : Nat) : Bool := x.last[j]? == some PS.x
  let mine (e : Edge) : Bool := e.role == 0 && last e.slot && e.vindex + 1 == s.rd F.UNIT_VCOUNT_VCOUNT l
  let drv := ((List.range 9).filter (fun j => last j && !(x.edges.any (fun e => mine e && e.slot == j)))).foldl (fun d j =>
    let old := (Table.get? d j).getD {}
    Table.set d j { old with on := false, term := (s.pinSet x.lastBank l x.lastSet j).term }) x.drv
  s.setLeaf l { x with drv := drv, edges := x.edges.map (fun e => if mine e then { e with state := .dz } else e) }

/-- R70: the end of the run. The pins keep their last states; results may be outstanding. -/
def State.endRun (s : State) (l : Nat) : State :=
  let s := s.restPins l
  let x := s.leaf l
  let x1 := { x with phase := .ended, queue := [], loops := [], jumps := [], lastRes := max x.lastRes x.nextStart }
  s.setLeaf l (x1.setPub (tickOf x.nextStart) (fun p => { p with flags := { p.flags with done := true } }))

/-- R371: the leaf of the source whose records a leaf in replay takes. -/
def State.replaySrc (s : State) (l : Nat) : Option Nat :=
  if (s.leaf l).replay && s.jn.replay.active then (s.jn.replay.map.find? (fun e => e.2 == l)).map (·.1) else none

/-- R372: the first record of the replayed run with a property, at a vector index of a leaf. -/
def State.replayAt (s : State) (l typ vindex : Nat) (ok : JRec → Bool) : Option JRec :=
  match s.replaySrc l with
  | none => none
  | some src => s.jn.replay.recs.find? (fun (r : JRec) => r.typ == typ && r.leaf == src && bits r.body 0 48 == vindex && ok r)

/-- R372: the first record of the replayed run with a property, at a leaf's place. -/
def State.replayRec (s : State) (l typ : Nat) (ok : JRec → Bool) : Option JRec := s.replayAt l typ (s.rd F.UNIT_VCOUNT_VCOUNT l) ok

/-- R372: the hold that the file gives at a vector index of a leaf in replay. -/
def State.replayHold (s : State) (l : Nat) : Option Nat :=
  (s.replayRec l 0x07 (fun r => !r.body.testBit 53)).map (fun r => bits r.body 64 32)

/-- R372: the host jump that the file gives at a leaf's place. -/
def State.replayJump (s : State) (l : Nat) : Option Nat :=
  (s.replayRec l 0x03 (fun r => bits r.body 80 2 == 0 && !r.body.testBit 82)).map (fun r => bits r.body 48 16)

/-- R372: the cause with which the file's run is aborted at a leaf's place. -/
def State.replayAbort (s : State) (l : Nat) : Option Nat :=
  (s.replayRec l 0x05 (fun r => bits r.body 48 3 == 3)).map (fun r => bits r.body 64 8)

/-- R372: an abort that the file gives at a leaf's place is asked for. -/
def State.forceAbort (s : State) (l : Nat) : State :=
  match s.replayAbort l with
  | none => s
  | some c => s.ownAbort l c (s.leaf l).nextStart

/-- R373: the first difference of a replay. -/
def State.diverge (s : State) (l cond : Nat) (flow : Bool) (vindex : Nat) : State :=
  if s.jn.replay.diverged then s
  else
    let s1 := { s with jn := { s.jn with replay := { s.jn.replay with diverged := true } } }.wrs
      [(F.JN_RPL_STAT_DIVERGED, 0, 1), (F.JN_RPL_STAT_LEAF, 0, l), (F.JN_RPL_STAT_COND, 0, cond),
       (F.JN_RPL_STAT_FLOW, 0, bit flow), (F.JN_RPL_STAT_VINDEX, 0, vindex), (F.JN_RPL_DIVTICK_TICK, 0, s.tick)]
    let w := pack [(0, 1, 1), (1, 1, 1), (2, 4, l), (6, 6, cond), (12, 1, bit flow), (16, 48, vindex)]
    (s1.journal 0x0F l true w).raise 0xF8 0 w 0

/-- R373: flow checked at a leaf's place: a leaf in replay that differs from the file diverges. -/
def State.checkFlow (s : State) (l : Nat) (same : Bool) : State :=
  if (s.replaySrc l).isSome && !same then s.diverge l 0 true (s.rd F.UNIT_VCOUNT_VCOUNT l) else s

/-- R373: what plays next agrees with the file's JUMP records. -/
def State.jumpAgrees (s : State) (l : Nat) (n : NextB) : Bool :=
  match n.jump, s.replayRec l 0x03 (fun r => !r.body.testBit 82) with
  | some j, some r => bits r.body 48 16 == j.target
  | none, none => true
  | _, _ => false

/-- R373: the run ends at the vector index at which the file's run ends. -/
def State.endAgrees (s : State) (l state : Nat) : Bool := (s.replayRec l 0x05 (fun r => bits r.body 48 3 == state)).isSome

/-- R373: a period may start at the leaf's place: the file's run does not end DONE there, and the exchange and the jump that the file has there
have come. -/
def State.playAgrees (s : State) (l : Nat) : Bool :=
  let x := s.leaf l
  let v := some (s.rd F.UNIT_VCOUNT_VCOUNT l)
  !s.endAgrees l 2 && (x.swapAt == v || (s.replayRec l 0x08 (fun _ => true)).isNone)
    && (x.jumpAt == v || (s.replayRec l 0x03 (fun r => !r.body.testBit 82)).isNone)

/-- R372: a hold that a replay reproduces. -/
def State.forceHold (s : State) (l n : Nat) : State :=
  let x := s.leaf l
  let h : Hold := { vindex := s.rd F.UNIT_VCOUNT_VCOUNT l, start := x.nextStart, tick := tickOf x.nextStart, cause := 0x02,
                    forced := some n }
  let s1 := s.wrs [(F.UNIT_STATUS_HOLDING, l, 1), (F.UNIT_STATUS_TIMING_BROKEN, l, 1)]
  (s1.setLeaf l { s1.leaf l with hold := some h }).raiseInt l 2

/-- Where a leaf stands after a period: the next repeat, the next vector, or the boundary; a ring bead is freed with its last
vector. -/
def State.afterPeriod (s : State) (l : Nat) : State :=
  let x := s.leaf l
  if x.rptLeft ≠ 0 ∨ x.vhold then s
  else
    let x1 := { x with loops := match x.loops with | .rpt _ :: r => r | r => r }
    let s0 := (s.setLeaf l x1).lowerLoops l
    if 63 < x1.off then
      let s1 := s0.setLeaf l { x1 with bdue := true, curRing := false }
      if x1.curRing then s1.setCache l { s1.cache l with ring := (s1.cache l).ring.drop 1 } else s1
    else s0

/-- R108: a vector action HOLD that has ended leaves the loop stack, and the leaf's place moves on. -/
def State.settle (s : State) (l : Nat) : State :=
  let x := s.leaf l
  if x.settles then
    (s.setLeaf l { x with vhold := false, loops := x.loops.filter (fun e => e != .hold) }).afterPeriod l
  else s

/-- R119: MICRO_LATE by a routine that may change control flow: MC_LATE_INFO, the event, the journal, and the abort. -/
def State.flowLate (s : State) (l : Nat) (d : Disp) (pc t : Nat) : State :=
  let s1 := s.wrs [(F.MC_LATE_INFO_LEAF, 0, l), (F.MC_LATE_INFO_ADDR, 0, eAddr d.entry), (F.MC_LATE_INFO_PC, 0, pc),
                   (F.MC_LATE_INFO_VECTOR, 0, d.off)]
  let s2 := s1.raise 0x12 0 (pack [(0, 4, l), (4, 12, eAddr d.entry), (16, 12, pc), (28, 6, d.off)]) 0
  (s2.journalFault l 0x07 d.strand d.bead d.off 0 (pack [(0, 12, eAddr d.entry), (12, 12, pc)])).ownAbort l 0x07 t

/-- R119: the routine of a bead that ends which has missed its deadline, with its micro-PC. -/
def State.missedFlow (s : State) (l : Nat) : Option (Disp × Nat) :=
  let x := s.leaf l
  let g := s.eng l
  let late (d : Disp) : Bool := eFlow d.entry && decide (d.beadSeq ≤ x.beadSeq)
  match g.run with
  | some r => if late r.d then some (r.d, r.pc) else (g.fifo.find? late).map (fun d => (d, eAddr d.entry))
  | none => (g.fifo.find? late).map (fun d => (d, eAddr d.entry))

/-- R119, R83: the leaf, moved to what plays next, is found to hold there. -/
def State.willHold (s : State) (l : Nat) (c : BeadCheck) : Bool :=
  match c with
  | .fault _ => s.holds l (s.leaf l).strand
  | _ => false

/-- BEAD_BOUNDARY (R66 to R76): at the launch edge of a bead boundary the next bead is chosen, checked and begins, or the leaf starves, or
the run ends. An abort due there comes first. A hold that begins there moves the deadline of R119 to the boundary at which it ends. `par`
are the words of the next bead's header in which the parity of the header SRAM fails. -/
def beadBoundary (l par : Nat) (s : State) : State :=
  let s := s.settle l
  let x := s.leaf l
  let le := edgeOf x.nextStart
  if x.phase = .play ∧ x.bdue ∧ x.hold.isNone ∧ s.due le ∧ x.abortNow (s.atEnd l) = [] then
    let sj := s.goto le
    let s0 := match sj.replayJump l with
      | some target => sj.latchJump l 0 target le
      | none => sj
    let n := s0.nextB l le
    let s1 := (s0.checkFlow l (x.beadSeq == 0 || s0.jumpAgrees l n)).moveTo l le n
    let forced := match s1.replayHold l with | some k => if k = 0 then none else some k | none => none
    match s0.missedFlow l, n.stop || !(forced.isSome || s1.willHold l (s1.beadCheck l le true par)) with
    | some (d, pc), true => s0.flowLate l d pc x.nextStart
    | _, _ =>
      if n.stop then s0.endRun l
      else match forced with
        | some k => s1.forceHold l k
        | none => s1.tryBegin l le true par
  else s

/-! ### Vector issue (R134 to R138) -/

/-- R138: a suppressed edge counted and, when first, recorded. -/
def State.collide (s : State) (l vindex slot edge reason : Nat) : State :=
  let s1 := (s.bump F.TS_COLL_COUNT_COUNT l 1 F.TS_STATUS_SAT l 7 (l * 0x4000 + 0x2020)).wr F.TS_STATUS_COLL_SEEN l 1
  if s1.on F.TS_COLL_FIRST_VALID l then s1
  else
    let s2 := s1.wrs [(F.TS_COLL_FIRST_VINDEX, l, vindex), (F.TS_COLL_FIRST_SLOT, l, slot), (F.TS_COLL_FIRST_EDGE, l, edge),
                      (F.TS_COLL_FIRST_REASON, l, reason), (F.TS_COLL_FIRST_VALID, l, 1)]
    s2.raise 0x70 l (pack [(0, 48, vindex), (48, 4, slot), (52, 3, edge), (55, 2, reason), (57, 1, 1)]) 0

/-- R135, R137: the fate of an edge at launch: `none` kept, or the reason it is suppressed (0 ORDER, 1 WIDTH, 2 QUEUE). The
channel is checked first. -/
def Leaf.edgeCheck (x : Leaf) (le slot k chain prog : Nat) : Option Nat :=
  if 4 ≤ (x.edges.filter (fun e => e.slot == slot && e.field == k && decide (le < e.placed))).length
      + (x.past.filter (fun e => e.1 == slot && e.2.1 == k && decide (le < e.2.2))).length then some 2
  else
    match Table.get? x.chain (slot * 2 + chain) with
    | none => none
    | some last => if prog < last then some 0 else if prog < last + 512 then some 1 else none

/-- R134: an instant moved by a deskew. -/
def placedAt (prog : Nat) (d : Int) : Nat := ((prog : Int) + d).toNat

/-- R145: which deskew an edge uses. -/
def deskewUse (k fmt : Nat) (chain : Nat) : Nat := if k = 4 then (if chain = 0 ∧ fmt = 4 then 4 else 3) else k - 1

/-- What is fixed for a vector's part of one pin. -/
structure Launch where
  l : Nat
  slot : Nat
  vindex : Nat
  start : Nat
  state : PS
  pin : PinSet

/-- One edge launched: kept, or suppressed. The flag says kept. -/
def State.launchEdge (s : State) (a : Launch) (chain k : Nat) : State × Bool :=
  let x := s.leaf a.l
  let prog := a.start + a.pin.edge k
  match x.edgeCheck (edgeOf a.start) a.slot k chain prog with
  | some r => (s.collide a.l a.vindex a.slot k r, false)
  | none =>
    let d := (Table.get? x.deskew (a.slot * 5 + deskewUse k a.pin.fmt chain)).getD 0
    let e : Edge := { vindex := a.vindex, slot := a.slot, field := k, sbc := chain == 0 && k == 4, prog := prog,
                      placed := placedAt prog d, state := a.state, fmt := a.pin.fmt, term := a.pin.term, role := chain }
    (s.setLeaf a.l { x with edges := x.edges ++ [e], chain := Table.set x.chain (a.slot * 2 + chain) prog }, true)

/-- The edges of one chain launched in order; the answer lists those kept. -/
def State.launchChain (s : State) (a : Launch) (chain : Nat) : List Nat → State × List Nat
  | [] => (s, [])
  | k :: r =>
    let (s1, kept) := s.launchEdge a chain k
    let (s2, ks) := State.launchChain s1 a chain r
    (s2, if kept then k :: ks else ks)

/-- R38, R133, R138, R108: the compare that a vector makes on a pin, if any. -/
def pinCompare (a : Launch) (kept : List Nat) (collFail masked : Bool) : Option Cmp :=
  if cmpActive a.state a.pin then
    let win := a.pin.cmode == 2
    let inst := a.start + (if win then a.pin.e4 else a.pin.e3) + 12 * cyc
    let supp := kept != compareEdges a.pin.cmode
    let strobe := a.start + (if win then a.pin.e4 else a.pin.e3)
    some { slot := a.slot, state := a.state, window := win, inst := inst, strobe := strobe, supp := supp,
           counts := !masked && (!supp || collFail) }
  else none

/-- One pin's part of a vector launched: its edges, its switch under FMT OFF, and the compare it makes. -/
def State.launchPin (s : State) (a : Launch) (masked : Bool) : State × Option Cmp :=
  let (s1, _) := s.launchChain a 0 (driveEdges a.pin.fmt)
  let (s2, kept) := s1.launchChain a 1 (compareEdges a.pin.cmode)
  let x := s2.leaf a.l
  let s3 := if a.pin.fmt = 0 then
      s2.setLeaf a.l { x with drv := Table.set x.drv a.slot (pinTake ((Table.get? x.drv a.slot).getD {}) 0 a.pin.term a.state) }
    else s2
  (s3, pinCompare a kept x.collFail masked)

/-- The nine pins of a vector launched. Of several edges suppressed at one launch edge the first in order of slot, the drive chain before the
compare chain, is the one that TS_COLL_FIRST records (R138): the model's choice (log entry 153). -/
def State.launchPins (s : State) (l vindex start bank set mask : Nat) : List (Nat × PS) → State × List Cmp
  | [] => (s, [])
  | (j, st) :: r =>
    let a : Launch := { l := l, slot := j, vindex := vindex, start := start, state := st, pin := s.pinSet bank l set j }
    let (s1, c) := s.launchPin a (mask.testBit j)
    let (s2, cs) := State.launchPins s1 l vindex start bank set mask r
    (s2, match c with | some c => c :: cs | none => cs)

/-- R411: the index by which an event names a unit. -/
def unitIndex (u : Nat) : Nat := if u < 256 then u else u - 256

/-- R144: members of one module compared at a period start: once every member has given a vector index its period, the first that differs
from the lowest leaf's, and the first such index of the run, asks every member to abort, sampled at the next tick boundary. -/
def State.samePeriod (s : State) (l vindex p start : Nat) : State :=
  let u := (s.leaf l).unit
  let mem := s.leavesOf u
  let us := s.unit u
  let got := ((Table.get? us.per vindex).getD []) ++ [(l, p)]
  if mem.length < 2 ∨ us.differ then s
  else if got.length < mem.length then s.setUnit u { us with per := Table.set us.per vindex got }
  else
    let given (m : Nat) : Option Nat := (got.find? (fun e => e.1 == m)).map (·.2)
    let s1 := s.setUnit u { us with per := Table.erase us.per vindex }
    match mem.find? (fun m => given m != given (mem.headD 0)) with
    | none => s1
    | some bad =>
      let s2 := (s.setUnit u { us with per := [], differ := true }).raise 0x73 (unitIndex u)
        (pack [(0, 10, bad), (10, 4, s.module), (16, 8, 0x06)]) 0
      mem.foldl (fun s m => s.askAbort m { notBefore := tickAt (ceilDiv (edgeOf start) tickTu), cause := 0x06, srcUnit := bad,
                                           srcModule := s.module, srcCause := 0x06 }) s2

/-- R95: UNIT_VCOUNT stepped; at its wrap the leaf's flag is set, and the unit's event raised once, with its lowest leaf. -/
def State.stepVcount (s : State) (l : Nat) : State :=
  let v := s.rd F.UNIT_VCOUNT_VCOUNT l
  let u := (s.leaf l).unit
  let s1 := s.wr F.UNIT_VCOUNT_VCOUNT l (v + 1)
  if v + 1 = 2 ^ 48 then
    let s2 := s1.wr F.UNIT_STATUS_VCOUNT_WRAP l 1
    if (s.leavesOf u).headD l = l then s2.raise 0x61 (unitIndex u) (s2.unitStatus u) 0 else s2
  else s1

/-- The period that a leaf plays, launched at its start: edges, compares, vector count, published period. `qid` is 0 for a
repeat or a held period. -/
def State.playPeriod (s : State) (l : Nat) (states : List PS) (bank set mask qid : Nat) (pos : Nat × Nat × Nat × Nat) : State :=
  let s := s.checkFlow l (s.playAgrees l)
  let x := s.leaf l
  let t := x.nextStart
  let vindex := s.rd F.UNIT_VCOUNT_VCOUNT l
  let p := s.period bank l set
  let (s1, cmps) := s.launchPins l vindex t bank set mask ((List.range 9).zip states)
  let act := cmps.filter (fun c => c.counts)
  let rec_ := cmps.foldl (fun a (c : Cmp) => max a c.inst) t
  let v : VRec := { qid := qid, beadSeq := pos.1, vindex := vindex, start := t, strand := pos.2.1, bead := pos.2.2.1, off := pos.2.2.2,
                    cmps := cmps, nAct := act.length, recAt := rec_, done := act.isEmpty }
  let s2 := s1.samePeriod l vindex p t
  let x2 := s2.leaf l
  let recs := if act.isEmpty && qid == 0 then x2.vrecs else x2.vrecs ++ [v]
  let x3 := { x2 with vrecs := keepRecs (qid :: s2.refs l) recs, lastStart := t, nextStart := t + p, last := states, lastSet := set, lastBank := bank,
                      lastRes := if act.isEmpty then x2.lastRes else max rec_ x2.lastRes,
                      past := x2.past.filter (fun e => decide (edgeOf t < e.2.2)) }
  ((s2.setLeaf l (x3.setPub (tickOf t) (fun q => { q with periods := q.periods ++ [p] }))).stepVcount l).forceAbort l

/-- R117: the arms of a vector bound when it issues. -/
def Engine.bindArms (g : Engine) (qid tick : Nat) : Engine :=
  { g with arms := g.arms.map (fun a => if a.qid = qid ∧ a.tick = none then { a with tick := some tick } else a) }

/-- An entry that the vector in play has on the loop stack: its repeat or its HOLD. -/
def Loop.ofVector : Loop → Bool
  | .rpt _ => true
  | .hold => true
  | _ => false

/-- R79: the loop entry under those of the vector in play is this LOOPB's. -/
def Leaf.inLoopb (x : Leaf) (strand e : Nat) : Bool :=
  match x.loops.dropWhile Loop.ofVector with
  | .loopb st _ e' _ :: _ => st == strand && e' == e
  | _ => false

/-- R79, R80: LOOPB's push by a vector of bead `e` is a loop-stack fault, when `more` entries are pushed beside it. -/
def State.loopbBad (s : State) (l strand a e more : Nat) : Bool :=
  let x := s.leaf l
  !x.inLoopb strand e && (decide (e < a) || decide (4 ≤ x.loops.length + (s.eng l).c.loops.length + more))

/-- R79: LOOPB's push by its vector: nothing when the top entry is this loop; otherwise the entry, under those of the vector in
play, and the fetcher follows the loop. -/
def State.pushLoopb (s : State) (l strand a e n : Nat) : State :=
  let x := s.leaf l
  if x.inLoopb strand e then s
  else
    let rest := x.loops.dropWhile Loop.ofVector
    let s1 := s.setLeaf l { x with loops := x.loops.takeWhile Loop.ofVector ++ .loopb strand a e (max n 1 - 1) :: rest }
    if 1 < n ∧ (x.strand = strand ∧ x.bead = e) then
      (s1.abandon l x.beadSeq).freeAhead l 0 (some { strand := strand, bead := a, loops := .loopb strand a e (n - 2) :: rest })
    else s1

/-- R108, R78: the vector at the head of the queue issues for the first time. An RPT of count 0 or 1 takes no level of the loop stack: the
model's choice (log entry 151). -/
def State.issueHead (s : State) (l : Nat) (q : QEnt) : State :=
  let x := s.leaf l
  let n := match q.act.rpt with | some n => n | none => 1
  let pushes := (if 2 ≤ n then 1 else 0) + (if q.act.hold then 1 else 0)
  let bad := match q.act.loopb with | some (a, _) => s.loopbBad l q.strand a q.bead pushes | none => false
  if bad = true ∨ 4 < x.loops.length + (s.eng l).c.loops.length + pushes then s.stackFault l x.nextStart q.qid
  else
    let s0 := match q.act.loopb with
      | some (a, k) => s.pushLoopb l q.strand a q.bead k
      | none => s
    let x := s0.leaf l
    let states := if q.act.repeatLast then x.last else vecStates x.last q.word
    let set := match q.act.altset with | some k => k | none => vecTsel q.word
    let vindex := s.rd F.UNIT_VCOUNT_VCOUNT l
    let q' := { q with vindex := some vindex, start := x.nextStart }
    let loops := (if q.act.hold then [Loop.hold] else []) ++ (if 2 ≤ n then [Loop.rpt n] else []) ++ x.loops
    let s1 := s0.setLeaf l { x with queue := x.queue.drop 1, cur := some q', off := q.off + 1, rptLeft := n - 1,
                                    vhold := q.act.hold, vholdTick := tickOf x.nextStart, loops := loops }
    let s2 := s1.playPeriod l states x.bank set q.act.mask q.qid (q.beadSeq, q.strand, q.bead, q.off)
    let tick := match (s2.leaf l).vrecs.find? (fun v => v.qid == q.qid) with
      | some v => tickOf v.recAt
      | none => tickOf x.nextStart
    let s3 := ((s2.setEng l ((s2.eng l).bindArms q.qid tick)).flushEvents l q.qid x.nextStart).feedPin l vindex x.nextStart
    s3.afterPeriod l

/-- R78, R108: the vector in play repeats. -/
def State.issueRepeat (s : State) (l : Nat) (q : QEnt) : State :=
  let x := s.leaf l
  let s1 := (s.setLeaf l { x with rptLeft := x.rptLeft - 1 }).feedPin l (s.rd F.UNIT_VCOUNT_VCOUNT l) x.nextStart
  (s1.playPeriod l x.last x.lastBank x.lastSet q.act.mask 0 (q.beadSeq, q.strand, q.bead, q.off)).afterPeriod l

/-- R83: a held period: the last vector's states and set, edges placed, no compare. Before any vector has played it has the
period of TS0 and no edges. -/
def State.issueHeld (s : State) (l : Nat) (h : Hold) : State :=
  let x := s.leaf l
  let s0 := if h.len = 0 then s.feedHoldStart l x.nextStart else s
  let s1 := (s0.setLeaf l { x with hold := some { h with len := h.len + 1 } }).flagUnderrun l x.nextStart
  let none9 : List PS := []
  s1.playPeriod l (if x.last.isEmpty then none9 else x.last) x.bank (if x.last.isEmpty then 0 else x.lastSet) 511 0
    (x.beadSeq, x.strand, x.bead, x.off)

/-- R84: the tick boundary at which a hold's limit passes. -/
def State.holdLimit (s : State) (l : Nat) : Option Nat :=
  let x := s.leaf l
  let lim := s.rd F.UNIT_HOLD_LIMIT_LIMIT x.unit
  match x.hold with
  | some h => some (h.tick + lim)
  | none => if x.vhold then some (x.vholdTick + lim) else none

/-- R84: the hold's limit has passed at the leaf's place. -/
def State.holdExpired (s : State) (l : Nat) : Bool :=
  match s.holdLimit l with
  | none => false
  | some k => decide (tickAt k ≤ (s.leaf l).nextStart) && !((s.leaf l).aborts.any (fun a => a.cause == 0x0A))

/-- R83, R372: a hold that ends at the leaf's place. -/
def Leaf.holdOver (x : Leaf) : Bool :=
  match x.hold with
  | none => false
  | some h =>
    match h.forced with
    | some n => decide (n ≤ h.len)
    | none => (match h.ready with | some r => decide (r + 16 * cyc ≤ x.nextStart) | none => false)

/-- VECTOR_ISSUE (R134, R78, R83, R108): the period that starts at the leaf's place is played: a held one, a repeat, or the
vector at the head of the queue. What must come first at that place (an abort, a boundary, an exchange, a resume, a timeout,
the fixing of its action) leaves the leaf as it is. -/
def vectorIssue (l : Nat) (s : State) : State :=
  let s := s.settle l
  let x := s.leaf l
  if x.phase = .play ∧ s.due x.nextStart ∧ x.abortNow false = [] ∧ s.holdExpired l = false ∧ s.swapDue l = false then
    match x.hold with
    | some h => if x.holdOver then s else (s.goto x.nextStart).issueHeld l h
    | none =>
      if x.bdue then s
      else if x.rptLeft ≠ 0 ∨ x.vhold then
        match x.cur with | none => s | some q => (s.goto x.nextStart).issueRepeat l q
      else
        match x.queue with
        | [] => s
        | q :: _ =>
          match q.fault with
          | some (pos, val) => (s.goto x.nextStart).starve l 0x04 q.strand q.bead q.off pos val
          | none =>
            let routine := vecOp q.word ≠ 0 && s.mc.dispatch.getD (hPage q.hdr * 16 + vecOp q.word) 0 != 0
            if routine && !q.act.fixed then s
            else match s.replayHold l with
              | some k => if k = 0 ∨ x.off = 0 then (s.goto x.nextStart).issueHead l q else (s.goto x.nextStart).forceHold l k
              | none => (s.goto x.nextStart).issueHead l q
  else s

/-! ### Edges at the pin (R131 to R133) -/

/-- The edge of a pin that is placed next. -/
def nextEdge (es : List Edge) (slot : Nat) : Option Edge :=
  (es.filter (fun e => e.slot == slot)).foldl
    (fun a e => match a with
      | none => some e
      | some b => if e.placed < b.placed then some e else a) none

/-- R133: a compare edge of a vector's pin samples the comparators. -/
def Cmp.sampleAt (c : Cmp) (k : Nat) (cl ch exc : Bool) : Cmp :=
  if k = 3 then
    { c with sample := some (cl, ch), exc := if c.window && !cmpPass c.state cl ch then some (cl, ch) else c.exc }
  else
    { c with closed := true, exc := match c.exc with | some e => some e | none => if exc then some (cl, ch) else none }

/-- EDGE_PLACE (R131 to R133): the next edge of a pin reaches its placed time: a drive edge commands its level with the enable
and termination of its vector's state; a compare edge samples the comparators, whose outputs the operands give (for a window
close, `exc` says whether the window held an excursion, and the operands its outputs). -/
def edgePlace (l slot : Nat) (cl ch exc : Bool) (s : State) : State :=
  let x := s.leaf l
  match nextEdge x.edges slot with
  | none => s
  | some e =>
    if s.due e.placed then
      let s0 := s.goto e.placed
      let x1 := { x with edges := x.edges.erase e, past := x.past ++ [(slot, e.field, e.placed)] }
      if e.role = 0 then
        let old := (Table.get? x.drv slot).getD {}
        let new := pinTake old e.fmt e.term e.state
        let new := match driveLevel e.fmt e.state e.field with | some h => { new with high := h } | none => new
        s0.setLeaf l { x1 with drv := Table.set x1.drv slot new }
      else
        s0.setLeaf l { x1 with vrecs := x1.vrecs.map (fun v =>
          if v.vindex = e.vindex then
            { v with cmps := v.cmps.map (fun c => if c.slot = slot ∧ c.supp = false then c.sampleAt e.field cl ch exc else c) }
          else v) }
    else s

/-- EDGE_PLACE. -/
def execEdgePlace (l : Fin 16) (slot : Fin 9) (cl ch exc : Bool) (s : State) : Host.Outcome State Fault Refusal :=
  .next (edgePlace l.val slot.val cl ch exc s)

/-! ### The end of a hold (R83, R84, R61) -/

/-- R83: the gap of a hold closed: counted, journalled, and the flag cleared. -/
def State.closeHold (s : State) (l : Nat) (h : Hold) : State :=
  let s1 := ((s.wrs [(F.UNIT_STATUS_HOLDING, l, 0),
                     (F.UNIT_HOLD_GAP_GAP, l, satAdd 48 (s.rd F.UNIT_HOLD_GAP_GAP l) h.len)]).feedHold l h.start h.len).flagUnderrun l
    ((s.leaf l).nextStart - 1)
  s1.journal 0x07 l (s1.leaf l).replay (pack [(0, 48, h.vindex), (48, 2, 1), (64, 32, h.len)])

/-- HOLD_RESUME (R83, R61, R98): a holding leaf resumes at the held vector at the first period at least 16 base cycles after what it waits
for. A fault that a re-fetch did not cure ends the run there; a routine whose bead ends there and that has not reached DONE is late
(R119). `par` is as at a bead boundary. -/
def holdResume (l par : Nat) (s : State) : State :=
  let x := s.leaf l
  match x.hold with
  | none => s
  | some h =>
    if x.phase = .play ∧ x.holdOver ∧ s.due x.nextStart ∧ x.abortNow false = [] then
      let le := edgeOf x.nextStart
      let s1 := (s.goto le).closeHold l h
      if x.bdue then
        let s2 := s1.setLeaf l { s1.leaf l with hold := if h.refetched then some { h with ready := none, forced := none } else none }
        let s3 := match jumpWinner x.jumps le with
          | some _ => (s2.setLeaf l { s2.leaf l with hold := none }).moveTo l le (s2.nextB l le)
          | none => s2
        let jumped := (jumpWinner x.jumps le).isSome
        match s1.missedFlow l, !(s3.willHold l (s3.beadCheck l le jumped par)) with
        | some (d, pc), true => (s1.setLeaf l { s1.leaf l with hold := none }).flowLate l d pc x.nextStart
        | _, _ =>
          let s5 := s3.tryBegin l le jumped par
          let s4 := s5.checkFlow l (h.forced.isNone || !(s5.leaf l).bdue)
          if (s4.leaf l).bdue then s4 else s4.setLeaf l { s4.leaf l with hold := none }
      else if h.forced.isSome then s1.setLeaf l { s1.leaf l with hold := none }
      else
        let s2 := s1.setLeaf l { s1.leaf l with queue := [], hold := some { h with ready := none, forced := none } }
        match s2.slotAt l x.beadSeq x.strand x.bead with
        | none => s2.starve l 0x03 x.strand x.bead x.off 0 0
        | some k =>
          match s2.beadFault ((s2.cache l).slot k) x.strand x.bead with
          | some f => s2.starve l f x.strand x.bead x.off 0 0
          | none =>
            let s3 := s2.enqueue l (x.beadSeq, x.strand, x.bead, x.off)
            match (s3.leaf l).queue.head?.bind (·.fault) with
            | some (p, v) => s3.starve l 0x04 x.strand x.bead x.off p v
            | none => s3.setLeaf l { s3.leaf l with hold := none }
    else s

/-- HOLD_RESUME. -/
def execHoldResume (x : BeadIn) (s : State) : Host.Outcome State Fault Refusal := .next (holdResume x.leaf.val x.par.val s)

/-- HOLD_TIMEOUT (R84, R108): the limit of a hold passes: the run ends HOLD_TIMEOUT at the first held period from that tick
boundary on. -/
def holdTimeout (l : Nat) (s : State) : State :=
  let x := s.leaf l
  match s.holdLimit l with
  | none => s
  | some k =>
    if x.phase = .play ∧ s.holdExpired l ∧ s.due (tickAt k) then
      ((s.goto (tickAt k)).journalFault l 0x0A x.strand x.bead x.off 0 0).ownAbort l 0x0A (tickAt k)
    else s

/-- HOLD_TIMEOUT. -/
def execHoldTimeout (l : Fin 16) (s : State) : Host.Outcome State Fault Refusal := .next (holdTimeout l.val s)

/-! ### The end of a run -/

/-- R365: the RUN_END record of a leaf's unit. -/
def State.journalEnd (s : State) (l : Nat) (vindex state : Nat) : State :=
  let x := s.leaf l
  s.journal 0x05 l x.replay
    (pack [(0, 48, vindex), (48, 3, state), (51, 1, s.rd F.UNIT_STATUS_LATE_ABORT l),
           (52, 1, s.rd F.UNIT_STATUS_TIMING_BROKEN l), (53, 1, bit (decide (256 ≤ x.unit))), (54, 10, unitIndex x.unit),
           (64, 8, s.rd F.UNIT_STATUS_CAUSE l), (72, 16, s.rd F.UNIT_SAFEPT_STRAND l), (88, 24, s.rd F.UNIT_SAFEPT_BEAD l),
           (112, 1, s.rd F.UNIT_SAFEPT_VALID l), (113, 15, min x.cancelled 32767)])

/-- R370: an export put in the order of request: an automatic one stands before those asked for on demand on the same edge. -/
def queueExport (e : Export) (l : List Export) : List Export :=
  if e.auto then
    let same (o : Export) : Bool := !o.auto && decide (e.asked ≤ o.asked)
    l.takeWhile (fun o => !same o) ++ e :: l.dropWhile (fun o => !same o)
  else l ++ [e]

/-- R369: an export asked for; of more than 4 the last is dropped. -/
def State.askExport (s : State) (e : Export) : State :=
  if s.rd F.JN_EXP_CFG_SLOT_KIB 0 = 0 then s.bump F.JN_EXP_DROPPED_COUNT 0 1 F.JN_STATUS_SAT 0 15 0x40
  else
    let s1 := { s with jn := { s.jn with exports := (queueExport e s.jn.exports).take 4 } }
    if s.jn.exports.length < 4 then s1 else s1.bump F.JN_EXP_DROPPED_COUNT 0 1 F.JN_STATUS_SAT 0 15 0x40

/-- R371: a replay ends with its unit's run. -/
def State.endReplay (s : State) (u : Nat) : State :=
  if s.jn.replay.active ∧ s.jn.replay.unit = u then
    { s with jn := { s.jn with replay := { s.jn.replay with active := false } } }.wr F.JN_RPL_STAT_ACTIVE 0 0
  else s

/-- R411: UNIT_END, once for a run of the unit that was started. -/
def State.unitEnd (s : State) (l : Nat) : State :=
  let u := (s.leaf l).unit
  let us := s.unit u
  let st := if u < 256 then s.unitState u else
    (let q := (s.leavesOf u).map (s.rd F.UNIT_STATUS_STATE); if q.contains 3 then 3 else if q.all (· == 2) then 2 else 1)
  if us.endRaised ∨ (st ≠ 2 ∧ st ≠ 3) then s
  else
    ((s.setUnit u { us with endRaised := true, hostJump := none, per := [] }).raise 0x60 (unitIndex u) (s.unitStatus u)
      (s.rd F.UNIT_VCOUNT_VCOUNT ((s.leavesOf u).headD l))).endReplay u

/-- RUN_COMPLETION (R70, R92, R163): at the later of the end of the run and its last result the leaf is DONE. -/
def runCompletion (l : Nat) (s : State) : State :=
  let x := s.leaf l
  if x.phase = .ended ∧ s.due x.lastRes ∧ x.vrecs.all (fun v => v.done) then
    let s0 := s.goto x.lastRes
    let late := x.aborts.any (fun a => sampledCause a.cause)
    let s1 := s0.wrs [(F.UNIT_STATUS_STATE, l, 2), (F.UNIT_STATUS_LATE_ABORT, l, bit late)]
    let s2 := if x.stopHit.isSome || x.aborts.any (fun a => a.cause == 0x0C) then s1.wr F.UNIT_FSTAT_FSTOP_HIT l 1 else s1
    let s3 := s2.setLeaf l { s2.leaf l with phase := .off, aborts := [] }
    ((s3.journalEnd l (s3.rd F.UNIT_VCOUNT_VCOUNT l) 2).checkFlow l (s3.endAgrees l 2)).unitEnd l
  else s

/-- RUN_COMPLETION. -/
def execRunCompletion (l : Fin 16) (s : State) : Host.Outcome State Fault Refusal := .next (runCompletion l.val s)

/-- R91: a pin in SAFE. -/
def safePin (old : PinDrv) (term code : Nat) (ditto played : Bool) : PinDrv :=
  if ditto then
    (if played then (if old.on then old else { old with term := term }) else { on := false, high := old.high, term := 3 })
  else if code = 0 then { on := true, high := false, term := 3 }
  else if code = 1 then { on := true, high := true, term := 3 }
  else if code = 5 then { old with on := false, term := 3 }
  else { old with on := false, term := term }

/-- R91: the nine pins of a leaf take SAFE from three packed bytes; the termination is the last set's. Where no vector has played in the run
there is no last set, and codes DZ, CL and CH take TERM 0: the model's choice (log entry 152). -/
def State.safePins (s : State) (l safe : Nat) : State :=
  let x := s.leaf l
  let played := !x.last.isEmpty
  let drv := (List.range 9).foldl (fun d j =>
    let b := bits safe (8 * (j / 3)) 8
    let code := if j % 3 = 0 then b % 6 else if j % 3 = 1 then b / 6 % 6 else b / 36
    let term := if played then (s.pinSet x.lastBank l x.lastSet j).term else 0
    Table.set d j (safePin ((Table.get? d j).getD {}) term code (b == 216) played)) x.drv
  s.setLeaf l { x with drv := drv }

/-- R90: the time of a compare's strobe or window close: where it is placed, or programmed when it was suppressed; 0 when it
has been placed already. -/
def Leaf.strobeTime (x : Leaf) (v : VRec) (c : Cmp) : Nat :=
  match x.edges.find? (fun (e : Edge) => e.vindex == v.vindex && e.slot == c.slot && e.role == 1
      && e.field == (if c.window then 4 else 3)) with
  | some e => e.placed
  | none => if c.supp then c.strobe else 0

/-- R90: the compares of a vector that an abort at `t` cancels. -/
def Leaf.goneCmps (x : Leaf) (t : Nat) (v : VRec) : List Cmp :=
  v.cmps.filter (fun (c : Cmp) => decide (t ≤ x.strobeTime v c))

/-- R151: a vector after an abort at `t`: the compares that remain and its record instant. -/
def Leaf.cutRec (x : Leaf) (t : Nat) (v : VRec) : VRec :=
  let g := x.goneCmps t v
  let left := v.cmps.filter (fun c => !g.contains c)
  if v.done || g.isEmpty then v
  else
    let last := left.foldl (fun a (c : Cmp) => max a c.inst) v.formed
    { v with cmps := left, recAt := if last = 0 then t else last }

/-- R90, R151: at the abort instant the edges that have not come are cancelled; a compare whose strobe or close falls there or
later forms no result. -/
def Leaf.cancelFrom (x : Leaf) (t : Nat) : Leaf :=
  { x with
    cancelled := x.cancelled
      + ((x.vrecs.map (fun v => ((x.goneCmps t v).filter (fun c => c.counts)).length)).foldl (· + ·) 0)
    vrecs := x.vrecs.map (x.cutRec t)
    edges := x.edges.filter (fun (e : Edge) => decide (e.placed < t)) }

/-- R233, R253: the safe state that the mount image fixes for a raster leaf. -/
def State.rasterSafe (s : State) (l : Nat) : Nat :=
  match s.mnt.img with
  | some g => (g.leafRecs.getD l {}).rsafe
  | none => ({} : LeafRec).rsafe

/-- R91: the strand whose SAFE an abort at the leaf's place takes. -/
def State.safeStrand (s : State) (l : Nat) (cause : Nat) : Nat :=
  let x := s.leaf l
  if !x.bdue then x.strand
  else
    let n := s.nextB l (edgeOf x.nextStart)
    if n.stop then x.strand
    else if cause = 0x05 ∧ dLen (s.desc n.strand) = 0 then x.lastStrand
    else n.strand

/-- R18: the other members of the group abort, sampled at the next tick boundary. -/
def State.abortOthers (s : State) (l t : Nat) (a : AbortReq) : State :=
  let u := (s.leaf l).unit
  ((s.leavesOf u).filter (fun m => m != l)).foldl (fun s m =>
    let y := s.leaf m
    if y.phase ≠ .off then
      s.askAbort m { notBefore := tickAt (tickOf t + 1), cause := 0x09, srcUnit := a.srcUnit, srcModule := a.srcModule,
                     srcCause := a.srcCause }
    else s) s

/-- R159, R151: UNIT_FF_TICK follows the record instant of its vector when an abort at `t` moves that instant. -/
def State.ffFollow (s : State) (l t : Nat) : State :=
  match (s.leaf l).vrecs.find? (fun v => !v.done && v.fails != 0 && s.ffIs l v) with
  | some v => s.wr F.UNIT_FF_TICK_TICK l (tickOf ((s.leaf l).cutRec t v).recAt)
  | none => s

/-- R96: the unit, module and cause of the first abort of the run that a leaf is in: those of a member that has ended ABORTED already, or
those that the cluster has told of, else the leaf's own. -/
def State.firstSrc (s : State) (l : Nat) (a : AbortReq) : Nat × Nat × Nat :=
  let x := s.leaf l
  let ended (m : Nat) : Bool := m != l && s.rd F.UNIT_STATUS_STATE m == 3 && (s.leaf m).unit == x.unit && (s.leaf m).startTick == x.startTick
  match (s.leavesOf x.unit).find? ended with
  | some m => (s.rd F.UNIT_ABORT_SRC_SRC_UNIT m, s.rd F.UNIT_ABORT_SRC_SRC_MODULE m, s.rd F.UNIT_ABORT_SRC_SRC_CAUSE m)
  | none =>
    match (s.unit x.unit).src, x.aborts.find? (fun b => b.cause == 0x09) with
    | some src, _ => src
    | none, some b => (b.srcUnit, b.srcModule, b.srcCause)
    | none, none => (a.srcUnit, a.srcModule, a.srcCause)

/-- R292: the first member module of a cluster group to end ABORTED in a run tells every other one the unit, module and cause. -/
def State.tellAbort (s : State) (l : Nat) (a : AbortReq) : State :=
  let u := (s.leaf l).unit
  let others := (s.leavesOf u).any (fun m => m != l && s.rd F.UNIT_STATUS_STATE m == 3 && (s.leaf m).startTick == (s.leaf l).startTick)
  if 256 ≤ u ∧ a.cause ≠ 0x09 ∧ others = false ∧ (s.unit u).src = none then
    let m : CluMsg := .firstAbort (Fin.ofNat 1024 (u - 256)) (Fin.ofNat 1024 a.srcUnit) (Fin.ofNat 16 a.srcModule) (BitVec.ofNat 8 a.srcCause)
    ((s.cluMods (u - 256)).filter (· != s.module)).foldl (fun (s : State) d => s.tell d m) s
  else s

/-- R115, R116: an abort's interrupt: the routine and what waits are discarded, with the effects that would register after the edge on
which it is raised. -/
def State.stopEngine (s : State) (l t : Nat) : State :=
  let s1 := { s with vis := s.vis.filter (fun (e : Nat × Nat × Ctx) => e.2.1 != l || decide (e.1 ≤ edgeUp t)) }
  let v := s1.visCtx l
  (s1.setEng l { s1.eng l with fifo := [], run := none, staged := [], arms := [], w := v, c := v }).raiseInt l 1

/-- R90, R53, R83, R115: a leaf's run ends ABORTED at `t`; a hold in progress ends with it. Without a vector played (R94, R89: `safe` none)
the pins keep what they held, and an earlier run's edges and results stand. -/
def State.endAborted (s : State) (l t : Nat) (a : AbortReq) (safe : Option Nat) : State :=
  let s := match (s.leaf l).hold with
    | some h => if h.len = 0 then s else s.closeHold l h
    | none => s
  let x := s.leaf l
  let (su, sm, sc) := s.firstSrc l a
  let s1 := match safe with | some d => s.safePins l d | none => s
  let sup := x.jumps.foldl (fun (s : State) j => s.journalJump l x.strand j true) (if safe.isSome then s1.ffFollow l t else s1)
  let y := if safe.isSome then (sup.leaf l).cancelFrom t else sup.leaf l
  let s2 := sup.setLeaf l ({ y with phase := .off, queue := [], hold := none, vhold := false, rptLeft := 0, jumps := [],
                                    aborts := [], loops := [] }.setPub (tickOf t) (fun p => { p with flags := { p.flags with done := true } }))
  let s3 := s2.wrs [(F.UNIT_STATUS_STATE, l, 3), (F.UNIT_STATUS_CAUSE, l, a.cause), (F.UNIT_STATUS_HOLDING, l, 0),
                    (F.UNIT_ABORT_SRC_SRC_UNIT, l, su), (F.UNIT_ABORT_SRC_SRC_MODULE, l, sm), (F.UNIT_ABORT_SRC_SRC_CAUSE, l, sc)]
  let stop := y.stopHit.isSome || x.aborts.any (fun b => b.cause == 0x0C)
  let s4 := if stop then s3.wr F.UNIT_FSTAT_FSTOP_HIT l 1 else s3
  let s5 := { s4 with pulses := s4.pulses.filter (fun p => p.leaf != l || decide (p.start < t) || safe.isNone) }
  let s6 := (s5.leaf l).vrecs.foldl (fun s v => s.finishVec l v) s5
  let s7 := ((s6.stopEngine l t).journalEnd l (s6.rd F.UNIT_VCOUNT_VCOUNT l) 3).checkFlow l (s6.endAgrees l 3)
  let x7 := s7.leaf l
  let s8 := if s7.on F.JN_CFG_AUTO 0 then
      s7.askExport { from_ := x7.startTick - 8, to_ := tickOf t + 4, auto := true, asked := edgeUp t }
    else s7
  ((s8.tellAbort l a).abortOthers l t a).unitEnd l

/-- R98, R163: of the aborts due at one instant, HOST_ABORT comes first. -/
def chooseAbort (l : List AbortReq) : Option AbortReq :=
  match l.find? (fun a => a.cause == 0x01) with
  | some a => some a
  | none => l.foldl (fun b a => match b with | none => some a | some c => if a.notBefore < c.notBefore then some a else b) none

/-- R89: the run state of a leaf cleared. -/
def State.clearState (s : State) (l : Nat) : State :=
  s.wrs [(F.UNIT_VCOUNT_VCOUNT, l, 0), (F.UNIT_HOLD_GAP_GAP, l, 0), (F.UNIT_SAFEPT_STRAND, l, 0),
    (F.UNIT_SAFEPT_BEAD, l, 0), (F.UNIT_SAFEPT_VALID, l, 0), (F.UNIT_ABORT_SRC_SRC_UNIT, l, 0),
    (F.UNIT_ABORT_SRC_SRC_MODULE, l, 0), (F.UNIT_ABORT_SRC_SRC_CAUSE, l, 0), (F.UNIT_STATUS_LATE_ABORT, l, 0),
    (F.UNIT_STATUS_TIMING_BROKEN, l, 0), (F.UNIT_STATUS_UNDERRUN, l, 0), (F.UNIT_STATUS_VCOUNT_WRAP, l, 0),
    (F.UNIT_STATUS_HOLDING, l, 0), (F.UNIT_STATUS_CAUSE, l, 0)]

/-- R89, R148, R160: what a leaf's start tick clears. -/
def State.clearRun (s : State) (l : Nat) (accum : Bool) : State :=
  let s1 := (s.clearState l).wrs [(F.UNIT_FSTAT_FSTOP_HIT, l, 0), (F.UNIT_FSTAT_FL_LOST, l, 0), (F.TS_STATUS_COLL_SEEN, l, 0),
    (F.TS_COLL_FIRST_VALID, l, 0)]
  if accum then s1
  else
    (s1.wrs ((List.range 9).map (fun j => (F.UNIT_PFAIL_COUNT, l * 9 + j, 0)))).wrs
      [(F.UNIT_FVEC_COUNT, l, 0), (F.UNIT_FF_POS_VINDEX, l, 0), (F.UNIT_FF_POS_VALID, l, 0), (F.UNIT_FF_POS_LEAF, l, 0),
       (F.UNIT_FF_POS_MODULE, l, 0), (F.UNIT_FF_WHERE_STRAND, l, 0), (F.UNIT_FF_WHERE_BEAD, l, 0),
       (F.UNIT_FF_WHERE_VOFF, l, 0), (F.UNIT_FF_WHERE_PMASK, l, 0), (F.UNIT_FF_TICK_TICK, l, 0), (F.UNIT_FSTAT_SAT, l, 0)]

/-- R98: the bead at whose boundary an abort takes effect would have been missing: UNDERRUN is set all the same. -/
def State.missedToo (s : State) (l : Nat) : State :=
  let x := s.leaf l
  let le := edgeOf x.nextStart
  let n := s.nextB l le
  if x.bdue ∧ x.hold.isNone ∧ x.raster = false ∧ n.stop = false then
    match (s.moveTo l le n).beadCheck l le true 0 with
    | .fault f => if f = 0x02 ∨ f = 0x05 then (s.wr F.UNIT_STATUS_UNDERRUN l 1).flagUnderrun l x.nextStart else s
    | .unused => (s.wr F.UNIT_STATUS_UNDERRUN l 1).flagUnderrun l x.nextStart
    | .ok _ => s
  else s

/-- ABORT_TAKE_EFFECT (R90 to R94, R98): at the abort instant the pins take SAFE, what has not come is cancelled, and the run ends
ABORTED. A start that an abort sampled before its tick cancels ends without a vector, its pins as they were. -/
def abortTakeEffect (l : Nat) (s : State) : State :=
  let s := s.settle l
  let x := s.leaf l
  match x.phase with
  | .armed =>
    match chooseAbort (x.aborts.filter (fun a => a.vec.isNone && decide (a.notBefore < tickAt x.startTick))) with
    | some a =>
      if s.due a.notBefore then
        let us := s.unit x.unit
        (((s.goto a.notBefore).setUnit x.unit { us with pending := none }).clearState l).endAborted l a.notBefore a none
      else s
    | none => s
  | .play =>
    let late := s.atEnd l
    match chooseAbort (x.abortNow late) with
    | some a =>
      if s.due x.nextStart then
        ((s.goto x.nextStart).missedToo l).endAborted l x.nextStart a
          (some (if x.raster then s.rasterSafe l else dSafe (s.desc (s.safeStrand l a.cause))))
      else s
    | none => s
  | _ => s

end Sys2Proof.Machine
end

