-- ==== Sys2Proof/Machine/Stream.lean ====
section
/-! DEFINITION. The stream fetcher and the landing of beads (R56 to R58, R61, R64, R65). -/

namespace Sys2Proof.Machine

/-- R65, R79: the place after a bead in the order in which the fetcher goes through it. -/
def State.curAfter (s : State) (c : FetchCur) : Option FetchCur :=
  let d := s.desc c.strand
  let cont (loops : List Loop) : Option FetchCur :=
    if c.bead + 1 < dLen d then some { c with bead := c.bead + 1, loops := loops }
    else if dEnd d then none
    else some { strand := dNext d, bead := 0, loops := loops }
  match c.loops with
  | .loopb st a e left :: rest =>
    if st = c.strand ∧ e = c.bead then
      if left ≠ 0 then some { c with bead := a, loops := .loopb st a e (left - 1) :: rest } else cont rest
    else cont c.loops
  | _ => cont c.loops

/-- R81: a loop's whole body is in the pinned region. -/
def State.bodyPinned (s : State) (l : Nat) : List Loop → Bool
  | .loopb st a e _ :: _ =>
    dRes (s.desc st) != 0
      && ((s.cache l).pinned.filter (fun p => p.1 == st && decide (a ≤ p.2.1) && decide (p.2.1 ≤ e))).length == e + 1 - a
  | _ => false

/-- R65, R81: the first bead from a place on that the pinned region does not hold; a loop that it holds whole is passed once. -/
def State.nextStreamed (s : State) (l : Nat) : Nat → FetchCur → Option FetchCur
  | 0, _ => none
  | fuel + 1, c =>
    let d := s.desc c.strand
    if dLen d = 0 then none
    else if s.bodyPinned l c.loops then s.nextStreamed l fuel { c with loops := c.loops.drop 1 }
    else if (s.pinned l c.strand c.bead).isSome then
      if dRes d = 1 ∧ c.loops = [] then
        (if dEnd d then none else s.nextStreamed l fuel { strand := dNext d, bead := 0, loops := c.loops })
      else match s.curAfter c with
        | none => none
        | some c' => s.nextStreamed l fuel c'
    else some c

/-- A free slot of a leaf's ring, the lowest. -/
def Cache.freeSlot (c : Cache) : Option Nat :=
  if 8192 - c.pinSlots ≤ c.ring.length then none
  else ((List.range (c.ring.length + 1)).map (· + c.pinSlots)).find? (fun k => !c.ring.contains k)

/-- STREAM_FETCH (R65): with a ring slot free, the fetcher asks for the next bead in the order of play. -/
def streamFetch (l : Nat) (s : State) : State :=
  let c := s.cache l
  match c.freeSlot, c.cur.bind (s.nextStreamed l 41000) with
  | some k, some f =>
    let slot : CSlot := { (c.slot k) with strand := f.strand, bead := f.bead, landed := none, bad := false, parity := 0 }
    let s1 := s.setCache l { c with slots := Table.set c.slots k slot, ring := c.ring ++ [k], cur := s.curAfter f }
    s1.askFetch l { slot := k, strand := f.strand, bead := f.bead }
  | _, _ => s

/-- STREAM_FETCH. -/
def execStreamFetch (l : Fin 16) (s : State) : Host.Outcome State Fault Refusal := .next (streamFetch l.val s)

/-- R57: a landing's check: the payload's CRC against the header. -/
def landingOk (payload header : List Byte) : Bool := crc16 payload == hCrc (ofBytes header)

/-- A bead in a hold's place has landed: the hold can end 16 base cycles later. -/
def State.wakeHold (s : State) (l strand bead : Nat) : State :=
  let x := s.leaf l
  match x.hold with
  | some h =>
    if x.strand = strand ∧ x.bead = bead ∧ h.ready = none ∧ h.forced = none then
      s.setLeaf l { x with hold := some { h with ready := some (edgeUp s.now) } }
    else s
  | none => s

/-- R58, R61: what arrives for a fetch: it lands, is fetched once more, or marks its slot bad. -/
def State.land (s : State) (l : Nat) (f : Fetch) (payload header : List Byte) (ok : Bool) : State :=
  let c := s.cache l
  let rest := c.fetches.filter (fun g => g != f)
  let old := c.slot f.slot
  if ok && landingOk payload header then
    let slot := { old with strand := f.strand, bead := f.bead, payload := payload, header := header, landed := some (edgeUp s.now),
                           bad := false, parity := 0 }
    let s1 := if f.prefetch then s.wr F.PL_PREFETCH_BEADS 0 (satAdd 32 (s.rd F.PL_PREFETCH_BEADS 0) 1) else s
    (s1.setCache l { c with fetches := rest, slots := Table.set c.slots f.slot slot }).wakeHold l f.strand f.bead
  else if f.fails = 0 then
    (s.setCache l { c with fetches := rest }).askFetch l { f with fails := 1, replica := s.repOk l f.strand }
  else
    let slot := { old with strand := f.strand, bead := f.bead, payload := payload, header := header, landed := some (edgeUp s.now),
                           bad := true, parity := 0 }
    (s.setCache l { c with fetches := rest, slots := Table.set c.slots f.slot slot }).wakeHold l f.strand f.bead

/-- BEAD_LANDING (R57, R58, R321): the bead fetched for a slot arrives: from this module's DRAM when `link` is absent, otherwise
as the 272 bytes (payload, header) that came over a link. From DRAM an uncorrectable error fails the check. -/
def beadLanding (l slot : Nat) (link : Option (List Byte)) (s : State) : State :=
  match (s.cache l).fetches.find? (fun f => f.slot == slot) with
  | none => s
  | some f =>
    match link with
    | some b => if s.fetchFrom l f = s.module then s else s.land l f (b.take 256) ((b.drop 256).take 16) (b.length == 272)
    | none =>
      let b := dStart (s.desc f.strand) + f.bead
      let (pa, ha) := (s.payloadAt l b, s.headerAt l b)
      if s.fetchFrom l f != s.module || s.stalledAt pa 256 || s.stalledAt ha 16 then s
      else
        let ue := s.rangeUe pa 256 || s.rangeUe ha 16
        let s1 := ((s.readerUe pa 256).readerUe ha 16).wake
        s1.land l f (s.dram.read pa 256) (s.dram.read ha 16) (!ue)

/-- BEAD_LANDING. -/
def execBeadLanding (l : Fin 16) (slot : Fin 8192) (link : Option (List Byte)) (s : State) :
    Host.Outcome State Fault Refusal :=
  .next (beadLanding l.val slot.val link s)

end Sys2Proof.Machine
end

