-- ==== Sys2Proof/Machine/Run.lean ====
section
/-! DEFINITION. Starting, aborting, jumping and clearing units, and the strand table (R62, R63, R71, R88 to R96, R160, R371). -/

namespace Sys2Proof.Machine

/-! ### The start (R88, R89) -/

/-- R88: the strand is a run entry of the unit in the plan in force. -/
def State.isEntry (s : State) (u strand : Nat) : Bool :=
  s.pl.cur.runset.any (fun e => e.uix == u && e.strand == strand && e.entry)

/-- R371: the journal records of an export slot's file, read from DRAM: 32 bytes each after the 64-byte header. -/
def State.slotRecs (s : State) (k n : Nat) : List JRec :=
  let base := s.rd F.JN_EXP_CFG_BASE 0 - dramWin + k * s.rd F.JN_EXP_CFG_SLOT_KIB 0 * 1024 + 64
  (List.range n).map (fun i =>
    let w := ofBytes (s.dram.read (base + 32 * i) 32)
    { tick := bits w 0 64, typ := bits w 64 8, leaf := bits w 72 4, module := bits w 76 4, replay := w.testBit 80,
      seq := bits w 96 32, body := bits w 128 128 })

/-- R371: the records of the run named in JN_RPL_SRC and JN_RPL_RUN, from its RUN_START to the last RUN_END. -/
def State.replayRun (s : State) : List JRec := s.slotRecs (s.rd F.JN_RPL_CFG_SLOT 0) (s.rd F.JN_SLOT_INFO_RECORDS (s.rd F.JN_RPL_CFG_SLOT 0))

/-- R371: the source's RUN_START record. -/
def State.replayStart (s : State) (recs : List JRec) : Option JRec :=
  recs.find? (fun r => r.typ == 0x04 && r.tick == s.rd F.JN_RPL_RUN_TICK 0
    && bits r.body 16 10 == s.rd F.JN_RPL_SRC_UNIT 0 && bits r.body 26 1 == s.rd F.JN_RPL_SRC_CLUSTER 0
    && r.module == s.rd F.JN_RPL_SRC_MODULE 0)

/-- R371: the records from a run's RUN_START on, up to the next RUN_START of the same unit. -/
def replaySpan (st : JRec) (recs : List JRec) : List JRec :=
  match recs.dropWhile (fun r => r != st) with
  | [] => []
  | a :: t => a :: t.takeWhile (fun r => !(r.typ == 0x04 && r.module == st.module && bits r.body 16 11 == bits st.body 16 11))

/-- R371: the source's RUN_END records of the run that begins with `st`. -/
def replayEnds (recs : List JRec) (st : JRec) : List JRec :=
  (replaySpan st recs).filter (fun r => r.typ == 0x05 && bits r.body 54 10 == bits st.body 16 10 && bits r.body 53 1 == bits st.body 26 1
    && r.module == st.module)

/-- R371: a LOST record lies between the run's RUN_START and the last of its RUN_END records. -/
def replayGaps (recs : List JRec) (st : JRec) : Bool :=
  (((replaySpan st recs).reverse.dropWhile (fun r => !(replayEnds recs st).contains r))).any (fun r => r.typ == 0x0E)

/-- R371: the source's leaves, as its records show them, ascending. -/
def replayLeaves (ends : List JRec) : List Nat := sortLeaves (ends.map (·.leaf))

/-- R371: the conditions on a start that a replay is armed for: the reason when refused. -/
def State.replayRefused (s : State) (u : Nat) : Option Nat :=
  let k := s.rd F.JN_RPL_CFG_SLOT 0
  let recs := s.replayRun
  if !(s.on F.JN_SLOT_INFO_VALID k) || s.on F.JN_SLOT_INFO_TRUNC k then some rRPL_SOURCE
  else match s.replayStart recs with
    | none => some rRPL_SOURCE
    | some st =>
      let ends := replayEnds recs st
      if ends = [] then some rRPL_SOURCE
      else if replayGaps recs st then some rRPL_INCOMPLETE
      else if (replayLeaves ends).length ≠ (s.leavesOf u).length then some rRPL_SHAPE
      else if bits st.body 32 32 ≠ s.rd F.MC_DIGEST_DIGEST 0 % 2 ^ 32 then some rRPL_IMAGE
      else if bits st.body 0 16 ≠ s.rd F.UNIT_START_STRAND_STRAND u then some rRPL_STRAND
      else none

/-- R371: the records of the replayed run: from its RUN_START on, those of each leaf up to that leaf's RUN_END. -/
def replayCut (st : JRec) (recs : List JRec) : List JRec :=
  ((replaySpan st recs).foldl (fun (a : List JRec × List Nat) r =>
    if a.2.contains r.leaf then a else (a.1 ++ [r], if r.typ = 0x05 then r.leaf :: a.2 else a.2)) ([], [])).1

/-- R371: an armed replay begins with the start it was armed for. -/
def State.takeReplay (s : State) (u : Nat) : State :=
  let recs := s.replayRun
  match s.replayStart recs with
  | none => s
  | some st =>
    let src := replayLeaves (replayEnds recs st)
    let r : Replay := { active := true, unit := u, recs := replayCut st recs, map := src.zip (s.leavesOf u) }
    { s with jn := { s.jn with replay := r } }.wrs
      [(F.JN_RPL_CFG_ARM, 0, 0), (F.JN_RPL_STAT_ACTIVE, 0, 1), (F.JN_RPL_STAT_DIVERGED, 0, 0)]

/-- R371: a replay is armed for this unit. -/
def State.replayArmed (s : State) (u : Nat) : Bool :=
  s.on F.JN_RPL_CFG_ARM 0 && s.rd F.JN_RPL_CFG_UNIT 0 == u

/-- R89, R111: a leaf made ready for an accepted start: where its play stands and its engine begin anew, what results are still to come and
what edges are still to be placed stay. -/
def State.armLeaf (s : State) (u startTick strand : Nat) (rep : Bool) (l : Nat) : State :=
  let x := s.leaf l
  let y : Leaf :=
    { phase := .armed, unit := u, startTick := startTick, replay := rep, bank := x.bank, strand := strand,
      lastStrand := strand, bdue := true, nextStart := tickAt startTick, lastStart := fillFrom startTick,
      nextQid := x.nextQid, lastSet := x.lastSet, lastBank := x.lastBank, edges := x.edges, past := x.past, chain := x.chain, drv := x.drv,
      vrecs := x.vrecs, lastRes := x.lastRes, collFail := x.collFail, deskew := x.deskew, pubs := x.pubs, runFails := x.runFails,
      beadFails := x.beadFails, runVecFails := x.runVecFails, flCount := x.flCount, flLost := x.flLost, minFail := x.minFail }
  let v := s.visCtx l
  let e : Engine := { t := fillFrom startTick, w := { u := v.u }, c := { u := v.u } }
  let c := s.cache l
  let s := { s with acq := { s.acq with events := s.acq.events.filter (fun e => e.1 != l) } }
  ((s.setLeaf l y).setEng l e).setCache l
    { c with ring := [], fetches := c.fetches.filter (fun f => !c.ring.contains f.slot),
             cur := some { strand := strand, bead := 0, loops := [] } }

/-- R89: an accepted start: start-pending, its leaves ready. -/
def State.acceptStart (s : State) (u : Nat) : State :=
  let n := s.rd F.UNIT_START_TICK_START_TICK u
  let strand := s.rd F.UNIT_START_STRAND_STRAND u
  let rep := s.replayArmed u
  let s0 := s.calCancel 0x21
  let s1 := if rep then s0.takeReplay u else s0
  let s2 := s1.setUnit u { pending := some n, strand := strand }
  ((s2.leavesOf u).foldl (fun s l => s.armLeaf u n strand rep l) s2).dcStart (s2.leavesOf u)

/-- R289: the anchor of a cluster group in which it holds no member leaf leaves conditions on members to the member modules. -/
def State.noPart (s : State) (u : Nat) : Bool := decide (256 ≤ u) && (s.leavesOf u).isEmpty

/-- R88, R261: the answer to a START of a unit whose window does not exist: NOT_MOUNTED while the module is not MOUNTED. -/
def State.startAbsent (s : State) (u : Nat) : Ans :=
  if u < 256 ∧ s.mstate ≠ mMounted then .rejected rNOT_MOUNTED 0 else .absent

/-- R88: the last condition of a pattern start: the start strand is resident and a run entry. The anchor of a cluster group in which it holds
no member leaf leaves that to the member modules (R289). -/
def State.startLanded (s : State) (u : Nat) : Bool :=
  let strand := s.rd F.UNIT_START_STRAND_STRAND u
  s.noPart u ||
  (dRes (s.desc strand) == 1 || dRes (s.desc strand) == 2) && s.isEntry u strand

/-- R289: a command of a cluster group's window comes from the anchor: this module is a member module. -/
def State.fromAnchor (s : State) (u : Nat) : Bool := decide (256 ≤ u) && s.rd F.ID_STAT_ROLE 0 != 1

/-- R394: a SAFE entry that falls on this boundary comes before a start. -/
def State.safeDue (s : State) : Bool := match s.env.safeAt with | some n => decide (n ≤ s.tick) | none => false

/-- R88, R89, R122, R232, R324, R371: the reason for which a start is refused, in the order of the table; `last` is the last condition,
and `code` its reason. A member module takes the anchor's start at any time before its tick. -/
def State.startRefused (s : State) (u : Nat) (last : Bool) (code : Nat) : Option Nat :=
  let n := s.rd F.UNIT_START_TICK_START_TICK u
  if s.noPart u = false ∧ (s.mstate ≠ mMounted ∨ s.safeDue ∨ s.rd F.MC_STATUS_STATE 0 = 1) then some rNOT_MOUNTED
  else if s.isMember u then some rUNIT_IS_MEMBER
  else if s.unitState u = 1 ∨ s.startPending u then some rUNIT_BUSY
  else if (s.leavesOf u).any (s.on F.PL_LEAF_OOS) then some rLEAF_OOS
  else if n < s.tick + 4 ∧ s.fromAnchor u = false then some rSTART_TOO_SOON
  else if last = false then some code
  else if s.replayArmed u then s.replayRefused u
  else none

/-- R89: a member module registers the start after T(UNIT_START_TICK − 1). -/
def State.startsLate (s : State) (u : Nat) : Bool :=
  s.fromAnchor u && decide (tickAt (s.rd F.UNIT_START_TICK_START_TICK u - 1) < s.now)

/-- R89: leaves end START_LATE without a vector, their pins as they were; `src` and `m` are the first unit late and its module. -/
def State.endLate (s : State) (ls : List Nat) (src m : Nat) : State :=
  ls.foldl (fun (s : State) l =>
    (s.clearState l).endAborted l s.now { notBefore := s.now, cause := 0x10, srcUnit := src, srcModule := m, srcCause := 0x10 } none) s

/-- R89: a start that comes too late ends the run START_LATE. -/
def State.startLate (s : State) (u : Nat) : State :=
  let n := s.rd F.UNIT_START_TICK_START_TICK u
  let s1 := (s.calCancel 0x21).setUnit u { strand := s.rd F.UNIT_START_STRAND_STRAND u }
  let ls := s.leavesOf u
  ((ls.foldl (fun (s : State) l => s.armLeaf u n (s.unit u).strand false l) s1).dcStart ls).endLate ls (ls.headD 0) s.module

/-- R88: a write of UNIT_CTL.START to a pattern unit. -/
def unitStart (u : Nat) (s : State) : State × Ans :=
  if !s.unitExists u then (s, s.startAbsent u)
  else match s.startRefused u (s.startLanded u) rSTART_NOT_LANDED with
    | some r => (s, .rejected r 0)
    | none => if s.startsLate u then (s.startLate u, .ok) else (s.acceptStart u, .ok)

/-- R69: an edge of an earlier run: its vector has no index in the run that begins. -/
def Edge.old (e : Edge) : Edge := { e with vindex := 2 ^ 48 + e.vindex % 2 ^ 48 }

/-- R89, R137, R160: a leaf begins its run: the chains restart, and the counts of its results; edges still to be placed stay (R69, R136). -/
def State.beginRun (s : State) (accum : Bool) (l : Nat) : State :=
  let s1 := (s.clearRun l accum).wr F.UNIT_STATUS_STATE l 1
  let x := s1.leaf l
  ({ s1 with shown := Table.erase s1.shown l }.setLeaf l
    { x with phase := .play, enter := true, chain := [], edges := x.edges.map Edge.old, vrecs := [], lastRes := 0, runFails := 0,
             beadFails := 0, runVecFails := 0, flCount := 0, minFail := none }).forceAbort l

/-- R365: the RUN_START record of a unit. -/
def State.journalStart (s : State) (u : Nat) : State :=
  if s.noPart u then s else
  let img := match s.mnt.img with | some g => g.imageId | none => 0
  s.journal 0x04 ((s.leavesOf u).headD 0) ((s.leaf ((s.leavesOf u).headD 0)).replay)
    (pack [(0, 16, (s.unit u).strand), (16, 10, unitIndex u), (26, 1, bit (decide (256 ≤ u))),
           (32, 32, s.rd F.MC_DIGEST_DIGEST 0), (64, 64, img)])

/-- RUN_START (R89, R94, R303): at T(UNIT_START_TICK) the run state clears, STATE becomes RUNNING and the start strand is next. A
start whose abort was sampled before that tick does not begin; one on a PARTITIONED module ends ABORTED there. `late` is the first member
leaf of a member module that had not registered the start by the tick before, and that module: the group then ends START_LATE. -/
def runStart (u : Nat) (late : Option (Fin 16 × Fin 16)) (s : State) : State :=
  let us := s.unit u
  match us.pending with
  | none => s
  | some n =>
    let ls := (s.leavesOf u).filter (fun l => (s.leaf l).phase == .armed)
    let cancelled := ls.any (fun l => (s.leaf l).aborts.any (fun a => a.vec.isNone && decide (a.notBefore < tickAt n)))
    if s.tick < n ∨ cancelled then s
    else
      let accum := s.on F.UNIT_FSTOP_ACCUM u
      let s1 := s.setUnit u { us with pending := none, endRaised := false, per := [], differ := false, decided := 0, src := none }
      match (if u < 256 then none else late) with
      | some (l, m) => s1.endLate ls l.val m.val
      | none =>
      let s2 := ls.foldl (fun s l => s.beginRun accum l) s1
      let s3 := if s.rd F.ID_STAT_STATE 0 = 5 then ls.foldl (fun s l => s.ownAbort l 0x0F (tickAt n)) s2 else s2
      (s3.journalStart u).occursStart u (tickAt n)

/-! ### Abort, jump, clear -/

/-- R90, R94, R96: a write of UNIT_CTL.ABORT: sampled at the first tick boundary on or after it registers; ignored when the
unit is neither RUNNING nor start-pending. -/
def unitAbort (u : Nat) (s : State) : State × Ans :=
  if !s.unitExists u then (s, .absent)
  else if s.isMember u then (s, .rejected rUNIT_IS_MEMBER 0)
  else
    let k := s.nextBoundary
    let ls := (s.leavesOf u).filter (fun l => (s.leaf l).phase != .off)
    (ls.foldl (fun s l => s.askAbort l { notBefore := tickAt k, cause := 0x01, srcUnit := l, srcModule := s.module,
                                         srcCause := 0x01 }) s, .ok)

/-- R71, R96, R289, R372: a write of UNIT_CTL.JUMP: the host jump is held until its latch tick, which at a member module of a cluster
group is the anchor's. -/
def unitJump (u : Nat) (s : State) : State × Ans :=
  let jt := s.rd F.UNIT_JUMP_TICK_JUMP_TICK u
  if !s.unitExists u then (s, .absent)
  else if s.isMember u then (s, .rejected rUNIT_IS_MEMBER 0)
  else if ¬(s.unitState u = 1 ∨ s.startPending u) then (s, .rejected rSTATE 0)
  else if s.jn.replay.active ∧ s.jn.replay.unit = u then (s, .rejected rSTATE 0)
  else if jt ≠ 0 ∧ jt < s.tick + 4 ∧ s.fromAnchor u = false then (s, .rejected rJUMP_TOO_SOON 0)
  else (s.setUnit u { s.unit u with hostJump := some (s.rd F.UNIT_JUMP_TARGET u, if jt = 0 then s.tick + 4 else jt) }, .ok)

/-- R96: a write of UNIT_CTL.CLEAR. -/
def unitClear (u : Nat) (s : State) : State × Ans :=
  if !s.unitExists u then (s, .absent)
  else if s.isMember u then (s, .rejected rUNIT_IS_MEMBER 0)
  else if s.unitState u = 2 ∨ s.unitState u = 3 then
    ((s.leavesOf u).foldl (fun s l => s.wr F.UNIT_STATUS_STATE l 0) s, .ok)
  else (s, .rejected rSTATE 0)

/-- ABORT. -/
def execAbort (h : Hdr) (u : UnitRef) (s : State) : Host.Outcome State Fault Refusal :=
  .next (s.request h (unitAddr u) (.write64 2) (unitAbort (uix u)))

/-- JUMP. -/
def execJump (h : Hdr) (u : UnitRef) (s : State) : Host.Outcome State Fault Refusal :=
  .next (s.request h (unitAddr u) (.write64 4) (unitJump (uix u)))

/-- CLEAR. -/
def execClear (h : Hdr) (u : UnitRef) (s : State) : Host.Outcome State Fault Refusal :=
  .next (s.request h (unitAddr u) (.write64 8) (unitClear (uix u)))

/-- HOST_JUMP_LATCH (R71): at T(JUMP_TICK) the host jump latches in every leaf that plays, and its interrupt is raised. -/
def hostJumpLatch (u : Nat) (s : State) : State :=
  match (s.unit u).hostJump with
  | none => s
  | some (target, n) =>
    if s.tick < n then s
    else
      let s1 := s.setUnit u { s.unit u with hostJump := none }
      ((s1.leavesOf u).filter (fun l => (s1.leaf l).phase == .play)).foldl
        (fun s l => (s.latchJump l 0 target (tickAt n)).raiseInt l 3) s1

/-- HOST_JUMP_LATCH. -/
def execHostJumpLatch (u : UnitRef) (s : State) : Host.Outcome State Fault Refusal := .next (hostJumpLatch (uix u) s)

/-! ### The strand table (R62, R63) -/

/-- R403: the strand table's window. -/
def strBase : Nat := 0x400000

/-- R63: the strand is in the run set of a unit that is RUNNING or start-pending. -/
def State.strandBusy (s : State) (id : Nat) : Bool :=
  s.pl.cur.runset.any (fun e => e.strand == id && (s.unitBusy e.uix || (decide (256 ≤ e.uix) && s.startPending e.uix)))

/-- R63: the checks of a submitted descriptor: the reason of the first that fails. -/
def State.descRefused (s : State) (id d : Nat) : Option Nat :=
  let len := dLen d
  let safe := dSafe d
  if ¬(len = 0 ∨ (4 ≤ len ∧ len ≤ 0x1000000)) then some rSTR_LEN
  else if s.strandBeads < dStart d + len then some rSTR_RANGE
  else if 216 < bits safe 0 8 ∨ 216 < bits safe 8 8 ∨ 216 < bits safe 16 8 then some rSTR_SAFE
  else if bits d 57 7 ≠ 0 ∨ bits d 81 15 ≠ 0 ∨ bits d 101 3 ≠ 0 ∨ bits d 155 5 ≠ 0 ∨ bits d 169 87 ≠ 0 then some rSTR_RESERVED
  else if s.strandBusy id then some rSTR_BUSY
  else none

/-- The planner's bits of a descriptor. -/
def plannerMask (d : Nat) : Nat := pack [(153, 2, dRes d), (160, 4, dHome d), (164, 4, dReplica d), (168, 1, bit (dRepValid d))]

/-- R63: byte `k` of the descriptor that a write submits: written, staged, or as in force. -/
def submitByte (force : Nat) (staged written : List (Nat × Byte)) (k : Nat) : Nat :=
  match (written ++ staged).find? (fun e => e.1 == k) with
  | some e => e.2.toNat
  | none => bits force (8 * k) 8

/-- R63: the descriptor a write submits; the bits the planner writes are as in force. -/
def submitDesc (force : Nat) (staged written : List (Nat × Byte)) : Nat :=
  let d := (List.range 32).foldl (fun v k => v + submitByte force staged written k * 2 ^ (8 * k)) 0
  d - plannerMask d + plannerMask force

/-- R63: the staged bytes of a descriptor with those written in front. -/
def stageBytes (staged written : List (Nat × Byte)) : List (Nat × Byte) :=
  written ++ staged.filter (fun e => !(written.any (fun w => w.1 == e.1)))

/-- R63, R311: a submitted descriptor applied: it is UNPLANNED until the next plan, the planner's other bits as they were; one of the plan in force asks for a new
plan. -/
def State.applyDesc (s : State) (id d : Nat) : State :=
  let s1 := s.setDesc id (dPlanned d 0 (dHome d) (dReplica d) (dRepValid d))
  let s2 := { s1 with strands := { s1.strands with staged := Table.erase s1.strands.staged id } }
  let s3 := match s2.pl.next with
    | some n => { s2 with pl := { s2.pl with next := some { n with stale := n.stale || n.runset.any (fun e => e.strand == id) } } }
    | none => s2
  if s3.pl.cur.runset.any (fun e => e.strand == id) then s3.flag F.PL_STATUS_REPLAN 0 else s3

/-- The bytes of a window write that fall to descriptor `id`, by their offset in it. -/
def bytesFor (off id : Nat) (data : List Byte) : List (Nat × Byte) :=
  ((List.range data.length).zip data).filterMap (fun e =>
    if (off + e.1) / 32 = id then some ((off + e.1) % 32, e.2) else none)

/-- The descriptors that a window write touches. -/
def idsOf (off n : Nat) : List Nat := (List.range (n / 32 + 2)).map (· + off / 32) |>.filter (fun i => decide (i * 32 < off + n))

/-- R63, R402: a write to the strand table: bytes 0 to 30 staged, byte 31 submitting; a burst as a whole. The answer names the
address to record: that of the request, or of the first failing byte 31 where a burst submits several descriptors. -/
def strWrite (addr : Nat) (data : List Byte) (s : State) : (State × Ans) × Nat :=
  let off := addr - strBase
  let ids := idsOf off data.length
  let w (id : Nat) : List (Nat × Byte) := bytesFor off id data
  let st (id : Nat) : List (Nat × Byte) := (Table.get? s.strands.staged id).getD []
  let submits := ids.filter (fun id => (w id).any (fun e => e.1 == 31))
  let newDesc (id : Nat) : Nat := submitDesc (s.desc id) (st id) (w id)
  match submits.find? (fun id => (s.descRefused id (newDesc id)).isSome) with
  | some bad =>
    let staged := submits.foldl (fun t id => Table.erase t id) s.strands.staged
    (({ s with strands := { s.strands with staged := staged } }, .rejected ((s.descRefused bad (newDesc bad)).getD 0) 0),
     if submits.length < 2 then addr else strBase + bad * 32 + 31)
  | none =>
    let s1 := (ids.filter (fun id => !submits.contains id)).foldl
      (fun s id => { s with strands := { s.strands with staged := Table.set s.strands.staged id (stageBytes (st id) (w id)) } }) s
    ((submits.foldl (fun s id => s.applyDesc id (newDesc id)) s1, .ok), addr)

/-- R402: a burst crosses a 256-byte boundary. -/
def crosses (addr n : Nat) : Bool := decide (addr % 256 + n > 256)

/-- STRAND_DESCRIPTOR_WRITE (R63): a write of 1 to 256 bytes of the strand table; outside it, it is no such write and is
answered as a write to an unmapped address. -/
def execStrandDescriptorWrite (h : Hdr) (addr : BitVec 40) (data : List Byte) (s : State) : Host.Outcome State Fault Refusal :=
  let a := addr.toNat
  let bad := !(decide (strBase ≤ a) && decide (a + data.length ≤ 0x600000)) || data.isEmpty
  let at_ := if bad || crosses a data.length then a else (strWrite a data s).2
  .next (s.request h at_ (.writeb data) (fun s =>
    if bad then (s, .rejected rUNMAPPED 0)
    else if crosses a data.length then (s, .rejected rBURST 0)
    else (strWrite a data s).1))

end Sys2Proof.Machine
end

