-- ==== Sys2Proof/Machine/Micro.lean ====
section
/-! DEFINITION. The micro-engine: dispatch, microwords, commit points, interrupts and deadlines (04_microcode.md R99 to R119). -/

namespace Sys2Proof.Machine

/-! ### The dispatching vector -/

/-- R107: the UNIT_VCOUNT position of a dispatching vector: as issued, or as it will be when what stands before it in the queue
has played (a HOLD in progress taken to end with the period playing). -/
def State.vindexOf (s : State) (l qid : Nat) : Nat :=
  let x := s.leaf l
  match x.vrecs.find? (fun v => v.qid == qid), x.cur with
  | some v, _ => v.vindex
  | none, some q =>
    if q.qid = qid then q.vindex.getD 0
    else
      let before := x.queue.takeWhile (fun e => e.qid != qid)
      s.rd F.UNIT_VCOUNT_VCOUNT l + x.rptLeft + (before.map (fun e => max 1 (e.act.rpt.getD 1))).foldl (· + ·) 0
  | none, none =>
    let before := x.queue.takeWhile (fun e => e.qid != qid)
    s.rd F.UNIT_VCOUNT_VCOUNT l + x.rptLeft + (before.map (fun e => max 1 (e.act.rpt.getD 1))).foldl (· + ·) 0

/-- R110: the record of a dispatching vector's results, and whether every one is formed at `t`. -/
def State.lfState (s : State) (l : Nat) (d : Disp) (t : Nat) : Option VRec × Bool :=
  match (s.leaf l).vrecs.find? (fun v => v.qid == d.qid) with
  | none => (none, d.noCmp)
  | some v => (some v, d.noCmp || (v.done && decide (v.recAt ≤ t)))

/-- R110: the live value of a condition for a routine, in the microcycle that begins at `t`. -/
def State.liveCond (s : State) (l : Nat) (d : Disp) (c : Ctx) (t cond : Nat) : Bool :=
  let x := s.leaf l
  let (v, ready) := s.lfState l d t
  let fails := match v with | some v => v.fails | none => 0
  let passes := match v with | some v => v.passes | none => 0
  if cond = 0x00 then true
  else if cond = 0x02 then ready && fails != 0
  else if cond = 0x03 then ready && fails == 0 && passes != 0
  else if cond = 0x04 then x.beadFails != 0
  else if cond = 0x05 then x.runFails != 0
  else if cond = 0x06 then ready
  else if cond = 0x07 then (match c.loops with | (_, n) :: _ => n == 0 | [] => false)
  else if cond = 0x08 then x.loops.isEmpty && c.loops.isEmpty
  else if cond = 0x09 then c.z
  else if cond = 0x0A then !c.z
  else if cond = 0x0B then c.n
  else if cond = 0x0C then !c.n
  else if cond = 0x0D then c.c
  else if cond = 0x0E then !c.c
  else if 0x10 ≤ cond ∧ cond ≤ 0x17 then (s.eng l).w.cb.testBit (cond - 0x10)
  else if 0x30 ≤ cond ∧ cond ≤ 0x33 then s.mc.hostFlags.testBit (4 * l + (cond - 0x30))
  else if 0x34 ≤ cond ∧ cond ≤ 0x37 then s.trig.sample.testBit (cond - 0x34)
  else if cond = 0x38 then s.trig.thrLast.testBit l
  else if cond = 0x39 then s.trig.winLast.testBit l
  else if cond = 0x3A then x.replay
  else if cond = 0x3B then (s.eng l).decLast
  else if cond = 0x3C then x.replay && s.jn.replay.diverged
  else false

/-- R373: which bit of CHECK selects a condition. -/
def checkBit (cond : Nat) : Nat :=
  if 0x30 ≤ cond ∧ cond ≤ 0x37 then 1 else if cond = 0x38 ∨ cond = 0x39 then 2 else 0

/-- R366: the value that the file of a replay gives a condition at a key: that of the latest record at or before it, else 0. -/
def State.fileCond (s : State) (l cond vindex eval : Nat) : Bool :=
  let src := (s.jn.replay.map.find? (fun e => e.2 == l)).map (·.1)
  let mine := s.jn.replay.recs.filter (fun r => r.typ == 0x01 && some r.leaf == src && bits r.body 48 6 == cond
    && (decide (bits r.body 0 48 < vindex) || (bits r.body 0 48 == vindex && decide (bits r.body 56 24 ≤ eval))))
  match mine.getLast? with
  | some r => r.body.testBit 54
  | none => false

/-- R110, R365, R366, R372: a condition evaluated by a routine: from the file in replay, with the live value checked; a
journalled condition whose value has changed is recorded. -/
def State.evalCond (s : State) (l : Nat) (d : Disp) (c : Ctx) (t cond : Nat) : State × Bool :=
  let live := s.liveCond l d c t cond
  if !isJournalled cond then (s, live)
  else
    let x := s.leaf l
    let key := d.qid * 64 + cond
    let eval := (Table.get? x.condEval key).getD 0
    let vindex := s.vindexOf l d.qid
    let rep := x.replay && s.jn.replay.active
    let v := if rep then s.fileCond l cond vindex eval else live
    let s1 := if rep && v != live && (s.rd F.JN_RPL_CFG_CHECK 0).testBit (checkBit cond) then s.diverge l cond false vindex else s
    let x1 := { s1.leaf l with condEval := Table.set x.condEval key (eval + 1), condLast := Table.set x.condLast cond v }
    let s2 := s1.setLeaf l x1
    if v = (Table.get? x.condLast cond).getD false then (s2, v)
    else
      (s2.journal 0x01 l x.replay (pack [(0, 48, vindex), (48, 6, cond), (54, 1, bit v), (56, 24, eval), (80, 16, d.strand)]), v)

/-! ### Vector actions (R102, R108, R109) -/

/-- R108: one action put into a vector's categories. -/
def VAct.add (a : VAct) (t : Nat) : VEff → VAct
  | .hold => { a with hold := true, release := none, resolved := true }
  | .release => if a.hold && a.release.isNone then { a with release := some t } else a
  | .repeatLast => { a with repeatLast := true, resolved := true }
  | .mask m => { a with mask := a.mask ||| m, resolved := true }
  | .altset k => { a with altset := some k, resolved := true }
  | .rpt n => { a with rpt := some n, resolved := true }
  | .loopb s n => { a with loopb := some (s, n) }

/-- R109: an action that comes after its deadline. -/
def State.lateAct (s : State) (l : Nat) (d : Disp) (t : Nat) : State :=
  let s1 := s.bump F.MC_VACT_LATE_COUNT 0 1 F.MC_STATUS_SAT 0 1 0x80
  if eVreq d.entry then
    ((s1.journalFault l 0x07 d.strand d.bead d.off 0 (pack [(0, 12, eAddr d.entry), (12, 12, 0)]))).vecAbort l 0x07 t d.qid
  else s1

/-- R108, R109, R79: a committed action: into the vector in the queue before its deadline; a RELEASE to the vector that holds;
a LOOPB at once when its vector has issued; anything else is late. -/
def State.commitAct (s : State) (l : Nat) (d : Disp) (t : Nat) (a : VEff) : State :=
  let x := s.leaf l
  match x.queue.find? (fun q => q.qid == d.qid) with
  | some q =>
    match a with
    | .loopb _ _ => s.setLeaf l { x with queue := x.queue.map (fun e => if e.qid = d.qid then { e with act := e.act.add t a } else e) }
    | .release => s.setLeaf l { x with queue := x.queue.map (fun e => if e.qid = d.qid then { e with act := e.act.add t a } else e) }
    | _ =>
      if q.act.fixed then s.lateAct l d t
      else s.setLeaf l { x with queue := x.queue.map (fun e => if e.qid = d.qid then { e with act := e.act.add t a } else e) }
  | none =>
    match a with
    | .release =>
      match x.cur with
      | some q => if q.qid = d.qid then s.setLeaf l { x with cur := some { q with act := q.act.add t .release } } else s
      | none => s
    | .loopb a n => if s.loopbBad l d.strand a d.bead 0 then s.stackFault l t d.qid else s.pushLoopb l d.strand a d.bead n
    | _ => s.lateAct l d t

/-- R108, R109: DONE resolves the vector's action, and releases its HOLD. -/
def State.doneAct (s : State) (l : Nat) (d : Disp) (t : Nat) : State :=
  let x := s.leaf l
  let rel (e : QEnt) : QEnt := if e.qid = d.qid then { e with act := { e.act.add t .release with resolved := true } } else e
  s.setLeaf l { x with queue := x.queue.map rel, cur := x.cur.map rel }

/-- R141: the bank that a queued vector with start `t` will use, when the vectors before it used `bank`. -/
def State.bankAt (s : State) (l bank t : Nat) (q : QEnt) : Nat :=
  if q.off = 0 ∧ s.on F.TS_STATUS_SWAP_PENDING l ∧ bank = (s.leaf l).bank
      ∧ tickAt (s.rd F.TS_SWAP_TICK_TICK l) ≤ edgeOf t then 1 - bank else bank

/-- Of the period starts `t`, `t + p`, `t + 2p`, … the first on or after `r`. -/
def firstFrom (t p r : Nat) : Nat := if r ≤ t then t else t + p * ceilDiv (r - t) p

/-- R108: when the periods of a vector that holds end, the next of them starting at `t`: with the first that begins 16 base cycles after the
release; none while that has not come. -/
def holdEnd (t p : Nat) (release : Option Nat) : Option Nat := release.map (fun c => firstFrom t p (c + 16 * cyc) + p)

/-- The start after queued vectors that begin at `t` on `bank`; none where one of them holds and has not been released. -/
def State.startAfter (s : State) (l : Nat) : Nat → Nat → List QEnt → Option Nat
  | t, _, [] => some t
  | t, bank, q :: r =>
    let b := s.bankAt l bank t q
    let p := s.period b l (match q.act.altset with | some a => a | none => vecTsel q.word)
    let byRpt := t + p * max 1 (q.act.rpt.getD 1)
    match (if q.act.hold then holdEnd t p q.act.release else some byRpt) with
    | none => none
    | some e => State.startAfter s l (max e byRpt) b r

/-- R83, R84, R108, R372: the start of the vector at the head of the queue: after the repeats that are left, a HOLD in progress and a
STARVE HOLD in progress; none while the end of one of these is open. -/
def State.headStart (s : State) (l : Nat) : Option Nat :=
  let x := s.leaf l
  let p := s.period x.lastBank l x.lastSet
  let byRpt := x.nextStart + x.rptLeft * p
  match x.hold with
  | some h =>
    let ph := s.period x.bank l (if x.last.isEmpty then 0 else x.lastSet)
    match h.forced, h.ready with
    | some n, _ => some (x.nextStart + (n - h.len) * ph)
    | none, some r => some (firstFrom x.nextStart ph (r + 16 * cyc))
    | none, none => none
  | none =>
    if x.vhold ∧ x.settles = false then (holdEnd x.nextStart p (x.cur.bind (·.act.release))).map (max byRpt) else some byRpt

/-- The start that the queue's entry number `k` will have, if nothing before it holds and has not been released. -/
def State.startOf (s : State) (l k : Nat) : Option Nat :=
  (s.headStart l).bind (fun t => s.startAfter l t (s.leaf l).bank ((s.leaf l).queue.take k))

/-- A queued vector with its action fixed. -/
def QEnt.fix (q : QEnt) : QEnt := { q with act := { q.act with fixed := true } }

/-- VECTOR_ACTION_DEADLINE (R102, R109): 8 base cycles before the launch edge of the next vector whose action is open, it is
fixed; a required action that is not resolved ends the run MICRO_LATE at the vector. -/
def vectorActionDeadline (l : Nat) (s : State) : State :=
  let x := s.leaf l
  match findIx? (fun q => !q.act.fixed) x.queue with
  | none => s
  | some k =>
    match s.startOf l k, x.queue[k]? with
    | some t, some q =>
      let dl := edgeOf t - 8 * cyc
      if (x.phase = .play ∨ x.phase = .armed) ∧ s.due dl then
        let s0 := s.goto dl
        let s1 := s0.setLeaf l { x with queue := x.queue.map (fun e => if e.qid = q.qid then e.fix else e) }
        let e := s.mc.dispatch.getD (hPage q.hdr * 16 + vecOp q.word) 0
        if vecOp q.word ≠ 0 ∧ eVreq e ∧ q.act.resolved = false ∧ q.fault = none then
          (s1.journalFault l 0x07 q.strand q.bead q.off 0 (pack [(0, 12, eAddr e)])).vecAbort l 0x07 t q.qid
        else s1
      else s
    | _, _ => s

/-- VECTOR_ACTION_DEADLINE. -/
def execVectorActionDeadline (l : Fin 16) (s : State) : Host.Outcome State Fault Refusal :=
  .next (vectorActionDeadline l.val s)

/-! ### One microword -/

/-- R107: the loop-stack operation of a microword on the working copy; `none` is a loop-stack fault. `shared` is how many entries vectors
have on the stack; a micro loop is at the top where no vector has pushed one since. -/
def loopOp (c : Ctx) (shared op operand : Nat) : Option Ctx :=
  let top := match c.loops with | (b, _) :: _ => decide (shared ≤ b) | [] => false
  if op = 3 then
    if 4 ≤ shared + c.loops.length then none else some { c with loops := (shared, operand % 2 ^ 24) :: c.loops }
  else if op = 4 then
    match c.loops, top with
    | (b, n) :: r, true => some { c with loops := (b, (n + 2 ^ 24 - 1) % 2 ^ 24) :: r }
    | _, _ => none
  else if op = 5 then
    match c.loops, top with
    | _ :: r, true => some { c with loops := r }
    | _, _ => none
  else some c

/-- R107, R108: what a microword asks of its vector. -/
def vEffs (c : Ctx) (w operand : Nat) : List VEff :=
  let v := uVact w
  (if uLoopop w = 1 then [VEff.rpt (operand % 2 ^ 24)] else [])
  ++ (if uLoopop w = 2 then [VEff.loopb (c.ureg (uUdst w) % 2 ^ 24) (operand % 2 ^ 24)] else [])
  ++ (if v = 1 then [VEff.hold] else if v = 2 then [VEff.release] else if v = 3 then [VEff.repeatLast]
      else if v = 4 then [VEff.mask 511] else if v = 5 then [VEff.mask (operand % 512)]
      else if v = 6 then [VEff.altset (operand % 16)] else [])

/-- R105: the strand a jump's target source names; the current strand of TSRC 1 and 2 is that of the dispatching vector (DESIGN CHOICE,
log entry 155). -/
def State.uTarget (s : State) (d : Disp) (w operand : Nat) : Nat :=
  if uTsrc w = 1 then dNext (s.desc d.strand) else if uTsrc w = 2 then d.strand else operand % 65536

/-- R105, R118: the strand action and event of a microword. An ARM whose condition is not group-wide arms nothing. -/
def State.sEffs (s : State) (d : Disp) (w operand : Nat) : List Eff :=
  (if uSact w = 1 then [Eff.jump (s.uTarget d w operand)]
   else if uSact w = 2 then (if isGroupCond (uCond w) then [Eff.arm (uCond w) (s.uTarget d w operand) d.qid] else [])
   else if uSact w = 3 then [Eff.seamEnd] else [])
  ++ (if uEvent w = 0 then [] else [Eff.event (uEvent w) d.qid])

/-- R112, R114: a commit: the working copy becomes the committed values and, with the effects since the last commit, visible at
`t`, or staged until the vector's bead begins. Vector actions go to the vector at once. -/
def State.commit (s : State) (l : Nat) (r : Routine) (c : Ctx) (pv : List VEff) (pe : List Eff) (t : Nat) : State :=
  let s1 := s.setEng l { s.eng l with w := c, c := c }
  let s2 := pv.foldl (fun s a => s.commitAct l r.d t a) s1
  if (s2.leaf l).beadSeq < r.d.beadSeq then
    s2.setEng l { s2.eng l with staged := (s2.eng l).staged ++ [{ beadSeq := r.d.beadSeq, ctx := c, effs := pe }] }
  else ({ s2 with vis := s2.vis ++ [(t, l, c)] } : State).applyEffs l t pe

/-- R106, R105: the address after a micro-address, of 12 bits: 0 after 4 095 (DEDUCED, log entry 31). -/
def pcAfter (pc : Nat) : Nat := (pc + 1) % 4096

/-- R106: where a microword goes. -/
def nextPc (w pc : Nat) (cond : Bool) (c : Ctx) : Nat :=
  let q := uSeq w
  if q = 1 ∨ q = 4 then uAddr w
  else if q = 2 then (if cond then uAddr w else pcAfter pc)
  else if q = 3 then (if cond then pcAfter pc else uAddr w)
  else if q = 5 then c.calls.headD 0
  else if q = 7 then (if cond then pcAfter pc else pc)
  else pcAfter pc

/-- R106: the call stack after a microword. -/
def callStack (w pc : Nat) (c : Ctx) : Ctx :=
  if uSeq w = 4 then { c with calls := (pcAfter pc :: c.calls).take 4 }
  else if uSeq w = 5 then { c with calls := c.calls.drop 1 }
  else c

/-- R112: a commit point. -/
def isCommit (w : Nat) : Bool := uCommit w || uSeq w == 6

/-- The microword at a micro-address. -/
def State.uword (s : State) (pc : Nat) : Nat := s.mc.words.getD pc 0

/-- R105: the TICKWAIT of a microword, if it has one, has been met. -/
def State.tickMet (s : State) (r : Routine) (w : Nat) : Bool :=
  !uTickwait w || (match r.tickTo with | some n => decide (n ≤ s.tick) | none => false)

/-- R115, R116: the interrupt that is taken next, and whether it comes at once: one that discards the routine, one of those that run one
after another, or one raised while a handler ran. -/
def Engine.nextInt (g : Engine) : Option (Nat × Bool) :=
  match g.ints, g.later with
  | p :: _, q => if g.batch || intDiscards p then some (p, true) else match q with | r :: _ => some (r, true) | [] => some (p, false)
  | [], r :: _ => some (r, true)
  | [], [] => none

/-- R116: an interrupt has to be taken before this microword. -/
def Engine.intFirst (g : Engine) (r : Routine) (w : Nat) : Bool :=
  match g.nextInt with
  | none => false
  | some (_, atOnce) => atOnce || r.waiting || isCommit w

/-- How many arms are among effects. -/
def armsIn (l : List Eff) : Nat := (l.filter (fun e => match e with | .arm _ _ _ => true | _ => false)).length

/-- R117: the commit would arm with all 4 slots full: arms staged for a bead that has not begun have taken theirs. -/
def armStall (g : Engine) (pe : List Eff) : Bool :=
  decide (4 < g.arms.length + (g.staged.map (fun (e : Staged) => armsIn e.effs)).foldl (· + ·) 0 + armsIn pe)

/-- R105 to R113: one microword whose SEQ is `seq`, executed in the microcycle that begins at the engine's time; its effects
register one base cycle later; a loop-stack fault leaves the loop stack as it was, and the microword's other fields act (R106).
Nothing happens when the engine is not at such a microword, when an interrupt comes first, or
when its TICKWAIT is not met. -/
def microStep (seq l : Nat) (s : State) : State :=
  let g := s.eng l
  match g.run with
  | none => s
  | some r =>
    let w := s.uword r.pc
    let t0 := match r.tickTo with | some n => max g.t (tickAt n) | none => g.t
    if uSeq w = seq ∧ s.tickMet r w ∧ g.intFirst r w = false ∧ s.due t0 then
      let s0 := s.goto t0
      let te := t0 + cyc
      let shared := (s0.leaf l).loops.length
      let operand := uOperand g.c r.d.hdr (s0.vindexOf l r.d.qid) w
      let (s1, cond) := if seq = 2 ∨ seq = 3 ∨ seq = 7 then s0.evalCond l r.d g.c t0 (uCond w) else (s0, false)
      let pv := r.pendV ++ vEffs g.c w operand
      let pe := r.pendE ++ s0.sEffs r.d w operand
      if isCommit w && armStall (s1.eng l) pe then
        s1.setEng l { s1.eng l with t := te, run := some { r with waiting := true } }
      else
        let (c1, bad) := match loopOp (aluExec g.c (uAlu w) (uUdst w) operand) shared (uLoopop w) operand with
          | some c => (c, false)
          | none => (aluExec g.c (uAlu w) (uUdst w) operand, true)
        let fault (s : State) : State := if bad then s.stackFault l te r.d.qid else s
        let pc' := nextPc w r.pc cond c1
        let c2 := callStack w r.pc c1
        if seq = 6 then
          let c3 := { c2 with loops := [], calls := [] }
          let s2 := (s1.commit l r c3 pv pe te).doneAct l r.d te
          let x := s2.leaf l
          let s3 := s2.setEng l { s2.eng l with t := te, run := none }
          let s4 := s3.setLeaf l { s3.leaf l with condEval := (s3.leaf l).condEval.filter (fun e => e.1 / 64 != r.d.qid) }
          fault (if eFlow r.d.entry ∧ r.d.beadSeq = x.beadSeq ∧ x.bdue ∧ x.hold.isNone ∧ edgeOf x.nextStart < te then
            s4.flowLate l r.d r.pc x.nextStart
          else s4)
        else
          let stay := seq = 7 ∧ cond = false
          if isCommit w then
            let s2 := s1.commit l r c2 pv pe te
            match (s2.eng l).run with
            | none => fault s2
            | some _ =>
              let r1 : Routine := { d := r.d, pc := pc', saved := pc', waiting := decide stay }
              fault (s2.setEng l { s2.eng l with t := te, run := some r1 })
          else
            let r1 : Routine := { d := r.d, pc := pc', saved := r.saved, waiting := false, pendV := pv, pendE := pe }
            fault (s1.setEng l { s1.eng l with t := te, c := c2, run := some r1 })
    else s

/-- SEQ_NEXT. -/
def execSeqNext (l : Fin 16) (s : State) : Host.Outcome State Fault Refusal := .next (microStep 0 l.val s)
/-- SEQ_JUMP. -/
def execSeqJump (l : Fin 16) (s : State) : Host.Outcome State Fault Refusal := .next (microStep 1 l.val s)
/-- BRANCH_T. -/
def execBranchT (l : Fin 16) (s : State) : Host.Outcome State Fault Refusal := .next (microStep 2 l.val s)
/-- BRANCH_F. -/
def execBranchF (l : Fin 16) (s : State) : Host.Outcome State Fault Refusal := .next (microStep 3 l.val s)
/-- CALL. -/
def execCall (l : Fin 16) (s : State) : Host.Outcome State Fault Refusal := .next (microStep 4 l.val s)
/-- RETURN. -/
def execRet (l : Fin 16) (s : State) : Host.Outcome State Fault Refusal := .next (microStep 5 l.val s)
/-- DONE. -/
def execDone (l : Fin 16) (s : State) : Host.Outcome State Fault Refusal := .next (microStep 6 l.val s)
/-- WAIT. -/
def execWait (l : Fin 16) (s : State) : Host.Outcome State Fault Refusal := .next (microStep 7 l.val s)

/-- ROUTINE_START (R100): with the engine free and no interrupt pending, the next routine of the dispatch FIFO begins. -/
def routineStart (l : Nat) (s : State) : State :=
  let g := s.eng l
  match g.run, g.fifo with
  | none, d :: rest =>
    if g.nextInt = none then
      s.setEng l { g with fifo := rest, t := max g.t (edgeUp d.at_), c := { g.w with calls := [], loops := [] },
                          run := some { d := d, pc := eAddr d.entry, saved := eAddr d.entry } }
    else s
  | _, _ => s

/-- ROUTINE_START. -/
def execRoutineStart (l : Fin 16) (s : State) : Host.Outcome State Fault Refusal := .next (routineStart l.val s)

/-- TICKWAIT (R105, R112, R116): the microword begins to wait for the next tick boundary; what came before it is committed with its first
microcycle, and an interrupt taken meanwhile resumes at it. The boundary it waits for stays the same when an interrupt comes meanwhile
(DESIGN CHOICE, log entry 156); with a WAIT condition it waits for a boundary again before each evaluation (DESIGN CHOICE, log
entry 157). -/
def tickwait (l : Nat) (s : State) : State :=
  let g := s.eng l
  match g.run with
  | none => s
  | some r =>
    let w := s.uword r.pc
    if uTickwait w ∧ r.tickTo = none ∧ g.intFirst r w = false ∧ s.due g.t then
      let s0 := s.goto g.t
      let s1 := s0.commit l r g.c r.pendV r.pendE (g.t + cyc)
      match (s1.eng l).run with
      | none => s1
      | some _ =>
        let r1 : Routine := { d := r.d, pc := r.pc, saved := r.pc, waiting := true, tickTo := some (tickOf g.t + 1) }
        s1.setEng l { s1.eng l with t := g.t + cyc, run := some r1 }
    else s

/-- TICKWAIT. -/
def execTickwait (l : Fin 16) (s : State) : Host.Outcome State Fault Refusal := .next (tickwait l.val s)

/-- R115: the microcycles of an interrupt's handler. -/
def handlerCycles (p : Nat) : Nat := if p = 1 then 4 else if p = 2 ∨ p = 6 then 6 else if p = 3 then 6 else if p = 4 then 4 else 2

/-- R116: the interrupts that remain when `nextInt` is taken: of those that run one after another the next, or those raised meanwhile. -/
def Engine.takeInt (g : Engine) : Engine :=
  match g.ints, g.later with
  | p :: r, q =>
    if g.batch || intDiscards p || q.isEmpty then { g with ints := r, batch := !r.isEmpty }
    else { g with ints := q.drop 1, later := p :: r, batch := !(q.drop 1).isEmpty }
  | [], _ :: r => { g with ints := r, later := [], batch := !r.isEmpty }
  | [], [] => g

/-- INTERRUPT_TAKEN (R115, R116): the interrupt of highest priority is taken. An abort, or a starvation under STARVE ABORT, comes at once
and ends the routine and the handlers that remain; another when the engine is idle or waits, or at the commit point it has reached, where
the working copy returns to the committed values and the routine resumes after its last commit. The handlers pending run one after
another; what is raised meanwhile follows them. -/
def interruptTaken (l : Nat) (s : State) : State :=
  let g := s.eng l
  match g.nextInt with
  | none => s
  | some (p, atOnce) =>
    let now := edgeUp s.now
    let t := (if intDiscards p then now else max g.t now) + handlerCycles p * cyc
    if intDiscards p then s.setEng l { g with ints := [], later := [], batch := false, run := none, c := g.w, t := t, handled := t }
    else
      match g.run with
      | none => s.setEng l { g.takeInt with t := t, handled := t }
      | some r =>
        if atOnce ∨ r.waiting ∨ isCommit (s.uword r.pc) then
          let r1 : Routine := { r with pc := r.saved, pendV := [], pendE := [] }
          s.setEng l { g.takeInt with t := t, handled := t, c := g.w, run := some r1 }
        else s

/-- INTERRUPT_TAKEN. -/
def execInterruptTaken (l : Fin 16) (s : State) : Host.Outcome State Fault Refusal := .next (interruptTaken l.val s)

end Sys2Proof.Machine
end

