-- ==== Sys2Proof/Machine/MicroLoad.lean ====
section
/-! DEFINITION. The control store: loading an image and its checks (R121, R122), keys and security version (R124), the stack-fault
flag (R125). -/

namespace Sys2Proof.Machine

/-! ### Refusals in two stages (R427) -/

/-- R427: a second-stage refusal as GLB_ERR records it, at the instant of refusal. -/
def State.lateReject (s : State) (addr src reason detail : Nat) : State := s.recordReject addr src reason detail

/-! ### The image (R121) -/

/-- R121: the fields of an image. -/
def imgWordCount (b : List Byte) : Nat := field b 0x010 2
def imgSvn (b : List Byte) : Nat := field b 0x008 4
def imgPubkey (b : List Byte) : List Byte := slice b 0x020 64
def imgEntry (b : List Byte) (i : Nat) : Nat := field b (0x060 + 2 * i) 2
def imgWord (b : List Byte) (a : Nat) : Nat := if a < imgWordCount b then field b (0x260 + 16 * a) 16 else 0

/-- R121: the digest the signet covers. -/
def imgDigest (b : List Byte) : Nat := Config.sha256 (b.take (b.length - 64))

/-! ### Paths through the store (R106, R113) -/

/-- Where a path stands: the micro-address, the calls it is inside (return address, entry), innermost first, and the entry of the
routine. -/
structure UPos where
  pc : Nat
  stack : List (Nat × Nat)
  root : Nat
  deriving DecidableEq, Repr

/-- The positions after the microword `w`. A path ends at DONE, at a RETURN with nothing to return to, and at a CALL that closes a
cycle or makes a fifth level. -/
def UPos.next (p : UPos) (w : Nat) : List UPos :=
  let q := uSeq w
  let inc := (p.pc + 1) % 4096
  if q = 0 then [{ p with pc := inc }]
  else if q = 1 then [{ p with pc := uAddr w }]
  else if q = 2 ∨ q = 3 then [{ p with pc := uAddr w }, { p with pc := inc }]
  else if q = 4 then
    (if 4 ≤ p.stack.length ∨ (p.stack.map (·.2)).contains (uAddr w) ∨ p.root = uAddr w then []
     else [{ p with pc := uAddr w, stack := (inc, uAddr w) :: p.stack }])
  else if q = 5 then (match p.stack with | [] => [] | (a, _) :: r => [{ p with pc := a, stack := r }])
  else if q = 7 then [{ p with pc := inc }]
  else []

/-- R106: a microword that breaks the call graph: a CALL that closes a cycle or makes a fifth level, a RETURN with an empty
stack. -/
def UPos.badCall (p : UPos) (w : Nat) : Bool :=
  (uSeq w == 4 && (decide (4 ≤ p.stack.length) || (p.stack.map (·.2)).contains (uAddr w) || p.root == uAddr w))
  || (uSeq w == 5 && p.stack.isEmpty)

/-- One more round of a search: what is reached, and what was reached last. -/
def reachRound (words : Nat → Nat) (seen front : List UPos) : List UPos × List UPos :=
  let new := ((front.flatMap (fun p => p.next (words p.pc))).eraseDups).filter (fun p => !seen.contains p)
  (seen ++ new, new)

/-- Every position that a path from the given ones reaches. -/
def reachAll (words : Nat → Nat) : Nat → List UPos → List UPos → List UPos
  | 0, seen, _ => seen
  | fuel + 1, seen, front =>
    match reachRound words seen front with
    | (seen', []) => seen'
    | (seen', new) => reachAll words fuel seen' new

/-- The positions that some path from the given ones reaches after `n` microwords without a commit point. -/
def uncommitted (words : Nat → Nat) : Nat → List UPos → List UPos
  | 0, l => l
  | n + 1, l => uncommitted words n ((l.filter (fun p => !isCommit (words p.pc))).flatMap (fun p => p.next (words p.pc))).eraseDups

/-! ### The checks (R122) -/

/-- R103: the dispatch addresses of an image. -/
def imgRoots (b : List Byte) : List UPos :=
  ((((List.range 256).map (imgEntry b)).filter (· != 0)).map eAddr).eraseDups.map (fun a => { pc := a, stack := [], root := a })

/-- Every position an image's routines reach. -/
def imgReach (b : List Byte) : List UPos := reachAll (imgWord b) 65536 (imgRoots b) (imgRoots b)

/-- The least of a list. -/
def least? (l : List Nat) : Option Nat :=
  l.foldl (fun a n => match a with | none => some n | some m => some (min m n)) none

/-- R104, R103: an entry that is not allowed. -/
def entryBad (b : List Byte) (i : Nat) : Bool :=
  let e := imgEntry b i
  if i % 16 = 0 then e != 0 else e != 0 && (e.testBit 15 || decide (imgWordCount b ≤ eAddr e))

/-- R105, R107 to R110: a microword that holds a reserved code or bit, a group-wide condition out of place, or an address outside
the image. -/
def wordBad (n w : Nat) : Bool :=
  let q := uSeq w
  condReserved (uCond w) || decide (6 ≤ uLoopop w) || decide (8 ≤ uUsrc w) || (uUsrc w == 6 && decide (16 ≤ uImm w))
  || decide (13 ≤ uAlu w) || decide (7 ≤ uVact w) || decide (0xF0 ≤ uEvent w) || uTsrc w == 3 || bits w 70 58 != 0
  || (isGroupCond (uCond w) && (uSact w != 2 || q == 2 || q == 3 || q == 7))
  || ((q == 1 || q == 2 || q == 3 || q == 4) && decide (n ≤ uAddr w))

/-- R113: the micro-address of the first microword from which 64 microwords pass without a commit point, or of a WAIT or TICKWAIT
that does not carry COMMIT. -/
def imgDistance (b : List Byte) : Option Nat :=
  let words := imgWord b
  let reach := imgReach b
  let starts := imgRoots b ++ (reach.filter (fun p => isCommit (words p.pc))).flatMap (fun p => p.next (words p.pc))
  let late := (starts.filter (fun p => uncommitted words 64 [p] != [])).map (·.pc)
  let bare := (List.range (imgWordCount b)).filter (fun a => (uSeq (words a) == 7 || uTickwait (words a)) && !uCommit (words a))
  least? (late ++ bare)

/-- R106: the micro-address of the first CALL or RETURN that breaks the call graph. -/
def imgCallGraph (b : List Byte) : Option Nat :=
  least? (((imgReach b).filter (fun p => p.badCall (imgWord b p.pc))).map (·.pc))

/-- R124: the key slot whose hash is that of the image's key. -/
def State.keySlot (s : State) (b : List Byte) : Option Nat :=
  let h := Config.sha256 (imgPubkey b)
  (List.range 4).find? (fun k => (s.rd F.MC_OTP_PROG 0).testBit k && !(s.rd F.MC_OTP_REVOKED 0).testBit k &&
    (match Table.get? s.mc.otpHash k with | some v => v == h | none => Config.factoryHash k == h))

/-- R122: the first check an image fails: its code and the offset of the failing item. -/
def State.imageFault (s : State) (b : List Byte) : Option (Nat × Nat) :=
  let n := imgWordCount b
  if field b 0 4 ≠ 0x53434D43 then some (0x01, 0)
  else if field b 0x00C 4 ≠ 0x260 + 16 * n + 64 ∨ field b 0x00C 4 ≠ b.length then some (0x02, 0x00C)
  else if n < 1 ∨ 4096 < n then some (0x02, 0x010)
  else if s.keySlot b = none then some (0x03, 0x020)
  else if Config.ecdsaVerify (imgPubkey b) (imgDigest b) (b.drop (b.length - 64)) = false then some (0x04, b.length - 64)
  else if imgSvn b < s.rd F.MC_OTP_MIN_SVN 0 then some (0x05, 0x008)
  else match (List.range 256).find? (entryBad b) with
  | some i => some (0x06, 0x060 + 2 * i)
  | none =>
  match imgDistance b with
  | some a => some (0x07, 0x260 + 16 * a)
  | none =>
  match (List.range 14).find? (fun i => field b (0x012 + i) 1 != 0) with
  | some i => some (0x08, 0x012 + i)
  | none =>
  match (List.range n).find? (fun a => wordBad n (imgWord b a)) with
  | some a => some (0x08, 0x260 + 16 * a)
  | none =>
  match imgCallGraph b with
  | some a => some (0x09, 0x260 + 16 * a)
  | none => none

/-! ### Loading -/

/-- MC_REJECT as it reads. -/
def State.mcReject (s : State) : Nat := pack [(0, 8, s.rd F.MC_REJECT_CODE 0), (8, 24, s.rd F.MC_REJECT_OFFSET 0)]

/-- MC_VER as it reads. -/
def State.mcVer (s : State) : Nat :=
  pack [(0, 8, s.rd F.MC_VER_MAJOR 0), (8, 8, s.rd F.MC_VER_MINOR 0), (16, 16, s.rd F.MC_VER_PATCH 0),
        (32, 32, s.rd F.MC_VER_SVN 0)]

/-- R122: a load may begin. -/
def State.loadOpen (s : State) : Bool :=
  (s.mstate == mStandby || (s.mstate == mMounted && !s.anyBusy))
  && s.rd F.MC_STATUS_STATE 0 != 1 && s.rd F.MNT_STATUS_STATE 0 != 1 && s.rd F.MNT_STATUS_STATE 0 != 3

/-- R427: MC_REJECT recorded and MC_REJECTED raised. -/
def State.mcRefuse (s : State) (code off : Nat) : State :=
  let s1 := s.wrs [(F.MC_REJECT_CODE, 0, code), (F.MC_REJECT_OFFSET, 0, off)]
  s1.raise 0x11 0 s1.mcReject 0

/-- R122: a write of MC_CTL.LOAD: the checks at acceptance; accepted, the image is copied into staging. -/
def mcLoad (src : Nat) (s : State) : State × Ans :=
  let a := s.rd F.MC_SRC_ADDR_ADDR 0
  let n := s.rd F.MC_SRC_LEN_LEN 0
  if s.loadOpen = false then (s.mcRefuse 0x0A 0, .rejected rBLOCK_REJECT 0x0A)
  else if s.inCapture a n = false then (s.mcRefuse 0x0B 0, .rejected rBLOCK_REJECT 0x0B)
  else
    let s1 := (s.readerUe (a - dramWin) n).wake
    ({ s1 with mc := { s1.mc with loading := some (s.dram.read (a - dramWin) n), loadSrc := src } }.wr F.MC_STATUS_STATE 0 1, .ok)

/-- R122: an engine's U registers cleared. -/
def Engine.clearU (g : Engine) : Engine := { g with w := { g.w with u := [] }, c := { g.c with u := [] } }

/-- R122: a checked image stored in all 16 leaves. -/
def State.storeImage (s : State) (b : List Byte) : State :=
  let s1 := { s with
    mc := { s.mc with loading := none, words := (List.range 4096).map (imgWord b), dispatch := (List.range 256).map (imgEntry b) } }
  let s2 := s1.wrs [(F.MC_STATUS_STATE, 0, 2), (F.MC_STATUS_LAST_OK, 0, 1), (F.MC_STATUS_STACK_FAULT, 0, 0),
    (F.MC_STATUS_STACK_LEAVES, 0, 0), (F.MC_STATUS_KEY_SLOT, 0, (s.keySlot b).getD 0), (F.MC_VER_MAJOR, 0, field b 4 1),
    (F.MC_VER_MINOR, 0, field b 5 1), (F.MC_VER_PATCH, 0, field b 6 2), (F.MC_VER_SVN, 0, imgSvn b),
    (F.MC_DIGEST_DIGEST, 0, imgDigest b % 2 ^ 64)]
  let s3 := s2.wrs ((List.range 256).map (fun i => (F.MC_UREG_VALUE, i, 0)))
  let s4 := { s3 with engines := s3.engines.map (fun (e : Nat × Engine) => (e.1, e.2.clearU)) }
  (s4.journal 0x0D 0 false (pack [(0, 1, 1), (64, 64, imgDigest b)])).raise 0x10 0 s4.mcVer 0

/-- MC_LOAD_COMPLETE (R122): the staged image passes every check and is stored, or the first failure is recorded and the previous
image stays. -/
def mcLoadComplete (s : State) : State :=
  match s.mc.loading with
  | none => s
  | some b =>
    match s.imageFault b with
    | none => s.storeImage b
    | some (code, off) =>
      let s1 := { s with mc := { s.mc with loading := none } }.wrs
        [(F.MC_STATUS_STATE, 0, if s.mc.words.isEmpty then 0 else 2), (F.MC_STATUS_LAST_OK, 0, 0)]
      (s1.mcRefuse code off).lateReject 0x20000 s.mc.loadSrc rBLOCK_REJECT code

/-- LOAD. -/
def execLoad (h : Hdr) (s : State) : Host.Outcome State Fault Refusal := .next (s.request h 0x20000 (.write64 1) (mcLoad h.src.val))

/-- MC_LOAD_COMPLETE. -/
def execMcLoadComplete (s : State) : Host.Outcome State Fault Refusal := .next (mcLoadComplete s)

/-! ### OTP (R124) -/

/-- R124: the value that opens the key. -/
def otpKeyValue : Nat := 0x000000004F545021

/-- R124: a key stays open for 1 ms. -/
def otpKeyTu : Nat := 1280000000

/-- R124: a write of MC_OTP_KEY: the right value opens the key for one command, any other withdraws it. -/
def wrOtpKey (s : State) (data : Nat) : State × Ans :=
  ({ s with mc := { s.mc with keyOpen := if data = otpKeyValue then some (s.now + otpKeyTu) else none } }, .ok)

/-- R124: the key is open. -/
def State.otpOpen (s : State) : Bool := match s.mc.keyOpen with | some t => decide (s.now < t) | none => false

/-- R124: the slots programmed and not revoked. -/
def State.liveSlots (s : State) : List Nat :=
  (List.range 4).filter (fun k => (s.rd F.MC_OTP_PROG 0).testBit k && !(s.rd F.MC_OTP_REVOKED 0).testBit k)

/-- MC_OTP_DATA0 to 3 as one 256-bit value, byte 0 lowest. -/
def State.otpData (s : State) : Nat :=
  pack [(0, 64, s.rd F.MC_OTP_DATA_DATA 0), (64, 64, s.rd F.MC_OTP_DATA_DATA 1), (128, 64, s.rd F.MC_OTP_DATA_DATA 2),
        (192, 64, s.rd F.MC_OTP_DATA_DATA 3)]

/-- R124: a command, its key consumed. -/
def State.otpCommand (s : State) (cmd slot : Nat) : State × Ans :=
  if cmd = 0 then
    if (s.rd F.MC_OTP_PROG 0).testBit slot then (s, .rejected rSTATE 0)
    else
      ({ s with mc := { s.mc with otpHash := Table.set s.mc.otpHash slot s.otpData } }.wr F.MC_OTP_PROG 0
        (setBit (s.rd F.MC_OTP_PROG 0) slot true), .ok)
  else if cmd = 1 then
    if s.liveSlots.filter (· != slot) = [] then (s, .rejected rSTATE 0)
    else (s.wr F.MC_OTP_REVOKED 0 (setBit (s.rd F.MC_OTP_REVOKED 0) slot true), .ok)
  else if cmd = 2 then
    if s.rd F.MC_VER_SVN 0 ≤ s.rd F.MC_OTP_MIN_SVN 0 then (s, .rejected rSTATE 0)
    else (s.wr F.MC_OTP_MIN_SVN 0 (min 63 (s.rd F.MC_VER_SVN 0)), .ok)
  else (s, .rejected rRANGE 0)

/-- R124: a write of MC_OTP_CMD: it needs an open key, and consumes it whether the command is carried out or refused. -/
def wrOtpCmd (s : State) (data : Nat) : State × Ans :=
  if s.otpOpen then
    State.otpCommand { s with mc := { s.mc with keyOpen := none } } (bits data 0 2) (bits data 2 2)
  else (s, .rejected rOTP_KEY 0)

/-- OTP_KEY_OPEN: a write of MC_OTP_KEY. -/
def execOtpKeyOpen (h : Hdr) (key : Word) (s : State) : Host.Outcome State Fault Refusal :=
  .next (s.request h 0x20040 (.write64 key.toNat) (fun s => wrOtpKey s key.toNat))

/-- OTP_KEY_EXPIRE (R124): 1 ms after its write an open key is withdrawn. -/
def otpKeyExpire (s : State) : State :=
  match s.mc.keyOpen with
  | none => s
  | some t => if s.due t then { s.goto t with mc := { s.mc with keyOpen := none } } else s

/-- OTP_KEY_EXPIRE. -/
def execOtpKeyExpire (s : State) : Host.Outcome State Fault Refusal := .next (otpKeyExpire s)

/-- PROGRAM_SLOT. -/
def execProgramSlot (h : Hdr) (slot : Fin 4) (s : State) : Host.Outcome State Fault Refusal :=
  .next (s.request h 0x20048 (.write64 (4 * slot.val)) (fun s => wrOtpCmd s (4 * slot.val)))

/-- REVOKE_SLOT. -/
def execRevokeSlot (h : Hdr) (slot : Fin 4) (s : State) : Host.Outcome State Fault Refusal :=
  .next (s.request h 0x20048 (.write64 (1 + 4 * slot.val)) (fun s => wrOtpCmd s (1 + 4 * slot.val)))

/-- ADVANCE_SVN. -/
def execAdvanceSvn (h : Hdr) (s : State) : Host.Outcome State Fault Refusal :=
  .next (s.request h 0x20048 (.write64 2) (fun s => wrOtpCmd s 2))

/-- R125: a write of MC_STATUS: its two W1C bits; STACK_FAULT clears STACK_LEAVES with it. -/
def wrMcStatus (s : State) (data : Nat) : State × Ans :=
  let s1 := if data.testBit 3 then (s.unflag F.MC_STATUS_STACK_FAULT 0 1).unflag F.MC_STATUS_STACK_LEAVES 0 0xFFFF else s
  (if data.testBit 8 then s1.unflag F.MC_STATUS_SAT 0 1 else s1, .ok)

/-- STACK_FAULT_CLEAR. -/
def execStackFaultClear (h : Hdr) (s : State) : Host.Outcome State Fault Refusal :=
  .next (s.request h 0x20008 (.write64 8) (fun s => wrMcStatus s 8))

end Sys2Proof.Machine
end

