-- ==== Sys2Proof/Machine/Mount.lean ====
section
/-! DEFINITION. The mount image: its checks, mounting and unmounting (11_mount.md R245 to R263). -/

namespace Sys2Proof.Machine

/-! ### The image as bytes (R246, R247) -/

/-- A byte of an image. -/
def u8 (b : List Byte) (i : Nat) : Nat := (b.getD i 0).toNat

/-- A failing check: its code, the byte offset of the failing item, and the TYPE of its section. -/
abbrev MFault := Option (Nat × Nat × Nat)

/-- The first of a list of checks that fails. -/
def firstFault (l : List MFault) : MFault := l.findSome? id

/-- A check that fails with a code, at an offset, in a section. -/
def failIf (c : Bool) (code off sec : Nat) : MFault := if c then some (code, off, sec) else none

/-- Bytes `lo` to below `hi` are 0 (R259 code 0x0B): the first that is not. -/
def zeroBytes (b : List Byte) (lo hi sec : Nat) : MFault :=
  ((List.range (hi - lo)).find? (fun i => u8 b (lo + i) != 0)).map (fun i => (0x0B, lo + i, sec))

/-- A section: where its header stands, its payload length, and its TYPE. -/
structure MSec where
  pos : Nat
  plen : Nat
  typ : Nat
  deriving DecidableEq, Repr

/-- R248: the required payload length of a type, where it is fixed. -/
def secLen (typ : Nat) : Option Nat :=
  if typ = 2 then some 128 else if typ = 4 then some 24 else if typ = 5 then some 32 else if typ = 6 then some 32
  else if typ = 7 then some 4 else none

/-! ### Pass 1: the header (R259) -/

/-- R259, pass 1. -/
def headerFault (b : List Byte) (len : Nat) : MFault :=
  let l := field b 8 4
  let n := field b 6 2
  firstFault [failIf (field b 0 4 != 0x4D4E5449) 0x04 0 0, failIf (u8 b 4 != 1) 0x05 4 0,
    failIf (l != len || decide (1048576 < l)) 0x06 8 0, failIf (n == 0 || decide (16 < n)) 0x06 6 0,
    failIf (crc32 (b.take 0x1C) != field b 0x1C 4) 0x07 0x1C 0]

/-! ### Pass 2: framing (R259) -/

/-- R259, pass 2: the sections in image order, or the first framing fault; `fuel` bounds their number. -/
def frame (b : List Byte) (len : Nat) : Nat → Nat → List MSec → Sum (Nat × Nat × Nat) (List MSec)
  | 0, _, acc => .inr acc
  | fuel + 1, pos, acc =>
    if len ≤ pos then .inr acc
    else
      let typ := field b pos 2
      let plen := field b (pos + 4) 4
      if len < pos + 12 ∨ plen % 4 ≠ 0 ∨ len < pos + 12 + plen then .inl (0x06, pos + 4, typ)
      else if crc32 (slice b pos (8 + plen)) ≠ field b (pos + 8 + plen) 4 then .inl (0x08, pos + 8 + plen, typ)
      else if typ = 0 ∨ 8 < typ ∨ acc.any (fun c => c.typ == typ) then .inl (0x09, pos, typ)
      else frame b len fuel (pos + 12 + plen) (acc ++ [⟨pos, plen, typ⟩])

/-- R259: after the last section. -/
def framedFault (b : List Byte) (len : Nat) (secs : List MSec) : MFault :=
  let has (t : Nat) : Bool := secs.any (fun c => c.typ == t)
  firstFault [failIf (secs.length != field b 6 2) 0x06 6 0, failIf (!has 1) 0x0A len 1, failIf (!has 7) 0x0A len 7]

/-- R246, R259: the header's reserved bytes and IMAGE_ID. -/
def idFault (b : List Byte) : MFault :=
  firstFault [zeroBytes b 0x0C 0x10 0, failIf (field b 0x10 8 == 0) 0x0B 0x10 0, zeroBytes b 0x18 0x1C 0]

/-- R247, R259: a section's reserved bytes and payload length. -/
def secFault (b : List Byte) (c : MSec) : MFault :=
  firstFault [zeroBytes b (c.pos + 2) (c.pos + 4) c.typ,
    failIf ((match secLen c.typ with | some n => c.plen != n | none => false) || (c.typ == 8 && decide (c.plen < 4)))
      0x0B (c.pos + 4) c.typ]

/-! ### Pass 3: UNITS (R249, R250) -/

/-- R249: a unit record: where it stands, its number, its KIND, its NMEM. -/
structure URec where
  at_ : Nat
  unit : Nat
  kind : Nat
  nmem : Nat
  deriving DecidableEq, Repr

/-- R249: the members of a record, with the offset of each. -/
def URec.members (b : List Byte) (r : URec) : List (Nat × Nat) :=
  (List.range r.nmem).map (fun i => (r.at_ + 4 + i, u8 b (r.at_ + 4 + i)))

/-- A length padded to a multiple of 4. -/
def pad4 (n : Nat) : Nat := (n + 3) / 4 * 4

/-- R249: the records of UNITS, or the first field out of range. -/
def unitRecs (b : List Byte) (end_ : Nat) : Nat → Nat → List URec → Sum (Nat × Nat × Nat) (List URec)
  | 0, _, acc => .inr acc
  | fuel + 1, o, acc =>
    if end_ ≤ o then .inr acc
    else
      let r : URec := ⟨o, u8 b o, u8 b (o + 1), u8 b (o + 2)⟩
      let next := o + pad4 (4 + r.nmem)
      match firstFault [failIf (decide (1 < r.kind)) 0x0B (o + 1) 1,
          failIf (decide (240 < r.nmem) || (r.kind == 0 && r.nmem != 0)) 0x0B (o + 2) 1, zeroBytes b (o + 3) (o + 4) 1,
          failIf (decide (end_ < next)) 0x0B (o + 2) 1, zeroBytes b (o + 4 + r.nmem) next 1] with
      | some f => .inl f
      | none => unitRecs b end_ fuel next (acc ++ [r])

/-- The group that has a unit as a member, by the records. -/
def recParent (b : List Byte) (recs : List URec) (u : Nat) : Option Nat :=
  (recs.find? (fun r => (r.members b).any (fun e => e.2 == u))).map (·.unit)

/-- R250: a unit contains itself, seen by walking up from it. -/
def onCycle (b : List Byte) (recs : List URec) (u : Nat) : Nat → Nat → Bool
  | 0, _ => false
  | fuel + 1, x => match recParent b recs x with
    | none => false
    | some p => p == u || onCycle b recs u fuel p

/-- R250, R259: the tree checks 0x0C to 0x0F, one after the other over all records. -/
def treeFault (b : List Byte) (recs : List URec) : MFault :=
  let ix := (List.range recs.length).zip recs
  let mem := recs.flatMap (URec.members b)
  let mix := (List.range mem.length).zip mem
  let exists_ (u : Nat) : Bool := recs.any (fun r => r.unit == u)
  firstFault [
    (ix.find? (fun (e : Nat × URec) => decide (e.2.unit < 16) != (e.2.kind == 0)
        || (recs.take e.1).any (fun r => r.unit == e.2.unit))).map (fun e => (0x0C, e.2.at_, 1)),
    recs.findSome? (fun (r : URec) => firstFault [failIf (r.kind == 1 && decide (r.nmem < 2)) 0x0D (r.at_ + 2) 1,
      ((r.members b).find? (fun e => !exists_ e.2)).map (fun e => (0x0D, e.1, 1))]),
    (mix.find? (fun (e : Nat × (Nat × Nat)) => (mem.take e.1).any (fun p => p.2 == e.2.2))).map (fun e => (0x0E, e.2.1, 1)),
    (recs.find? (fun (r : URec) => onCycle b recs r.unit 256 r.unit)).map (fun r => (0x0F, r.at_, 1))]

/-! ### Pass 4: the other sections -/

/-- What the other sections' checks know of the image. -/
structure MCtx where
  b : List Byte
  recs : List URec
  secs : List MSec
  own : Option Nat

/-- R257: the raster unit the image names, if it has a RASTER section. -/
def MCtx.raster (c : MCtx) : Option Nat := (c.secs.find? (fun x => x.typ == 6)).map (fun x => u8 c.b (x.pos + 8))

/-- R253: one LEAF record. -/
def leafFault (b : List Byte) (o : Nat) : MFault :=
  let mn := u8 b o
  let mx := u8 b (o + 1)
  let vt := sx 16 (field b (o + 2) 2)
  firstFault [failIf (decide (32 < mn)) 0x0B o 2, failIf (decide (mx < mn) || decide (32 < mx)) 0x0B (o + 1) 2,
    failIf (decide (vt < -6000) || decide (26000 < vt)) 0x0B (o + 2) 2, failIf (decide (216 < u8 b (o + 4))) 0x0B (o + 4) 2,
    failIf (decide (216 < u8 b (o + 5))) 0x0B (o + 5) 2, failIf (decide (216 < u8 b (o + 6))) 0x0B (o + 6) 2,
    zeroBytes b (o + 7) (o + 8) 2]

/-- R254: a character of a name. -/
def nameChar (c : Nat) : Bool :=
  (decide (65 ≤ c) && decide (c ≤ 90)) || (decide (97 ≤ c) && decide (c ≤ 122)) || (decide (48 ≤ c) && decide (c ≤ 57))
    || c == 95 || c == 46 || c == 45

/-- R254: the records of PINNAMES (offset, pin, name), or the first field out of range. -/
def nameRecs (b : List Byte) (end_ : Nat) :
    Nat → Nat → List (Nat × Nat × List Byte) → Sum (Nat × Nat × Nat) (List (Nat × Nat × List Byte))
  | 0, _, acc => .inr acc
  | fuel + 1, o, acc =>
    if end_ ≤ o then .inr acc
    else
      let pin := u8 b o
      let n := u8 b (o + 1)
      let next := o + pad4 (2 + n)
      match firstFault [failIf (decide (143 < pin)) 0x0B o 3,
          failIf (n == 0 || decide (30 < n) || decide (end_ < next)) 0x0B (o + 1) 3,
          ((List.range n).find? (fun i => !nameChar (u8 b (o + 2 + i)))).map (fun i => (0x0B, o + 2 + i, 3)),
          zeroBytes b (o + 2 + n) next 3] with
      | some f => .inl f
      | none => nameRecs b end_ fuel next (acc ++ [(o, pin, slice b (o + 2) n)])

/-- R254: pins of leaves that exist, no pin and no name twice. -/
def nameFault (recs : List URec) (l : List (Nat × Nat × List Byte)) : MFault :=
  let ix := (List.range l.length).zip l
  (ix.find? (fun (e : Nat × (Nat × Nat × List Byte)) =>
    !recs.any (fun r => r.unit == e.2.2.1 / 9)
      || (l.take e.1).any (fun p => p.2.1 == e.2.2.1 || p.2.2 == e.2.2.2))).map (fun e => (0x10, e.2.1, 3))

/-- Reserved bits of the byte at an offset. -/
def resvByte (b : List Byte) (o keep sec : Nat) : MFault := failIf (u8 b o &&& (255 - keep) != 0) 0x0B o sec

/-- R255: the TRIG payload. -/
def trigFault (b : List Byte) (o : Nat) : MFault :=
  firstFault [resvByte b (o + 8) 0x0F 4, resvByte b (o + 9) 0x0F 4, resvByte b (o + 10) 0x03 4, zeroBytes b (o + 11) (o + 12) 4,
    zeroBytes b (o + 14) (o + 24) 4]

/-- R256: the ACQ payload. -/
def acqFault (b : List Byte) (o : Nat) : MFault :=
  firstFault ((List.range 8).flatMap (fun n => [resvByte b (o + 4 * n + 2) 0x01 5, zeroBytes b (o + 4 * n + 3) (o + 4 * n + 4) 5]))

/-- R257: the leaves of a raster unit: how many, where the unit is such a one. -/
def rasterL (b : List Byte) (recs : List URec) (u : Nat) : Option Nat :=
  match recs.find? (fun r => r.unit == u) with
  | none => none
  | some r =>
    if r.kind = 0 then some 1
    else if 2 ≤ r.nmem ∧ r.nmem ≤ 4 ∧ (r.members b).all (fun e => decide (e.2 < 16)) then some r.nmem else none

/-- R257, R230: the RASTER payload: its fields, then PIN_CONFLICT, then RASTER_UNIT. `locals` are the local units of the image's
cluster groups. -/
def rasterFault (c : MCtx) (o : Nat) (locals : List Nat) : MFault :=
  let u := u8 c.b o
  let sig (i : Nat) : Nat := u8 c.b (o + 4 + i)
  let l := rasterL c.b c.recs u
  let top := match l with | some n => 9 * n | none => 36
  let at_ (code : Nat) (i : Option Nat) : MFault := i.map (fun i => (code, o + 4 + i, 6))
  firstFault [zeroBytes c.b (o + 1) (o + 4) 6,
    at_ 0x0B ((List.range 28).find? (fun i => sig i != 0xFF && decide (top ≤ sig i))),
    at_ 0x10 ((List.range 28).find? (fun i => sig i != 0xFF && (List.range i).any (fun j => sig j == sig i))),
    failIf (l.isNone || (recParent c.b c.recs u).isSome || locals.contains u) 0x11 o 6,
    at_ 0x11 ((List.range 4).find? (fun i => sig i == 0xFF))]

/-- R258: the REF payload. -/
def refFault (b : List Byte) (o : Nat) : MFault := firstFault [resvByte b o 0x01 7, zeroBytes b (o + 1) (o + 4) 7]

/-- R251: a cluster-group record: where it stands, CUNIT, PARENT, MODMASK, NLOCAL, TAG. -/
structure CRec where
  at_ : Nat
  cunit : Nat
  parent : Nat
  modmask : Nat
  nlocal : Nat
  tag : Nat
  deriving DecidableEq, Repr

/-- R251: the local units of a record, with the offset of each. -/
def CRec.locals (b : List Byte) (r : CRec) : List (Nat × Nat) :=
  (List.range r.nlocal).map (fun i => (r.at_ + 12 + i, u8 b (r.at_ + 12 + i)))

/-- R251: the records of CLUSTER, or the first field out of range. -/
def cluRecs (b : List Byte) (end_ : Nat) : Nat → Nat → List CRec → Sum (Nat × Nat × Nat) (List CRec)
  | 0, _, acc => .inr acc
  | fuel + 1, o, acc =>
    if end_ ≤ o then .inr acc
    else
      let r : CRec := ⟨o, field b o 2, field b (o + 2) 2, field b (o + 4) 2, u8 b (o + 6), field b (o + 8) 4⟩
      let next := o + pad4 (12 + r.nlocal)
      match firstFault [failIf (decide (1023 < r.cunit)) 0x0B o 8,
          failIf (decide (1023 < r.parent) && r.parent != 0xFFFF) 0x0B (o + 2) 8,
          failIf (decide (16 < r.nlocal) || decide (end_ < next)) 0x0B (o + 6) 8, zeroBytes b (o + 7) (o + 8) 8,
          zeroBytes b (o + 12 + r.nlocal) next 8] with
      | some f => .inl f
      | none => cluRecs b end_ fuel next (acc ++ [r])

/-- R251: a PARENT chain ends within the records. -/
def parentEnds (recs : List CRec) : Nat → Nat → Bool
  | 0, _ => false
  | fuel + 1, p =>
    p == 0xFFFF || (match recs.find? (fun r => r.cunit == p) with | some r => parentEnds recs fuel r.parent | none => false)

/-- R251: the rules of the CLUSTER section, record by record. -/
def cluFault (c : MCtx) (rs : List CRec) : MFault :=
  let locals := rs.flatMap (CRec.locals c.b)
  let one (e : Nat × CRec) : MFault :=
    let r := e.2
    firstFault [failIf (decide (16 ≤ e.1) || (rs.take e.1).any (fun x => x.cunit == r.cunit)) 0x12 r.at_ 8,
      failIf (!parentEnds rs 17 r.parent) 0x12 (r.at_ + 2) 8,
      failIf (decide (popcount 16 r.modmask < 2) || (match c.own with | some m => !r.modmask.testBit m | none => false))
        0x12 (r.at_ + 4) 8,
      ((r.locals c.b).find? (fun p =>
        !c.recs.any (fun x => x.unit == p.2) || (recParent c.b c.recs p.2).isSome || c.raster == some p.2
          || locals.any (fun q => q.2 == p.2 && decide (q.1 < p.1)))).map (fun p => (0x12, p.1, 8))]
  ((List.range rs.length).zip rs).findSome? one

/-- R251: the CLUSTER records of an image; none where the section is absent or does not frame. -/
def MCtx.crecs (c : MCtx) : List CRec :=
  match c.secs.find? (fun x => x.typ == 8) with
  | none => []
  | some x => match cluRecs c.b (x.pos + 8 + x.plen) x.plen (x.pos + 12) [] with | .inr l => l | .inl _ => []

/-- R259, pass 4: one section. -/
def MCtx.sectionFault (c : MCtx) (x : MSec) : MFault :=
  let o := x.pos + 8
  firstFault [secFault c.b x,
    match x.typ with
    | 2 => (List.range 16).findSome? (fun l => leafFault c.b (o + 8 * l))
    | 3 => (match nameRecs c.b (o + x.plen) x.plen o [] with | .inl f => some f | .inr l => nameFault c.recs l)
    | 4 => trigFault c.b o
    | 5 => acqFault c.b o
    | 6 => rasterFault c o ((c.crecs.flatMap (CRec.locals c.b)).map (·.2))
    | 7 => refFault c.b o
    | 8 => firstFault [resvByte c.b o 0x03 8, zeroBytes c.b (o + 1) (o + 4) 8,
        match cluRecs c.b (o + x.plen) x.plen (o + 4) [] with | .inl f => some f | .inr l => cluFault c l]
    | _ => none]

/-- R259: the image checked: passes 1 to 4. -/
def imageCheck (b : List Byte) (len : Nat) (own : Option Nat) : Sum (Nat × Nat × Nat) MCtx :=
  match headerFault b len with
  | some f => .inl f
  | none =>
    match frame b len (len / 4 + 1) 32 [] with
    | .inl f => .inl f
    | .inr secs =>
      match firstFault [framedFault b len secs, idFault b] with
      | some f => .inl f
      | none =>
        match secs.find? (fun x => x.typ == 1) with
        | none => .inl (0x0A, len, 1)
        | some x =>
          match secFault b x, unitRecs b (x.pos + 8 + x.plen) x.plen (x.pos + 8) [] with
          | some f, _ => .inl f
          | none, .inl f => .inl f
          | none, .inr recs =>
            let c : MCtx := ⟨b, recs, secs, own⟩
            match firstFault [treeFault b recs, (secs.filter (fun x => x.typ != 1)).findSome? c.sectionFault] with
            | some f => .inl f
            | none => .inr c

/-! ### What an image fixes (R245, R248) -/

/-- The payload offset of a section. -/
def MCtx.payload (c : MCtx) (typ : Nat) : Option Nat := (c.secs.find? (fun x => x.typ == typ)).map (fun x => x.pos + 8)

/-- R253: the leaf records in force. -/
def MCtx.leafRecs (c : MCtx) : List LeafRec :=
  (List.range 16).map (fun l =>
    match c.payload 2 with
    | none => {}
    | some o =>
      let a := o + 8 * l
      { pinMin := u8 c.b a, pinMax := u8 c.b (a + 1), parkVt := field c.b (a + 2) 2, rsafe := field c.b (a + 4) 3 })

/-- R254: the names, by pin. -/
def MCtx.names (c : MCtx) : Table (List Byte) :=
  match c.secs.find? (fun x => x.typ == 3) with
  | none => []
  | some x =>
    match nameRecs c.b (x.pos + 8 + x.plen) x.plen (x.pos + 8) [] with
    | .inl _ => []
    | .inr l => l.foldl (fun t e => Table.set t e.2.1 e.2.2) []

/-- R248: the TRIG payload of an image without the section. -/
def trigDefault : List Byte := toBytes 24 (pack [(0, 64, 0xFFFFFFFFFFFFFFFF), (72, 4, 0xF)])

/-- R245: what a checked image fixes. -/
def MCtx.image (c : MCtx) : MntImg :=
  let hints := match c.payload 8 with | some o => u8 c.b o | none => 0
  { imageId := field c.b 0x10 8
    leaves := (c.recs.filter (fun r => r.kind == 0)).map (·.unit)
    groups := (c.recs.filter (fun r => r.kind == 1)).map (fun r => (r.unit, (r.members c.b).map (·.2)))
    leafRecs := c.leafRecs
    names := c.names
    trig := match c.payload 4 with | some o => slice c.b o 24 | none => trigDefault
    acq := (List.range 8).map (fun n => match c.payload 5 with | some o => field c.b (o + 4 * n) 4 | none => 0xFFFF)
    raster := (c.payload 6).map (fun o => slice c.b o 32)
    ref100 := (match c.payload 7 with | some o => u8 c.b o % 2 == 1 | none => false)
    priCand := hints.testBit 0
    secCand := hints.testBit 1
    cgs := c.crecs.map (fun r =>
      { cunit := r.cunit, parent := if r.parent = 0xFFFF then none else some r.parent, modmask := r.modmask,
        locals := (r.locals c.b).map (·.2), tag := r.tag }) }

/-! ### Mounting (R259, R260) -/

/-- MNT_REJECT as it reads. -/
def State.mntReject (s : State) : Nat :=
  pack [(0, 8, s.rd F.MNT_REJECT_CODE 0), (8, 24, s.rd F.MNT_REJECT_OFFSET 0), (32, 16, s.rd F.MNT_REJECT_SECTION 0)]

/-- R259: MNT_REJECT recorded and MNT_REJECTED raised. -/
def State.mntRefuse (s : State) (code off sec : Nat) : State :=
  let s1 := s.wrs [(F.MNT_REJECT_CODE, 0, code), (F.MNT_REJECT_OFFSET, 0, off), (F.MNT_REJECT_SECTION, 0, sec)]
  s1.raise 0x21 0 s1.mntReject 0

/-- R259, R262: the first-stage check that a MOUNT fails. -/
def State.mountClosed (s : State) : Option Nat :=
  if s.mstate ≠ mStandby ∨ s.rd F.MNT_STATUS_STATE 0 ≠ 0 ∨ s.rd F.MC_STATUS_STATE 0 = 1 then some 0x01
  else if s.rd F.MC_STATUS_STATE 0 ≠ 2 then some 0x02
  else if s.inCapture (s.rd F.MNT_SRC_ADDR_ADDR 0) (s.rd F.MNT_SRC_LEN_LEN 0) = false then some 0x03
  else none

/-- MOUNT (R259): a write of MNT_CTL.MOUNT: the checks at acceptance; accepted, the image is copied into staging. -/
def mountWrite (src : Nat) (s : State) : State × Ans :=
  match s.mountClosed with
  | some c => (s.mntRefuse c 0 0, .rejected rBLOCK_REJECT c)
  | none =>
    let a := s.rd F.MNT_SRC_ADDR_ADDR 0 - dramWin
    let n := s.rd F.MNT_SRC_LEN_LEN 0
    let s1 := (s.calCancel 0x22 |>.readerUe a n).wake
    let own := if s.admitted then some (s.rd F.ID_STAT_MODULE 0) else none
    ({ s1 with mnt := { s1.mnt with staging := some (s.dram.read a n), stageSrc := src, stageMod := own, abandon := false } }.wr
      F.MNT_STATUS_STATE 0 1, .ok)

/-- MOUNT. -/
def execMount (h : Hdr) (s : State) : Host.Outcome State Fault Refusal :=
  .next (s.request h 0x30000 (.write64 1) (mountWrite h.src.val))

/-- R96: the register cells of the unit windows. -/
def isUnitCell (n : Nat) : Bool := decide (n % 1024 ≤ 22) || (decide (100 ≤ n % 1024) && decide (n % 1024 ≤ 116))

/-- R253: a leaf whose pins are parked. -/
def Leaf.parked (x : Leaf) : Leaf :=
  { bank := x.bank, drv := parkedDrv, lastBank := x.lastBank }

/-- R253: every pin parks. -/
def State.parkAll (s : State) : State :=
  let levels := match s.mnt.img with | some g => g.leafRecs.map (fun (r : LeafRec) => r.parkVt) | none => s.mnt.park
  { s with leaves := (List.range 16).map (fun l => (l, (s.leaf l).parked)), mnt := { s.mnt with park := levels } }

/-- R260, R311: every strand is UNPLANNED. -/
def State.unplanAll (s : State) : State :=
  let t := s.strands.table.map (fun (e : Nat × Nat) => (e.1, dPlanned e.2 0 (dHome e.2) (dReplica e.2) (dRepValid e.2)))
  { s with strands := { s.strands with table := t.filter (fun e => e.2 != 0) } }

/-- R260: a checked image mounted: its units appear, IDLE, with their registers at reset, their pins parked. -/
def State.applyImage (s : State) (g : MntImg) : State :=
  let s1 := { s with mnt := { s.mnt with staging := none, img := some g, priCand := g.priCand, secCand := g.secCand,
                                         everMounted := true }
                     regs := s.regs.filter (fun e => !isUnitCell e.1)
                     units := []
                     tmu := { s.tmu with known := true, cand := none } }
  let s2 := s1.wrs [(F.MNT_STATUS_STATE, 0, 2), (F.MNT_STATUS_LAST_OK, 0, 1), (F.ENV_STATUS_MSTATE, 0, mMounted),
                    (F.TMU_REF_FREQ, 0, bit g.ref100)]
  let s3 := s2.parkAll.unplanAll
  (s3.journal 0x0D 0 false (pack [(64, 64, g.imageId)])).raise 0x20 0 g.imageId 0

/-- R259: a mount refused in its second stage, the module left as it was. -/
def State.mountFails (s : State) (code off sec : Nat) : State :=
  let s1 := { s with mnt := { s.mnt with staging := none, abandon := false } }.wrs
    [(F.MNT_STATUS_STATE, 0, 0), (F.MNT_STATUS_LAST_OK, 0, 0)]
  (s1.mntRefuse code off sec).lateReject 0x30000 s.mnt.stageSrc rBLOCK_REJECT code

/-- MOUNT_COMPLETE (R259, R260): the staged image is checked in five passes; the first failure refuses the mount, and otherwise its
units appear, at a tick boundary, and the loadboard ID is read. -/
def mountComplete (eeprom : Option Nat) (s : State) : State :=
  match s.mnt.staging with
  | none => s
  | some b =>
    match imageCheck b b.length s.mnt.stageMod with
    | .inl (code, off, sec) => s.mountFails code off sec
    | .inr c =>
      if s.mnt.abandon ∨ s.mstate ≠ mStandby then s.mountFails 0x13 0 0
      else if s.sub = 0 then (s.applyImage c.image).readLbid eeprom else s

/-- MOUNT_COMPLETE: `eeprom` is what the loadboard-ID EEPROM answers at the mount (R354). -/
def execMountComplete (eeprom : Option (BitVec 80)) (s : State) : Host.Outcome State Fault Refusal :=
  .next (mountComplete (eeprom.map (·.toNat)) s)

/-! ### Unmounting (R261) -/

/-- UNMOUNT (R261): a write of MNT_CTL.UNMOUNT: from its edge the module is not MOUNTED, and its units and cluster groups are gone. -/
def unmountWrite (s : State) : State × Ans :=
  if s.mstate ≠ mMounted ∨ s.rd F.MNT_STATUS_STATE 0 ≠ 2 ∨ s.anyBusy then (s, .rejected rSTATE 0)
  else
    let mine (g : CluGroup) : Bool := g.modmask.testBit s.module
    let s1 := s.calCancel 0x22
    let s2 := s1.wrs ((s.clu.groups.filter mine).map (fun (g : CluGroup) => (F.ID_CG_FORMED, g.cunit, 0)))
    ({ s2 with clu := { s2.clu with groups := s2.clu.groups.filter (fun g => !mine g) } }.wrs
      [(F.ENV_STATUS_MSTATE, 0, mStandby), (F.MNT_STATUS_STATE, 0, 3)], .ok)

/-- R259, R261: a write of MNT_CTL. -/
def wrMntCtl (src : Nat) (s : State) (data : Nat) : State × Ans :=
  if data % 4 = 3 then (s, .rejected rACTION_BITS 0)
  else if data.testBit 0 then mountWrite src s
  else if data.testBit 1 then unmountWrite s
  else (s, .ok)

/-- UNMOUNT. -/
def execUnmount (h : Hdr) (s : State) : Host.Outcome State Fault Refusal := .next (s.request h 0x30000 (.write64 2) unmountWrite)

/-- R261: the plan is discarded. -/
def State.discardPlan (s : State) : State :=
  let s1 := { s with pl := { s.pl with cur := {}, next := none, commitAt := none, paths := [], fault := false, promoted := [], starved := [] }
                     caches := s.caches.map (fun (e : Nat × Cache) => (e.1, { e.2 with pinned := [], pinSlots := 4096, ring := [], fetches := [], cur := none })) }
  s1.unplanAll.wrs [(F.PL_STATUS_NEXT, 0, 0), (F.PL_STATUS_CUR, 0, 0), (F.PL_SCFAULT_SUB, 0, 0)]

/-- UNMOUNT_COMPLETE (R261): the channels stop, the DC functions reset, the pins park, the plan is discarded. -/
def unmountComplete (s : State) : State :=
  if s.rd F.MNT_STATUS_STATE 0 = 3 then
    let s1 := (List.range 8).foldl (fun (s : State) n => s.acqStop n) s
    let s2 := s1.dcOff.parkAll.discardPlan
    let s3 := { s2 with mnt := { s2.mnt with img := none }, pulses := [] }
    (s3.wr F.MNT_STATUS_STATE 0 0).raise 0x22 0 0 0
  else s

/-- UNMOUNT_COMPLETE. -/
def execUnmountComplete (s : State) : Host.Outcome State Fault Refusal := .next (unmountComplete s)

/-! ### What reads back (R263, R256, R255) -/

/-- R256: the record of an acquisition channel. -/
def State.acqAllowed (s : State) (n : Nat) : Nat := match s.image with | some g => g.acq.getD n 0 | none => 0x1FFFF

/-- R256: a leaf mask that the image lets the channel select. -/
def State.acqMaskOk (s : State) (n mask : Nat) : Bool := mask &&& (0xFFFF - s.acqAllowed n % 65536) == 0

/-- R256: a write of ACQ_CFG against the image. -/
def wrAcqCfg (n : Nat) (s : State) (data : Nat) : State × Ans :=
  if s.acqQuiet n && acqCfgOk data && !s.acqMaskOk n (bits data 16 16) then (s, .rejected rMOUNTED_ITEM 0)
  else acqSetup n acqCfgOk (fun s d =>
    s.wrs [(F.ACQ_CFG_SOURCE, n, bits d 0 4), (F.ACQ_CFG_MEM, n, bits d 4 1), (F.ACQ_CFG_RED, n, bits d 5 1),
           (F.ACQ_CFG_SUM, n, bits d 6 1), (F.ACQ_CFG_SUMSQ, n, bits d 7 1), (F.ACQ_CFG_COUNT, n, bits d 8 1),
           (F.ACQ_CFG_XOUT, n, bits d 9 1), (F.ACQ_CFG_LEAFMASK, n, bits d 16 16), (F.ACQ_CFG_SLOTMASK, n, bits d 32 9),
           (F.ACQ_CFG_SOFS, n, bits d 48 11)]) s data

/-- R256: a write of ACQ_TRIG against the image. -/
def wrAcqTrig (n : Nat) (s : State) (data : Nat) : State × Ans :=
  let src := bits data 0 4
  let bad := !s.acqMaskOk n (bits data 16 16) || ((src == 6 || src == 7) && !(s.acqAllowed n).testBit 16)
  if s.acqQuiet n && acqTrigOk data && bad then (s, .rejected rMOUNTED_ITEM 0)
  else acqSetup n acqTrigOk (fun s d =>
    s.wrs [(F.ACQ_TRIG_SRC, n, bits d 0 4), (F.ACQ_TRIG_SLOTMASK, n, bits d 4 9), (F.ACQ_TRIG_LEAFMASK, n, bits d 16 16),
           (F.ACQ_TRIG_SEL, n, bits d 32 16), (F.ACQ_TRIG_COUNT, n, bits d 48 16)]) s data

/-- R87, R255: the level of a TRIGOUT output now. -/
def State.trigout (s : State) (j : Nat) : Bool :=
  let mask := s.trigByte (2 * j) + 256 * s.trigByte (2 * j + 1)
  let on := s.pulses.any (fun p => p.outs.testBit j && mask.testBit p.leaf && decide (p.start ≤ s.now)
    && decide (s.now < p.start + 10 * cyc))
  on != (s.trigByte 8).testBit j

/-- R422: the TRIGOUT outputs are high impedance: without power, and in BOOT, whose steps are taken together (log entry 9). -/
def State.trigoutHiZ (s : State) : Bool := s.env.off || s.mstate == mBoot

/-- R420: the interposer pad of slot `j` of leaf `l`, its column (1 is A) and row; slot 9 stands for SENSE. -/
def padOf (l j : Nat) : Nat × Nat :=
  let r := j / 2 + 1
  let c := if j = 9 then 3 else if r % 2 = 1 then 1 + 2 * (j % 2) else 2 + 2 * (j % 2)
  (4 * (l % 4) + c, 5 * (l / 4) + r)

/-- R263: MNT_PARENT of a unit. -/
def State.mntParent (s : State) (u : Nat) : Nat :=
  match s.image with
  | none => 0
  | some g =>
    pack [(0, 8, (g.parent u).getD 0), (8, 1, bit (g.parent u).isSome), (9, 1, bit (g.cgOf u).isSome),
          (16, 10, match g.cgOf u with | some c => c.cunit | none => 0)]

/-- R263: a byte of the pin-name window. -/
def State.pinName (s : State) (off : Nat) : Byte :=
  match s.image.bind (fun g => Table.get? g.names (off / 32)) with
  | none => 0
  | some n => if off % 32 = 0 then BitVec.ofNat 8 n.length else n.getD (off % 32 - 1) 0

/-- R252: the cluster groups this module declares that are not formed. -/
def State.cgPending (s : State) : Nat :=
  match s.image with
  | none => 0
  | some g => (g.cgs.filter (fun c => !s.on F.ID_CG_FORMED c.cunit)).length

end Sys2Proof.Machine
end

