-- ==== Sys2Proof/Machine/Cal.lean ====
section
/-! DEFINITION. Calibration: trims, lockets, live trims, procedures, and the CAL registers (16_calibration.md R344 to R362). -/

namespace Sys2Proof.Machine

/-! ### The trims (R346) -/

/-- R346: how many trims a locket holds beside the common constant, which has this number, and the checksum of the factory data, which has
the next. -/
def trimCount : Nat := 4240

/-- R346: the KIND, the pin (for kinds 6 and 9 the leaf) and the SUB of a trim, by number. -/
def trimOf (i : Nat) : Nat × Nat × Nat :=
  if i < 576 then (1, i / 4, i % 4)
  else if i < 720 then (2, i - 576, 0)
  else if i < 1008 then (3, (i - 720) / 2, (i - 720) % 2)
  else if i < 1584 then (4, (i - 1008) / 4, (i - 1008) % 4)
  else if i < 3024 then (5, (i - 1584) / 10, (i - 1584) % 10)
  else if i < 3056 then (6, (i - 3024) / 2, (i - 3024) % 2)
  else if i < 3776 then (7, (i - 3056) / 5, (i - 3056) % 5 + 1)
  else if i < 4064 then (8, (i - 3776) / 2, (i - 3776) % 2)
  else
    let c := (i - 4064) % 11
    (9, (i - 4064) / 11, if c < 4 then c + 1 else c + 5)

/-- R346: the leaf a trim belongs to. -/
def trimLeaf (i : Nat) : Nat :=
  let (k, p, _) := trimOf i
  if k = 6 ∨ k = 9 then p else p / 9

/-- R353: the PIN that stands for a trim: for a kind held per leaf, the first pin of the leaf. -/
def trimPin (i : Nat) : Nat :=
  let (k, p, _) := trimOf i
  if k = 6 ∨ k = 9 then 9 * p else p

/-- R346: the range of a KIND, in taps. -/
def trimRange (k : Nat) : Int × Int :=
  if k = 1 ∨ k = 3 then (-1024, 1023)
  else if k = 2 then (0, 127)
  else if k = 4 ∨ k = 5 ∨ k = 6 then (-4096, 4095)
  else if k = 7 ∨ k = 8 then (-2560, 2560)
  else (0, 65535)

/-- R145, R346: the cell that shows a DESKEW trim. -/
def deskewFld (sub : Nat) : Fld :=
  if sub = 1 then F.TS_DESKEW_A_E1 else if sub = 2 then F.TS_DESKEW_A_E2 else if sub = 3 then F.TS_DESKEW_A_E3
  else if sub = 4 then F.TS_DESKEW_A_E4W else F.TS_DESKEW_B_E4S

/-- R359: the live value of a trim. -/
def State.liveTrim (s : State) (i : Nat) : Int :=
  let (k, p, sub) := trimOf i
  if k = 7 then sx 13 (s.rd (deskewFld sub) p) else (Table.get? s.cal.live i).getD 0

/-- R359: the live value of a trim, set. -/
def State.setLive (s : State) (i : Nat) (v : Int) : State :=
  let (k, p, sub) := trimOf i
  if k = 7 then s.wr (deskewFld sub) p (twos 13 v)
  else { s with cal := { s.cal with live := if v = 0 then Table.erase s.cal.live i else Table.set s.cal.live i v } }

/-! ### Lockets and targets (R354, R357, R360) -/

/-- A trim of the locket in a slot. -/
def State.lktTrim (s : State) (k i : Nat) : Int := (Table.get? ((Table.get? s.cal.lockets k).getD []) i).getD 0

/-- R355: a locket's set point for a leaf. -/
def State.lktTemp (s : State) (k l : Nat) : Int := sx 16 (s.rd F.CAL_LKT_T (k * 16 + l))

/-- R357: the better of two candidates: the nearer set point; on equal ones the higher SEQ. -/
def State.lktBetter (s : State) (l : Nat) (t : Int) (a b : Nat) : Nat :=
  let da := (s.lktTemp a l - t).natAbs
  let db := (s.lktTemp b l - t).natAbs
  if db < da then b else if db = da ∧ s.rd F.CAL_LKT_INFO_SEQ a < s.rd F.CAL_LKT_INFO_SEQ b then b else a

/-- The best of some lockets for a leaf at a temperature. -/
def State.lktBest (s : State) (l : Nat) (t : Int) : List Nat → Option Nat
  | [] => none
  | k :: ks => match State.lktBest s l t ks with | none => some k | some b => some (s.lktBetter l t k b)

/-- R357: the lockets a and b between which a leaf's targets lie at a temperature. -/
def State.leafSpan (s : State) (force : List Nat) (l : Nat) (t : Int) : Option (Nat × Nat) :=
  let a := s.lktBest l t (force.filter (fun k => decide (s.lktTemp k l ≤ t)))
  let b := s.lktBest l t (force.filter (fun k => decide (t ≤ s.lktTemp k l)))
  match a, b with
  | some a, some b => some (a, b)
  | some a, none => some (a, a)
  | none, some b => some (b, b)
  | none, none => none

/-- R357: a quotient rounded to the nearest whole number, halves away from zero. -/
def roundAway (num : Int) (den : Nat) : Int :=
  if 0 ≤ num then ((2 * num + den) / (2 * den : Nat)) else -((-2 * num + den) / (2 * den : Nat))

/-- R357: the value between two lockets at a temperature. -/
def interpolate (va vb t ta tb : Int) : Int :=
  if ta = tb then va else roundAway (va * (tb - ta) + (vb - va) * (t - ta)) (tb - ta).natAbs

/-- R357: a trim's target for a span of lockets at a temperature; with no locket in force the factory trim. -/
def State.targetAt (s : State) (span : Option (Nat × Nat)) (t : Int) (i : Nat) : Int :=
  match span with
  | none => (Table.get? s.cal.factory i).getD 0
  | some (a, b) => interpolate (s.lktTrim a i) (s.lktTrim b i) t (s.lktTemp a (trimLeaf i)) (s.lktTemp b (trimLeaf i))

/-- A leaf's interposer temperature. -/
def State.leafTemp (s : State) (l : Nat) : Int := sx 16 (s.rd F.CAL_TLEAF_T l)

/-- R357, R358: the targets of a leaf's trims: those of its temperature, or the frozen ones. -/
def State.target (s : State) (spans : List (Option (Nat × Nat))) (i : Nat) : Int :=
  let l := trimLeaf i
  if (s.rd F.CAL_STATUS_FROZEN 0).testBit l then (Table.get? s.cal.frozen i).getD 0
  else s.targetAt (spans.getD l none) (s.leafTemp l) i

/-- The spans of the 16 leaves. -/
def State.spans (s : State) : List (Option (Nat × Nat)) :=
  let f := s.inForce
  (List.range 16).map (fun l => s.leafSpan f l (s.leafTemp l))

/-- R359: one tap toward a target. -/
def tapToward (v target : Int) : Int := if v < target then v + 1 else if target < v then v - 1 else v

/-- No locket, no factory trim and no live trim differs from 0: every trim stands at its target. -/
def State.calStill (s : State) : Bool :=
  s.inForce.isEmpty && s.cal.factory.isEmpty && s.cal.live.isEmpty && s.cal.frozen.isEmpty
    && !s.regs.any (fun e => decide (F.TS_DESKEW_A_E1.key ≤ e.1 % 1024) && decide (e.1 % 1024 ≤ F.TS_DESKEW_B_E4S.key))

/-- R359: every live trim moves at most one tap toward its target; the leaves that still slew are marked. -/
def State.slewTrims (s : State) : State :=
  if s.calStill then { s with cal := { s.cal with slew := 0 } }
  else
    let sp := s.spans
    let ids := List.range trimCount
    let s1 := ids.foldl (fun (s1 : State) i =>
      let v := s1.liveTrim i
      let v' := tapToward v (s1.target sp i)
      if v' = v then s1 else s1.setLive i v') s
    let off := ids.filter (fun i => s1.liveTrim i != s1.target sp i)
    { s1 with cal := { s1.cal with slew := maskOf ((off.map trimLeaf).eraseDups) } }

/-- R359: the trim DACs of leaves that do not play take the live trims at once. -/
def State.idleDacs (s : State) : State :=
  (List.range 16).foldl (fun (s : State) l =>
    if (s.leaf l).phase = .play ∨ ((Table.get? s.cal.dac l).getD []) = s.cal.live then s else s.latchTrims l) s

/-- R357: the locket in force nearest the mean leaf temperature. -/
def State.meanLocket (s : State) : Option Nat :=
  let ts := (List.range 16).map s.leafTemp
  let m := roundAway (ts.foldl (· + ·) 0) 16
  (s.inForce.foldl (fun (b : Option (Nat × Nat)) k =>
    let d := (sx 16 (s.rd F.CAL_LKT_INFO_SETPT k) - m).natAbs
    match b with
    | some (_, d0) => if d < d0 then some (k, d) else b
    | none => some (k, d)) none).map (·.1)

/-- R146, R357: the common constant in force. -/
def State.commonConstant (s : State) : Int := match s.meanLocket with | some k => s.lktTrim k trimCount | none => (Table.get? s.cal.factory trimCount).getD 0

/-- R346, R357: the checksum of the factory data that goes with it. -/
def State.factorySum (s : State) : Nat :=
  match s.meanLocket with | some k => (s.lktTrim k (trimCount + 1)).toNat | none => Config.factoryChecksum.toNat

/-! ### Temperature of a leaf (R358, R386) -/

/-- R358: a leaf's reading: its temperature, or none while it is implausible, which freezes the leaf's targets. -/
def State.leafReading (s : State) (l : Nat) (t : Option Int) : State :=
  let fz := s.rd F.CAL_STATUS_FROZEN 0
  match t with
  | some v =>
    let keep := s.cal.frozen.filter (fun e => trimLeaf e.1 != l)
    { s with cal := { s.cal with frozen := keep } }.wrs
      [(F.CAL_TLEAF_T, l, twos 16 v), (F.CAL_STATUS_FROZEN, 0, setBit fz l false)]
  | none =>
    if fz.testBit l then s
    else
      let sp := s.leafSpan s.inForce l (s.leafTemp l)
      let mine := ((List.range trimCount).filter (fun i => trimLeaf i == l)).map (fun i => (i, s.targetAt sp (s.leafTemp l) i))
      let fr := mine.foldl (fun (f : Table Int) e => if e.2 = 0 then f else Table.set f e.1 e.2) s.cal.frozen
      { s with cal := { s.cal with frozen := fr } }.wrs [(F.CAL_TLEAF_T, l, 0x8000), (F.CAL_STATUS_FROZEN, 0, setBit fz l true)]

/-! ### Due and extrapolated (R358, R360) -/

/-- CAL_STATUS as it reads. -/
def State.calStatus (s : State) : Nat :=
  pack [(0, 2, s.rd F.CAL_STATUS_STATE 0), (2, 1, s.rd F.CAL_STATUS_NONE 0), (3, 1, s.rd F.CAL_STATUS_DUE 0),
        (4, 1, s.rd F.CAL_STATUS_DUE_SEEN 0), (5, 1, s.rd F.CAL_STATUS_REF_DRIFT 0), (6, 1, s.rd F.CAL_STATUS_SAT 0),
        (8, 8, s.rd F.CAL_STATUS_REJECT 0), (16, 16, s.rd F.CAL_STATUS_EXTRAP 0), (32, 16, s.cal.slew),
        (48, 16, s.rd F.CAL_STATUS_FROZEN 0)]

/-- R358: the leaf's temperature lies more than 5 °C outside the set points in force, or its targets are frozen, or no locket is in
force. -/
def State.extrapolated (s : State) (force : List Nat) (l : Nat) : Bool :=
  let t := s.leafTemp l
  (s.rd F.CAL_STATUS_FROZEN 0).testBit l || force.all (fun k => decide (t < s.lktTemp k l - 500))
    || force.all (fun k => decide (s.lktTemp k l + 500 < t))

/-- R360: the leaf lies more than CAL_DT from its governing locket. -/
def State.leafDue (s : State) (force : List Nat) (l : Nat) : Bool :=
  !(s.rd F.CAL_STATUS_FROZEN 0).testBit l
    && force.all (fun k => decide (100 * s.rd F.CAL_CFG_DT 0 < (s.lktTemp k l - s.leafTemp l).natAbs))

/-- R358: EXTRAP follows, with an event for each leaf whose episode begins. -/
def State.followExtrap (s : State) : State :=
  let f := s.inForce
  let old := s.rd F.CAL_STATUS_EXTRAP 0
  let new := maskOf ((List.range 16).filter (s.extrapolated f))
  let s1 := s.wr F.CAL_STATUS_EXTRAP 0 new
  (maskList 16 new).foldl (fun (s : State) l => if old.testBit l then s else s.raise 0xF4 0 s.calStatus 0) s1

/-- R360: DUE follows, with DUE_SEEN and an event where an episode begins. -/
def State.followDue (s : State) : State :=
  let f := s.inForce
  let due := f.isEmpty || (List.range 16).any (s.leafDue f)
  let old := s.on F.CAL_STATUS_DUE 0
  let s1 := s.wr F.CAL_STATUS_DUE 0 (bit due)
  if due then
    if old then s1 else let s2 := s1.flag F.CAL_STATUS_DUE_SEEN 0; s2.raise 0xF3 0 s2.calStatus 0
  else { s1 with cal := { s1.cal with tried := false } }

/-! ### Starting a procedure (R347, R361) -/

/-- R347: the partner a pin declares. -/
def State.partner (s : State) (p : Nat) : Nat := s.rd F.CAL_PARTNER_PARTNER p

/-- R347: the declared map is sound. -/
def State.mapOk (s : State) (full : Bool) : Bool :=
  (List.range 144).all (fun p =>
    let q := s.partner p
    if q = 0xFF then !full else q != p && s.partner q == p)

/-- R347: the code of the first check that a start fails; 0 where it passes all. -/
def State.calCheck (s : State) (proc : Nat) : Nat :=
  let m := s.rd F.MNT_STATUS_STATE 0
  if s.calBusy ∨ s.cal.startAt.isSome ∨ s.anyBusy then 1
  else if (s.mstate ≠ mStandby ∧ s.mstate ≠ mMounted) ∨ s.rd F.ID_STAT_STATE 0 = 5 ∨ m = 1 ∨ m = 3 then 2
  else if s.rd F.CAL_LBID_ID 0 = 0 then 3
  else if s.mapOk (proc == 0) = false then 4
  else if s.on F.TMU_REF_SRC 0 ∨ s.on F.TMU_DLL_LOCK 0 = false then 5
  else if (List.range 16).any (fun l => s.on F.PL_LEAF_OOS l) then 6
  else if proc = 1 ∧ s.inForce.all (fun k => s.on F.CAL_LKT_INFO_KIND k) then 7
  else 0

/-- R347: a start accepted: it begins at the first tick boundary after it registers. -/
def State.calAccept (s : State) (proc : Nat) (auto : Bool) : State :=
  { s with cal := { s.cal with startAt := some (s.tick + 1), proc := proc, auto := auto, autoSince := none } }.wr
    F.CAL_STATUS_REJECT 0 0

/-- R347: CAL_CTL.START. -/
def calStart (proc : Nat) (s : State) : State × Ans :=
  if 2 ≤ proc then (s, .rejected rRANGE 0)
  else
    let c := s.calCheck proc
    if c ≠ 0 then (s.wr F.CAL_STATUS_REJECT 0 c, .rejected rBLOCK_REJECT c) else (s.calAccept proc false, .ok)

/-- R356: CAL_CTL.DELETE. -/
def calDelete (slot : Nat) (s : State) : State × Ans :=
  if s.calBusy ∨ s.cal.startAt.isSome then (s, .rejected rCAL_BUSY 0)
  else ({ s with cal := { s.cal with deletes := s.cal.deletes ++ [(s.tick + 1, slot)] } }, .ok)

/-- R354: CAL_CTL.RESCAN, with what the EEPROM answers. -/
def calRescan (e : Option Nat) (s : State) : State × Ans :=
  if s.anyBusy then (s, .rejected rSTATE 0) else (s.readLbid e, .ok)

/-- R362: a write of CAL_CTL. -/
def wrCalCtl (e : Option Nat) (s : State) (data : Nat) : State × Ans :=
  if 1 < popcount 4 data then (s, .rejected rACTION_BITS 0)
  else if data.testBit 0 then calStart (bits data 8 2) s
  else if data.testBit 1 then (s.calCancel 0x20, .ok)
  else if data.testBit 2 then calDelete (bits data 16 5) s
  else if data.testBit 3 then calRescan e s
  else (s, .ok)

/-- CAL_START_FULL: a write of CAL_CTL.START with PROC FULL. -/
def execCalStartFull (h : Hdr) (s : State) : Host.Outcome State Fault Refusal :=
  .next (s.request h 0x370000 (.write64 1) (fun s => wrCalCtl none s 1))

/-- CAL_START_DRIFT: a write of CAL_CTL.START with PROC DRIFT. -/
def execCalStartDrift (h : Hdr) (s : State) : Host.Outcome State Fault Refusal :=
  .next (s.request h 0x370000 (.write64 0x101) (fun s => wrCalCtl none s 0x101))

/-- CAL_CANCEL: a write of CAL_CTL.CANCEL. -/
def execCalCancel (h : Hdr) (s : State) : Host.Outcome State Fault Refusal :=
  .next (s.request h 0x370000 (.write64 2) (fun s => wrCalCtl none s 2))

/-- DELETE: a write of CAL_CTL.DELETE with a slot. -/
def execDelete (h : Hdr) (slot : Fin 32) (s : State) : Host.Outcome State Fault Refusal :=
  .next (s.request h 0x370000 (.write64 (4 + slot.val * 65536)) (fun s => wrCalCtl none s (4 + slot.val * 65536)))

/-- RESCAN: a write of CAL_CTL.RESCAN; `eeprom` is what the EEPROM answers, byte 0 lowest, none where it does not. -/
def execRescan (h : Hdr) (eeprom : Option (BitVec 80)) (s : State) : Host.Outcome State Fault Refusal :=
  .next (s.request h 0x370000 (.write64 8) (fun s => wrCalCtl (eeprom.map (·.toNat)) s 8))

/-- A second in tu. -/
def secTu : Nat := 1280000000000

/-- CAL_AUTO_START (R361): DUE has held, with every check passing, for IDLE_S seconds: the module starts DRIFT itself. -/
def calAutoStart (s : State) : State :=
  match s.cal.autoSince with
  | some t =>
    if s.on F.CAL_CFG_AUTO 0 ∧ s.cal.tried = false ∧ s.calCheck 1 = 0 ∧ t + s.rd F.CAL_CFG_IDLE_S 0 * secTu ≤ s.now then
      s.calAccept 1 true
    else s
  | none => s

/-- CAL_AUTO_START. -/
def execCalAutoStart (s : State) : Host.Outcome State Fault Refusal := .next (calAutoStart s)

/-- R361: since when an automatic start could have begun. -/
def State.followAuto (s : State) : State :=
  if s.on F.CAL_CFG_AUTO 0 && s.on F.CAL_STATUS_DUE 0 && !s.cal.tried && s.calCheck 1 == 0 then
    (match s.cal.autoSince with
     | some _ => s
     | none => { s with cal := { s.cal with autoSince := some s.now } })
  else { s with cal := { s.cal with autoSince := none } }

/-! ### The tick boundary -/

/-- R356: the slot is free. -/
def State.freeLocket (s : State) (k : Nat) : State :=
  ({ s with cal := { s.cal with lockets := Table.erase s.cal.lockets k } }.wrs
    ([(F.CAL_LKT_INFO_VALID, k, 0), (F.CAL_LKT_INFO_KIND, k, 0), (F.CAL_LKT_INFO_SETPT, k, 0), (F.CAL_LKT_INFO_SEQ, k, 0),
      (F.CAL_LKT_LBID_ID, k, 0)] ++ (List.range 16).map (fun l => (F.CAL_LKT_T, k * 16 + l, 0)))).lktRefresh

/-- R348: a procedure holds every pin: driver off, HIZ termination. -/
def State.calPins (s : State) : State :=
  let d : Table PinDrv := (List.range 9).map (fun j => (j, { on := false, high := false, term := 0 }))
  (List.range 16).foldl (fun (s : State) l => s.setLeaf l { s.leaf l with drv := d }) s

/-- R347: a start whose tick has come begins. -/
def State.calBegin (s : State) : State :=
  match s.cal.startAt with
  | some n => if n ≤ s.tick then ({ s with cal := { s.cal with startAt := none } }.wr F.CAL_STATUS_STATE 0 1).calPins else s
  | none => s

/-- R356, R347, R359, R358, R360, R361: what calibration does at a tick boundary. -/
def State.calTick (s : State) : State :=
  let gone := s.cal.deletes.filter (fun e => decide (e.1 ≤ s.tick))
  let s1 := gone.foldl (fun (s : State) e => s.freeLocket e.2)
    { s with cal := { s.cal with deletes := s.cal.deletes.filter (fun e => decide (s.tick < e.1)) } }
  ((((s1.calBegin).slewTrims).idleDacs).followExtrap).followDue.followAuto

/-! ### The outcome (R350 to R355) -/

/-- R351, R353, R355: CAL_RESULT set. -/
def State.calResult (s : State) (outcome reason pin kind sub value slot : Nat) : State :=
  s.wrs [(F.CAL_RESULT_OUTCOME, 0, outcome), (F.CAL_RESULT_REASON, 0, reason), (F.CAL_RESULT_PIN, 0, pin), (F.CAL_RESULT_KIND, 0, kind),
         (F.CAL_RESULT_SUB, 0, sub), (F.CAL_RESULT_VALUE, 0, value), (F.CAL_RESULT_SLOT, 0, slot)]

/-- CAL_RESULT as it reads. -/
def State.calResultWord (s : State) : Nat :=
  pack [(0, 3, s.rd F.CAL_RESULT_OUTCOME 0), (8, 8, s.rd F.CAL_RESULT_REASON 0), (16, 8, s.rd F.CAL_RESULT_PIN 0),
        (24, 4, s.rd F.CAL_RESULT_KIND 0), (28, 4, s.rd F.CAL_RESULT_SUB 0), (32, 24, s.rd F.CAL_RESULT_VALUE 0),
        (56, 5, s.rd F.CAL_RESULT_SLOT 0)]

/-- R348: the procedure has ended: the pins park. -/
def State.calEnd (s : State) (failed : Bool) : State :=
  let tried := if s.cal.auto then s.cal.tried || failed else false
  ({ s with cal := { s.cal with auto := false, tried := tried, staged := none } }.wr F.CAL_STATUS_STATE 0 0).parkPins (List.range 16)

/-- R351: the precondition check fails. -/
def State.calPrecond (s : State) (reason pin value : Nat) : State :=
  let s1 := (s.calEnd true).calResult 2 reason pin 0 0 value 0
  (s1.bump F.CAL_REJ_COUNT_COUNT 0 1 F.CAL_STATUS_SAT 0 15 0x28).raise 0xF2 0 s1.calResultWord 0

/-- R353: the new set is discarded. -/
def State.calRejected (s : State) (reason pin kind sub : Nat) (value : Int) : State :=
  let s1 := (s.calEnd true).calResult 3 reason pin kind sub (twos 24 value) 0
  (s1.bump F.CAL_REJ_COUNT_COUNT 0 1 F.CAL_STATUS_SAT 0 15 0x28).raise 0xF1 0 s1.calResultWord 0

/-- The mean of some temperatures, rounded as R357 rounds. -/
def meanTemp (ts : List Int) : Int := roundAway (ts.foldl (· + ·) 0) ts.length

/-- R348: the FULL locket in force whose set point is nearest the mean leaf temperature. -/
def State.baseLocket (s : State) (ts : List Int) : Option Nat :=
  let m := meanTemp ts
  ((s.inForce.filter (fun k => !s.on F.CAL_LKT_INFO_KIND k)).foldl (fun (b : Option (Nat × Nat)) k =>
    let d := (sx 16 (s.rd F.CAL_LKT_INFO_SETPT k) - m).natAbs
    match b with
    | some (_, d0) => if d < d0 then some (k, d) else b
    | none => some (k, d)) none).map (·.1)

/-- R348: the new trims: as measured, or for DRIFT the base locket's DESKEW and TMU trims changed. -/
def State.newTrims (s : State) (c : CalIn) (ts : List Int) : List Int :=
  let m := c.trims.map (·.toInt)
  match (if s.cal.proc = 1 then s.baseLocket ts else none) with
  | none => (List.range (trimCount + 1)).map (fun i => m.getD i 0)
  | some b => (List.range (trimCount + 1)).map (fun i =>
      let k := (trimOf i).1
      if i < trimCount ∧ (k = 7 ∨ k = 8) then s.lktTrim b i + m.getD i 0 else m.getD i 0)

/-- R355: the locket the new one replaces: within 3 °C of its set point (the nearest); none when fewer than 8 exist; otherwise the
nearest. -/
def State.replaces (s : State) (setpt : Int) : Option Nat :=
  let f := s.inForce
  let best := f.foldl (fun (b : Option (Nat × Nat)) k =>
    let d := (sx 16 (s.rd F.CAL_LKT_INFO_SETPT k) - setpt).natAbs
    match b with
    | some (_, d0) => if d < d0 then some (k, d) else b
    | none => some (k, d)) none
  match best with
  | some (k, d) => if d ≤ 300 ∨ 8 ≤ f.length then some k else none
  | none => none

/-- R352: the value before: the replaced locket's, or the target at the new leaf temperatures. -/
def State.prevTrim (s : State) (rep : Option Nat) (ts : List Int) (i : Nat) : Option Int :=
  match rep with
  | some k => some (s.lktTrim k i)
  | none =>
    let l := trimLeaf i
    let t := ts.getD l 0
    match s.leafSpan s.inForce l t with
    | none => none
    | some sp => some (s.targetAt (some sp) t i)

/-- R352: the trims of the 9 pins of a leaf that share a KIND and a SUB. -/
def spreadGroup (i : Nat) : List Nat :=
  let (k, p, sub) := trimOf i
  let l := p / 9
  (List.range trimCount).filter (fun j => let (k', p', sub') := trimOf j; k' == k && sub' == sub && p' / 9 == l)

/-- R352: the largest minus the smallest of some values. -/
def spreadOf (vs : List Int) : Int := vs.foldl max (vs.headD 0) - vs.foldl min (vs.headD 0)

/-- R352: the trim lies outside its factory window. -/
def State.windowBad (s : State) (v : List Int) (i : Nat) : Bool :=
  let (lo, hi) := (Table.get? s.cal.windows i).getD (trimRange (trimOf i).1)
  let x := v.getD i 0
  decide (x < lo) || decide (hi < x)

/-- R352: the trim differs from its previous value by more than 25 % of its range. -/
def State.stepBad (s : State) (rep : Option Nat) (ts v : List Int) (i : Nat) : Bool :=
  let (lo, hi) := trimRange (trimOf i).1
  match s.prevTrim rep ts i with
  | some p => decide (hi - lo < 4 * ((v.getD i 0 - p).natAbs : Int))
  | none => false

/-- R352: the spread over the pins of the trim's leaf exceeds its limit. -/
def State.spreadBad (s : State) (v : List Int) (i : Nat) : Bool :=
  let (k, _, sub) := trimOf i
  if k = 6 ∨ k = 9 then false
  else match Table.get? s.cal.spread (16 * k + sub) with
    | some lim => decide ((lim : Int) < spreadOf ((spreadGroup i).map (fun j => v.getD j 0)))
    | none => false

/-- R352: the first check that fails: its reason and the first offending trim. -/
def State.trimFault (s : State) (rep : Option Nat) (ts v : List Int) : Option (Nat × Nat) :=
  let ids := List.range trimCount
  match ids.find? (s.windowBad v) with
  | some i => some (1, i)
  | none =>
    match ids.find? (s.stepBad rep ts v) with
    | some i => some (2, i)
    | none => (ids.find? (s.spreadBad v)).map (fun i => (3, i))

/-- R355: the slot a new locket is written to: a free one, or that of the oldest locket of another loadboard. -/
def State.lktSlot (s : State) : Nat :=
  match (List.range 32).find? (fun k => !s.on F.CAL_LKT_INFO_VALID k) with
  | some k => k
  | none =>
    ((List.range 32).filter (fun k => s.rd F.CAL_LKT_LBID_ID k != s.rd F.CAL_LBID_ID 0)).foldl
      (fun b k => if b = 32 ∨ s.rd F.CAL_LKT_INFO_SEQ k < s.rd F.CAL_LKT_INFO_SEQ b then k else b) 32

/-- R355: the new locket written, and the one it replaces freed. -/
def State.writeLocket (s : State) (rep : Option Nat) (ts v : List Int) : State :=
  let k := s.lktSlot
  let s1 := s.freeLocket k
  let t : Table Int := ((List.range (trimCount + 2)).zip (v ++ [(Config.factoryChecksum.toNat : Int)])).filter (fun e => e.2 != 0)
  let s2 := { s1 with cal := { s1.cal with lockets := Table.set s1.cal.lockets k t, nextSeq := s1.cal.nextSeq + 1 } }.wrs
    ([(F.CAL_LKT_INFO_VALID, k, 1), (F.CAL_LKT_INFO_KIND, k, s.cal.proc), (F.CAL_LKT_INFO_SETPT, k, twos 16 (meanTemp ts)),
      (F.CAL_LKT_INFO_SEQ, k, s.cal.nextSeq), (F.CAL_LKT_LBID_ID, k, s.rd F.CAL_LBID_ID 0)]
      ++ (List.range 16).map (fun l => (F.CAL_LKT_T, k * 16 + l, twos 16 (ts.getD l 0))))
  let s3 := match rep with | some r => s2.freeLocket r | none => s2.lktRefresh
  let s4 := (s3.calEnd false).calResult 1 0 0xFF 0 0 0 k
  s4.raise 0xF0 0 s4.calResultWord 0

/-- R350: the first measurement that fails the precondition check, pass 1 pin by pin, then pass 2 over the pins with a partner: its REASON, the
pin, the value. -/
def State.calPre (s : State) (c : CalIn) : Option (Nat × Nat × BitVec 24) :=
  let (op, lk, ct) := (fun p => c.opens.getD p 0, fun p => c.leaks.getD p 0, fun p => c.conts.getD p 100000)
  let pass1 (p : Nat) : Option (Nat × Nat × BitVec 24) :=
    if 5000 < (op p).toInt.natAbs then some (0x10, p, op p)
    else if 1000000 ≤ (lk p).toInt.natAbs then some (0x11, p, lk p) else none
  let pass2 (p : Nat) : Option (Nat × Nat × BitVec 24) :=
    if s.partner p ≠ 0xFF ∧ 5000 < ((ct p).toInt - 100000).natAbs then some (0x12, p, ct p) else none
  match (List.range 144).findSome? pass1 with
  | some r => some r
  | none => (List.range 144).findSome? pass2

/-- R355: the locket of a set that has passed its checks is written, at a tick boundary, unless the flash fails its read-back. -/
def State.calWrite (s : State) (c : CalIn) (ts v : List Int) : State :=
  if c.flashBad then s.calCancel 0x25 else if s.sub = 0 then s.writeLocket (s.replaces (meanTemp ts)) ts v else s

/-- R345, R348, R352: steps 2 to 5, and the checks of their result. -/
def State.calSteps (s : State) (c : CalIn) : State :=
  if 50000 < c.ratio.toInt.natAbs then
    let s1 := s.flag F.CAL_STATUS_REF_DRIFT 0
    (s1.raise 0xF5 0 s1.calStatus 0).calRejected 5 0xFF 0 0 0
  else if c.refLost then s.calCancel 0x24
  else
    let ts := (List.range 16).map (fun l => (c.temps.getD l 0).toInt)
    let v := s.newTrims c ts
    match s.trimFault (s.replaces (meanTemp ts)) ts v with
    | some (r, i) => s.calRejected r (trimPin i) (trimOf i).1 (trimOf i).2.2 (v.getD i 0)
    | none =>
      match (List.range 16).find? (fun l => decide (200 < (c.moves.getD l 0).toNat)), c.noEdge with
      | some l, _ => s.calRejected 4 (9 * l) 0 0 0
      | none, some p => s.calRejected 6 p.val 0 0 0
      | none, none =>
        if c.upTo.val < 2 then { s with cal := { s.cal with staged := some (ts, v) } }.wr F.CAL_STATUS_STATE 0 3
        else s.calWrite c ts v

/-- CAL_COMPLETE (R345, R348, R350 to R355): the procedure goes on through the stages that have come to their end, and ends: refused by its
precondition or plausibility checks, cancelled, or, at a tick boundary, with its locket written. -/
def calComplete (c : CalIn) (s : State) : State :=
  match s.rd F.CAL_STATUS_STATE 0, s.cal.staged with
  | 0, _ => s
  | 1, _ =>
    match s.calPre c with
    | some (r, p, v) => s.calPrecond r p v.toNat
    | none =>
      let s1 := s.wr F.CAL_STATUS_STATE 0 2
      if c.upTo.val = 0 then s1 else s1.calSteps c
  | 3, some (ts, v) => s.calWrite c ts v
  | _, _ => s.calSteps c

/-- CAL_COMPLETE. -/
def execCalComplete (c : CalIn) (s : State) : Host.Outcome State Fault Refusal := .next (calComplete c s)

/-! ### Registers (R362) -/

/-- R362: a write of CAL_CFG. -/
def wrCalCfg (s : State) (data : Nat) : State × Ans :=
  let dt := bits data 8 8
  let idle := bits data 16 16
  if dt < 1 ∨ 50 < dt ∨ idle < 1 ∨ 3600 < idle then (s, .rejected rRANGE 0)
  else (s.wrs [(F.CAL_CFG_AUTO, 0, bits data 0 1), (F.CAL_CFG_DT, 0, dt), (F.CAL_CFG_IDLE_S, 0, idle)], .ok)

/-- R362: a write of CAL_PARTNER. -/
def wrCalPartner (p : Nat) (s : State) (data : Nat) : State × Ans :=
  let v := bits data 0 8
  if 143 < v ∧ v ≠ 0xFF then (s, .rejected rRANGE 0)
  else if s.calBusy ∨ s.cal.startAt.isSome then (s, .rejected rCAL_BUSY 0)
  else (s.wr F.CAL_PARTNER_PARTNER p v, .ok)

end Sys2Proof.Machine
end

