-- ==== Sys2Proof/Machine/Place.lean ====
section
/-! DEFINITION. The placement planner: run sets, plans, residency, replicas and exposed strands (14_placement.md R306 to R325,
R428). -/

namespace Sys2Proof.Machine

/-! ### The table (R306) -/

/-- R306: an entry as it is read. -/
def pentOf (w : Nat) : PEnt :=
  { unit := bits w 0 10, cluster := w.testBit 10, strand := bits w 16 16, pmin := bits w 32 32, entry := w.testBit 64,
    target := w.testBit 65, hintPin := w.testBit 66, hintStream := w.testBit 67,
    home := if w.testBit 72 then some (bits w 68 4) else none }

/-- R306: the entries of a table in DRAM. -/
def State.planTable (s : State) (a n : Nat) : List Nat :=
  (List.range (n / 16)).map (fun i => ofBytes (s.dram.read (a + 16 * i) 16))

/-- R308: the units that a list of entries names. -/
def namedUnits (l : List PEnt) : List Nat := (l.map PEnt.uix).eraseDups

/-- R308: the entries kept from the plan in force: those of units the table does not name. -/
def State.retained (s : State) (table : List PEnt) : List PEnt :=
  s.pl.cur.runset.filter (fun e => !(namedUnits table).contains e.uix)

/-- R311: the leaves of this module that play a strand under a run set. -/
def State.playersOf (s : State) (rs : List PEnt) (strand : Nat) : List Nat :=
  sortLeaves ((rs.filter (fun e => e.strand == strand)).flatMap (fun e => s.leavesOf e.uix))

/-! ### Residency (R314, R315) -/

/-- R314: the residency a strand must have under a run set: 1 PINNED, 2 LANDING, 0 none. -/
def State.mandatory (s : State) (rs : List PEnt) (strand : Nat) : Nat :=
  let len := dLen (s.desc strand)
  if len = 0 then 0
  else if rs.any (fun e => e.strand == strand && (e.entry || e.target)) then (if len = 4 then 1 else 2) else 0

/-- R64: the pinned slots a strand takes under a residency. -/
def State.slotsOf (s : State) (strand res : Nat) : Nat :=
  if res = 1 then dLen (s.desc strand) else if res = 2 then 4 else 0

/-- R314: a leaf's mandatory slots. -/
def State.mandSlots (s : State) (rs : List PEnt) (l : Nat) : Nat :=
  ((s.strandsOn rs l).map (fun st => s.slotsOf st (s.mandatory rs st))).foldl (· + ·) 0

/-- R253: a leaf's bounds on its pinned region. -/
def State.leafRec (s : State) (l : Nat) : LeafRec := match s.mnt.img with | some g => g.leafRecs.getD l {} | none => {}

/-- R314: a leaf's pinned region, in units of 256 slots. -/
def State.pinUnits (s : State) (rs : List PEnt) (l : Nat) : Nat := max (s.leafRec l).pinMin (ceilDiv (s.mandSlots rs l) 256)

/-- R314: some leaf's mandatory residency does not fit. -/
def State.cacheFails (s : State) (rs : List PEnt) : Bool :=
  (List.range 16).any (fun l => decide ((s.leafRec l).pinMax < s.pinUnits rs l))

/-- A residency by strand. -/
abbrev ResMap := Table Nat

/-- The residency a map gives. -/
def ResMap.of (m : ResMap) (st : Nat) : Nat := (Table.get? m st).getD 0

/-- The pinned slots of a leaf that a map takes. -/
def State.usedOn (s : State) (rs : List PEnt) (m : ResMap) (l : Nat) : Nat :=
  ((s.strandsOn rs l).map (fun st => s.slotsOf st (m.of st))).foldl (· + ·) 0

/-- R315: one candidate: made PINNED when its beads fit the free pinned slots of every leaf that plays it. -/
def State.tryPin (s : State) (rs : List PEnt) (m : ResMap) (st : Nat) : ResMap :=
  let need := s.slotsOf st 1 - s.slotsOf st (m.of st)
  if (s.playersOf rs st).all (fun l => decide (s.usedOn rs m l + need ≤ s.pinUnits rs l * 256)) then Table.set m st 1 else m

/-- R315: the candidates in order: those with HINT_PIN, then the rest without HINT_STREAM, each by the slots still needed and then
by strand ID. -/
def State.candidates (s : State) (rs : List PEnt) (m : ResMap) (sts : List Nat) : List Nat :=
  let need (st : Nat) : Nat := s.slotsOf st 1 - s.slotsOf st (m.of st)
  let order (l : List Nat) : List Nat := l.mergeSort (fun a b => decide (need a < need b) || (need a == need b && decide (a ≤ b)))
  let hint (f : PEnt → Bool) (st : Nat) : Bool := rs.any (fun e => e.strand == st && f e)
  let pin := sts.filter (hint (·.hintPin))
  order pin ++ order ((sts.filter (fun st => !pin.contains st)).filter (fun st => !hint (·.hintStream) st))

/-- R314, R315, R308: the residency of every strand of a run set. A strand that only retained entries name keeps the residency it
has. -/
def State.residency (s : State) (table rs : List PEnt) : ResMap :=
  let all := (rs.map (fun (e : PEnt) => e.strand)).eraseDups
  let mine := all.filter (fun st => table.any (fun e => e.strand == st) && decide (dLen (s.desc st) ≠ 0))
  let m0 : ResMap := all.foldl (fun (m : ResMap) st =>
    Table.set m st (if mine.contains st then s.mandatory rs st else dRes (s.desc st))) ([] : ResMap)
  let m1 : ResMap := (s.candidates rs m0 (mine.filter (fun st => ResMap.of m0 st != 1))).foldl (fun (m : ResMap) st => s.tryPin rs m st) m0
  mine.foldl (fun (m : ResMap) st => if ResMap.of m st = 0 then Table.set m st 3 else m) m1

/-! ### Stream demand (R317) -/

/-- R317: the exact local demand, in MB/s, as a fraction: 4.25 bytes per PMIN_L, summed over leaves. -/
def State.demand (s : State) (rs : List PEnt) (res : Nat → Nat) (local_ : Nat → Bool) : Nat × Nat :=
  (List.range 16).foldl (fun (a : Nat × Nat) l =>
    let p := s.pminOn rs res (fun _ => true) l
    if p = 0 ∨ s.pminOn rs res local_ l = 0 then a else (a.1 * p + 5440000 * a.2, a.2 * p)) (0, 1)

/-- R317: the demand does not fit the healthy subchannels. -/
def State.streamFails (s : State) (d : Nat × Nat) : Bool := decide (17000 * s.healthy * d.2 < d.1)

/-- R332: under MAP_A and MAP_B, the rates of the leaves whose local streamed beads lie on one subchannel do not fit it. -/
def State.scFails (s : State) (rs : List PEnt) (res : Nat → Nat) (local_ : Nat → Bool) : Bool :=
  s.rd F.DM_MAP_STRAND 0 != 2 && [0, 1, 2, 3].any (fun k =>
    let sum := (List.range 16).foldl (fun (a : Nat × Nat) l =>
      let p := s.pminOn rs res (fun _ => true) l
      let on := rs.any (fun e => (s.leavesOf e.uix).contains l && (res e.strand == 2 || res e.strand == 3) && local_ e.strand
        && s.leafOnSc l e.strand k)
      if p = 0 ∨ on = false then a else (a.1 * p + 5440000 * a.2, a.2 * p)) (0, 1)
    decide (17000 * sum.2 < sum.1))

/-! ### The checks (R308, R428) -/

/-- R308, code 0x03: the entry at an index, against the ones before it. -/
def State.entryBad (s : State) (raw : List Nat) (i : Nat) : Bool :=
  let w := raw.getD i 0
  let e := pentOf w
  bits w 11 5 != 0 || bits w 73 55 != 0
    || (if e.cluster then !s.on F.ID_CG_FORMED e.unit
        else (match s.image with | none => true | some g => !g.has e.unit || (g.parent e.unit).isSome || (g.cgOf e.unit).isSome))
    || decide (e.pmin < 1280) || decide (1280000000 < e.pmin) || (e.hintStream && (e.entry || e.target))
    || (raw.take i).any (fun v => bits v 0 11 == bits w 0 11 && bits v 16 16 == bits w 16 16)

/-- R308, code 0x06: the CLASP_NEXT of an entry's strand is not in the same run set. -/
def State.openEntry (s : State) (table : List PEnt) (e : PEnt) : Bool :=
  let d := s.desc e.strand
  !dEnd d && !table.any (fun x => x.uix == e.uix && x.strand == dNext d)

/-- R308, code 0x05: an entry names an unused strand, or its CLASP_NEXT does. -/
def State.unusedEntry (s : State) (e : PEnt) : Bool :=
  let d := s.desc e.strand
  dLen d == 0 || (!dEnd d && dLen (s.desc (dNext d)) == 0)

/-- R428: the first number of entries, added in order to what is retained, with which a check fails. -/
def firstPrefix (n : Nat) (bad : Nat → Bool) : Option Nat := (List.range (n + 1)).find? bad

/-- R428: the item named by the failing prefix of a table: its last entry, or no entry. -/
def prefixAt (table : List PEnt) (code k : Nat) : Nat × Nat × Nat :=
  if k = 0 then (code, 0xFFFFFFFF, 0) else (code, k - 1, (table.getD (k - 1) {}).strand)

/-- R428: the item an index of the table names. -/
def entryAt (table : List PEnt) (code i : Nat) : Nat × Nat × Nat :=
  match table[i]? with
  | some e => (code, i, e.strand)
  | none => (code, 0xFFFFFFFF, 0)

/-- R316: a strand of a table may be homed on another module: HINT_HOME names it, or a bead lies on a faulty subchannel; and it lies at
most 2 hops away. -/
def State.mayHome (s : State) (t : List PEnt) (st h : Nat) : Bool :=
  (t.any (fun e => e.strand == st && e.home == some h) || [0, 1, 2, 3].any (fun k => s.scFaulty k && s.strandOnSc st k))
    && (match s.planHops h s.module with | some hs => decide (hs.length ≤ 2) | none => false)

/-- R316: the module a strand is homed on, and SC0 there. -/
def State.homeOf (s : State) (t : List PEnt) (r : PlanIn) (st : Nat) : Nat × Nat :=
  match r.homes.find? (fun e => e.1.toNat == st) with
  | some e => if s.admitted && s.mayHome t st e.2.1.val then (e.2.1.val, e.2.2.val) else (s.module, 0)
  | none => (s.module, 0)

/-- R319: the module of a strand's replica, among the candidates not its home and at most 2 hops away: the fewest hops, then the fewest
bytes assigned, then the lowest number. Replicas are made with REPLICATE in a cluster of at least 4 ADMITTED modules. -/
def State.replicaOf (s : State) (home : Nat) (r : PlanIn) (st : Nat) : Option Nat :=
  let n := ((List.range 16).filter (fun m => s.rd F.ID_MAP_MSTATE m == 3)).length
  let hops (m : Nat) : Nat := match s.planHops m s.module with | some hs => hs.length | none => 99
  let cs := (r.cands.filter (fun e => e.1.toNat == st && e.2.1.val != home && decide (hops e.2.1.val ≤ 2))).map (fun e =>
    (hops e.2.1.val, e.2.2.toNat, e.2.1.val))
  let less (a b : Nat × Nat × Nat) : Bool :=
    decide (a.1 < b.1) || (a.1 == b.1 && (decide (a.2.1 < b.2.1) || (a.2.1 == b.2.1 && decide (a.2.2 < b.2.2))))
  if s.admitted && s.on F.PL_CFG_REPLICATE 0 && decide (4 ≤ n) then
    match cs with
    | [] => none
    | c :: rest => some (rest.foldl (fun a b => if less b a then b else a) c).2.2
  else none

/-- R315, R316, R319: what a plan gives the strands of a table. -/
def State.placesOf (s : State) (t : List PEnt) (m : ResMap) (r : PlanIn) : List PStrand :=
  (((t.map (fun (e : PEnt) => e.strand)).eraseDups).mergeSort (· ≤ ·)).map (fun st =>
    let (h, k) := s.homeOf t r st
    { strand := st, res := m.of st, home := h, sc0 := k, replica := if m.of st = 1 then none else s.replicaOf h r st })

/-- The placement that a table's plan makes, beside what stays in force. -/
def State.allPlaces (s : State) (t : List PEnt) (m : ResMap) (r : PlanIn) : List PStrand :=
  let new := s.placesOf t m r
  new ++ s.placed.filter (fun x => !new.any (fun y => y.strand == x.strand))

/-- R308: the second-stage checks, in order: the code, entry and strand of the first that fails. -/
def State.planFault (s : State) (p : Plan) (r : PlanIn) : Option (Nat × Nat × Nat) :=
  let t := p.runset
  let kept := s.retained t
  let upTo (k : Nat) : List PEnt := kept ++ t.take k
  let far (code : Nat) (x : Option Nat) : Option (Nat × Nat × Nat) := if s.admitted then x.map (entryAt t code) else none
  let at_ (code : Nat) (x : Option Nat) : Option (Nat × Nat × Nat) := x.map (entryAt t code)
  [at_ 0x03 ((List.range p.raw.length).find? (s.entryBad p.raw)),
   at_ 0x04 (findIx? (fun e => (s.leavesOf e.uix).any (s.on F.PL_LEAF_OOS)) t),
   at_ 0x05 (findIx? s.unusedEntry t), at_ 0x06 (findIx? (s.openEntry t) t), far 0x07 r.descBad, far 0x08 r.runBad,
   (firstPrefix t.length (fun k => s.cacheFails (upTo k))).map (prefixAt t 0x09),
   (firstPrefix t.length (fun k =>
      let res := (s.residency (t.take k) (upTo k)).of
      let here (st : Nat) : Bool := (s.homeOf t r st).1 == s.module
      s.streamFails (s.demand (upTo k) res here) || s.scFails (upTo k) res here)).map (prefixAt t 0x0A),
   (if s.admitted then firstPrefix t.length (fun k =>
      s.linkFails (upTo k) (s.allPlaces (t.take k) (s.residency (t.take k) (upTo k)) r) r.net) else none).map (prefixAt t 0x0B),
   far 0x0C r.spaceBad,
   if s.admitted && r.lost then some (0x0D, 0xFFFFFFFF, 0) else none].findSome? id

/-! ### Layout of the pinned region -/

/-- Beads paired with slots, in order. -/
def allocate (beads : List (Nat × Nat)) (slots : List Nat) : List (Nat × Nat × Nat) :=
  (beads.zip slots).map (fun e => (e.1.1, e.1.2, e.2))

/-- The beads that a leaf's pinned region holds under a residency. -/
def State.pinnedBeads (s : State) (rs : List PEnt) (m : ResMap) (l : Nat) : List (Nat × Nat) :=
  (s.strandsOn rs l).flatMap (fun st => (List.range (s.slotsOf st (m.of st))).map (fun b => (st, b)))

/-- R312: the layout of a leaf: a leaf whose unit the table does not name keeps the slots of beads it still holds; in the others
bead 0 to bead 3 of the ENTRY strands come first, in slots that the plan in force assigns to no bead. -/
def State.layoutOf (s : State) (named : Bool) (rs : List PEnt) (m : ResMap) (l : Nat) : List (Nat × Nat × Nat) :=
  let beads := s.pinnedBeads rs m l
  let cur := (s.cache l).pinned
  let kept := if named then [] else cur.filter (fun e => beads.contains (e.1, e.2.1))
  let rest := beads.filter (fun b => !kept.any (fun e => e.1 == b.1 && e.2.1 == b.2))
  let head (b : Nat × Nat) : Bool := decide (b.2 < 4) && rs.any (fun e => e.strand == b.1 && e.entry)
  let region := List.range (s.pinUnits rs l * 256)
  let taken (k : Nat) : Bool := cur.any (fun e => e.2.2 == k)
  let free := (region.filter (fun k => !kept.any (fun e => e.2.2 == k)))
  kept ++ allocate (rest.filter head ++ rest.filter (fun b => !head b)) (free.filter (fun k => !taken k) ++ free.filter taken)

/-! ### PLAN (R308, R309) -/

/-- PL_REJECT_AT as it reads. -/
def State.plRejectAt (s : State) : Nat := pack [(0, 32, s.rd F.PL_REJECT_AT_ENTRY 0), (32, 16, s.rd F.PL_REJECT_AT_STRAND 0)]

/-- R308, R428: a refusal recorded, and PL_REFUSED raised. -/
def State.planRefuse (s : State) (code entry strand : Nat) : State :=
  let s1 := s.wrs [(F.PL_STATUS_REJECT, 0, code), (F.PL_REJECT_AT_ENTRY, 0, entry), (F.PL_REJECT_AT_STRAND, 0, strand)]
  s1.raise 0x31 0 s1.plStatus (s1.plRejectAt % 2 ^ 32)

/-- R308: the first-stage check that a PLAN fails. -/
def State.planClosed (s : State) : Option Nat :=
  let n := s.rd F.PL_SRC_LEN_LEN 0
  if s.mstate ≠ mMounted ∨ s.rd F.ID_STAT_STATE 0 = 5 ∨ s.rd F.PL_STATUS_NEXT 0 = 1 then some 0x01
  else if s.inCapture (s.rd F.PL_SRC_ADDR_ADDR 0) n = false ∨ n % 16 ≠ 0 then some 0x02
  else none

/-- R312: the prefetches of a plan that is not in force are given up. -/
def State.stopPrefetch (s : State) : State :=
  { s with caches := s.caches.map (fun (e : Nat × Cache) => (e.1, { e.2 with fetches := e.2.fetches.filter (fun f => !f.prefetch) })) }

/-- PLAN (R308, R309): a write of PL_CTL.PLAN: accepted, the table is read and NEXT is PLANNING; a READY plan is replaced. -/
def planWrite (src : Nat) (thenCommit : Bool) (s : State) : State × Ans :=
  match s.planClosed with
  | some c => (s.planRefuse c 0xFFFFFFFF 0, .rejected rBLOCK_REJECT c)
  | none =>
    let a := s.rd F.PL_SRC_ADDR_ADDR 0 - dramWin
    let n := s.rd F.PL_SRC_LEN_LEN 0
    let s1 := (s.stopPrefetch.readerUe a n).wake
    let raw := s.planTable a n
    let p : Plan := { src := src, thenCommit := thenCommit, raw := raw, runset := raw.map pentOf }
    ({ s1 with pl := { s1.pl with next := some p, commitAt := none } }.wrs
      [(F.PL_STATUS_NEXT, 0, 1), (F.PL_STATUS_REJECT, 0, 0), (F.PL_REJECT_AT_ENTRY, 0, 0), (F.PL_REJECT_AT_STRAND, 0, 0)], .ok)

/-- R310: a plan's commit is refused: the reason. -/
def State.commitClosed (s : State) (p : Plan) : Option Nat :=
  if p.units.any (fun u => s.unitBusy u || s.startPending u) then some rPL_BUSY
  else if p.stale then some rPL_STALE else none

/-- R309, R310: the plan that is PLANNING or READY is discarded, with its prefetches. -/
def State.dropNext (s : State) : State :=
  { s.stopPrefetch with pl := { s.pl with next := none, commitAt := none } }.wr F.PL_STATUS_NEXT 0 0

/-- R310: the READY plan takes effect at the next tick boundary, or the commit is refused. -/
def planCommit (s : State) : State × Ans :=
  match s.pl.next with
  | none => (s, .rejected rPL_BUSY 0)
  | some p =>
    if s.rd F.PL_STATUS_NEXT 0 ≠ 2 then (s, .rejected rPL_BUSY 0)
    else match s.commitClosed p with
      | some r => (if r = rPL_STALE then s.dropNext else s, .rejected r 0)
      | none => ({ s with pl := { s.pl with commitAt := some s.nextBoundary } }, .ok)

/-- R309: a plan that is PLANNING or READY is discarded. -/
def planCancel (s : State) : State × Ans := (s.dropNext, .ok)

/-- R325: a write of PL_CTL. -/
def wrPlCtl (src : Nat) (s : State) (data : Nat) : State × Ans :=
  if data.testBit 2 && data % 4 != 0 then (s, .rejected rACTION_BITS 0)
  else if data.testBit 2 then planCancel s
  else if data.testBit 0 then planWrite src (data.testBit 1) s
  else if data.testBit 1 then planCommit s
  else (s, .ok)

/-- PLAN: `commit` sets COMMIT in the same write. -/
def execPlan (h : Hdr) (commit : Bool) (s : State) : Host.Outcome State Fault Refusal :=
  .next (s.request h 0x40000 (.write64 (1 + 2 * bit commit)) (planWrite h.src.val commit))

/-- PLAN_COMMIT. -/
def execPlanCommit (h : Hdr) (s : State) : Host.Outcome State Fault Refusal := .next (s.request h 0x40000 (.write64 2) planCommit)

/-- PLAN_CANCEL. -/
def execPlanCancel (h : Hdr) (s : State) : Host.Outcome State Fault Refusal := .next (s.request h 0x40000 (.write64 4) planCancel)

/-! ### PL_PLANNED (R309, R312, R316, R319) -/

/-- R315: the hints that a plan does not follow. -/
def State.hintsIgnored (s : State) (t : List PEnt) (m : ResMap) (r : PlanIn) : Nat :=
  (t.map (fun (e : PEnt) => bit (e.hintPin && m.of e.strand != 1) + bit (e.hintStream && m.of e.strand != 3)
    + bit (match e.home with | some h => (s.homeOf t r e.strand).1 != h | none => false))).foldl (· + ·) 0

/-- R309: a plan computed. -/
def State.computePlan (s : State) (p : Plan) (r : PlanIn) : Plan :=
  let t := p.runset
  let rs := s.retained t ++ t
  let m := s.residency t rs
  let units := namedUnits t
  let named (l : Nat) : Bool := units.any (fun u => (s.leavesOf u).contains l)
  let ls := (List.range 16).filter (fun l => named l || s.pinnedBeads rs m l != (s.cache l).pinned.map (fun e => (e.1, e.2.1)))
  { p with
    runset := rs
    strands := s.placesOf t m r
    net := r.net
    pins := (ls.filter named).map (fun l => (l, s.pinUnits rs l * 256))
    layout := ls.map (fun l => (l, s.layoutOf (named l) rs m l))
    units := units
    hintIgn := s.hintsIgnored t m r }

/-- R312: the prefetches of a READY plan: bead 0 to bead 3 of its ENTRY strands, into slots that the plan in force assigns to no
bead. -/
def State.prefetch (s : State) (p : Plan) : State :=
  p.layout.foldl (fun (s : State) e =>
    let l := e.1
    let want := e.2.filter (fun b => decide (b.2.1 < 4) && p.runset.any (fun x => x.strand == b.1 && x.entry)
      && !(s.cache l).pinned.any (fun c => c.2.2 == b.2.2) && decide (b.2.2 < (s.cache l).pinSlots))
    want.foldl (fun (s : State) b =>
      let c := s.cache l
      let slot : CSlot := { (c.slot b.2.2) with strand := b.1, bead := b.2.1, landed := none, bad := false }
      (s.setCache l { c with slots := Table.set c.slots b.2.2 slot }).askFetch l
        { slot := b.2.2, strand := b.1, bead := b.2.1, prefetch := true }) s) s

/-- R309: a plan refused in its second stage. -/
def State.planFails (s : State) (p : Plan) (code entry strand : Nat) : State :=
  (s.dropNext.planRefuse code entry strand).lateReject 0x40000 p.src rBLOCK_REJECT code

/-- R309, R310: a plan becomes READY; a commit that came with its PLAN follows, once. -/
def State.planReady (s : State) (p : Plan) : State :=
  let s1 := { s with pl := { s.pl with next := some p } }.wr F.PL_STATUS_NEXT 0 2
  let s2 := s1.bump F.PL_HINT_IGN_COUNT 0 p.hintIgn F.PL_STATUS_SAT 0 3 0x050
  let s3 := (s2.raise 0x30 0 s2.plStatus 0).prefetch p
  if p.thenCommit then
    match planCommit s3 with
    | (s4, .rejected reason d) => s4.lateReject 0x40000 p.src reason d
    | (s4, _) => s4
  else s3

/-- PL_PLANNED (R308, R309): the planner ends: the plan is refused at the first check that fails, or becomes READY. -/
def plPlanned (r : PlanIn) (s : State) : State :=
  match s.pl.next with
  | none => s
  | some p =>
    if s.rd F.PL_STATUS_NEXT 0 ≠ 1 then s
    else match s.planFault p r with
      | some (c, e, st) => s.planFails p c e st
      | none => s.planReady (s.computePlan p r)

/-- PL_PLANNED. -/
def execPlPlanned (r : PlanIn) (s : State) : Host.Outcome State Fault Refusal := .next (plPlanned r s)

/-! ### A plan in force (R310, R311) -/

/-- R310: a leaf takes its new layout: beads that were prefetched stay, the others are asked for. -/
def State.takeLayout (s : State) (p : Plan) (l : Nat) (lay : List (Nat × Nat × Nat)) : State :=
  let c := s.cache l
  let old := c.pinned
  let named := p.units.any (fun u => (s.leavesOf u).contains l)
  let pend := c.fetches.filter (fun f => f.prefetch)
  let ready (b : Nat × Nat × Nat) : Bool :=
    let k := c.slot b.2.2
    (k.strand == b.1 && k.bead == b.2.1 && k.landed.isSome && !k.bad && !old.any (fun e => e.2.2 == b.2.2))
      || (!named && old.contains b)
  let load := lay.filter (fun b => !ready b)
  let slots := load.foldl (fun t b =>
    Table.set t b.2.2 { (c.slot b.2.2) with strand := b.1, bead := b.2.1, landed := none, bad := false }) c.slots
  let new := (load.filter (fun b => !pend.any (fun f => f.slot == b.2.2 && f.strand == b.1 && f.bead == b.2.1))).map
    (fun b => ({ slot := b.2.2, strand := b.1, bead := b.2.1 } : Fetch))
  let keep := c.fetches.map (fun f => { f with prefetch := false })
  new.foldl (fun (s : State) f => s.askFetch l f)
    (s.setCache l { c with pinned := lay, slots := slots, fetches := keep, pinSlots := (Table.get? p.pins l).getD c.pinSlots,
                           ring := if named then [] else c.ring })

/-- R310, R316, R319: the planner's fields of a strand's descriptor written. -/
def State.placeStrand (s : State) (x : PStrand) : State :=
  s.setDesc x.strand (dPlanned (s.desc x.strand) x.res x.home (x.replica.getD 0) x.repValid)

/-- R321: PL_SCFAULT under a new plan. -/
def State.servedNow (s : State) : State :=
  s.wr F.PL_SCFAULT_SUB 0 (maskOf ([0, 1, 2, 3].filter (fun k => s.scFaulty k && !(s.scMoves k).isEmpty)))

/-- R310: an accepted commit takes effect. -/
def State.applyPlan (s : State) (p : Plan) : State :=
  let s1 := p.strands.foldl (fun (s : State) x => s.placeStrand x) s
  let s2 := p.layout.foldl (fun (s : State) e => s.takeLayout p e.1 e.2) s1
  let others := s2.pl.cur.strands.filter (fun x => !p.strands.any (fun y => y.strand == x.strand)
    && p.runset.any (fun e => e.strand == x.strand))
  let cur : Plan := { p with strands := others ++ p.strands, raw := [] }
  { s2 with pl := { s2.pl with cur := cur, next := none, commitAt := none, paths := [], fault := false, promoted := [], starved := [] } }.pathLatch.servedNow.wrs
    [(F.PL_STATUS_NEXT, 0, 0), (F.PL_STATUS_CUR, 0, 1)]

/-- R310: at a tick boundary a commit that waits for it takes effect. -/
def State.plTick (s : State) : State :=
  match s.pl.commitAt, s.pl.next with
  | some n, some p => if n ≤ s.tick then s.applyPlan p else s
  | _, _ => s

/-- R310: a pinned bead of the plan in force that has not been loaded. -/
def State.loading (s : State) (l : Nat) : Bool :=
  let c := s.cache l
  c.pinned.any (fun e => let k := c.slot e.2.2; k.landed.isNone && !k.bad)

/-- PL_LOADED (R310): every pinned bead and landing bead has been loaded: CUR is IN_FORCE. -/
def plLoaded (s : State) : State :=
  if s.rd F.PL_STATUS_CUR 0 = 1 ∧ (List.range 16).all (fun l => !s.loading l) then
    let s1 := s.wr F.PL_STATUS_CUR 0 2
    s1.raise 0x32 0 s1.plStatus 0
  else s

/-- PL_LOADED. -/
def execPlLoaded (s : State) : Host.Outcome State Fault Refusal := .next (plLoaded s)

/-- REPLICA_COPY_DONE (R319): all replica beads of a strand have passed their CRC: REPLICA_VALID is set, where the plan in force
gives the strand a replica and it is still planned. -/
def replicaCopyDone (st : Nat) (s : State) : State :=
  let d := s.desc st
  if s.pl.cur.strands.any (fun x => x.strand == st && x.replica.isSome) ∧ dRes d ≠ 0 then
    s.setDesc st (dPlanned d (dRes d) (dHome d) (dReplica d) true)
  else s

/-- REPLICA_COPY_DONE. -/
def execReplicaCopyDone (st : BitVec 16) (s : State) : Host.Outcome State Fault Refusal := .next (replicaCopyDone st.toNat s)

/-- R311: the strands of the plan in force into whose bead range, in the strand space of a leaf that plays them, a DRAM range
reaches. -/
def State.strandsHit (s : State) (a n : Nat) : List (Nat × Nat) :=
  let q := s.leafQ
  (List.range 16).flatMap (fun l =>
    ((s.strandsOn s.pl.cur.runset l).filter (fun st =>
      let d := s.desc st
      let hits (lo len : Nat) : Bool := decide (a < lo + len) && decide (lo < a + n)
      decide (q ≠ 0) && (hits (s.payloadAt l (dStart d)) (dLen d * 256) || hits (s.headerAt l (dStart d)) (dLen d * 16)))).map
        (fun st => (l, st)))

/-- R311: a bead range was written: the strand is UNPLANNED, its replica stale, and a new plan is asked for. -/
def State.unplanHit (s : State) (st : Nat) : State :=
  let d := s.desc st
  (s.setDesc st (dPlanned d 0 (dHome d) (dReplica d) false)).flag F.PL_STATUS_REPLAN 0

/-- R310: a READY or PLANNING plan is stale when a bead range of it has changed. -/
def State.staleHit (s : State) (a n : Nat) : State :=
  match s.pl.next with
  | none => s
  | some p =>
    let hit := (List.range 16).any (fun l => (s.strandsOn p.runset l).any (fun st =>
      let d := s.desc st
      let hits (lo len : Nat) : Bool := decide (a < lo + len) && decide (lo < a + n)
      hits (s.payloadAt l (dStart d)) (dLen d * 256) || hits (s.headerAt l (dStart d)) (dLen d * 16)))
    if hit then { s with pl := { s.pl with next := some { p with stale := true } } } else s

/-! ### Cover and exposure (R320) -/

/-- R317: PMIN_L under the plan in force. -/
def State.pminL (s : State) (l : Nat) : Nat := s.pminOn s.pl.cur.runset (fun st => dRes (s.desc st)) (fun _ => true) l

/-- R320: a leaf's cover, in tu. -/
def State.cover (s : State) (l : Nat) : Nat := (8192 - (s.cache l).pinSlots - 1) * 64 * s.pminL l

/-- A cover in microseconds. -/
def State.coverUs (s : State) (l : Nat) : Nat := s.cover l / usTu

/-- An entry of PL_EXPOSED (R320). -/
structure Expo where
  unit : Nat
  cluster : Bool
  strand : Nat
  cover : Bool
  noReplica : Bool
  path : Bool
  coverUs : Nat
  deriving DecidableEq, Repr

/-- R322: some bead of a strand homed here lies, for a leaf, on a faulty subchannel. -/
def State.spoiltHome (s : State) (l st : Nat) : Bool :=
  dHome (s.desc st) == s.module && [0, 1, 2, 3].any (fun k => s.scFaulty k && s.leafOnSc l st k)

/-- R320, R322: how an entry of the plan in force is exposed, if it is: NO_REPLICA also where it plays from its only remaining copy. -/
def State.exposure (s : State) (e : PEnt) : Option Expo :=
  let d := s.desc e.strand
  let ls := s.leavesOf e.uix
  let c := match ls.map s.cover with | [] => 0 | x :: t => t.foldl min x
  let lone := !dRepValid d || ls.any (fun l => (List.range (min 4 (dLen d))).any (s.onLost l e.strand) || s.spoiltHome l e.strand)
  let path := s.pl.paths.contains e.strand
    || s.admitted && (s.placed.filter (fun x => x.strand == e.strand)).any (s.noPath s.pl.cur.runset s.placed s.pl.cur.net)
  let x : Expo := ⟨e.unit, e.cluster, e.strand, decide (c < 250 * usTu), lone, path, c / usTu⟩
  if (dRes d = 2 ∨ dRes d = 3) ∧ (x.cover ∨ x.noReplica ∨ x.path) then some x else none

/-- R320, R325: the exposed entries, in ascending unit and then strand. -/
def State.exposed (s : State) : List Expo :=
  (s.pl.cur.runset.filterMap s.exposure).mergeSort (fun a b =>
    decide (a.unit < b.unit) || (a.unit == b.unit && (a.cluster == b.cluster && decide (a.strand ≤ b.strand)
      || (!a.cluster && b.cluster))))

/-- PL_EXPOSED of an entry as it reads. -/
def Expo.word (x : Expo) : Nat :=
  pack [(0, 16, x.strand), (16, 10, x.unit), (26, 1, bit x.cluster), (27, 1, bit x.cover), (28, 1, bit x.noReplica),
        (29, 1, bit x.path), (32, 32, x.coverUs)]

/-- R317, R325: PL_STREAM as it reads. -/
def State.plStream (s : State) : Nat :=
  let (a, b) := s.demand s.pl.cur.runset (fun st => dRes (s.desc st)) (fun st => dHome (s.desc st) == s.module)
  pack [(0, 17, ceilDiv a b), (32, 17, 17000 * s.healthy)]

/-- PL_LEAF of a leaf as it reads. -/
def State.plLeaf (s : State) (l : Nat) : Nat :=
  pack [(0, 6, (s.cache l).pinSlots / 256), (6, 1, s.rd F.PL_LEAF_OOS l), (8, 24, min (s.coverUs l) 0xFFFFFF), (32, 32, s.pminL l)]

/-! ### Failover at a departure (R321, R322) -/

/-- R321: a module becomes DEPARTED: the strands homed there are moved to their replicas, and replicas held there are lost. -/
def State.homeDeparted (s : State) (m : Nat) : State :=
  let sts := s.pl.cur.strands.map (fun (x : PStrand) => x.strand)
  let moved := sts.filter (fun st => let d := s.desc st; streamed d && dHome d == m && dRepValid d && dReplica d != m && m != s.module)
  let gone := sts.filter (fun st => let d := s.desc st; dRepValid d && dReplica d == m)
  let s0 := if moved = [] then s else s.failover moved (m, none) m 4
  let go := moved.filter (fun st => (s.playersOf s.pl.cur.runset st).any (fun l => !s0.pl.starved.contains (l, st)))
  let s1 := go.foldl (fun (s : State) st =>
    let d := s.desc st
    s.setDesc st (dPlanned d (dRes d) (dReplica d) (dReplica d) false)) s0
  (gone.foldl (fun (s : State) st =>
    let d := s.desc st
    s.setDesc st (dPlanned d (dRes d) (dHome d) (dReplica d) false)) s1).reask s

end Sys2Proof.Machine
end

