-- ==== Sys2Proof/Machine/Raster.lean ====
section
/-! DEFINITION. The raster stimulus engine (10_raster.md R229 to R244), with the commands a leaf shares between strand runs and
raster runs. -/

namespace Sys2Proof.Machine

/-! ### The raster unit and its pins (R230) -/

/-- R230: the raster part of the image. -/
def State.rasterMap (s : State) : Option (List Byte) := s.image.bind (·.raster)

/-- R230: the raster unit. -/
def State.rasterUnit (s : State) : Option Nat := s.rasterMap.map (fun b => (b.getD 0 0).toNat)

/-- R230: the leaves of the raster unit, ascending. -/
def State.rasterLeaves (s : State) : List Nat := match s.rasterUnit with | some u => s.leavesOf u | none => []

/-- R230: the pin of a signal (0 PCLK, 1 HS, 2 VS, 3 DE, then RED7 to RED0, GRN7 to GRN0, BLU7 to BLU0); 255 unassigned. -/
def State.rasterPin (s : State) (sig : Nat) : Nat := match s.rasterMap with | some b => (b.getD (4 + sig) 0).toNat | none => 255

/-- R230: the signal that a raster pin carries. -/
def State.pinSignal (s : State) (pin : Nat) : Option Nat := (List.range 28).find? (fun g => s.rasterPin g == pin)

/-- R232: an accepted START of the unit starts a raster run. -/
def State.rasterStarts (s : State) (u : Nat) : Bool := s.on F.RS_CFG_RASTER 0 && s.rasterUnit == some u

/-- The raster unit is RUNNING. -/
def State.rasterUnitRuns (s : State) : Bool := match s.rasterUnit with | some u => s.unitState u == 1 | none => false

/-- R244: a raster run is RUNNING. -/
def State.rasRunning (s : State) : Bool := s.rasterUnitRuns && s.rasterLeaves.any (fun l => (s.leaf l).raster)

/-- Some leaf plays a raster run (of a group that aborts, a member after another has ended). -/
def State.rasPlays (s : State) : Bool := s.rasterLeaves.any (fun l => (s.leaf l).raster && decide ((s.leaf l).phase = .play))

/-- R239: a raster run plays: its generations are in force and not retired. -/
def State.rasLive (s : State) : Bool := s.rasPlays && !s.ras.retired

/-- RS_FRAME. -/
def State.rsFrame (s : State) : Nat := s.rd F.RS_FRAME_FRAME 0

/-- The generation register of a layer. -/
def genFld (n : Nat) : Fld := if n = 0 then F.RS_GEN_GEN0 else if n = 1 then F.RS_GEN_GEN1 else F.RS_GEN_GEN2

/-- R238: the generation of a layer. -/
def State.gen (s : State) (n : Nat) : Nat := s.rd (genFld n) 0

/-- R365: a RASTER record. -/
def State.journalRaster (s : State) (kind frame layer low addr : Nat) : State :=
  let l := s.rasterLeaves.headD 0
  s.journal 0x0C l (s.leaf l).replay
    (pack [(0, 48, frame), (48, 2, kind), (50, 2, layer), (52, 16, low), (68, 34, addr)])

/-! ### Layers (R235, R236) -/

/-- R237: the cells of layer n in force (its shadow registers are copy n, the active values copy 3 + n). -/
def act (n : Nat) : Nat := 3 + n

/-- R235: the bytes of a pixel. -/
def pixBytes (fmt : Nat) : Nat := if fmt = 0 then 2 else if fmt = 1 then 3 else 4

/-- R235: a pixel's alpha, red, green and blue. -/
def unpackPixel (fmt v : Nat) : Nat × Nat × Nat × Nat :=
  if fmt = 0 then
    let (r, g, b) := (bits v 11 5, bits v 5 6, bits v 0 5)
    (255, r * 8 + r / 4, g * 4 + g / 16, b * 8 + b / 4)
  else (if fmt = 2 then bits v 24 8 else 255, bits v 16 8, bits v 8 8, bits v 0 8)

/-- R236: one colour composed. -/
def blend (a src c : Nat) : Nat := (a * src + (255 - a) * c + 127) / 255

/-- R236: the weight of a layer's pixel. -/
def State.layerAlpha (s : State) (n fmt alpha : Nat) : Nat :=
  if n = 0 ∨ s.on F.RS_L_CFG_BLEND (act n) = false then 255
  else if fmt = 2 then (alpha * s.rd F.RS_L_CFG_GALPHA (act n) + 127) / 255
  else s.rd F.RS_L_CFG_GALPHA (act n)

/-- R236: an enabled layer covers a pixel. -/
def State.layerCovers (s : State) (n x y : Nat) : Bool :=
  let i := act n
  let (lx, ly) := (s.rd F.RS_L_POS_X i, s.rd F.RS_L_POS_Y i)
  s.on F.RS_L_CFG_EN i && decide (lx ≤ x) && decide (x < lx + s.rd F.RS_L_POS_W i) && decide (ly ≤ y)
    && decide (y < ly + s.rd F.RS_L_POS_H i)

/-- R235: where a layer's pixel lies in DRAM. -/
def State.layerAddr (s : State) (n x y : Nat) : Nat :=
  let i := act n
  s.rd F.RS_L_BASE_BASE i + (y - s.rd F.RS_L_POS_Y i) * s.rd F.RS_L_STRIDE_STRIDE i
    + (x - s.rd F.RS_L_POS_X i) * pixBytes (s.rd F.RS_L_CFG_FMT i)

/-- R243: a pixel of a layer that cannot be read: counted, and reported once for each frame. -/
def State.fetchLate (s : State) : State :=
  let s1 := (s.bump F.RS_LATE_COUNT_COUNT 0 1 F.RS_STATUS_SAT 0 12 0x0C8).flag F.RS_STATUS_FETCH_LATE 0
  if s1.ras.late = s1.rsFrame + 1 then s1
  else { s1 with ras := { s1.ras with late := s1.rsFrame + 1 } }.raise 0xC3 0 s1.rsFrame 0

/-- R334, R243: a pixel in a burst with an uncorrectable error: the burst, fetched once in each frame, counts once. -/
def State.pixelUe (s : State) (n a len : Nat) : State :=
  match s.ueIn a len with
  | some b =>
    if s.ras.bad.getD n 0 = b + 1 then s
    else
      let s1 := s.readerUe a len
      { s1 with ras := { s1.ras with bad := (List.range 3).map (fun i => if i = n then b + 1 else s1.ras.bad.getD i 0) } }
  | none => s

/-- R243, R335: the bytes of a pixel lie on a subchannel that stalls, and its fetch comes too late (how far ahead the engine fetches is open:
a free value). -/
def State.pixelLate (s : State) (n a len : Nat) : Bool :=
  s.stalledAt a len && Config.fetchLate s.now n

/-- R236, R243: one layer's contribution to a pixel. -/
def State.layerPixel (s : State) (n x y c : Nat) : State × Nat :=
  if s.layerCovers n x y then
    let fmt := s.rd F.RS_L_CFG_FMT (act n)
    let a := s.layerAddr n x y
    if s.rangeUe a (pixBytes fmt) then ((s.pixelUe n a (pixBytes fmt)).fetchLate, c)
    else if s.pixelLate n a (pixBytes fmt) then (s.fetchLate, c)
    else
      let (al, r, g, b) := unpackPixel fmt (ofBytes (s.dram.read a (pixBytes fmt)))
      let w := s.layerAlpha n fmt al
      (s, pack [(16, 8, blend w r (bits c 16 8)), (8, 8, blend w g (bits c 8 8)), (0, 8, blend w b (bits c 0 8))])
  else (s, c)

/-- R236: the colour of a pixel. -/
def State.composePixel (s : State) (x y : Nat) : State × Nat :=
  let (s0, c0) := s.layerPixel 0 x y (s.rd F.RS_BG_COLOUR 1)
  let (s1, c1) := s0.layerPixel 1 x y c0
  s1.layerPixel 2 x y c1

/-! ### Commit and retirement (R237 to R239) -/

/-- R237: the check of one enabled layer's shadow. -/
def State.layerFault (s : State) (n : Nat) : Option Nat :=
  let m := s.rmode
  let (w, h) := (s.rd F.RS_L_POS_W n, s.rd F.RS_L_POS_H n)
  let (base, stride) := (s.rd F.RS_L_BASE_BASE n, s.rd F.RS_L_STRIDE_STRIDE n)
  if s.on F.RS_L_CFG_EN n = false then none
  else if w = 0 ∨ h = 0 ∨ m.ha < s.rd F.RS_L_POS_X n + w ∨ m.va < s.rd F.RS_L_POS_Y n + h then some 1
  else if base % 64 ≠ 0 ∨ base < s.rasterBase ∨ s.captureBase < base + stride * h then some 2
  else if stride % 64 ≠ 0 ∨ stride < w * pixBytes (s.rd F.RS_L_CFG_FMT n) then some 3
  else none

/-- R237: the first check that fails. -/
def State.commitFault (s : State) : Option Nat :=
  match [0, 1, 2].findSome? s.layerFault with
  | some c => some c
  | none => if s.on F.RS_STATUS_COMMIT_PENDING 0 then some 4 else none

/-- R239: a layer's generation is retired. -/
def State.retire (s : State) (n : Nat) : State := s.raise 0xC0 n (s.rd F.RS_L_BASE_BASE (act n)) (s.gen n)

/-- R238: the commit ends the layer's generation. -/
def State.genEnds (s : State) (n : Nat) : Bool :=
  s.on F.RS_L_CFG_EN (act n) && (s.rd F.RS_L_BASE_BASE n != s.rd F.RS_L_BASE_BASE (act n) || !(s.on F.RS_L_CFG_EN n))

/-- R237, R238: the shadow of one layer becomes active. -/
def State.commitLayer (s : State) (n : Nat) : State :=
  let ends := s.genEnds n
  let s0 := if ends && s.rasLive then s.retire n else s
  let g := if s.on F.RS_L_CFG_EN n && (ends || !(s.on F.RS_L_CFG_EN (act n))) then s.gen n + 1 else s.gen n
  let i := act n
  s0.wrs [(genFld n, 0, g), (F.RS_L_CFG_EN, i, s.rd F.RS_L_CFG_EN n), (F.RS_L_CFG_FMT, i, s.rd F.RS_L_CFG_FMT n),
    (F.RS_L_CFG_BLEND, i, s.rd F.RS_L_CFG_BLEND n), (F.RS_L_CFG_GALPHA, i, s.rd F.RS_L_CFG_GALPHA n),
    (F.RS_L_POS_X, i, s.rd F.RS_L_POS_X n), (F.RS_L_POS_Y, i, s.rd F.RS_L_POS_Y n), (F.RS_L_POS_W, i, s.rd F.RS_L_POS_W n),
    (F.RS_L_POS_H, i, s.rd F.RS_L_POS_H n), (F.RS_L_BASE_BASE, i, s.rd F.RS_L_BASE_BASE n),
    (F.RS_L_STRIDE_STRIDE, i, s.rd F.RS_L_STRIDE_STRIDE n)]

/-- R237: all shadows become active together. -/
def State.applyCommit (s : State) : State :=
  ((s.commitLayer 0).commitLayer 1).commitLayer 2 |>.wrs
    [(F.RS_BG_COLOUR, 1, s.rd F.RS_BG_COLOUR 0), (F.RS_STATUS_COMMIT_PENDING, 0, 0)]

/-- R239: at the end of the run, which is that of its last leaf, the generations in force are retired. -/
def State.rasEnd (s : State) : State :=
  if s.ras.retired || s.rasPlays then s
  else
    let s1 := { s with ras := { s.ras with retired := true, wait := none, edge := none } }.wrs
      [(F.RS_STATUS_WAITING, 0, 0), (F.RS_STATUS_STATIC, 0, 0)]
    [0, 1, 2].foldl (fun (s : State) n => if s.on F.RS_L_CFG_EN (act n) then s.retire n else s) s1

/-- COMMIT (R237, R241): a write of RS_COMMIT.COMMIT: checked; applied at once while the raster unit does not run, otherwise pending
until the next front porch. A commit that registers in an extended porch ends the extension with its line. -/
def rsCommit (s : State) : State × Ans :=
  match s.commitFault with
  | some c => (s.wr F.RS_STATUS_REJECT 0 c, .rejected rBLOCK_REJECT c)
  | none =>
    let s1 := s.wr F.RS_STATUS_REJECT 0 0
    if s.rasterUnitRuns = false then (s1.applyCommit, .ok)
    else
      let s2 := s1.wr F.RS_STATUS_COMMIT_PENDING 0 1
      let r := s2.ras
      if r.sect = 1 ∧ r.judged ∧ s.rmode.vf < r.porch then
        ({ s2 with ras := { r with porch := max s.rmode.vf (min r.porch (r.line + 1)), cut := true } }, .ok)
      else (s2, .ok)

/-- A write of RS_COMMIT. -/
def wrRsCommit (s : State) (data : Nat) : State × Ans := if data.testBit 0 then rsCommit s else (s, .ok)

/-- COMMIT. -/
def execCommit (h : Hdr) (s : State) : Host.Outcome State Fault Refusal := .next (s.request h 0x340008 (.write64 1) rsCommit)

/-- RS_STOP (R233): the run ends at the end of the frame's back porch; ignored unless a raster run is RUNNING. -/
def rsStop (s : State) : State × Ans :=
  if s.rasRunning then ({ s with ras := { s.ras with stop := true } }, .ok) else (s, .ok)

/-- A write of RS_CTL. -/
def wrRsCtl (s : State) (data : Nat) : State × Ans := if data.testBit 0 then rsStop s else (s, .ok)

/-- RS_STOP. -/
def execRsStop (h : Hdr) (s : State) : Host.Outcome State Fault Refusal := .next (s.request h 0x340000 (.write64 1) rsStop)

/-! ### The RS registers (R244) -/

/-- RS_CFG as it reads. -/
def State.rsCfg (s : State) : Nat :=
  pack [(0, 3, s.rd F.RS_CFG_MODE 0), (3, 4, s.rd F.RS_CFG_TSEL 0), (7, 1, s.rd F.RS_CFG_SYNC 0), (8, 1, s.rd F.RS_CFG_TE_RISE 0),
        (9, 6, s.rd F.RS_CFG_TE_PIN 0), (15, 1, s.rd F.RS_CFG_HS_INV 0), (16, 1, s.rd F.RS_CFG_VS_INV 0),
        (17, 1, s.rd F.RS_CFG_BEZEL_BLOCK 0), (18, 1, s.rd F.RS_CFG_RASTER 0)]

/-- R244: a TE pin that RS_CFG accepts: a raster pin that carries no signal (any, while no raster unit is mounted). -/
def State.tePinOk (s : State) (p : Nat) : Bool :=
  s.rasterUnit.isNone || (decide (p < 9 * s.rasterLeaves.length) && (s.pinSignal p).isNone)

/-- R244: a write of RS_CFG. -/
def wrRsCfg (s : State) (data : Nat) : State × Ans :=
  let rest (w : Nat) : Nat := w - bits w 17 1 * 2 ^ 17
  if 5 < bits data 0 3 then (s, .rejected rRANGE 0)
  else if s.tePinOk (bits data 9 6) = false then (s, .rejected rRANGE 0)
  else if data.testBit 18 ∧ s.rasterUnit = none then (s, .rejected rSTATE 0)
  else if s.rasterUnitRuns ∧ rest data ≠ rest s.rsCfg then (s, .rejected rSTATE 0)
  else
    (s.wrs [(F.RS_CFG_MODE, 0, bits data 0 3), (F.RS_CFG_TSEL, 0, bits data 3 4), (F.RS_CFG_SYNC, 0, bits data 7 1),
            (F.RS_CFG_TE_RISE, 0, bits data 8 1), (F.RS_CFG_TE_PIN, 0, bits data 9 6), (F.RS_CFG_HS_INV, 0, bits data 15 1),
            (F.RS_CFG_VS_INV, 0, bits data 16 1), (F.RS_CFG_BEZEL_BLOCK, 0, bits data 17 1), (F.RS_CFG_RASTER, 0, bits data 18 1)], .ok)

/-- R244: a write of RS_STATIC. -/
def wrRsStatic (s : State) (data : Nat) : State × Ans :=
  if bits data 0 8 = 0 then (s, .rejected rRANGE 0)
  else (s.wrs [(F.RS_STATIC_N, 0, bits data 0 8), (F.RS_STATIC_DIV, 0, bits data 8 2)], .ok)

/-- R237: a write of a shadow register: refused while a commit is pending. -/
def wrShadow (ok : Bool) (put : State → State) (s : State) : State × Ans :=
  if ok = false then (s, .rejected rRANGE 0)
  else if s.on F.RS_STATUS_COMMIT_PENDING 0 then (s, .rejected rRS_PENDING 0)
  else (put s, .ok)

/-- R244: a write of RS_BG. -/
def wrRsBg (s : State) (data : Nat) : State × Ans := wrShadow true (fun s => s.wr F.RS_BG_COLOUR 0 data) s

/-- R244, R236: a write of RS_Ln_CFG. -/
def wrRsLCfg (n : Nat) (s : State) (data : Nat) : State × Ans :=
  wrShadow (decide (bits data 1 2 < 3) && !(n == 0 && data.testBit 3)) (fun s =>
    s.wrs [(F.RS_L_CFG_EN, n, bits data 0 1), (F.RS_L_CFG_FMT, n, bits data 1 2), (F.RS_L_CFG_BLEND, n, bits data 3 1),
           (F.RS_L_CFG_GALPHA, n, bits data 4 8)]) s

/-- R244: a write of RS_Ln_POS. -/
def wrRsLPos (n : Nat) (s : State) (data : Nat) : State × Ans :=
  wrShadow true (fun s =>
    s.wrs [(F.RS_L_POS_X, n, bits data 0 11), (F.RS_L_POS_Y, n, bits data 16 11), (F.RS_L_POS_W, n, bits data 32 11),
           (F.RS_L_POS_H, n, bits data 48 11)]) s

/-- R244: a write of RS_Ln_BASE. -/
def wrRsLBase (n : Nat) (s : State) (data : Nat) : State × Ans :=
  wrShadow true (fun s => s.wr F.RS_L_BASE_BASE n (bits data 0 34)) s

/-- R244: a write of RS_Ln_STRIDE. -/
def wrRsLStride (n : Nat) (s : State) (data : Nat) : State × Ans :=
  wrShadow true (fun s => s.wr F.RS_L_STRIDE_STRIDE n (bits data 0 16)) s

/-! ### Writes to buffers in flight (R240) -/

/-- R240: the in-flight buffers that a host write of a range touches, lowest layer first. -/
def State.rasGuarded (s : State) (a n : Nat) : List Nat :=
  if s.rasLive then
    [0, 1, 2].filter (fun k =>
      let i := act k
      let base := s.rd F.RS_L_BASE_BASE i
      s.on F.RS_L_CFG_EN i && decide (a < base + s.rd F.RS_L_STRIDE_STRIDE i * s.rd F.RS_L_POS_H i) && decide (base < a + n))
  else []

/-- R240: a write to a guarded range marks a frame TORN: the one that plays its active lines, or else the next; each frame
once. -/
def State.markTorn (s : State) (layer a : Nat) : State :=
  let f := if s.ras.sect = 0 then s.rsFrame else s.rsFrame + 1
  if f < s.ras.torn then s
  else
    let s1 := { s with ras := { s.ras with torn := f + 1 } }.flag F.RS_STATUS_TORN 0
    let s2 := s1.bump F.RS_TORN_COUNT_COUNT 0 1 F.RS_STATUS_SAT 0 12 0x0B8
    let s3 := if s2.on F.RS_TORN_FRAME_VALID 0 then s2
      else s2.wrs [(F.RS_TORN_FRAME_FRAME, 0, f), (F.RS_TORN_FRAME_VALID, 0, 1)]
    (s3.raise 0xC1 layer s3.rsFrame 0).journalRaster 2 f layer (s3.gen layer) a

/-! ### The start (R232) -/

/-- R232: set TSEL of every raster leaf's active bank fits the mode, with RZ on the PCLK pin. -/
def State.rasTiming (s : State) : Bool :=
  let ls := s.rasterLeaves
  let set := s.rd F.RS_CFG_TSEL 0
  let p := s.rasterPin 0
  let lp := ls.getD (p / 9) 0
  ls.all (fun l => s.period (s.leaf l).bank l set == s.rmode.period)
    && (s.pinSet (s.leaf lp).bank lp set (p % 9)).fmt == 2

/-- R232: an accepted raster start: as any start, with no strand to fetch. -/
def State.acceptRaster (s : State) (u : Nat) : State :=
  let s1 := s.acceptStart u
  (s1.leavesOf u).foldl (fun (s : State) l =>
    (s.setLeaf l { s.leaf l with raster := true }).setCache l { s.cache l with cur := none }) s1

/-- START (R88, R232): a write of UNIT_CTL.START, to a pattern unit or, with RS_CFG.RASTER, to the raster unit. -/
def startWrite (u : Nat) (s : State) : State × Ans :=
  if s.rasterStarts u then
    if !s.unitExists u then (s, s.startAbsent u)
    else match s.startRefused u s.rasTiming rRS_TIMING with
      | some r => (s, .rejected r 0)
      | none => (s.acceptRaster u, .ok)
  else unitStart u s

/-- START. -/
def execStart (h : Hdr) (u : UnitRef) (s : State) : Host.Outcome State Fault Refusal :=
  .next (s.request h (unitAddr u) (.write64 1) (startWrite (uix u)))

/-- R232, R244: what the start tick of a raster run sets. -/
def State.rasBegin (s : State) : State :=
  { s with ras := { retired := false } }.wrs
    [(F.RS_FRAME_FRAME, 0, 0), (F.RS_GEN_GEN0, 0, 0), (F.RS_GEN_GEN1, 0, 0), (F.RS_GEN_GEN2, 0, 0), (F.RS_STATUS_PERIOD_BAD, 0, 0),
     (F.RS_STATUS_STATIC, 0, 0), (F.RS_STATUS_WAITING, 0, 0), (F.RS_STATUS_TE_TIMEOUT, 0, 0), (F.RS_TORN_FRAME_FRAME, 0, 0),
     (F.RS_TORN_FRAME_VALID, 0, 0)]

/-- RUN_START (R89, R94, R232): a unit's run begins; a raster run with frame 0. -/
def unitRunStart (u : Nat) (late : Option (Fin 16 × Fin 16)) (s : State) : State :=
  let s1 := runStart u late s
  if (s.unit u).pending.isSome ∧ (s1.unit u).pending = none ∧ (s1.leaf ((s1.leavesOf u).headD 0)).raster then s1.rasBegin
  else s1

/-- RUN_START. -/
def execRunStart (x : RunIn) (s : State) : Host.Outcome State Fault Refusal := .next (unitRunStart (uix x.unit) x.late s)

/-! ### The order of pixels (R229, R231, R241, R242) -/

/-- A place in a frame. -/
structure RPos where
  sect : Nat
  line : Nat
  px : Nat
  deriving DecidableEq, Repr

/-- R372: the blanking lines that a replay's file gives for the frame that follows. -/
def State.replayLines (s : State) : Nat :=
  match s.jn.replay.recs.find? (fun r => r.typ == 0x0C && bits r.body 48 2 == 0 && bits r.body 0 48 == s.rsFrame + 1) with
  | some r => bits r.body 52 16
  | none => 0

/-- R242: at the end of the front porch, at a line start: whether one more blanking line is added. -/
def State.rasWaits (s : State) (t : Nat) : Bool :=
  let r := s.ras
  if s.on F.RS_CFG_SYNC 0 = false then false
  else if (s.leaf (s.rasterLeaves.headD 0)).replay then decide (r.added < s.replayLines)
  else if r.free || r.gaveUp then false
  else match r.edge with
    | some e => decide (t < e + 16 * cyc)
    | none => true

/-- R242: a blanking line is added; the first begins the wait. -/
def State.rasAddLine (s : State) (t : Nat) : State :=
  let r := s.ras
  let s1 := { s with ras := { r with added := r.added + 1, wait := some (r.wait.getD t) } }
  if r.wait.isNone then s1.wr F.RS_STATUS_WAITING 0 1 else s1

/-- R241, R242: vertical sync begins. -/
def State.rasSync (s : State) : State :=
  let r := s.ras
  let s1 := { s with ras := { r with wait := none, edge := none, gaveUp := false, cut := false } }.wr F.RS_STATUS_WAITING 0 0
  if r.cut then s1.wr F.RS_STATUS_STATIC 0 0 else s1

/-- R242: a frame starts: it is the one now playing, and is journalled under SYNC. -/
def State.rasFrame (s : State) (f : Nat) : State :=
  let s1 := s.wr F.RS_FRAME_FRAME 0 f
  let s2 := if s1.on F.RS_CFG_SYNC 0 then s1.journalRaster 0 f 0 s1.ras.added 0 else s1
  { s2 with ras := { s2.ras with added := 0, judged := false, bad := [] } }

/-- R229, R241, R242: the place of the pixel after the last one played, at the start `t` of its period. -/
def State.rasNext (s : State) (t : Nat) : State × RPos :=
  let r := s.ras
  let m := s.rmode
  if r.k = 0 then (s.rasFrame 0, ⟨0, 0, 0⟩)
  else if r.px + 1 < m.ht then (s, ⟨r.sect, r.line, r.px + 1⟩)
  else if r.sect = 0 then (if r.line + 1 < m.va then (s, ⟨0, r.line + 1, 0⟩) else (s, ⟨1, 0, 0⟩))
  else if r.sect = 1 then
    if r.line + 1 < r.porch + r.added then (s, ⟨1, r.line + 1, 0⟩)
    else if s.rasWaits t then (s.rasAddLine t, ⟨1, r.line + 1, 0⟩)
    else (s.rasSync, ⟨2, 0, 0⟩)
  else if r.sect = 2 then (if r.line + 1 < m.vs then (s, ⟨2, r.line + 1, 0⟩) else (s, ⟨3, 0, 0⟩))
  else if r.line + 1 < m.vb then (s, ⟨3, r.line + 1, 0⟩)
  else (s.rasFrame (s.rsFrame + 1), ⟨0, 0, 0⟩)

/-- R231: the next pixel formed: its place, its sync signals and its colour. -/
def State.rasAdvance (s : State) (t : Nat) : State :=
  let (s1, p) := s.rasNext t
  let m := s1.rmode
  let de := p.sect == 0 && decide (p.px < m.ha)
  let hact := decide (m.ha + m.hf ≤ p.px) && decide (p.px < m.ha + m.hf + m.hs)
  let hs := hact == (m.hpos != s1.on F.RS_CFG_HS_INV 0)
  let vs := (p.sect == 2) == (m.vpos != s1.on F.RS_CFG_VS_INV 0)
  let (s2, c) := if de then s1.composePixel p.px p.line else (s1, 0)
  { s2 with ras := { s2.ras with k := s2.ras.k + 1, sect := p.sect, line := p.line, px := p.px, hs := hs, vs := vs, de := de,
                                 colour := c } }

/-- R231: the states of a raster leaf's pins for the pixel formed last. -/
def State.rasStates (s : State) (l : Nat) : List PS :=
  let i := (findIx? (· == l) s.rasterLeaves).getD 0
  (List.range 9).map (fun j =>
    match s.pinSignal (9 * i + j) with
    | none => PS.x
    | some g =>
      let v := if g = 0 then true else if g = 1 then s.ras.hs else if g = 2 then s.ras.vs else if g = 3 then s.ras.de
        else s.ras.colour.testBit (27 - g)
      if v then PS.d1 else PS.d0)

/-- R239: the pixel that comes next is the first of a vertical front porch whose events have not happened. -/
def State.atPorch (s : State) : Bool :=
  s.ras.k != 0 && s.ras.sect == 0 && s.ras.line + 1 == s.rmode.va && s.ras.px + 1 == s.rmode.ht && !s.ras.judged

/-- FRONT_PORCH_START (R237, R239, R241): at the first pixel of the vertical front porch a pending commit applies, ended
generations retire, and the extension for a still picture is judged. -/
def frontPorchStart (s : State) : State :=
  let l := (s.rasterLeaves.find? (fun l => decide ((s.leaf l).phase = .play))).getD 0
  let x := s.leaf l
  if s.rasPlays ∧ s.atPorch ∧ x.phase = .play ∧ x.bdue = false ∧ s.due x.nextStart ∧ x.abortNow false = []
      ∧ s.rd F.UNIT_VCOUNT_VCOUNT l = s.ras.k % 2 ^ 48 then
    let s0 := s.goto x.nextStart
    let applies := s0.on F.RS_STATUS_COMMIT_PENDING 0
    let s1 := if applies then s0.applyCommit else s0
    let div := s1.rd F.RS_STATIC_DIV 0
    let still := if applies ∨ div = 0 then 0 else s1.ras.still + 1
    let ext := decide (div ≠ 0) && decide (s1.rd F.RS_STATIC_N 0 ≤ still)
    let m := s1.rmode
    { s1 with ras := { s1.ras with judged := true, still := still, porch := m.vf + (if ext then div * m.vt else 0), cut := false } }.wr
      F.RS_STATUS_STATIC 0 (bit ext)
  else s

/-- FRONT_PORCH_START. -/
def execFrontPorchStart (s : State) : Host.Outcome State Fault Refusal := .next (frontPorchStart s)

/-- TE_EDGE (R242): an edge of the direction TE_RISE names at the TE pin, at an instant of the present tick: it ends a wait that
began on or before it, or ends free running. -/
def teEdge (at_ : Nat) (s : State) : State :=
  let t := tickAt s.tick + at_
  let r := s.ras
  if s.rasPlays ∧ s.on F.RS_CFG_SYNC 0 then
    let s0 := s.goto t
    if r.free then { s0 with ras := { r with free := false } }.wr F.RS_STATUS_TE_TIMEOUT 0 0
    else match r.wait, r.edge with
      | some w, none => if w ≤ t then { s0 with ras := { r with edge := some t } }.wr F.RS_STATUS_WAITING 0 0 else s
      | _, _ => s
  else s

/-- TE_EDGE. -/
def execTeEdge (at_ : Fin 327680) (s : State) : Host.Outcome State Fault Refusal := .next (teEdge at_.val s)

/-- TE_TIMEOUT (R242): no edge within 2 frame times of the mode: the engine free-runs until the next counted edge. -/
def teTimeout (s : State) : State :=
  let r := s.ras
  let m := s.rmode
  match r.wait, r.edge with
  | some w, none =>
    let t := w + 2 * (m.ht * m.vt * m.period)
    if s.rasPlays ∧ r.free = false ∧ s.due t then
      let s1 := { s.goto t with ras := { r with free := true, gaveUp := true, wait := none } }.wrs
        [(F.RS_STATUS_TE_TIMEOUT, 0, 1), (F.RS_STATUS_WAITING, 0, 0)]
      (s1.raise 0xC2 0 s1.rsFrame 0).journalRaster 1 s1.rsFrame 0 0 0
    else s
  | _, _ => s

/-- TE_TIMEOUT. -/
def execTeTimeout (s : State) : Host.Outcome State Fault Refusal := .next (teTimeout s)

/-! ### Raster play (R231, R234) -/

/-- R234, R359: the boundary of every 64th pixel of a raster leaf. -/
def rasterBoundary (l : Nat) (s : State) : State :=
  let x := s.leaf l
  let le := edgeOf x.nextStart
  if x.phase = .play ∧ x.bdue ∧ s.due le ∧ x.abortNow (s.atEnd l) = [] then
    let s0 := s.goto le
    (s0.setLeaf l { x with beadSeq := x.beadSeq + 1, off := 0, bdue := false, moved := false, enter := false, beadFails := 0,
                           deskew := s0.latchDeskew l, collFail := s0.on F.TS_CFG_COLL_FAIL l }).latchTrims l
  else s

/-- R231, R233, R234: a raster leaf's period: the run ends, or set TSEL no longer fits, or the next pixel is played. -/
def rasterIssue (l : Nat) (s : State) : State :=
  let x := s.leaf l
  if x.phase = .play ∧ x.bdue = false ∧ s.due x.nextStart ∧ x.abortNow (s.atEnd l) = [] ∧ s.swapDue l = false then
    let set := s.rd F.RS_CFG_TSEL 0
    let mine := s.rd F.UNIT_VCOUNT_VCOUNT l = s.ras.k % 2 ^ 48
    if s.rasAtEnd l then ((s.goto x.nextStart).endRun l).rasEnd
    else if x.off = 0 ∧ s.period x.bank l set ≠ s.rmode.period then
      (((s.goto x.nextStart).wr F.RS_STATUS_PERIOD_BAD 0 1).journalFault l 0x04 0 0 0 0 0).ownAbort l 0x04 x.nextStart
    else if mine ∧ s.atPorch then s
    else
      let s0 := s.goto x.nextStart
      let s1 := if mine then s0.rasAdvance x.nextStart else s0
      let x1 := s1.leaf l
      let s2 := s1.setLeaf l { x1 with off := x1.off + 1, bdue := decide (63 ≤ x1.off) }
      let s3 := s2.feedPin l (s2.rd F.UNIT_VCOUNT_VCOUNT l) x.nextStart
      s3.playPeriod l (s3.rasStates l) x.bank set 511 0 (x.beadSeq, 0, 0, x.off)
  else s

/-- BEAD_BOUNDARY (R66, R234). -/
def leafBoundary (l par : Nat) (s : State) : State := if (s.leaf l).raster then rasterBoundary l s else beadBoundary l par s

/-- BEAD_BOUNDARY. -/
def execBeadBoundary (x : BeadIn) (s : State) : Host.Outcome State Fault Refusal := .next (leafBoundary x.leaf.val x.par.val s)

/-- VECTOR_ISSUE (R134, R231). -/
def leafIssue (l : Nat) (s : State) : State := if (s.leaf l).raster then rasterIssue l s else vectorIssue l s

/-- VECTOR_ISSUE. -/
def execVectorIssue (l : Fin 16) (s : State) : Host.Outcome State Fault Refusal := .next (leafIssue l.val s)

/-- ABORT_TAKE_EFFECT (R90, R233): a raster run's end retires the generations in force. -/
def leafAbort (l : Nat) (s : State) : State :=
  let s1 := abortTakeEffect l s
  if (s.leaf l).raster ∧ (s.leaf l).phase = .play ∧ (s1.leaf l).phase ≠ .play then s1.rasEnd else s1

/-- ABORT_TAKE_EFFECT. -/
def execAbortTakeEffect (l : Fin 16) (s : State) : Host.Outcome State Fault Refusal := .next (leafAbort l.val s)

end Sys2Proof.Machine
end

