-- ==== Sys2Proof/Machine/Dram.lean ====
section
/-! DEFINITION. The DRAM controller: scrubbing, command faults, retraining, refresh, self-refresh, regions, host writes and bezel
windows (15_dram.md R326 to R343). -/

namespace Sys2Proof.Machine

/-! ### Errors found by the scrubber (R333, R334) -/

/-- R334: an uncorrectable error that has appeared: the burst stays so until it is written, and what it holds is open. -/
def State.spoil (s : State) (burst : Nat) : State :=
  { s with dram := { s.dram with ue := if s.dram.ue.contains burst then s.dram.ue else s.dram.ue ++ [burst]
                                 soft := s.dram.soft.filter (· != burst) } }.undefine (burst * 64) (burst * 64 + 64)

/-- R333: a correctable error that has appeared. -/
def State.soften (s : State) (burst : Nat) : State :=
  { s with dram := { s.dram with soft := if s.dram.soft.contains burst || s.dram.ue.contains burst then s.dram.soft else s.dram.soft ++ [burst] } }

/-- SCRUB_PASS (R333, R334): the bursts in which a correctable or an uncorrectable error has appeared since the pass before; the scrubber,
when it is on, reads the whole memory: it counts every error and writes the corrected ones back. With it off they wait for a reader. -/
def scrubPass (soft bad : List (Fin 268435456)) (s : State) : State :=
  let s1 := bad.foldl (fun (s : State) b => s.spoil b.val) (soft.foldl (fun (s : State) b => s.soften b.val) s)
  if s1.on F.DM_SCRUB_EN 0 then
    let s2 := s1.dram.soft.foldl (fun (s : State) b => if s.scFaulty (s.scOf (b * 64)) then s else s.recordCe b) s1
    let s3 := { s2 with dram := { s2.dram with soft := s2.dram.soft.filter (fun b => s2.scFaulty (s2.scOf (b * 64))) } }
    s3.dram.ue.foldl (fun (s : State) b => if s.scFaulty (s.scOf (b * 64)) then s else s.recordUe (b * 64)) s3
  else s1

/-- SCRUB_PASS. -/
def execScrubPass (soft bad : List (Fin 268435456)) (s : State) : Host.Outcome State Fault Refusal := .next (scrubPass soft bad s)

/-! ### Command faults (R335) -/

/-- CA_ALERT (R335): a device asserts ALERT_n: the subchannel stalls; `again` says that the command reissued alerts once more. The
third such alert in a row marks the subchannel. -/
def caAlert (k : Nat) (again : Bool) (s : State) : State :=
  if s.scFaulty k then s
  else
    let n := if again then (Table.get? s.dram.alertRun k).getD 0 + 1 else 0
    let s1 := { s with dram := { s.dram with stalled := if s.dram.stalled.contains k then s.dram.stalled else s.dram.stalled ++ [k]
                                             alertRun := Table.set s.dram.alertRun k n } }
    let s2 := s1.bump F.DM_CA_ALERT_COUNT k 1 F.DM_STATUS_SAT 0 14 (0x100 + 0x40 * k + 0x18)
    if 3 ≤ n then s2.markFaulty k 1 else s2

/-- CA_ALERT. -/
def execCaAlert (k : Fin 4) (again : Bool) (s : State) : Host.Outcome State Fault Refusal := .next (caAlert k.val again s)

/-- ALERT_N_DEASSERT (R335): the controller reissues, and the stall of the subchannel ends. -/
def alertNDeassert (k : Nat) (s : State) : State :=
  { s with dram := { s.dram with stalled := s.dram.stalled.filter (fun j => j != k) } }

/-- ALERT_N_DEASSERT. -/
def execAlertNDeassert (k : Fin 4) (s : State) : Host.Outcome State Fault Refusal := .next (alertNDeassert k.val s)

/-! ### Retraining (R337) -/

/-- R337: a write of DM_CTL. -/
def wrDmCtl (s : State) (data : Nat) : State × Ans :=
  let sub := bits data 4 4
  if data.testBit 0 then
    if sub = 0 then (s, .rejected rRANGE 0)
    else if s.mstate ≠ mStandby then (s, .rejected rSTATE 0)
    else ({ s with dram := { s.dram with retrain := some (sub ||| s.dram.retrain.getD 0) } }, .ok)
  else (s, .ok)

/-- DM_RETRAIN: a write of DM_CTL with RETRAIN and a mask of subchannels. -/
def execDmRetrain (h : Hdr) (sub : Fin 16) (s : State) : Host.Outcome State Fault Refusal :=
  .next (s.request h 0x360000 (.write64 (1 + 16 * sub.val)) (fun s => wrDmCtl s (1 + 16 * sub.val)))

/-- R337: the content of every region on some subchannels becomes undefined. -/
def State.undefineSc (s : State) (mask : Nat) : State :=
  { s with dram := { s.dram with mem := s.dram.mem.filter (fun e => !mask.testBit (s.scOf e.1)), epoch := s.dram.epoch + 1 } }

/-- R337: the result of a subchannel's training. -/
def State.trained (s : State) (k : Nat) (pass : Bool) : State :=
  if pass then
    let s1 := s.wrs [(F.DM_SC_STAT_FAULTY, k, 0), (F.DM_SC_STAT_CAUSE, k, 0), (F.PL_SCFAULT_SUB, 0, setBit (s.rd F.PL_SCFAULT_SUB 0) k false)]
    if s.scFaulty k then s1.tellAll (.faulty (Fin.ofNat 16 s.module) (Fin.ofNat 4 k) false) else s1
  else if s.scFaulty k then s.wr F.DM_SC_STAT_CAUSE k 2
  else s.markFaulty k 2

/-- DM_RETRAIN_DONE (R337): the subchannels being retrained pass or fail. -/
def dmRetrainDone (pass : Nat) (s : State) : State :=
  match s.dram.retrain with
  | none => s
  | some m =>
    let s1 := { s with dram := { s.dram with retrain := none } }.undefineSc m
    (maskList 4 m).foldl (fun (s : State) k => s.trained k (pass.testBit k)) s1

/-- DM_RETRAIN_DONE: bit k of `pass` says that subchannel k passes. -/
def execDmRetrainDone (pass : Fin 16) (s : State) : Host.Outcome State Fault Refusal := .next (dmRetrainDone pass.val s)

/-! ### Temperature and refresh (R338, R339) -/

/-- ENV_STATUS as it reads. -/
def State.envStatus (s : State) : Nat :=
  pack [(0, 3, s.mstate), (3, 3, s.rd F.ENV_STATUS_RETURN 0), (6, 1, s.rd F.ENV_STATUS_CLEAR_OK 0), (8, 1, s.rd F.ENV_STATUS_FLOW_LOW 0),
        (9, 1, s.rd F.ENV_STATUS_INLET_WARM 0), (10, 1, s.rd F.ENV_STATUS_INLET_COLD 0), (11, 1, s.rd F.ENV_STATUS_DIE_WARM 0),
        (12, 1, s.rd F.ENV_STATUS_VIN_HIGH 0), (13, 1, s.rd F.ENV_STATUS_DEW_RISK 0), (14, 1, s.rd F.ENV_STATUS_DEW_STALE 0),
        (16, 1, s.rd F.ENV_STATUS_SAT 0)]

/-- DM_SC_STAT as it reads. -/
def State.dmScStat (s : State) (k : Nat) : Nat :=
  pack [(0, 1, s.rd F.DM_SC_STAT_FAULTY k), (1, 3, s.rd F.DM_SC_STAT_CAUSE k), (4, 1, s.rd F.DM_SC_STAT_HOT k),
        (8, 8, s.rd F.DM_SC_STAT_TEMP k)]

/-- R338: a device's reading is plausible. -/
def dramPlausible (t : Int) : Bool := decide (-40 ≤ t) && decide (t ≤ 125)

/-- R338: the readings of a subchannel's three devices: TEMP, the refresh rate, DM_HOT. -/
def State.scTemp (s : State) (k : Nat) (ts : List Int) : State :=
  let top := ts.foldl max (-128)
  let above (x : Int) (t : Int) : Bool := !dramPlausible t || decide (x < t)
  let hot := if ts.any (above 85) then 1 else if ts.all (fun t => dramPlausible t && decide (t ≤ 82)) then 0 else s.rd F.DM_SC_STAT_HOT k
  let s1 := s.wrs [(F.DM_SC_STAT_TEMP, k, twos 8 top), (F.DM_SC_STAT_HOT, k, hot)]
  let ep := ts.any (fun t => decide (95 < t))
  let s2 := { s1 with dram := { s1.dram with hotEp := if ep then k :: s1.dram.hotEp.filter (fun j => j != k)
                                                      else s1.dram.hotEp.filter (fun j => j != k) } }
  if ep && !s.dram.hotEp.contains k then s2.raise 0xE2 k (s2.dmScStat k) 0 else s2

/-- DRAM_TEMP_READ (R338): the case temperatures of the 12 devices, in °C, three for each subchannel. -/
def dramTempRead (ts : List Int) (s : State) : State :=
  let odd := (List.range 12).filter (fun i => !dramPlausible (ts.getD i 0))
  let new := odd.filter (fun i => !s.dram.implEp.contains i)
  let s1 := { s with dram := { s.dram with implEp := odd } }
  let s2 := new.foldl (fun (s : State) _ => s.raise 0x43 0 s.envStatus (s.rd F.ENV_IMPL_SENSORS 0)) s1
  [0, 1, 2, 3].foldl (fun (s : State) k => s.scTemp k ((ts.drop (3 * k)).take 3)) s2

/-- DRAM_TEMP_READ. -/
def execDramTempRead (ts : List (BitVec 8)) (s : State) : Host.Outcome State Fault Refusal :=
  .next (dramTempRead (ts.map (fun (t : BitVec 8) => t.toInt)) s)

/-- R338: the refresh interval of a subchannel, in tu. -/
def State.refreshTu (s : State) (k : Nat) : Nat := if s.on F.DM_SC_STAT_HOT k then 2496000 else 4992000

/-- DRAM_REFRESH (R338): an all-bank refresh of a subchannel when its interval has passed; in self-refresh the devices refresh
themselves. -/
def dramRefresh (k : Nat) (s : State) : State :=
  let t := match Table.get? s.dram.refreshes k with | some u => u + s.refreshTu k | none => s.now
  if s.on F.DM_STATUS_SR 0 ∨ s.due t = false then s
  else
    let s1 := s.goto t
    { s1 with dram := { s1.dram with refreshes := Table.set s1.dram.refreshes k t } }

/-- DRAM_REFRESH. -/
def execDramRefresh (k : Fin 4) (s : State) : Host.Outcome State Fault Refusal := .next (dramRefresh k.val s)

/-- SELF_REFRESH_ENTRY (R339): in STANDBY or SAFE, after DM_SR_IDLE µs without an access and with no page still draining. -/
def selfRefreshEntry (s : State) : State :=
  let t := s.dram.lastAccess + s.rd F.DM_SR_IDLE_US 0 * usTu
  let quiet := (List.range 8).all (fun n => (s.acqCh n).fifo.isEmpty)
  if (s.mstate = mStandby ∨ s.mstate = mSafe) ∧ s.on F.DM_STATUS_SR 0 = false ∧ quiet ∧ s.due t then (s.goto t).wr F.DM_STATUS_SR 0 1
  else s

/-- SELF_REFRESH_ENTRY. -/
def execSelfRefreshEntry (s : State) : Host.Outcome State Fault Refusal := .next (selfRefreshEntry s)

/-! ### Regions, maps, settings (R330, R343) -/

/-- R327: where the region rows start and end, and the map of each: payloads, headers, foreign area, raster, capture, journal. -/
def State.regionRows (s : State) : List (Nat × Nat × Nat) :=
  [(0, s.hdrBase, s.rd F.DM_MAP_STRAND 0), (s.hdrBase, s.foreignBase, s.rd F.DM_MAP_STRAND 0),
   (s.foreignBase, s.rasterBase, s.rd F.DM_MAP_STRAND 0), (s.rasterBase, s.captureBase, s.rd F.DM_MAP_RASTER 0),
   (s.captureBase, journalBase, s.rd F.DM_MAP_CAPTURE 0), (journalBase, dramSize, s.rd F.DM_MAP_JOURNAL 0)]

/-- R330: the content of every region that a change moved, resized or remapped is undefined; `old` is the rows before. -/
def State.remap (s : State) (old : List (Nat × Nat × Nat)) : State :=
  (old.zip s.regionRows).foldl (fun (s : State) e =>
    if e.1 = e.2 then s else (s.undefine e.1.1 e.1.2.1).undefine e.2.1 e.2.2.1) s

/-- R330: a write of DM_REGION. -/
def wrDmRegion (s : State) (data : Nat) : State × Ans :=
  let q := bits data 0 4
  let cap := bits data 8 6
  let ras := bits data 16 5
  let used := cap * 0x10000000 + ras * 0x4000000 + 0x10000000
  if q < 1 ∨ 14 < q ∨ cap < 1 ∨ 32 < cap ∨ 16 < ras ∨ dramSize < used + q * 0x44000000 then (s, .rejected rRANGE 0)
  else if s.mstate ≠ mStandby then (s, .rejected rSTATE 0)
  else if s.strands.table.any (fun (e : Nat × Nat) => decide (dLen e.2 ≠ 0) && decide (q * 262144 < dStart e.2 + dLen e.2)) then
    (s, .rejected rDM_DESC_RANGE 0)
  else
    ((s.wrs [(F.DM_REGION_LEAF_Q, 0, q), (F.DM_REGION_CAP_256M, 0, cap), (F.DM_REGION_RAS_64M, 0, ras)]).remap s.regionRows, .ok)

/-- R330, R331: a write of DM_MAP. -/
def wrDmMap (s : State) (data : Nat) : State × Ans :=
  if [0, 2, 4, 6].any (fun k => bits data k 2 == 3) then (s, .rejected rRANGE 0)
  else if s.mstate ≠ mStandby then (s, .rejected rSTATE 0)
  else
    ((s.wrs [(F.DM_MAP_STRAND, 0, bits data 0 2), (F.DM_MAP_RASTER, 0, bits data 2 2), (F.DM_MAP_CAPTURE, 0, bits data 4 2),
             (F.DM_MAP_JOURNAL, 0, bits data 6 2)]).remap s.regionRows, .ok)

/-- R343: a write of DM_SR_IDLE. -/
def wrDmSrIdle (s : State) (data : Nat) : State × Ans :=
  if bits data 0 16 = 0 then (s, .rejected rRANGE 0) else (s.wr F.DM_SR_IDLE_US 0 (bits data 0 16), .ok)

/-- R343: a write of DM_SCRUB. -/
def wrDmScrub (s : State) (data : Nat) : State × Ans :=
  if bits data 8 8 = 0 then (s, .rejected rRANGE 0)
  else (s.wrs [(F.DM_SCRUB_EN, 0, bits data 0 1), (F.DM_SCRUB_HOURS, 0, bits data 8 8)], .ok)

/-! ### Bezel windows (R342) -/

/-- R342: the last byte of a raster layer's buffer in flight. -/
def State.layerLast (s : State) (k : Nat) : Nat :=
  s.rd F.RS_L_BASE_BASE (act k) + s.rd F.RS_L_STRIDE_STRIDE (act k) * s.rd F.RS_L_POS_H (act k) - 1

/-- R342: the first burst of a window; windows 13 to 15 lie over the buffers in flight of L0 to L2. -/
def State.bzBase (s : State) (w : Nat) : Nat := if w < 13 then s.rd F.DM_BZ_BASE_BASE w else s.rd F.RS_L_BASE_BASE (act (w - 13)) / 64

/-- R342: the last burst of a window. -/
def State.bzLimit (s : State) (w : Nat) : Nat := if w < 13 then s.rd F.DM_BZ_LIMIT_LIMIT w else s.layerLast (w - 13) / 64

/-- R342: a window is enabled. -/
def State.bzOn (s : State) (w : Nat) : Bool :=
  if w < 13 then s.on F.DM_BZ_CFG_EN w else s.rasLive && s.on F.RS_L_CFG_EN (act (w - 13))

/-- R342, R240: a window is in REJECT mode. -/
def State.bzReject (s : State) (w : Nat) : Bool := if w < 13 then s.on F.DM_BZ_CFG_MODE w else s.on F.RS_CFG_BEZEL_BLOCK 0

/-- R342: the enabled windows that a range touches. -/
def State.bzTouched (s : State) (a n : Nat) : List Nat :=
  (List.range 16).filter (fun w => s.bzOn w && decide (a < (s.bzLimit w + 1) * 64) && decide (s.bzBase w * 64 < a + n))

/-- R342: a hit on a window in FLAG mode: counted, and a message once per tick. -/
def State.bzHit (s : State) (w : Nat) : State :=
  let s1 := s.bump F.DM_BZ_HIT_COUNT w 1 F.DM_STATUS_SAT 0 14 (0x400 + 0x20 * w + 0x18)
  if Table.get? s1.dram.bzTick w = some s1.tick then s1
  else
    { s1 with dram := { s1.dram with bzTick := Table.set s1.dram.bzTick w s1.tick } }.raise 0xE3 w (s1.bzBase w * 64) 0

/-- R342, R343: a write of a window's BASE, LIMIT or CFG: windows 13 to 15 belong to the raster engine. -/
def wrDmBz (w : Nat) (ok : State → Bool) (put : State → State) (s : State) : State × Ans :=
  if 13 ≤ w then (s, .rejected rRO_REGISTER 0) else if ok s then (put s, .ok) else (s, .rejected rRANGE 0)

/-- R343: a write of DM_BZ_BASE. -/
def wrDmBzBase (w : Nat) (s : State) (data : Nat) : State × Ans :=
  wrDmBz w (fun s => !s.on F.DM_BZ_CFG_EN w || decide (bits data 6 28 ≤ s.rd F.DM_BZ_LIMIT_LIMIT w))
    (fun s => s.wr F.DM_BZ_BASE_BASE w (bits data 6 28)) s

/-- R343: a write of DM_BZ_LIMIT. -/
def wrDmBzLimit (w : Nat) (s : State) (data : Nat) : State × Ans :=
  wrDmBz w (fun s => !s.on F.DM_BZ_CFG_EN w || decide (s.rd F.DM_BZ_BASE_BASE w ≤ bits data 6 28))
    (fun s => s.wr F.DM_BZ_LIMIT_LIMIT w (bits data 6 28)) s

/-- R343: a write of DM_BZ_CFG. -/
def wrDmBzCfg (w : Nat) (s : State) (data : Nat) : State × Ans :=
  wrDmBz w (fun s => !data.testBit 0 || decide (s.rd F.DM_BZ_BASE_BASE w ≤ s.rd F.DM_BZ_LIMIT_LIMIT w))
    (fun s => s.wrs [(F.DM_BZ_CFG_EN, w, bits data 0 1), (F.DM_BZ_CFG_MODE, w, bits data 1 1)]) s

/-! ### Host writes (R340, R341) -/

/-- R341: a unit of the plan in force that is RUNNING or start-pending has a bead of the range. -/
def State.beadsBusy (s : State) (a n : Nat) : Bool :=
  (s.strandsHit a n).any (fun (h : Nat × Nat) => s.pl.cur.runset.any (fun (e : PEnt) =>
    e.strand == h.2 && (s.leavesOf e.uix).contains h.1 && (s.unitBusy e.uix || s.startPending e.uix)))

/-- R341: the range touches a DRAM page of a channel that is capturing or draining. -/
def State.capturing (s : State) (a n : Nat) : Bool :=
  (List.range 8).any (fun c =>
    let st := s.acqState c
    let lo := s.captureBase + s.rd F.ACQ_DRAM_BASE c * 4096
    s.acqDram c && (st == aFILLING || st == aARMED || st == aTRIGGERED || s.acqHeld c || !(s.acqCh c).fifo.isEmpty)
      && decide (a < lo + s.rd F.ACQ_DRAM_PAGES c * 4096) && decide (lo < a + n))

/-- R341: the reason for which a host write is refused, in the order of the table. -/
def State.dramRefused (s : State) (a n : Nat) : Option Nat :=
  if journalBase < a + n ∨ (a < s.rasterBase ∧ s.foreignBase < a + n) then some rDM_PROTECTED
  else if s.rangeFaulty a n then some rDM_FAULTY
  else if s.beadsBusy a n then some rSTR_BUSY
  else if s.capturing a n then some rACQ_BUSY
  else if (s.bzTouched a n).any s.bzReject then some rBEZEL_FAULT
  else none

/-- R341, R311, R240, R342: a host write to the DRAM, and what follows from it. -/
def hostDramWrite (a : Nat) (data : List Byte) (s : State) : State × Ans :=
  let n := data.length
  match s.dramRefused a n with
  | some r => (s, .rejected r 0)
  | none =>
    let hits := ((s.strandsHit a n).map (·.2)).eraseDups
    let touched := s.bzTouched a n
    let s1 := (s.wake.dramWrite a data).staleHit a n
    let s2 := hits.foldl (fun (s : State) st => s.unplanHit st) s1
    let s3 := match s.rasGuarded a n with | k :: _ => s2.markTorn k a | [] => s2
    (touched.foldl (fun (s : State) w => s.bzHit w) s3, .ok)

/-- R340, R402: a write of 1 to 256 bytes to the DRAM window, at a window address. -/
def wrDramWin (addr : Nat) (data : List Byte) (s : State) : State × Ans :=
  if addr < dramWin ∨ dramWin + dramSize < addr + data.length ∨ data.isEmpty then (s, .rejected rUNMAPPED 0)
  else if crosses addr data.length then (s, .rejected rBURST 0)
  else hostDramWrite (addr - dramWin) data s

/-- HOST_DRAM_WRITE. -/
def execHostDramWrite (h : Hdr) (addr : BitVec 40) (data : List Byte) (s : State) : Host.Outcome State Fault Refusal :=
  .next (s.request h addr.toNat (.writeb data) (wrDramWin addr.toNat data))

end Sys2Proof.Machine
end

