-- ==== Sys2Proof/Machine/Tmu.lean ====
section
/-! DEFINITION. Edge time measurement: the reference, timestamps, edges, pairs, frequency, the code-density test (08_tmu.md), and
the lock of the vernier DLL (R147). -/

namespace Sys2Proof.Machine

/-! ### The reference (R191 to R195) -/

/-- TMU_REF as it reads. -/
def State.tmuRef (s : State) : Nat :=
  pack [(0, 1, s.rd F.TMU_REF_SRC 0), (1, 1, s.rd F.TMU_REF_LOST 0), (2, 1, s.rd F.TMU_REF_LOST_SEEN 0),
        (3, 1, s.rd F.TMU_REF_FREQ 0), (8, 10, s.rd F.TMU_REF_QUAL_MS 0), (20, 12, s.rd F.TMU_REF_OFFSET 0)]

/-- A frequency counter. -/
def State.fc (s : State) (f : Nat) : FcSt := (Table.get? s.tmu.fcs f).getD {}

/-- A frequency counter, set. -/
def State.setFc (s : State) (f : Nat) (x : FcSt) : State := { s with tmu := { s.tmu with fcs := Table.set s.tmu.fcs f x } }

/-- R207: HOLDOVER and UNCAL, as they stand, marked in a gate. -/
def FcGate.mark (g : FcGate) (hold uncal : Bool) : FcGate := { g with hold := g.hold || hold, uncal := g.uncal || uncal }

/-- R207: the end of a gate. -/
def State.fcEnd (s : State) (f : Nat) (g : FcGate) : Nat := tickAt (g.tick + s.rd F.TMU_FC_CFG_GATE f)

/-- R207: the gates of a counter rolled forward to an instant: a gate that has ended waits for its result; CONTINUOUS goes on. -/
def State.fcRoll (s : State) (f t : Nat) : State :=
  let x := s.fc f
  match x.cur with
  | none => s
  | some g =>
    if s.fcEnd f g ≤ t then
      let g' : FcGate := { tick := g.tick + s.rd F.TMU_FC_CFG_GATE f, hold := s.holdover,
                           uncal := !(s.on F.TMU_DLL_LOCK 0) }
      s.setFc f { ended := some (g.mark s.holdover (!(s.on F.TMU_DLL_LOCK 0))),
                  cur := if s.rd F.TMU_FC_CFG_MODE f = 2 then some g' else none }
    else s

/-- R207: the gates that have ended by now, rolled forward: what changes from here on is not theirs. -/
def State.fcRollAll (s : State) : State := (List.range 16).foldl (fun s f => s.fcRoll f s.now) s

/-- R207: HOLDOVER and UNCAL marked in every gate in progress. -/
def State.fcMark (s : State) : State :=
  (List.range 16).foldl (fun s f =>
    match (s.fc f).cur with
    | some g =>
      if g.tick ≤ s.tick then
        s.setFc f { s.fc f with cur := some (g.mark s.holdover (!(s.on F.TMU_DLL_LOCK 0))) }
      else s
    | none => s) s.fcRollAll

/-- R191: what REFOUT carries: 100 MHz divided from the base clock of this source (0 REFIN, 1 the TCXO), or nothing. -/
def State.refout (s : State) : Option Nat :=
  if s.on F.TMU_REF_CFG_REFOUT_EN 0 ∧ s.env.off = false then some (s.rd F.TMU_REF_SRC 0) else none

/-- R193, R194, R291: REFIN declared lost: holdover begins; a loss during the qualification or the pull-in restarts it. -/
def refinLoss (s : State) : State :=
  let s1 := { s with tmu := { s.tmu with pullIn := none } }.wr F.TMU_REF_QUAL_MS 0 0
  if s.on F.TMU_REF_LOST 0 then s1
  else
    let root := if s.on F.ID_LEASE_HELD 0 then [(F.ID_STAT_ROOT_HOLDOVER, 0, 1)] else []
    let s2 := ((s1.fcRollAll.wrs ([(F.TMU_REF_LOST, 0, 1), (F.TMU_REF_SRC, 0, 1)] ++ root)).flag F.TMU_REF_LOST_SEEN 0).fcMark
    (s2.journalTime 0 s2.now).raise 0xA0 0 s2.tmuRef 0

/-- REFIN_LOSS. -/
def execRefinLoss (s : State) : Host.Outcome State Fault Refusal :=
  .next (if s.mstate = mBoot ∨ s.mstate = 0 then s else refinLoss s)

/-- R192: a gate's frequency lies inside the window of frequency `f` (0 10 MHz, 1 100 MHz). -/
def gatePasses (f : Nat) (near : Option Nat) (off : Nat) : Bool :=
  near == some f && decide (-500 ≤ sx 12 off) && decide (sx 12 off ≤ 500)

/-- R195: one gate of a module that has not found its frequency. -/
def State.gateUnknown (s : State) (near : Option Nat) (off : Nat) : State :=
  let hit := [0, 1].find? (fun f => gatePasses f near off)
  if s.mstate = mBoot then
    let n := match hit with
      | none => 0
      | some _ => if s.tmu.cand = hit then s.tmu.bootGates + 1 else 1
    let s1 := { s with tmu := { s.tmu with cand := hit, bootGates := n, known := decide (10 ≤ n) } }
    if 10 ≤ n then s1.wr F.TMU_REF_FREQ 0 (hit.getD 1) else s1
  else
    match hit with
    | none => { s with tmu := { s.tmu with cand := none } }.wr F.TMU_REF_QUAL_MS 0 0
    | some _ =>
      if s.tmu.cand = hit then s.wr F.TMU_REF_QUAL_MS 0 (min 1000 (s.rd F.TMU_REF_QUAL_MS 0 + 1))
      else { s with tmu := { s.tmu with cand := hit } }.wr F.TMU_REF_QUAL_MS 0 (if s.tmu.cand = none then 1 else 0)

/-- REF_GATE_END (R192, R194, R195): a 1 ms gate ends. `near` is the frequency REFIN lies near, if any, and `off` its offset from it
in 0.1 ppm. -/
def refGateEnd (near : Option Nat) (off : Nat) (s : State) : State :=
  let s0 := s.wr F.TMU_REF_OFFSET 0 off
  if s.tmu.known = false then s0.gateUnknown near off
  else if gatePasses (s.rd F.TMU_REF_FREQ 0) near off then
    (if s.on F.TMU_REF_LOST 0 then s0.wr F.TMU_REF_QUAL_MS 0 (min 1000 (s.rd F.TMU_REF_QUAL_MS 0 + 1)) else s0)
  else refinLoss s0

/-- REF_GATE_END. -/
def execRefGateEnd (near : Option (Fin 2)) (off : BitVec 12) (s : State) : Host.Outcome State Fault Refusal :=
  .next (refGateEnd (near.map (·.val)) off.toNat s)

/-- REFIN_QUALIFIED (R194, R195): after 1 s of good REFIN the pull-in starts; a frequency that had not been found is selected. -/
def refinQualified (s : State) : State :=
  if s.on F.TMU_REF_LOST 0 ∧ s.rd F.TMU_REF_QUAL_MS 0 = 1000 ∧ s.tmu.pullIn = none then
    let s1 := if s.tmu.known then s else s.wr F.TMU_REF_FREQ 0 (s.tmu.cand.getD 1)
    { s1 with tmu := { s1.tmu with known := true, pullIn := some s.now } }
  else s

/-- REFIN_QUALIFIED. -/
def execRefinQualified (s : State) : Host.Outcome State Fault Refusal := .next (refinQualified s)

/-- REF_RESTORED (R194, R291): the pull-in completes and holdover ends. -/
def refRestored (s : State) : State :=
  match s.tmu.pullIn with
  | none => s
  | some _ =>
    let root := if s.on F.ID_LEASE_HELD 0 then [(F.ID_STAT_ROOT_HOLDOVER, 0, 0)] else []
    let s0 := s.fcRollAll
    let s1 := { s0 with tmu := { s0.tmu with pullIn := none } }.wrs ([(F.TMU_REF_SRC, 0, 0), (F.TMU_REF_LOST, 0, 0)] ++ root)
    (s1.journalTime 1 s1.now).raise 0xA1 0 s1.tmuRef 0

/-- REF_RESTORED. -/
def execRefRestored (s : State) : Host.Outcome State Fault Refusal := .next (refRestored s)

/-- TS_WRAP (R197): the timestamp wraps. -/
def tsWrap (s : State) : State :=
  let e := s.now / 2 ^ 64
  let k := if s.now % 2 ^ 64 = 0 ∧ s.rd F.TMU_EPOCH_EPOCH 0 ≠ e % 2 ^ 16 then e else e + 1
  if s.due (k * 2 ^ 64) then
    let s1 := (s.goto (k * 2 ^ 64)).wr F.TMU_EPOCH_EPOCH 0 (k % 2 ^ 16)
    (s1.journalTime 4 (k % 2 ^ 16)).raise 0xA2 0 (k % 2 ^ 16) 0
  else s

/-- TS_WRAP. -/
def execTsWrap (s : State) : Host.Outcome State Fault Refusal := .next (tsWrap s)

/-- DLL_LOCK_CHANGE (R147, R208): the lock of the vernier DLL changes: every leaf shows it, and the journal records it. -/
def dllLockChange (lock : Bool) (s : State) : State :=
  if s.on F.TMU_DLL_LOCK 0 = lock then s
  else
    let s1 := (s.fcRollAll.wr F.TMU_DLL_LOCK 0 (bit lock)).wrs ((List.range 16).map (fun l => (F.TS_STATUS_DLL_UNLOCK, l, bit (!lock))))
    let s2 := if lock then s1
      else ({ s1 with tmu := { s1.tmu with cdtUncal := true } }.flag F.TMU_DLL_UNLOCK_SEEN 0).fcMark
    s2.journalTime (if lock then 3 else 2) s2.now

/-- DLL_LOCK_CHANGE. -/
def execDllLockChange (lock : Bool) (s : State) : Host.Outcome State Fault Refusal := .next (dllLockChange lock s)

/-! ### Edges (R198 to R202) -/

/-- The TMU of a pin. -/
def State.tmuPin (s : State) (p : Nat) : TmuPin := (Table.get? s.tmu.pins p).getD {}

/-- The TMU of a pin, set. -/
def State.setTmuPin (s : State) (p : Nat) (x : TmuPin) : State := { s with tmu := { s.tmu with pins := Table.set s.tmu.pins p x } }

/-- A pair engine. -/
def State.pair (s : State) (e : Nat) : PairEng := (Table.get? s.tmu.pairs e).getD {}

/-- A pair engine, set. -/
def State.setPair (s : State) (e : Nat) (x : PairEng) : State := { s with tmu := { s.tmu with pairs := Table.set s.tmu.pairs e x } }

/-- R202: 160 base cycles. -/
def tmuDelay : Nat := 160 * cyc

/-- R200: the leaf's drain up to an instant: one record per base cycle, the oldest first. -/
def drainTo (t : Nat) : List (Nat × Nat) → Nat → List (Nat × Nat) × Nat
  | [], d => ([], d)
  | (j, u) :: r, d =>
    let at_ := max (edgeUp u) d
    if at_ ≤ t then drainTo t r (at_ + cyc) else ((j, u) :: r, d)

/-- R200: the records a leaf has not drained, and when it drains next. -/
def State.setDrain (s : State) (l : Nat) (q : List (Nat × Nat)) (d : Nat) : State :=
  { s with tmu := { s.tmu with queues := Table.set s.tmu.queues l q, drained := Table.set s.tmu.drained l d } }

/-- R204: an edge put before a pair engine, in timestamp order; on equal timestamps the start first, but for an engine that takes
each edge twice, whose stop comes first. -/
def insEdge (twice : Bool) (q : List TmuEdge) (e : TmuEdge) : List TmuEdge :=
  match q with
  | [] => [e]
  | a :: t =>
    if e.time < a.time ∨ (e.time = a.time ∧ e.start ∧ !a.start ∧ !twice) then e :: a :: t else a :: insEdge twice t e

/-- R203: an engine takes its start and its stop from the same edges. -/
def State.pairTwice (s : State) (e : Nat) : Bool :=
  s.rd F.TMU_PAIR_CFG_START_PIN e == s.rd F.TMU_PAIR_CFG_STOP_PIN e && s.rd F.TMU_PAIR_CFG_START_DIR e == s.rd F.TMU_PAIR_CFG_STOP_DIR e

/-- R203, R204: a recorded edge of pin `p` handed to the pair engines that use it. -/
def State.feedPairs (s : State) (p dir : Nat) (x : TmuEdge) : State :=
  ((List.range 16).filter (s.on F.TMU_PAIR_CFG_EN)).foldl (fun s e =>
    let isStop := s.rd F.TMU_PAIR_CFG_STOP_PIN e == p && s.rd F.TMU_PAIR_CFG_STOP_DIR e == dir
    let isStart := s.rd F.TMU_PAIR_CFG_START_PIN e == p && s.rd F.TMU_PAIR_CFG_START_DIR e == dir
    let q := (s.pair e).queue
    let q1 := if isStop then insEdge (s.pairTwice e) q { x with start := false } else q
    let q2 := if isStart then insEdge (s.pairTwice e) q1 { x with start := true } else q1
    s.setPair e { s.pair e with queue := q2 }) s

/-- R207: an edge of a gate: recorded, or lost. -/
def FcGate.edge (g : FcGate) (t : Nat) (recorded : Bool) : FcGate :=
  match g.first with
  | none => if recorded then { g with first := some t, last := t, seen := 1, count := 1 } else g
  | some _ =>
    if recorded then { g with last := t, seen := g.seen + 1, count := g.seen + 1, lost := g.lostSeen }
    else { g with seen := g.seen + 1, lostSeen := true }

/-- R207: a resolved edge of pin `p` handed to the frequency counters that count it. -/
def State.feedFcs (s : State) (p dir t : Nat) (recorded : Bool) : State :=
  ((List.range 16).filter (fun f => s.rd F.TMU_FC_CFG_MODE f != 0 && s.rd F.TMU_FC_CFG_PIN f == p && s.rd F.TMU_FC_CFG_DIR f == dir)).foldl
    (fun s f =>
      let s1 := s.fcRoll f t
      match (s1.fc f).cur with
      | some g => if tickAt g.tick ≤ t then s1.setFc f { s1.fc f with cur := some (g.edge t recorded) } else s1
      | none => s1) s

/-- R201: an EDGE record. -/
def State.edgeWord (s : State) (p dir cmp t : Nat) (missed : Bool) : Nat :=
  pack [(0, 64, t), (64, 8, p), (72, 1, dir), (73, 1, cmp), (122, 1, bit s.holdover), (125, 1, bit missed),
        (126, 1, bit (!(s.on F.TMU_DLL_LOCK 0)))]

/-- TMU_EDGE (R198 to R202, R209): the watched comparator of pin `p` resolves an edge at an instant of the present tick. An edge of a
direction that is enabled is recorded, or lost to the dead time or a full queue. In a code-density test the comparator is not connected. -/
def tmuEdge (p : Nat) (rising : Bool) (at_ : Nat) (s : State) : State :=
  let t := max s.now (tickAt s.tick + at_)
  let x := s.tmuPin p
  let dir := bit rising
  if s.mstate ≠ mStandby ∧ s.mstate ≠ mMounted ∧ s.mstate ≠ mSafe then s
  else if ¬(if rising then x.cfg.testBit 0 else x.cfg.testBit 1) then s
  else if s.on F.TMU_CDT_RES_BUSY 0 ∧ s.tmu.cdtPin = p then s
  else
    let s0 := s.goto t
    let l := p / 9
    let (q, d) := drainTo t ((Table.get? s.tmu.queues l).getD []) ((Table.get? s.tmu.drained l).getD 0)
    let dead := match x.last with | some u => decide (t < u + 3072) | none => false
    let full := decide (16 ≤ (q.filter (fun e => e.1 == p % 9)).length)
    if dead || full then
      let s1 := (s0.setDrain l q d).setTmuPin p
        { x with missed := true }
      (s1.bump F.TMU_MISSED_COUNT p 1 F.TMU_GSTATUS_SAT 0 10 (0x1800 + 8 * p)).feedFcs p dir t false
    else
      let s1 := (s0.setDrain l (q ++ [(p % 9, t)]) d).setTmuPin p
        { x with missed := false, last := some t }
      let s2 := s1.wr F.TMU_LAST_TIME p t
      let s3 := s2.feedTmu l (p % 9) t (s2.edgeWord p dir (bits x.cfg 2 1) t x.missed) true
      (s3.feedFcs p dir t true).feedPairs p dir
        { time := t, missed := x.missed, hold := s.holdover, uncal := !(s.on F.TMU_DLL_LOCK 0) }

/-- TMU_EDGE. -/
def execTmuEdge (p : Fin 144) (rising : Bool) (at_ : Fin 327680) (s : State) : Host.Outcome State Fault Refusal :=
  .next (tmuEdge p.val rising at_.val s)

/-! ### Pairs (R203 to R206) -/

/-- R206: the window event of a pair. -/
def State.winEvent (s : State) (e t : Nat) (delta : Int) : State :=
  let mode := s.rd F.TMU_PAIR_CFG_WMODE e
  let inside := decide (sx 40 (s.rd F.TMU_PAIR_LO_LO e) ≤ delta) && decide (delta ≤ sx 40 (s.rd F.TMU_PAIR_HI_HI e))
  if (mode = 1 ∧ inside) ∨ (mode = 2 ∧ !inside) then
    let p := s.rd F.TMU_PAIR_CFG_STOP_PIN e
    let s1 := s.bump F.TMU_WIN_COUNT_COUNT e 1 F.TMU_GSTATUS_SAT 0 10 (0x3000 + 0x40 * e + 0x38)
    let s2 := { s1 with trig := { s1.trig with winNow := setBit s1.trig.winNow (p / 9) true } }
    (s2.journalInput 4 p true (p / 9) t).occursWin (p / 9) (p % 9) t
  else s

/-- R205: a pair emitted. -/
def State.emitPair (s : State) (e : Nat) (st sp : TmuEdge) : State :=
  let raw : Int := (sp.time : Int) - (st.time : Int)
  let near := decide (raw.natAbs < 4)
  let delta := if near then 0 else raw
  let order := decide (raw < 0) && !near
  let hold := st.hold || sp.hold
  let missed := st.missed || sp.missed
  let uncal := st.uncal || sp.uncal
  let pin := s.rd F.TMU_PAIR_CFG_STOP_PIN e
  let w := pack [(0, 64, st.time), (64, 40, twos 40 delta), (104, 8, s.rd F.TMU_PAIR_CFG_START_PIN e), (112, 8, pin),
    (120, 1, s.rd F.TMU_PAIR_CFG_START_DIR e), (121, 1, s.rd F.TMU_PAIR_CFG_STOP_DIR e), (122, 1, bit hold), (123, 1, bit near),
    (124, 1, bit order), (125, 1, bit missed), (126, 1, bit uncal), (127, 1, 1)]
  let s1 := (s.bump F.TMU_PAIR_COUNT_COUNT e 1 F.TMU_GSTATUS_SAT 0 10 (0x3000 + 0x40 * e + 0x28)).wrs
    [(F.TMU_PAIR_LAST_DELTA, e, twos 40 delta), (F.TMU_PAIR_LAST_COINCIDENT, e, bit near), (F.TMU_PAIR_LAST_ORDER, e, bit order),
     (F.TMU_PAIR_LAST_HOLDOVER, e, bit hold), (F.TMU_PAIR_LAST_MISSED_BEFORE, e, bit missed), (F.TMU_PAIR_LAST_UNCAL, e, bit uncal),
     (F.TMU_PAIR_LAST_VALID, e, 1)]
  (s1.feedTmu (pin / 9) (pin % 9) st.time w false).winEvent e (max st.time sp.time) delta

/-- R204: pending edges discarded, each counted. -/
def State.unpair (s : State) (e : Nat) (l : List (Option TmuEdge)) : State :=
  let n := (l.filter (·.isSome)).length
  if n = 0 then s else s.bump F.TMU_UNPAIRED_COUNT e n F.TMU_GSTATUS_SAT 0 10 (0x3000 + 0x40 * e + 0x30)

/-- R204: the engine acts on one edge. -/
def State.pairAct (s : State) (e : Nat) (a : TmuEdge) : State :=
  let x := s.pair e
  let w := s.rd F.TMU_PAIR_W_W e
  if a.start then
    match x.pStop with
    | some sp =>
      if a.time ≤ sp.time + w then (s.setPair e { x with pStop := none }).emitPair e a sp
      else (s.setPair e { x with pStop := none, pStart := some a }).unpair e [x.pStop, x.pStart]
    | none => (s.setPair e { x with pStart := some a }).unpair e [x.pStart]
  else
    match x.pStart with
    | some st =>
      if a.time ≤ st.time + w then (s.setPair e { x with pStart := none }).emitPair e st a
      else (s.setPair e { x with pStart := none, pStop := some a }).unpair e [x.pStart, x.pStop]
    | none => (s.setPair e { x with pStop := some a }).unpair e [x.pStop]

/-- PAIR_EDGE_PROCESS (R204): a pair engine acts on its next edge, 160 base cycles after the edge's instant. -/
def pairEdgeProcess (e : Nat) (s : State) : State :=
  match (s.pair e).queue with
  | [] => s
  | a :: r =>
    if s.due (a.time + tmuDelay) then ((s.goto (a.time + tmuDelay)).setPair e { s.pair e with queue := r }).pairAct e a else s

/-- PAIR_EDGE_PROCESS. -/
def execPairEdgeProcess (e : Fin 16) (s : State) : Host.Outcome State Fault Refusal := .next (pairEdgeProcess e.val s)

/-- R204: a pending edge whose age reaches W, no edge before that instant still waiting. -/
def State.pairOld (s : State) (e : Nat) (p : Option TmuEdge) : Bool :=
  match p with
  | none => false
  | some a =>
    let t := a.time + s.rd F.TMU_PAIR_W_W e
    s.due t && (s.pair e).queue.all (fun q => decide (t < q.time))

/-- PAIR_PENDING_EXPIRE (R204): a pending edge older than W is discarded and counted. -/
def pairPendingExpire (e : Nat) (s : State) : State :=
  let x := s.pair e
  let oldS := s.pairOld e x.pStart
  let oldP := s.pairOld e x.pStop
  let t := (match x.pStart, oldS with | some a, true => a.time + s.rd F.TMU_PAIR_W_W e | _, _ => 0)
  let u := (match x.pStop, oldP with | some a, true => a.time + s.rd F.TMU_PAIR_W_W e | _, _ => 0)
  if oldS || oldP then
    ((s.goto (max t u)).setPair e { x with pStart := if oldS then none else x.pStart, pStop := if oldP then none else x.pStop }).unpair e
      [if oldS then x.pStart else none, if oldP then x.pStop else none]
  else s

/-- PAIR_PENDING_EXPIRE. -/
def execPairPendingExpire (e : Fin 16) (s : State) : Host.Outcome State Fault Refusal := .next (pairPendingExpire e.val s)

/-- R198, R203: the TMU of a pin records a direction. -/
def State.records (s : State) (p dir : Nat) : Bool := if dir = 1 then s.on F.TMU_PIN_CFG_RISE p else s.on F.TMU_PIN_CFG_FALL p

/-- R203: a write of TMU_PAIR_CFG. -/
def wrPairCfg (e : Nat) (s : State) (data : Nat) : State × Ans :=
  let a := bits data 0 8
  let b := bits data 8 8
  let da := bits data 16 1
  let db := bits data 17 1
  let en := data.testBit 20
  if s.calBusy then (s, .rejected rCAL_BUSY 0)
  else if bits data 18 2 = 3 then (s, .rejected rRANGE 0)
  else if en && (decide (143 < a) || decide (143 < b)) then (s, .rejected rRANGE 0)
  else if en && (!s.records a da || !s.records b db) then (s, .rejected rSTATE 0)
  else if en && decide (sx 40 (s.rd F.TMU_PAIR_HI_HI e) < sx 40 (s.rd F.TMU_PAIR_LO_LO e)) then (s, .rejected rRANGE 0)
  else
    let s1 := s.wrs [(F.TMU_PAIR_CFG_START_PIN, e, a), (F.TMU_PAIR_CFG_STOP_PIN, e, b), (F.TMU_PAIR_CFG_START_DIR, e, da),
      (F.TMU_PAIR_CFG_STOP_DIR, e, db), (F.TMU_PAIR_CFG_WMODE, e, bits data 18 2), (F.TMU_PAIR_CFG_EN, e, bit en)]
    (if en && s.on F.TMU_PAIR_CFG_EN e then s1 else (s1.setPair e {}).wr F.TMU_PAIR_LAST_VALID e (if en then 0 else s.rd F.TMU_PAIR_LAST_VALID e), .ok)

/-- The address of TMU_PAIR_CFG of an engine. -/
def pairAddr (e : Nat) : Nat := 0x323000 + 0x40 * e

/-- PAIR_ENABLE: a write of TMU_PAIR_CFG with EN set. -/
def execPairEnable (h : Hdr) (e : Fin 16) (data : Word) (s : State) : Host.Outcome State Fault Refusal :=
  .next (s.request h (pairAddr e.val) (.write64 data.toNat) (fun s =>
    if bits data.toNat 21 43 ≠ 0 then (s, .rejected rRESERVED_BIT 0) else wrPairCfg e.val s (data.toNat ||| 0x100000)))

/-- R203: a write of another register of a pair engine: only while EN is 0, and in range. -/
def wrPairReg (e : Nat) (ok : Nat → Bool) (put : State → Nat → State) (s : State) (data : Nat) : State × Ans :=
  if s.on F.TMU_PAIR_CFG_EN e then (s, .rejected rSTATE 0) else if ok data then (put s data, .ok) else (s, .rejected rRANGE 0)

/-- R198: a pin's TMU is used by an enabled pair engine or a frequency counter. -/
def State.tmuUsed (s : State) (p : Nat) : Bool :=
  (List.range 16).any (fun e => s.on F.TMU_PAIR_CFG_EN e && (s.rd F.TMU_PAIR_CFG_START_PIN e == p || s.rd F.TMU_PAIR_CFG_STOP_PIN e == p))
  || (List.range 16).any (fun f => s.rd F.TMU_FC_CFG_MODE f != 0 && s.rd F.TMU_FC_CFG_PIN f == p)

/-- R198: a write of TMU_PIN_CFG: in effect from the next tick boundary. -/
def wrTmuPin (p : Nat) (s : State) (data : Nat) : State × Ans :=
  if s.calBusy then (s, .rejected rCAL_BUSY 0)
  else if s.tmuUsed p then (s, .rejected rSTATE 0)
  else
    ((s.wrs [(F.TMU_PIN_CFG_RISE, p, bits data 0 1), (F.TMU_PIN_CFG_FALL, p, bits data 1 1), (F.TMU_PIN_CFG_CMP, p, bits data 2 1)]).setTmuPin p
      { s.tmuPin p with next := some (s.tick + 1, data % 8) }, .ok)

/-- R198: the settings that take effect at a tick boundary. -/
def TmuPin.atTick (x : TmuPin) (n : Nat) : TmuPin :=
  match x.next with
  | some (k, c) => if k ≤ n then { x with cfg := c, next := none } else x
  | none => x

/-! ### Frequency (R207) -/

/-- R207: a write of TMU_FC_CFG. -/
def wrFcCfg (f : Nat) (s : State) (data : Nat) : State × Ans :=
  let mode := bits data 32 2
  let p := bits data 0 8
  let dir := bits data 8 1
  if s.calBusy then (s, .rejected rCAL_BUSY 0)
  else if mode = 3 ∨ 143 < p ∨ bits data 16 16 = 0 then (s, .rejected rRANGE 0)
  else if mode ≠ 0 ∧ s.rd F.TMU_FC_TICK_TICK f < s.tick + 1 then (s, .rejected rSTATE 0)
  else if mode ≠ 0 ∧ s.records p dir = false then (s, .rejected rSTATE 0)
  else
    let s1 := s.wrs [(F.TMU_FC_CFG_PIN, f, p), (F.TMU_FC_CFG_DIR, f, dir), (F.TMU_FC_CFG_GATE, f, bits data 16 16), (F.TMU_FC_CFG_MODE, f, mode)]
    (s1.setFc f { cur := if mode = 0 then none else some { tick := s.rd F.TMU_FC_TICK_TICK f } }, .ok)

/-- The address of TMU_FC_CFG of a counter. -/
def fcAddr (f : Nat) : Nat := 0x323400 + 0x20 * f

/-- FC_MODE_WRITE: a write of TMU_FC_CFG. -/
def execFcModeWrite (h : Hdr) (f : Fin 16) (data : Word) (s : State) : Host.Outcome State Fault Refusal :=
  .next (s.request h (fcAddr f.val) (.write64 data.toNat) (fun s =>
    if bits data.toNat 9 7 ≠ 0 ∨ bits data.toNat 34 30 ≠ 0 then (s, .rejected rRESERVED_BIT 0) else wrFcCfg f.val s data.toNat))

/-- FC_GATE_END (R207): 160 base cycles after a gate ends its result replaces the one before. -/
def fcGateEnd (f : Nat) (s : State) : State :=
  let s0 := match (s.fc f).cur with
    | some g => if (s.fc f).ended = none ∧ s.due (s.fcEnd f g + tmuDelay) then s.fcRoll f (s.fcEnd f g) else s
    | none => s
  match (s0.fc f).ended with
  | none => s
  | some g =>
    let t := s0.fcEnd f g + tmuDelay
    if s0.due t then
      let single := s0.rd F.TMU_FC_CFG_MODE f == 1
      let s1 := (s0.goto t).setFc f { s0.fc f with ended := none }
      let s2 := s1.wrs [(F.TMU_FC_RES_COUNT, f, g.count), (F.TMU_FC_RES_VALID, f, bit (decide (2 ≤ g.count))),
        (F.TMU_FC_RES_MISSED, f, bit g.lost), (F.TMU_FC_RES_HOLDOVER, f, bit g.hold), (F.TMU_FC_RES_UNCAL, f, bit g.uncal),
        (F.TMU_FC_RES_GEN, f, s.rd F.TMU_FC_RES_GEN f + 1),
        (F.TMU_FC_SPAN_SPAN, f, match g.first with | some a => g.last - a | none => 0)]
      if single then s2.wr F.TMU_FC_CFG_MODE f 0 else s2
    else s0

/-- FC_GATE_END. -/
def execFcGateEnd (f : Fin 16) (s : State) : Host.Outcome State Fault Refusal := .next (fcGateEnd f.val s)

/-! ### The code-density test (R209) -/

/-- R209: a write of TMU_CDT_CTL: PIN, and START with its conditions. -/
def wrCdtCtl (s : State) (data : Nat) : State × Ans :=
  let p := bits data 0 8
  if s.calBusy then (s, .rejected rCAL_BUSY 0)
  else if 143 < p then (s, .rejected rRANGE 0)
  else if data.testBit 8 then
    if s.on F.TMU_CDT_RES_BUSY 0 || s.on F.TMU_PIN_CFG_RISE p || s.on F.TMU_PIN_CFG_FALL p || s.tmuUsed p then (s, .rejected rSTATE 0)
    else
      let s1 := s.wrs [(F.TMU_CDT_CTL_PIN, 0, p), (F.TMU_CDT_RES_BUSY, 0, 1), (F.TMU_CDT_RES_DONE, 0, 0)]
      ({ s1.wrs ((List.range 1024).map (fun c => (F.TMU_CDT_HIST_HITS, c, 0))) with
          tmu := { s.tmu with cdtUncal := !(s.on F.TMU_DLL_LOCK 0), cdtPin := p } }, .ok)
  else (s.wr F.TMU_CDT_CTL_PIN 0 p, .ok)

/-- CDT_START: a write of TMU_CDT_CTL with START. -/
def execCdtStart (h : Hdr) (p : BitVec 8) (s : State) : Host.Outcome State Fault Refusal :=
  .next (s.request h 0x320028 (.write64 (p.toNat + 256)) (fun s => wrCdtCtl s (p.toNat + 256)))

/-- TMU_CDT_RES as it reads. -/
def State.cdtRes (s : State) : Nat :=
  pack [(0, 1, s.rd F.TMU_CDT_RES_BUSY 0), (1, 1, s.rd F.TMU_CDT_RES_DONE 0), (2, 1, s.rd F.TMU_CDT_RES_PASS 0),
        (3, 1, s.rd F.TMU_CDT_RES_UNCAL 0), (8, 16, s.rd F.TMU_CDT_RES_DNL 0), (24, 16, s.rd F.TMU_CDT_RES_INL 0)]

/-- R209: the deviation of each code's width from 1 tu, in 1/1 024 tu: the hits of a code stand for its width. -/
def cdtDnl (hits : List Nat) : List Int := hits.map (fun (h : Nat) => (h : Int) - 1024)

/-- R209: the sum of the deviations up to each code. -/
def cdtInl : Int → List Int → List Int
  | _, [] => []
  | a, d :: r => (a + d) :: cdtInl (a + d) r

/-- The largest magnitude. -/
def maxAbs (l : List Int) : Nat := (l.map Int.natAbs).foldl max 0

/-- TMU_CDT_DONE (R209): the test has collected its 1 048 576 hits: `hits` by fine code, from which DNL and INL follow. -/
def tmuCdtDone (hits : List Nat) (s : State) : State :=
  if s.on F.TMU_CDT_RES_BUSY 0 then
    let dnl := maxAbs (cdtDnl hits)
    let inl := maxAbs (cdtInl 0 (cdtDnl hits))
    let pass := decide (dnl ≤ 512) && decide (inl ≤ 2048) && !s.tmu.cdtUncal
    let s1 := (s.wrs (((List.range 1024).zip hits).map (fun e => (F.TMU_CDT_HIST_HITS, e.1, e.2)))).wrs
      [(F.TMU_CDT_RES_BUSY, 0, 0), (F.TMU_CDT_RES_DONE, 0, 1), (F.TMU_CDT_RES_PASS, 0, bit pass),
       (F.TMU_CDT_RES_UNCAL, 0, bit s.tmu.cdtUncal), (F.TMU_CDT_RES_DNL, 0, min (dnl / 4) 0xFFFF), (F.TMU_CDT_RES_INL, 0, min (inl / 4) 0xFFFF)]
    s1.raise 0xA3 s.tmu.cdtPin s1.cdtRes 0
  else s

/-- TMU_CDT_DONE: the counts of the bins in order of code, in three lists one after the other. -/
def execTmuCdtDone (low mid high : List (BitVec 32)) (s : State) : Host.Outcome State Fault Refusal :=
  .next (tmuCdtDone ((low ++ mid ++ high).map (·.toNat)) s)

end Sys2Proof.Machine
end

