-- ==== Sys2Proof/Machine/Env.lean ====
section
/-! DEFINITION. Power, sensors, SAFE, FAULT, start-up, the front-end supervisor, the trigger inputs and firmware update
(18_power.md R375 to R397). -/

namespace Sys2Proof.Machine

/-! ### Sensors (R385, R386): 0 input voltage, 1 inlet, 2 outlet, 3 flow, 4 chamber, 5 ASIC, 6 to 9 the front-end dies, 10 + l the
interposer of leaf l, 26 the input current -/

/-- A value put into an ascending list. -/
def insertInt (v : Int) : List Int → List Int
  | [] => [v]
  | a :: t => if v < a then v :: a :: t else a :: insertInt v t

/-- R385: the median of five samples. -/
def median5 (l : List Int) : Int := (l.foldl (fun a v => insertInt v a) []).getD 2 0

/-- R385: a sensor's filtered value, once it has five samples. -/
def State.filtered (s : State) (k : Nat) : Option Int :=
  let l := (Table.get? s.env.samples k).getD []
  if l.length = 5 then some (median5 l) else none

/-- R386: the plausible range of a sensor (mV, 0.01 °C, mL/min). -/
def sensorRange (k : Nat) : Int × Int :=
  if k = 0 then (0, 80000)
  else if k = 1 ∨ k = 2 then (-2000, 8000)
  else if k = 3 then (0, 20000)
  else if 5 ≤ k ∧ k ≤ 9 then (-5000, 15000)
  else if k = 26 then (0, 65535)
  else (-6000, 15000)

/-- R386: a sensor's reading is implausible. -/
def State.implausible (s : State) (k : Nat) : Bool :=
  s.env.broken.contains k ||
  (match s.filtered k with
   | none => false
   | some v =>
     let (lo, hi) := sensorRange k
     k != 26 && (decide (v < lo) || decide (hi < v) ||
       (k == 2 && (match s.filtered 1 with | some i => decide (v < i - 200) | none => false))))

/-- R386: the value that control acts on: filtered, and plausible. -/
def State.good (s : State) (k : Nat) : Option Int := if s.implausible k then none else s.filtered k

/-- A test on a value that control acts on; false where there is none. -/
def State.sees (s : State) (k : Nat) (p : Int → Bool) : Bool := match s.good k with | some v => p v | none => false

/-- The dies (R386). -/
def dieSensors : List Nat := [5, 6, 7, 8, 9]

/-- R386: the sensors whose loss is a SAFE cause. -/
def safetySensors : List Nat := [0, 1, 2, 3] ++ dieSensors

/-- R397: a sensor's field: 0x8000 while implausible. -/
def State.sensorField (s : State) (k w : Nat) (old : Nat) : Nat :=
  if s.implausible k then 0x8000 else match s.filtered k with | some v => twos w v | none => old

/-- R397: the hottest front-end die. -/
def State.pfeMax (s : State) (old : Nat) : Nat :=
  match [6, 7, 8, 9].filterMap s.good with
  | [] => if [6, 7, 8, 9].any s.implausible then 0x8000 else old
  | v :: vs => twos 16 (vs.foldl max v)

/-- R397, R358: the registers that show a sensor. -/
def State.showSensor (s : State) (k : Nat) : State :=
  let put (f : Fld) (w : Nat) : State := s.wr f 0 (s.sensorField k w (s.rd f 0))
  if k = 0 then put F.ENV_VIN_MV 17
  else if k = 1 then put F.ENV_COOL_INLET 16
  else if k = 2 then put F.ENV_COOL_OUTLET 16
  else if k = 3 then put F.ENV_COOL_FLOW 16
  else if k = 4 then put F.ENV_TEMP_CHAMBER 16
  else if k = 5 then put F.ENV_TEMP_ASIC 16
  else if k ≤ 9 then s.wr F.ENV_TEMP_PFE_MAX 0 (s.pfeMax (s.rd F.ENV_TEMP_PFE_MAX 0))
  else if k = 26 then put F.ENV_VIN_MA 16
  else if s.implausible k then s.leafReading (k - 10) none
  else match s.filtered k with | some v => s.leafReading (k - 10) (some v) | none => s

/-- R386: the ENV_IMPL bit of a sensor follows, with an event for an episode that begins. -/
def State.followImpl (s : State) (k : Nat) : State :=
  if k = 26 then s
  else
    let m := s.rd F.ENV_IMPL_SENSORS 0
    if s.implausible k then
      if m.testBit k then s
      else
        let s1 := { s with env := { s.env with implSince := Table.set s.env.implSince k s.now } }.wr F.ENV_IMPL_SENSORS 0 (setBit m k true)
        s1.raise 0x43 0 s1.envStatus (s1.rd F.ENV_IMPL_SENSORS 0)
    else
      { s with env := { s.env with implSince := Table.erase s.env.implSince k } }.wr F.ENV_IMPL_SENSORS 0 (setBit m k false)

/-! ### Causes and warnings (R384, R387) -/

/-- A time of 100 ms in tu. -/
def tenthTu : Nat := 128000000000

/-- R384: the inlet lies less than 3 °C above the dew point written. -/
def State.dewRisk (s : State) : Bool :=
  let d := s.rd F.ENV_DEW_DEW 0
  d != 0x8000 && s.sees 1 (fun v => decide (v < sx 16 d + 300))

/-- R387: the condition of a cause holds. -/
def State.causeOn (s : State) (c : Nat) : Bool :=
  if c = 0 then s.sees 3 (fun v => decide (v < 1200))
  else if c = 1 then s.sees 1 (fun v => decide (4200 < v))
  else if c = 2 then s.sees 2 (fun v => decide (4700 < v))
  else if c = 3 then dieSensors.any (fun k => s.sees k (fun v => decide (11000 < v)))
  else if c = 4 then s.sees 0 (fun v => decide (v < 8800))
  else if c = 5 then
    s.sees 0 (fun v => decide (70000 < v)) || (match s.env.highSince with | some t => decide (t + tenthTu < s.now) | none => false)
  else if c = 6 then
    safetySensors.any (fun k => s.implausible k && (match Table.get? s.env.implSince k with | some t => decide (t + tenthTu ≤ s.now) | none => false))
  else if c = 7 then s.on F.ENV_CFG_DEW_SAFE 0 && (s.on F.ENV_STATUS_DEW_RISK 0 || s.on F.ENV_STATUS_DEW_STALE 0)
  else false

/-- R387: the clear condition of a cause holds. -/
def State.causeClear (s : State) (c : Nat) : Bool :=
  if c = 0 then s.sees 3 (fun v => decide (1500 ≤ v))
  else if c = 1 then s.sees 1 (fun v => decide (v ≤ 4000))
  else if c = 2 then s.sees 2 (fun v => decide (v ≤ 4400))
  else if c = 3 then dieSensors.all (fun k => match s.good k with | some v => decide (v ≤ 9500) | none => true)
  else if c = 4 then s.sees 0 (fun v => decide (9000 ≤ v))
  else if c = 5 then s.sees 0 (fun v => decide (v ≤ 59000))
  else if c = 6 then safetySensors.all (fun k => !s.implausible k)
  else if c = 7 then
    let d := s.rd F.ENV_DEW_DEW 0
    d != 0x8000 && !s.on F.ENV_STATUS_DEW_STALE 0 && s.sees 1 (fun v => decide (sx 16 d + 300 ≤ v))
  else false

/-- R387: the causes present now; between registering and SAFE entry none is taken back. -/
def State.causesNow (s : State) : Nat :=
  let old := s.env.causes
  maskOf ((List.range 9).filter (fun c =>
    s.causeOn c || (old.testBit c && (s.env.safeAt.isSome || !s.causeClear c))))

/-- R387: a warning bit follows, with an event for an episode that begins. -/
def State.warn (s : State) (f : Fld) (b : Bool) : State :=
  let old := s.on f 0
  let s1 := s.wr f 0 (bit b)
  if b && !old then s1.raise 0x42 0 s1.envStatus (s1.rd F.ENV_SAFE_NOW_CAUSES 0) else s1

/-- R375, R384, R387: the warnings and DEW_RISK. -/
def State.warnings (s : State) : State :=
  let s1 := s.warn F.ENV_STATUS_FLOW_LOW (s.sees 3 (fun v => decide (v < 1500)))
  let s2 := s1.warn F.ENV_STATUS_INLET_WARM (s.sees 1 (fun v => decide (4000 < v)))
  let s3 := s2.warn F.ENV_STATUS_INLET_COLD (s.sees 1 (fun v => decide (v < 1000)))
  let s4 := s3.warn F.ENV_STATUS_DIE_WARM (dieSensors.any (fun k => s.sees k (fun v => decide (10000 < v))))
  let s5 := s4.warn F.ENV_STATUS_VIN_HIGH (s.sees 0 (fun v => decide (60000 < v)))
  s5.wr F.ENV_STATUS_DEW_RISK 0 (bit s.dewRisk)

/-- R394: a cause that registers on the edge of an accepted SAFE_EXIT has the exit rejected. -/
def State.exitMeets (s : State) (causes : Nat) : State :=
  let edge := edgeUp s.now
  if (List.range 9).any (fun c => causes.testBit c && !s.env.causes.testBit c) then
    let s1 := { s with env := { s.env with causeAt := some edge } }
    match s.env.exitBy with
    | some (e, src) =>
      if e = edge ∧ s.env.exitAt.isSome then
        { s1 with env := { s1.env with exitAt := none, exitBy := none } }.recordReject 0x50000 src rSTATE 0
      else s1
    | none => s1
  else s

/-- R388, R390: causes registered: SAFE follows at the next tick boundary; in SAFE they are added to what is shown. -/
def State.register (s : State) (causes : Nat) : State :=
  let s := s.exitMeets causes
  let clear := causes % 256 = 0
  let s1 := { s with env := { s.env with causes := causes
                                         clearSince := if clear then (match s.env.clearSince with | some t => some t | none => some s.now)
                                                       else none } }
  let s2 := if clear then s1 else s1.wr F.ENV_STATUS_CLEAR_OK 0 0
  if s2.mstate = mSafe then
    (s2.wr F.ENV_SAFE_NOW_CAUSES 0 causes).flagBits F.ENV_SAFE_SEEN_CAUSES 0 causes
  else if (s2.mstate = mStandby ∨ s2.mstate = mMounted) ∧ causes ≠ 0 ∧ s2.env.safeAt = none then
    { s2 with env := { s2.env with safeAt := some (s2.tick + 1) } }
  else s2

/-- R387: warnings and causes brought up to date. -/
def State.watch (s : State) : State := let s1 := s.warnings; s1.register s1.causesNow

/-- SENSOR_SAMPLE (R385 to R388): a sensor is sampled (`bad`: it reports an open or shorted element). -/
def sensorSample (k : Nat) (v : Int) (bad : Bool) (s : State) : State :=
  if s.env.off then s
  else
    let old := (Table.get? s.env.samples k).getD []
    let rest := s.env.broken.filter (fun j => j != k)
    let s1 := { s with env := { s.env with samples := if bad then s.env.samples else Table.set s.env.samples k ((v :: old).take 5)
                                           broken := if bad then k :: rest else rest } }
    let high := s1.sees 0 (fun v => decide (60000 < v))
    let s2 := { s1 with env := { s1.env with
                highSince := if high then (match s1.env.highSince with | some t => some t | none => some s1.now) else none } }
    let s3 := (s2.showSensor k).followImpl k
    let s4 := if k = 1 then (s3.showSensor 2).followImpl 2 else s3
    s4.watch

/-- SENSOR_SAMPLE. -/
def execSensorSample (k : Fin 27) (v : BitVec 32) (bad : Bool) (s : State) : Host.Outcome State Fault Refusal :=
  .next (sensorSample k.val v.toInt bad s)

/-! ### SAFE (R388 to R390) -/

/-- R388, R122: a control-store load in progress is abandoned. -/
def State.mcAbandon (s : State) : State :=
  if s.mc.loading.isSome then
    let s1 := { s with mc := { s.mc with loading := none } }.wrs
      [(F.MC_STATUS_STATE, 0, if s.mc.words.isEmpty then 0 else 2), (F.MC_STATUS_LAST_OK, 0, 0)]
    (s1.mcRefuse 0x0A 0).lateReject 0x20000 s.mc.loadSrc rBLOCK_REJECT 0x0A
  else s

/-- R388, R380: runs end with MODULE_SAFE, sampled at T(n); the pins of leaves that do not run park; acquisition, DC, calibration,
mounts and loads stop. -/
def State.stopWork (s : State) (n : Nat) : State :=
  let busy := (List.range 16).filter (fun l => (s.leaf l).phase != .off)
  let idle := (List.range 16).filter (fun l => (s.leaf l).phase != .play && (s.leaf l).phase != .ended)
  let s1 := busy.foldl (fun (s : State) l => s.ownAbort l 0x0E (tickAt n)) s
  let s2 := (List.range 8).foldl (fun (s : State) c => s.acqStop c) (s1.parkPins idle)
  let s3 := (s2.dcOff.calCancel 0x23).mcAbandon
  { s3 with mnt := { s3.mnt with abandon := s3.mnt.staging.isSome }
            env := { s3.env with parkWait := busy, safeAt := none, exitAt := none } }

/-- R388: the lowest cause bit of a mask. -/
def lowBit (m : Nat) : Nat := ((maskList 9 m).head?).getD 0

/-- R388: the module enters SAFE at tick n. -/
def State.enterSafe (s : State) (n : Nat) : State :=
  let ret := s.mstate
  let c := s.env.causes
  let s1 := (s.stopWork n).wrs
    [(F.ENV_STATUS_MSTATE, 0, mSafe), (F.ENV_STATUS_RETURN, 0, ret), (F.ENV_STATUS_CLEAR_OK, 0, 0), (F.ENV_SAFE_NOW_CAUSES, 0, c)]
  let s2 := (s1.flagBits F.ENV_SAFE_SEEN_CAUSES 0 c).bump F.ENV_SAFE_COUNT_COUNT 0 1 F.ENV_STATUS_SAT 0 4 0x68
  (s2.raise 0x40 0 s2.envStatus c).journalPlat 8 0 (lowBit c) 0

/-- SAFE_ENTRY (R388): at the first tick boundary after a cause registered, the module enters SAFE. -/
def safeEntry (s : State) : State :=
  match s.env.safeAt with
  | some n => if n ≤ s.tick ∧ (s.mstate = mStandby ∨ s.mstate = mMounted) then s.enterSafe s.tick else s
  | none => s

/-- SAFE_ENTRY. -/
def execSafeEntry (s : State) : Host.Outcome State Fault Refusal := .next (safeEntry s)

/-- SAFE_PARK (R388): SAFE_HOLD_US after a leaf's abort instant its pins park. -/
def safePark (l : Nat) (s : State) : State :=
  let x := s.leaf l
  let t := x.nextStart + s.rd F.ENV_CFG_SAFE_HOLD_US 0 * usTu
  if s.env.parkWait.contains l ∧ x.phase = .off ∧ s.due t then
    let s1 := (s.goto t).parkPins [l]
    { s1 with env := { s1.env with parkWait := s1.env.parkWait.filter (fun m => m != l) } }
  else s

/-- SAFE_PARK. -/
def execSafePark (l : Fin 16) (s : State) : Host.Outcome State Fault Refusal := .next (safePark l.val s)

/-- R387: ENV_CTL.SAFE_ENTER: cause HOST registers with its write. -/
def envSafeEnter (s : State) : State × Ans := (s.register (setBit s.env.causes 8 true), .ok)

/-- R390, R394: ENV_CTL.SAFE_EXIT: rejected also when a cause registers on its edge. -/
def envSafeExit (src : Nat) (s : State) : State × Ans :=
  if s.mstate = mSafe ∧ s.on F.ENV_STATUS_CLEAR_OK 0 ∧ s.env.causeAt ≠ some (edgeUp s.now) then
    ({ s with env := { s.env with exitAt := some (s.tick + 1), exitBy := some (edgeUp s.now, src) } }, .ok)
  else (s, .rejected rSTATE 0)

/-- R390: at the first tick boundary after the exit the module returns to the state it came from. -/
def State.safeLeave (s : State) : State :=
  match s.env.exitAt with
  | some n =>
    if n ≤ s.tick ∧ s.mstate = mSafe then
      let c := setBit s.env.causes 8 false
      let s1 := { s with env := { s.env with exitAt := none, causes := c } }.wrs
        [(F.ENV_STATUS_MSTATE, 0, s.rd F.ENV_STATUS_RETURN 0), (F.ENV_STATUS_RETURN, 0, 0), (F.ENV_STATUS_CLEAR_OK, 0, 0),
         (F.ENV_SAFE_NOW_CAUSES, 0, 0)]
      (s1.raise 0x41 0 s1.envStatus 0).register c
    else s
  | none => s

/-- CLEAR_OK_REACHED (R390): no cause but HOST has been present for CLEAR_S seconds. -/
def clearOkReached (s : State) : State :=
  match s.env.clearSince with
  | some t =>
    if s.mstate = mSafe ∧ s.on F.ENV_STATUS_CLEAR_OK 0 = false ∧ s.due (t + s.rd F.ENV_CFG_CLEAR_S 0 * secTu) then
      let s1 := (s.goto (t + s.rd F.ENV_CFG_CLEAR_S 0 * secTu)).wr F.ENV_STATUS_CLEAR_OK 0 1
      if s1.on F.ENV_CFG_AUTO_EXIT 0 && !s1.env.causes.testBit 8 then
        { s1 with env := { s1.env with exitAt := some (s1.tick + 1) } }
      else s1
    else s
  | none => s

/-- CLEAR_OK_REACHED. -/
def execClearOkReached (s : State) : Host.Outcome State Fault Refusal := .next (clearOkReached s)

/-- DEW_STALE_TIMEOUT (R384): no dew point has been written for DEW_TMO_S seconds. -/
def dewStaleTimeout (s : State) : State :=
  let t := s.env.dewAt + s.rd F.ENV_CFG_DEW_TMO_S 0 * secTu
  if s.env.off = false ∧ s.on F.ENV_STATUS_DEW_STALE 0 = false ∧ s.due t then ((s.goto t).wr F.ENV_STATUS_DEW_STALE 0 1).watch else s

/-- DEW_STALE_TIMEOUT. -/
def execDewStaleTimeout (s : State) : Host.Outcome State Fault Refusal := .next (dewStaleTimeout s)

/-! ### Power and start-up (R375 to R379, R391) -/

/-- The cells that outlast power: one-time memory, the lockets in flash, the serial. -/
def keptFlds : List Fld :=
  [F.MC_OTP_MIN_SVN, F.MC_OTP_PROG, F.MC_OTP_REVOKED, F.CAL_LKT_INFO_VALID, F.CAL_LKT_INFO_KIND, F.CAL_LKT_INFO_SETPT,
   F.CAL_LKT_INFO_SEQ, F.CAL_LKT_LBID_ID, F.CAL_LKT_T, F.ID_SERIAL_SERIAL]

/-- R376: what is left without power: the queue of commands, one-time memory, flash, and what no rule restores. -/
def State.unpowered (s : State) : State :=
  { State.reset with
    regs := s.regs.filter (fun e => keptFlds.any (fun f => f.key == e.1 % 1024))
    pending := s.pending
    free := s.free
    mc := { otpHash := s.mc.otpHash }
    cal := { lockets := s.cal.lockets, nextSeq := s.cal.nextSeq, factory := s.cal.factory, windows := s.cal.windows,
             spread := s.cal.spread, eeprom := s.cal.eeprom }
    dram := { epoch := s.dram.epoch + 1 }
    env := { bank := s.env.bank } }

/-- R376, R391: the module is OFF. -/
def State.powerOff (s : State) (uv trip : Bool) : State :=
  let s1 := s.unpowered
  { s1 with env := { s1.env with off := true, uv := uv, trip := trip, locked := trip } }

/-- POWER_UP (R375, R377, R391): the input has risen above 9.0 V: BOOT begins; after a thermal trip only when it had been below 8.5 V
for 1 s (`low1s`). -/
def powerUp (low1s : Bool) (s : State) : State :=
  if s.env.off ∧ (s.env.locked = false ∨ low1s) then
    let s1 := s.unpowered
    s1.wrs [(F.ENV_BOOT_LAST_UV, 0, bit s.env.uv), (F.ENV_BOOT_LAST_TRIP, 0, bit s.env.trip)]
  else s

/-- POWER_UP. -/
def execPowerUp (low1s : Bool) (s : State) : Host.Outcome State Fault Refusal := .next (powerUp low1s s)

/-- POWER_DOWN (R376): the input has fallen below 8.5 V. -/
def powerDown (s : State) : State := if s.env.off then s else s.powerOff true false

/-- POWER_DOWN. -/
def execPowerDown (s : State) : Host.Outcome State Fault Refusal := .next (powerDown s)

/-- INPUT_PROTECTION (R375): above 72 V the input switch opens. -/
def inputProtection (s : State) : State := if s.env.off then s else s.powerOff false false

/-- INPUT_PROTECTION. -/
def execInputProtection (s : State) : Host.Outcome State Fault Refusal := .next (inputProtection s)

/-- THERMAL_TRIP (R391): a die above +125 °C removes all power. -/
def thermalTrip (s : State) : State :=
  if s.env.off = false ∧ dieSensors.any (fun k => s.sees k (fun v => decide (12500 < v))) then s.powerOff true true else s

/-- THERMAL_TRIP. -/
def execThermalTrip (s : State) : Host.Outcome State Fault Refusal := .next (thermalTrip s)

/-! ### FAULT (R380, R381) -/

/-- R380: the module enters FAULT. `frontEnd` and `dramRail` say which rail failed, for cause RAIL. -/
def State.enterFault (s : State) (cause detail : Nat) (frontEnd dramRail : Bool) : State :=
  let s1 := (s.stopWork s.nextBoundary).wrs
    [(F.ENV_STATUS_MSTATE, 0, mFault), (F.ENV_STATUS_RETURN, 0, 0), (F.ENV_STATUS_CLEAR_OK, 0, 0), (F.ENV_FAULT_CAUSE, 0, cause),
     (F.ENV_FAULT_DETAIL, 0, detail)]
  let s2 := (List.range 5).foldl (fun (s : State) p => s.wrs
    [(F.LK_STAT_STATE, p, 0), (F.LK_STAT_RATE, p, 0), (F.LK_STAT_WIDTH, p, 0), (F.LK_STAT_LANES_USED, p, 0), (F.LK_STAT_LANES_GOOD, p, 0),
     (F.LK_STAT_HOP_NS, p, 0), (F.LK_STAT_PEER_PORT, p, 7)]) s1
  if cause = 3 then
    let s4 := { s2 with env := { s2.env with rail := some (if frontEnd then 3 else 4) } }
    if dramRail then s4.undefine 0 dramSize else s4
  else { s2 with mnt := { s2.mnt with park := [] } }

/-- FAULT_ENTRY (R380): a FAULT cause (1 to 5) arises. -/
def faultEntry (cause detail : Nat) (frontEnd dramRail : Bool) (s : State) : State :=
  if s.env.off ∨ s.mstate = mFault ∨ cause = 0 then s else s.enterFault cause detail frontEnd dramRail

/-- FAULT_ENTRY. -/
def execFaultEntry (cause : Fin 6) (detail : BitVec 8) (frontEnd dramRail : Bool) (s : State) : Host.Outcome State Fault Refusal :=
  .next (faultEntry cause.val detail.toNat frontEnd dramRail s)

/-- R195, R147: what BOOT leaves of the clocks: without a REFIN found the TCXO, and every leaf shows whether the vernier DLL is locked. -/
def State.bootClocks (s : State) : State :=
  s.wrs ((if s.tmu.known then [] else [(F.TMU_REF_SRC, 0, 1), (F.TMU_REF_LOST, 0, 1), (F.TMU_REF_FREQ, 0, 1)]) ++
    (List.range 16).map (fun l => (F.TS_STATUS_DLL_UNLOCK, l, bit (!s.on F.TMU_DLL_LOCK 0))))

/-- BOOT_COMPLETE (R378, R379, R19, R147, R195, R336, R354, R396): BOOT ends after `ms`; `fallback`: the other firmware bank was booted; bit k of
`trained`: DRAM subchannel k passed training; `eeprom`: what the loadboard-ID EEPROM answered. -/
def bootComplete (ms : Nat) (fallback : Bool) (trained : Nat) (eeprom : Option Nat) (s : State) : State :=
  if s.env.off ∨ s.mstate ≠ mBoot then s
  else
    let bank := if fallback then 1 - s.env.bank else s.env.bank
    let s1 := { s with sub := 0, env := { s.env with bank := bank } }.wrs
      [(F.GLB_TICK_TICK, 0, 0), (F.ENV_BOOT_BOOT_MS, 0, min ms 0xFFFF), (F.ENV_BOOT_FW_BANK, 0, bank), (F.ENV_BOOT_FALLBACK, 0, bit fallback)]
    let s2 := (List.range 4).foldl (fun (s : State) k => if trained.testBit k then s else s.markFaulty k 2) s1
    let s3 := ((s2.parkPins (List.range 16)).readLbid eeprom).bootClocks.wr F.ENV_STATUS_MSTATE 0 mStandby
    if trained % 16 = 0 then s3.enterFault 2 0 false false
    else
      let s4 := s3.watch
      if s4.env.causes = 0 then s4 else s4.enterSafe 0

/-- BOOT_COMPLETE. -/
def execBootComplete (ms : BitVec 16) (fallback : Bool) (trained : Fin 16) (eeprom : Option (BitVec 80)) (s : State) :
    Host.Outcome State Fault Refusal :=
  .next (bootComplete ms.toNat fallback trained.val (eeprom.map (·.toNat)) s)

/-- R381: ENV_CTL.RESET: over the service port only; the module restarts at BOOT as from OFF. -/
def envReset (src : Nat) (s : State) : State × Ans :=
  if src = 0x81 then (s.unpowered, .ok) else (s, .rejected rSERVICE_ONLY 0)

/-- R397: a write of ENV_CTL. -/
def wrEnvCtl (src : Nat) (s : State) (data : Nat) : State × Ans :=
  if 1 < popcount 3 data then (s, .rejected rACTION_BITS 0)
  else if data.testBit 0 then envSafeEnter s
  else if data.testBit 1 then envSafeExit src s
  else if data.testBit 2 then envReset src s
  else (s, .ok)

/-- SAFE_ENTER: a write of ENV_CTL.SAFE_ENTER. -/
def execSafeEnter (h : Hdr) (s : State) : Host.Outcome State Fault Refusal :=
  .next (s.request h 0x50000 (.write64 1) (fun s => wrEnvCtl h.src.val s 1))

/-- SAFE_EXIT: a write of ENV_CTL.SAFE_EXIT. -/
def execSafeExit (h : Hdr) (s : State) : Host.Outcome State Fault Refusal :=
  .next (s.request h 0x50000 (.write64 2) (fun s => wrEnvCtl h.src.val s 2))

/-- MODULE_RESET: a write of ENV_CTL.RESET. -/
def execModuleReset (h : Hdr) (s : State) : Host.Outcome State Fault Refusal :=
  .next (s.request h 0x50000 (.write64 4) (fun s => wrEnvCtl h.src.val s 4))

/-! ### The front-end supervisor (R392, R324) -/

/-- PFE_FAULT (R392): a front end's supervisor reports a fault (1 RAIL, 2 TRIM_BUS, 3 SELF_CHECK): its four leaves leave service at the
next tick boundary. -/
def pfeFault (i cause : Nat) (s : State) : State :=
  if s.env.off then s
  else
    let f := s.rd F.ENV_PFE_FAULT 0
    let s1 := s.wrs [(F.ENV_PFE_FAULT, 0, setBit f i true), (F.ENV_PFE_CAUSE, 0, if f = 0 then cause else s.rd F.ENV_PFE_CAUSE 0)]
    let s2 := s1.raise 0x44 0 s1.envStatus (pack [(0, 4, s1.rd F.ENV_PFE_FAULT 0), (8, 8, s1.rd F.ENV_PFE_CAUSE 0)])
    let ls := [4 * i, 4 * i + 1, 4 * i + 2, 4 * i + 3].filter (fun l => !s2.on F.PL_LEAF_OOS l && !s2.pl.oosNext.contains l)
    { s2 with pl := { s2.pl with oosNext := s2.pl.oosNext ++ ls } }

/-- PFE_FAULT. -/
def execPfeFault (i : Fin 4) (cause : Fin 4) (s : State) : Host.Outcome State Fault Refusal := .next (pfeFault i.val cause.val s)

/-- R324: the leaves of a failed front end leave service at a tick boundary. -/
def State.leavesOut (s : State) : State :=
  s.pl.oosNext.foldl (fun (s : State) l =>
    let s1 := if (s.leaf l).phase = .off then s.parkPins [l] else s.ownAbort l 0x0E (tickAt s.tick)
    let s2 := s1.wr F.PL_LEAF_OOS l 1
    (s2.raise 0x34 l s2.plStatus 0).journalPlat 7 l (s2.rd F.ENV_PFE_CAUSE 0) 0) { s with pl := { s.pl with oosNext := [] } }

/-- R324: the pins of leaves out of service stay parked once their run has ended. -/
def State.parkOut (s : State) : State :=
  s.parkPins ((List.range 16).filter (fun l => s.on F.PL_LEAF_OOS l && (s.leaf l).phase == .off && (s.leaf l).drv != parkedDrv))

/-! ### Trigger inputs (R393, R365) -/

/-- TRIGIN_EDGE (R393): a deglitched edge of TRIGINj at an instant of this tick: journalled; a rise of an enabled input can trigger
channels. -/
def triginEdge (j : Nat) (rise : Bool) (at_ : Nat) (s : State) : State :=
  if s.env.off ∨ s.mstate = mBoot then s
  else
    let t := tickAt s.tick + at_
    let s1 := { s with trig := { s.trig with level := setBit s.trig.level j rise } }.journalInput (if rise then 0 else 1) j rise 0 t
    if rise && (s.trigByte 9).testBit j then s1.occursTrigin j t else s1

/-- TRIGIN_EDGE. -/
def execTriginEdge (j : Fin 4) (rise : Bool) (at_ : Fin 327680) (s : State) : Host.Outcome State Fault Refusal :=
  .next (triginEdge j.val rise at_.val s)

/-! ### Firmware update (R396) -/

/-- R396: an update is accepted in STANDBY, SAFE and FAULT. -/
def State.fwOpen (s : State) : Bool := s.mstate == mStandby || s.mstate == mSafe || s.mstate == mFault

/-- R396: a write of ENV_FW_CTL refused. -/
def State.fwRefuse (s : State) : State × Ans := (s.wr F.ENV_FW_STAT_REJECT 0 4, .rejected rSTATE 0)

/-- R396: a write of ENV_FW_CTL. -/
def wrEnvFwCtl (s : State) (data : Nat) : State × Ans :=
  let st := s.rd F.ENV_FW_STAT_STATE 0
  if 1 < popcount 2 data then (s, .rejected rACTION_BITS 0)
  else if data.testBit 0 then
    if s.fwOpen = false ∨ st = 2 then s.fwRefuse
    else
      ({ s with env := { s.env with fw := [] } }.wrs
        [(F.ENV_FW_STAT_STATE, 0, 1), (F.ENV_FW_STAT_REJECT, 0, 0), (F.ENV_FW_STAT_BYTES, 0, 0)], .ok)
  else if data.testBit 1 then
    if s.fwOpen = false ∨ st ≠ 1 then s.fwRefuse else (s.wr F.ENV_FW_STAT_STATE 0 2, .ok)
  else (s, .ok)

/-- R396: a write of ENV_FW_DATA: the next 8 bytes of the image. -/
def wrEnvFwData (s : State) (data : Nat) : State × Ans :=
  if s.fwOpen = false ∨ s.rd F.ENV_FW_STAT_STATE 0 ≠ 1 then s.fwRefuse
  else
    ({ s with env := { s.env with fw := s.env.fw ++ toBytes 8 data } }.wr F.ENV_FW_STAT_BYTES 0 (s.rd F.ENV_FW_STAT_BYTES 0 + 8), .ok)

/-- BEGIN: a write of ENV_FW_CTL.BEGIN. -/
def execBegin (h : Hdr) (s : State) : Host.Outcome State Fault Refusal :=
  .next (s.request h 0x50070 (.write64 1) (fun s => wrEnvFwCtl s 1))

/-- FW_DATA_WRITE: a write of ENV_FW_DATA. -/
def execFwDataWrite (h : Hdr) (data : Word) (s : State) : Host.Outcome State Fault Refusal :=
  .next (s.request h 0x50080 (.write64 data.toNat) (fun s => wrEnvFwData s data.toNat))

/-- FW_COMMIT: a write of ENV_FW_CTL.COMMIT. -/
def execFwCommit (h : Hdr) (s : State) : Host.Outcome State Fault Refusal :=
  .next (s.request h 0x50070 (.write64 2) (fun s => wrEnvFwCtl s 2))

/-- FW_VERIFY_DONE (R396): verification ends: 0 the image is in the inactive bank, which becomes active at the next BOOT; otherwise the
code of the refusal (1 SIGNATURE, 2 SVN_ROLLBACK, 3 LENGTH). -/
def fwVerifyDone (code : Nat) (s : State) : State :=
  if s.rd F.ENV_FW_STAT_STATE 0 = 2 then
    if code = 0 then { s with env := { s.env with bank := 1 - s.rd F.ENV_BOOT_FW_BANK 0 } }.wr F.ENV_FW_STAT_STATE 0 3
    else s.wrs [(F.ENV_FW_STAT_STATE, 0, 0), (F.ENV_FW_STAT_REJECT, 0, code)]
  else s

/-- FW_VERIFY_DONE. -/
def execFwVerifyDone (code : Fin 4) (s : State) : Host.Outcome State Fault Refusal := .next (fwVerifyDone code.val s)

/-! ### Registers (R397) -/

/-- R397: a write of ENV_CFG. -/
def wrEnvCfg (s : State) (data : Nat) : State × Ans :=
  let hold := bits data 0 14
  if 10000 < hold ∨ bits data 16 8 = 0 ∨ bits data 32 8 = 0 then (s, .rejected rRANGE 0)
  else
    ((s.wrs [(F.ENV_CFG_SAFE_HOLD_US, 0, hold), (F.ENV_CFG_CLEAR_S, 0, bits data 16 8), (F.ENV_CFG_AUTO_EXIT, 0, bits data 24 1),
             (F.ENV_CFG_DEW_SAFE, 0, bits data 25 1), (F.ENV_CFG_DEW_TMO_S, 0, bits data 32 8)]).watch, .ok)

/-- R397, R384: a write of ENV_DEW: a dew point is fresh; 0x8000 takes it away and refreshes nothing. -/
def wrEnvDew (s : State) (data : Nat) : State × Ans :=
  let v := bits data 0 16
  if v = 0x8000 then ((s.wr F.ENV_DEW_DEW 0 v).watch, .ok)
  else if sx 16 v < -6000 ∨ 6000 < sx 16 v then (s, .rejected rRANGE 0)
  else
    (({ s with env := { s.env with dewAt := s.now } }.wrs [(F.ENV_DEW_DEW, 0, v), (F.ENV_STATUS_DEW_STALE, 0, 0)]).watch, .ok)

end Sys2Proof.Machine
end

