-- ==== Sys2Proof/Machine/Links.lean ====
section
/-! DEFINITION. Partoeth links: bring-up, width, loss, retry and test of one port (12_links.md R264 to R280). Ports: 0 N, 1 E,
2 S, 3 W, 4 U. -/

namespace Sys2Proof.Machine

/-! ### Lanes, width and latency (R264, R265, R272) -/

/-- R266: the state of a port: DISABLED with ENABLE = 1 is DETECT. -/
def State.lkState (s : State) (p : Nat) : Nat :=
  let st := s.rd F.LK_STAT_STATE p
  if st = 0 ∧ s.on F.LK_CFG_ENABLE p ∧ s.mstate ≠ mFault ∧ s.env.off = false then 2 else st

def lDETECT : Nat := 2
def lTRAIN : Nat := 3
def lCAPS : Nat := 4
def lSTEP : Nat := 5
def lACTIVE : Nat := 6
def lTEST : Nat := 7

/-- R275: the widest permitted width of some lanes. -/
def laneWidth (n : Nat) : Nat := if 4 ≤ n then 4 else if 2 ≤ n then 2 else n

/-- R275: the lanes used: the lowest-numbered ones. -/
def useLanes (mask : Nat) : Nat :=
  let l := maskList 4 mask
  maskOf (l.take (laneWidth l.length))

/-- R264: which used lane carries piece `i` of a flit: byte `i` under 8b/10b (RATE 0), 64-bit word `i` under 64b/66b. -/
def laneOf (used i : Nat) : Nat := let l := maskList 4 used; l.getD (i % max 1 l.length) 0

/-- R264: the pieces of a 256-bit flit that a lane carries, in order. -/
def lanePieces (rate used lane flit : Nat) : List Nat :=
  if rate = 0 then ((List.range 32).filter (fun i => laneOf used i == lane)).map (fun i => bits flit (8 * i) 8)
  else ((List.range 4).filter (fun k => laneOf used k == lane)).map (fun k => bits flit (64 * k) 64)

/-- R269: what lane `lane` carries in block `n` (under 8b/10b: character `n`): every 16 384 blocks an alignment marker of its number and a
14-bit marker count, in the same slot on all lanes. -/
def laneMarker (lane n : Nat) : Option (Nat × Nat) := if n % 16384 = 0 then some (lane, n / 16384 % 2 ^ 14) else none

/-- R269: the physical lane on which logical lane `lane` arrives, by the markers that the physical lanes show: any order of the lanes is
accepted. -/
def laneFrom (markers : List (Nat × Nat)) (lane : Nat) : Option Nat := markers.findIdx? (fun m => m.1 == lane)

/-- R264: the flit of a slot that no traffic needs; it too acknowledges (R273). -/
def Port.idle (x : Port) : Nat := x.flit 0 0 0

/-- R267, R275: the lanes that both ends have locked. -/
def State.bothGood (s : State) (p : Nat) : Nat := s.rd F.LK_STAT_LANES_GOOD p &&& (s.port p).peerLanes

/-- LK_STAT.WIDTH of some lanes in use. -/
def widthCode (mask : Nat) : Nat := let n := popcount 4 mask; if n = 4 then 3 else n

/-- R264: the flit time at width 4, in ps. -/
def flitPs (rate : Nat) : Nat := if rate = 0 then 64000 else if rate = 1 then 10560 else if rate = 2 then 5280 else 2560

/-- R265: the hop latency bound in whole ns: 45 ns, two flit times and the deskew in use. -/
def State.hopNs (s : State) (p rate lanes : Nat) : Nat :=
  let w := max 1 (popcount 4 lanes)
  let skew := ((maskList 4 lanes).map (fun k => s.rd F.LK_SKEW_V (4 * p + k))).foldl max 0
  ceilDiv (45000 + 2 * (flitPs rate * 4 / w) + skew * 125) 1000

/-- R265: HOP_NS shown; a bound that the field cannot hold is an open value. -/
def State.showHop (s : State) (p : Nat) : State :=
  let h := s.hopNs p (s.rd F.LK_STAT_RATE p) (s.rd F.LK_STAT_LANES_USED p)
  if h < 256 then s.wr F.LK_STAT_HOP_NS p h else ((s.fresh).1).wr F.LK_STAT_HOP_NS p (s.fresh).2

/-- LK_STAT as it reads. -/
def State.lkStat (s : State) (p : Nat) : Nat :=
  pack [(0, 4, s.lkState p), (4, 2, s.rd F.LK_STAT_RATE p), (6, 2, s.rd F.LK_STAT_WIDTH p), (8, 4, s.rd F.LK_STAT_LANES_USED p),
        (12, 4, s.rd F.LK_STAT_LANES_GOOD p), (16, 8, s.rd F.LK_STAT_FAIL_CODE p), (24, 8, s.rd F.LK_STAT_HOP_NS p),
        (32, 3, s.rd F.LK_STAT_PEER_PORT p)]

/-- R280: a counter of a port stepped. -/
def State.lkBump (s : State) (f : Fld) (p n off : Nat) : State := s.bump f p n F.LK_GSTATUS_SAT 0 13 (0x100 + 0x100 * p + off)

/-- A port enters a state. -/
def State.lkEnter (s : State) (p st : Nat) : State := (s.wr F.LK_STAT_STATE p st).setPort p { s.port p with since := s.now }

/-- A bound of a state has passed; in BOOT, where no tick runs, the event itself says so. -/
def State.lkTimeUp (s : State) (p t : Nat) : Bool := s.mstate == mBoot || s.due ((s.port p).since + t)

/-- The instant of a bound. -/
def State.lkAt (s : State) (p t : Nat) : State := if s.mstate = mBoot then s else s.goto ((s.port p).since + t)

/-- A bound of a state has not passed; in BOOT, where no tick runs, only the event of the bound says so. -/
def State.lkInTime (s : State) (p t : Nat) : Bool := s.mstate == mBoot || decide (s.now ≤ (s.port p).since + t)

/-- R279: the rate and width of a link, kept when it goes down. -/
def State.lkKeep (s : State) (p : Nat) : State :=
  if s.rd F.LK_STAT_WIDTH p = 0 then s
  else s.setPort p { s.port p with lastRate := s.rd F.LK_STAT_RATE p, lastWidth := s.rd F.LK_STAT_WIDTH p }

/-- R277: no lane is in use. -/
def State.lkClear (s : State) (p : Nat) : State :=
  (s.lkKeep p).wrs [(F.LK_STAT_RATE, p, 0), (F.LK_STAT_WIDTH, p, 0), (F.LK_STAT_LANES_USED, p, 0), (F.LK_STAT_LANES_GOOD, p, 0),
         (F.LK_STAT_HOP_NS, p, 0), (F.LK_STAT_PEER_PORT, p, 7)]

/-- R266: the state a port without a link waits in: WAIT, or DISABLED with ENABLE = 0. -/
def State.lkRest (s : State) (p : Nat) : State := s.lkEnter p (if s.on F.LK_CFG_ENABLE p then 1 else 0)

/-- R266: bring-up fails in TRAIN or CAPS. -/
def State.lkFail (s : State) (p code : Nat) : State :=
  let s1 := ((s.lkClear p).wr F.LK_STAT_FAIL_CODE p code).lkRest p
  let s2 := s1.lkBump F.LK_TRAIN_FAILS_COUNT p 1 0x18
  if (s2.port p).failRun then s2
  else (s2.setPort p { s2.port p with failRun := true }).raise 0xD3 p (s2.lkStat p) 0

/-- R277, R274: the link is lost: WAIT with FAIL_CODE, LK_DOWN, and the CONTROL flits that were not acknowledged wait for a new route.
STREAM flits are not sent again: their bead is asked for anew (`State.reaskMoved`). -/
def State.lkLost (s : State) (p code : Nat) : State :=
  let x := s.port p
  let keep := (x.unacked.map (fun (f : TxFlit) => { f with replays := 0 }) ++ x.waiting).filter (fun (f : TxFlit) => f.typ == 2)
  let s1 := (((s.setPort p { x with unacked := [], waiting := keep, change := none, nak := false }).lkClear p).wr
    F.LK_STAT_FAIL_CODE p code).lkRest p
  (s1.raise 0xD1 p (s1.lkStat p) 0).journalPlat 0 p code 0

/-- R284: this module's HELLO as it would leave port `p` now. -/
def State.ownHello (s : State) (p : Nat) : HelloIn :=
  let own := if s.on F.ID_LEASE_HELD 0 then s.rd F.ID_SERIAL_SERIAL 0
    else if s.admitted then s.rd F.ID_MAP_SERIAL (s.rd F.ID_STAT_ANCHOR 0) else 0
  { serial := BitVec.ofNat 48 (s.rd F.ID_SERIAL_SERIAL 0), port := Fin.ofNat 4 p, role := Fin.ofNat 3 (s.rd F.ID_STAT_ROLE 0),
    anchor := BitVec.ofNat 48 own, state := Fin.ofNat 6 (s.rd F.ID_STAT_STATE 0), chain := Config.certChain }

/-- R284: what of a HELLO has it sent again when it changes: the sender's state, role and anchor. -/
def State.helloSays (s : State) (p : Nat) : List Nat :=
  let h := s.ownHello p
  [h.state.val, h.role.val, h.anchor.toNat]

/-- R284: a HELLO sent on a neighbour port at instant `t`. -/
def State.sendHello (s : State) (p t : Nat) : State :=
  let s1 := s.tell (16 + p) (.hello (s.ownHello p))
  { s1 with clu := { s1.clu with helloAt := Table.set s1.clu.helloAt p t, said := Table.set s1.clu.said p (s1.helloSays p) } }

/-- R266: the link comes up. -/
def State.lkUp (s : State) (p : Nat) : State :=
  let x := s.port p
  let s1 := s.setPort p { x with since := s.now, failRun := false, lastGood := s.now, txSeq := 0, rxSeq := 0, unacked := [], nak := false,
                                 got := false, change := none, maxRate := s.rd F.LK_CFG_MAX_RATE p, widen := s.on F.LK_CFG_AUTO_WIDEN p,
                                 laneEn := s.rd F.LK_CFG_LANE_EN p }
  let s2 := (s1.wr F.LK_STAT_STATE p lACTIVE).showHop p
  let s3 := s2.setPort p ((s2.port p).pump s2.now 64)
  let s4 := { s3 with clu := { s3.clu with peers := Table.erase s3.clu.peers p } }
  (if p < 4 then s4.sendHello p s4.now else s4).raise 0xD0 p (s4.lkStat p) 0

/-! ### Bring-up (R266 to R269) -/

/-- LINK_SIGNAL_DETECT (R266): a port in DETECT sees signal on an enabled lane. -/
def linkSignalDetect (p : Nat) (s : State) : State := if s.lkState p = lDETECT then s.lkEnter p lTRAIN else s

/-- LINK_SIGNAL_DETECT. -/
def execLinkSignalDetect (p : Fin 5) (s : State) : Host.Outcome State Fault Refusal := .next (linkSignalDetect p.val s)

/-- R269: some tap of a lane sits at an end of its range, which is that of its 8 signed bits. -/
def eqLimit (e : Nat) : Bool := (List.range 5).any (fun j => bits e (4 + 8 * j) 8 == 127 || bits e (4 + 8 * j) 8 == 128)

/-- R269: the equaliser values of the four lanes of a port. -/
def State.lkAdapt (s : State) (p : Nat) (eq : List Nat) : State :=
  (List.range 4).foldl (fun (s : State) k =>
    let e := eq.getD k 0
    s.wrs [(F.LK_EQ_CTLE, 4 * p + k, bits e 0 4), (F.LK_EQ_DFE1, 4 * p + k, bits e 4 8), (F.LK_EQ_DFE2, 4 * p + k, bits e 12 8),
           (F.LK_EQ_DFE3, 4 * p + k, bits e 20 8), (F.LK_EQ_DFE4, 4 * p + k, bits e 28 8), (F.LK_EQ_DFE5, 4 * p + k, bits e 36 8),
           (F.LK_EQ_LIMIT, 4 * p + k, bit (eqLimit e))]) s

/-- The skews and equaliser values that training measured. -/
def State.lkMeasured (s : State) (p : Nat) (skew : List Nat) (eq : List Nat) : State :=
  (s.wrs ((List.range 4).map (fun k => (F.LK_SKEW_V, 4 * p + k, skew.getD k 0)))).lkAdapt p eq

/-- R269: 16 ns in the units of LK_SKEW. -/
def skewMax : Nat := 128

/-- R267: the CAPS flit that this end sends: its highest rate, the lanes it has locked, its port letter and the protocol version, 1. -/
def State.sendCaps (s : State) (p : Nat) : State :=
  s.setPort p ((s.port p).sent s.now 5 0 (Config.linkctl [0, s.rd F.LK_CFG_MAX_RATE p, s.rd F.LK_STAT_LANES_GOOD p, p, 1]).toNat)

/-- LANE_TRAIN_DONE (R266, R269): within 2 ms lanes have locked with the skews and equaliser values given (as LK_SKEW, and LK_EQ but for LIMIT);
`delay` is the one-way delay of the link, in tu. -/
def laneTrainDone (p lanes : Nat) (skew eq : List Nat) (delay : Nat) (s : State) : State :=
  let good := (lanes &&& s.rd F.LK_CFG_LANE_EN p) &&& maskOf ((List.range 4).filter (fun k => decide (skew.getD k 0 ≤ skewMax)))
  if s.lkState p = lTRAIN ∧ good ≠ 0 ∧ s.lkInTime p (2000 * usTu) then
    let s1 := ((s.lkMeasured p skew eq).lkEnter p lCAPS).wr F.LK_STAT_LANES_GOOD p good
    (s1.setPort p { s1.port p with delay := delay }).sendCaps p
  else s

/-- LANE_TRAIN_DONE. -/
def execLaneTrainDone (p : Fin 5) (lanes : Fin 16) (skew : List (BitVec 8)) (eq : List (BitVec 44)) (delay : BitVec 32) (s : State) :
    Host.Outcome State Fault Refusal :=
  .next (laneTrainDone p.val lanes.val (skew.map (·.toNat)) (eq.map (·.toNat)) delay.toNat s)

/-- TRAIN_TIMEOUT (R266): 2 ms in TRAIN; `locked`: lanes locked but none aligned. -/
def trainTimeout (p : Nat) (locked : Bool) (s : State) : State :=
  if s.lkState p = lTRAIN ∧ s.lkTimeUp p (2000 * usTu) then (s.lkAt p (2000 * usTu)).lkFail p (if locked then 2 else 1) else s

/-- TRAIN_TIMEOUT. -/
def execTrainTimeout (p : Fin 5) (locked : Bool) (s : State) : Host.Outcome State Fault Refusal := .next (trainTimeout p.val locked s)

/-- CAPS_RECEIVED (R267): within 1 ms the peer's CAPS: its highest rate, its locked lanes, its port, its version. -/
def capsReceived (p rate lanes peer ver : Nat) (s : State) : State :=
  if s.lkState p ≠ lCAPS ∨ s.lkInTime p (1000 * usTu) = false then s
  else if ver ≠ 1 then s.lkFail p 3
  else
    let used := useLanes (s.rd F.LK_STAT_LANES_GOOD p &&& lanes)
    if used = 0 then s
    else
      let target := min (s.rd F.LK_CFG_MAX_RATE p) rate
      let s1 := s.wrs [(F.LK_STAT_RATE, p, 0), (F.LK_STAT_WIDTH, p, widthCode used), (F.LK_STAT_LANES_USED, p, used),
                       (F.LK_STAT_PEER_PORT, p, if peer < 5 then peer else 7)]
      let s2 := s1.setPort p { s1.port p with target := target, peerLanes := lanes }
      if target = 0 then s2.lkUp p else s2.lkEnter p lSTEP

/-- CAPS_RECEIVED. -/
def execCapsReceived (p : Fin 5) (rate : Fin 4) (lanes : Fin 16) (peer : Fin 8) (ver : BitVec 8) (s : State) :
    Host.Outcome State Fault Refusal :=
  .next (capsReceived p.val rate.val lanes.val peer.val ver.toNat s)

/-- CAPS_TIMEOUT (R266): 1 ms in CAPS. -/
def capsTimeout (p : Nat) (s : State) : State :=
  if s.lkState p = lCAPS ∧ s.lkTimeUp p (1000 * usTu) then (s.lkAt p (1000 * usTu)).lkFail p 3 else s

/-- CAPS_TIMEOUT. -/
def execCapsTimeout (p : Fin 5) (s : State) : Host.Outcome State Fault Refusal := .next (capsTimeout p.val s)

/-- R268: a step fails: the link enters ACTIVE at the rate that passed last. -/
def State.stepFails (s : State) (p : Nat) : State :=
  ((s.wr F.LK_STAT_FAIL_CODE p 4).lkBump F.LK_TRAIN_FAILS_COUNT p 1 0x18).lkUp p

/-- R268: a step passes when within 5 ms the PRBS check shows no error on any lane in use and those lanes align within 16 ns. -/
def State.stepPasses (s : State) (p : Nat) (pass : Bool) (skew : List Nat) : Bool :=
  pass && s.lkInTime p (5000 * usTu) && (maskList 4 (s.rd F.LK_STAT_LANES_USED p)).all (fun k => decide (skew.getD k 0 ≤ skewMax))

/-- RATE_STEP_DONE (R268): the PRBS check of a step passes or fails; the values measured at the new rate, or at the rate that passed last, to
which both ends return when it fails, are given. -/
def rateStepDone (p : Nat) (pass : Bool) (skew eq : List Nat) (s : State) : State :=
  if s.lkState p ≠ lSTEP then s
  else if s.stepPasses p pass skew then
    let s1 := (s.lkMeasured p skew eq).wr F.LK_STAT_RATE p (s.rd F.LK_STAT_RATE p + 1)
    if (s1.port p).target ≤ s1.rd F.LK_STAT_RATE p then s1.lkUp p else s1.lkEnter p lSTEP
  else (s.lkMeasured p skew eq).stepFails p

/-- RATE_STEP_DONE. -/
def execRateStepDone (p : Fin 5) (pass : Bool) (skew : List (BitVec 8)) (eq : List (BitVec 44)) (s : State) :
    Host.Outcome State Fault Refusal :=
  .next (rateStepDone p.val pass (skew.map (·.toNat)) (eq.map (·.toNat)) s)

/-- LINK_WAIT_EXPIRE (R266): 10 ms in WAIT. -/
def linkWaitExpire (p : Nat) (s : State) : State :=
  if s.lkState p = 1 ∧ s.lkTimeUp p (10000 * usTu) then
    (s.lkAt p (10000 * usTu)).lkEnter p (if s.on F.LK_CFG_ENABLE p then lDETECT else 0)
  else s

/-- LINK_WAIT_EXPIRE. -/
def execLinkWaitExpire (p : Fin 5) (s : State) : Host.Outcome State Fault Refusal := .next (linkWaitExpire p.val s)

/-! ### Retry (R273) -/

/-- R273: a flit with SEQ `q` lies among those unacknowledged. -/
def Port.holds (x : Port) (q : Nat) : Bool := x.unacked.any (fun f => f.seq == q)

/-- R273: an ACK acknowledges the flit it names and every earlier one; one that names none acknowledges nothing. -/
def Port.acked (x : Port) (q : Nat) : Port :=
  if x.holds q then { x with unacked := (x.unacked.dropWhile (fun f => f.seq != q)).drop 1 } else x

/-- R273: the flits that a replay from SEQ `q` on sends again. -/
def Port.again (x : Port) (q : Nat) : List TxFlit := x.unacked.dropWhile (fun f => f.seq != q)

/-- R273: one of the flits has been replayed 4 times already. -/
def replaySpent (l : List TxFlit) : Bool := l.any (fun f => decide (4 ≤ f.replays))

/-- R273, R272: the flits from SEQ `q` on are replayed, at instant `t`, ahead of new ones. -/
def Port.replayed (x : Port) (t q : Nat) : Port :=
  let y := (x.again q).foldl (fun (y : Port) f => y.sent t f.typ f.seq f.payload) x
  { y with unacked := x.unacked.takeWhile (fun f => f.seq != q) ++ (x.again q).map (fun f => { f with replays := f.replays + 1 }) }

/-- R273: a NAK sent, naming the SEQ that this end expects; only one until the replay has come. -/
def State.sendNak (s : State) (p : Nat) : State :=
  let x := s.port p
  if x.nak then s else s.setPort p { x.sent s.now 5 0 (Config.linkctl [1, x.rxSeq]).toNat with nak := true }

/-- NAK_RECEIVED (R273): the sender replays from the flit the NAK names; a flit replayed 4 times already loses the link. -/
def nakReceived (p q : Nat) (s : State) : State :=
  let x := s.port p
  if s.lkActive p && x.change.isNone && x.holds q then
    if x.unacked.any (fun f => f.seq == q && decide (4 ≤ f.replays)) then s.lkLost p 5
    else (s.setPort p (x.replayed s.now q)).lkBump F.LK_REPLAY_COUNT p 1 0x28
  else s

/-- NAK_RECEIVED. -/
def execNakReceived (p : Fin 5) (q : Fin 64) (s : State) : Host.Outcome State Fault Refusal := .next (nakReceived p.val q.val s)

/-! ### Lane loss and width (R274 to R276) -/

/-- R275: the link changes its width to some lanes: a narrowing asks the far end for it, on every lane that is still good. -/
def State.toWidth (s : State) (p lanes : Nat) (ask narrow : Bool) : State :=
  let x := s.port p
  s.setPort p { x with change := some (lanes, narrow), since := s.now, asks := if ask then x.asks ++ [lanes] else x.asks }

/-- LANE_LOSS (R274, R275, R278): a lane is lost: the link narrows, or is lost; in STEP the step fails; in CAPS it is not used. A lane lost
that a widening was about to add ends the widening, or leaves it what remains. -/
def laneLoss (p k : Nat) (s : State) : State :=
  let used := s.rd F.LK_STAT_LANES_USED p
  let s1 := s.wr F.LK_STAT_LANES_GOOD p (setBit (s.rd F.LK_STAT_LANES_GOOD p) k false)
  let good := s1.bothGood p
  if s.lkState p = lCAPS then (if s1.rd F.LK_STAT_LANES_GOOD p = 0 then s1.lkFail p 7 else s1)
  else if s.lkState p = lSTEP then
    if good = 0 then ((s1.lkClear p).wr F.LK_STAT_FAIL_CODE p 7).lkRest p
    else (s1.wrs [(F.LK_STAT_LANES_USED, p, useLanes good), (F.LK_STAT_WIDTH, p, widthCode (useLanes good))]).stepFails p
  else if s.lkState p = lACTIVE then
    let adding := match (s1.port p).change with | some (m, _) => m.testBit k && !used.testBit k | none => false
    if used.testBit k then
      (if good = 0 ∨ popcount 4 used ≤ 1 then s1.lkLost p 7 else s1.toWidth p (useLanes good) true true)
    else if adding then
      let want := useLanes (good ||| used)
      s1.toWidth p (if popcount 4 used < popcount 4 want then want else used) true false
    else s1
  else s

/-- LANE_LOSS. -/
def execLaneLoss (p : Fin 5) (k : Fin 4) (s : State) : Host.Outcome State Fault Refusal := .next (laneLoss p.val k.val s)

/-- LK_WIDTH (R275, R276, R273): narrowing or widening completes: traffic resumes, every unacknowledged flit replayed first; one that was replayed
4 times already loses the link. -/
def lkWidth (p : Nat) (s : State) : State :=
  let x := s.port p
  match x.change with
  | none => s
  | some (lanes, narrow) =>
    if replaySpent x.unacked then s.lkLost p 5
    else
    let x0 := { x with change := none, lastGood := s.now }
    let x1 := match x.unacked with | f :: _ => x0.replayed s.now f.seq | [] => x0
    let s1 := (s.setPort p (x1.pump s.now 64)).wrs [(F.LK_STAT_LANES_USED, p, lanes), (F.LK_STAT_WIDTH, p, widthCode lanes),
      (F.LK_STAT_LANES_GOOD, p, s.rd F.LK_STAT_LANES_GOOD p ||| lanes)]
    let s2 := if x.unacked.isEmpty then s1 else s1.lkBump F.LK_REPLAY_COUNT p 1 0x28
    let s3 := (if narrow then s2.lkBump F.LK_DOWNSHIFT_COUNT p 1 0x38 else s2).showHop p
    (s3.raise 0xD2 p (s3.lkStat p) 0).journalPlat 1 p (s3.rd F.LK_STAT_FAIL_CODE p) 0

/-- LK_WIDTH. -/
def execLkWidth (p : Fin 5) (s : State) : Host.Outcome State Fault Refusal := .next (lkWidth p.val s)

/-- RX_SILENT_TIMEOUT (R274): no good flit for 10 µs. -/
def rxSilentTimeout (p : Nat) (s : State) : State :=
  let x := s.port p
  if s.lkActive p ∧ x.change = none ∧ s.due (x.lastGood + 10 * usTu) then (s.goto (x.lastGood + 10 * usTu)).lkLost p 6 else s

/-- RX_SILENT_TIMEOUT. -/
def execRxSilentTimeout (p : Fin 5) (s : State) : Host.Outcome State Fault Refusal := .next (rxSilentTimeout p.val s)

/-- LANE_WIDEN (R276): an unused lane has run free of errors for 1 s: where a wider width becomes possible, the link widens. -/
def laneWiden (p k : Nat) (s : State) : State :=
  let x := s.port p
  let good := setBit (s.rd F.LK_STAT_LANES_GOOD p) k true
  let used := s.rd F.LK_STAT_LANES_USED p
  if s.lkActive p && x.widen && x.laneEn.testBit k && !used.testBit k && x.change.isNone then
    let s1 := s.wr F.LK_STAT_LANES_GOOD p good
    let both := s1.bothGood p
    if laneWidth (popcount 4 used) < laneWidth (popcount 4 both) then s1.toWidth p (useLanes both) true false else s1
  else s

/-- LANE_WIDEN. -/
def execLaneWiden (p : Fin 5) (k : Fin 4) (s : State) : Host.Outcome State Fault Refusal := .next (laneWiden p.val k.val s)

/-- WIDTH_REQUEST (R275, R276): the far end asks for a width, by the lanes to use: of a permitted width, a narrower one on lanes that are good
here, a wider one only with AUTO_WIDEN = 1 on enabled lanes. -/
def widthRequest (p lanes : Nat) (s : State) : State :=
  let x := s.port p
  let used := s.rd F.LK_STAT_LANES_USED p
  let narrow := decide (popcount 4 lanes < popcount 4 used)
  let can := if narrow then s.rd F.LK_STAT_LANES_GOOD p else if x.widen then x.laneEn else used
  let want := useLanes (lanes &&& can)
  if s.lkActive p && want != 0 && want != used && (narrow || want == lanes) then s.toWidth p want false narrow else s

/-- WIDTH_REQUEST. -/
def execWidthRequest (p : Fin 5) (lanes : Fin 16) (s : State) : Host.Outcome State Fault Refusal := .next (widthRequest p.val lanes.val s)

/-! ### Control and test (R274, R278, R279) -/

/-- R274, R278: RETRAIN loses the link, or restarts bring-up from WAIT. -/
def State.lkRetrain (s : State) (p : Nat) : State :=
  let st := s.lkState p
  if st = lACTIVE then s.lkLost p 8
  else if st = 0 ∨ st = lTEST then s
  else ((s.lkClear p).wr F.LK_STAT_FAIL_CODE p 8).lkRest p

/-- R279: TEST_ENTER takes the port out of service, at its last rate and width; the checkers begin anew. -/
def State.lkTest (s : State) (p : Nat) : State :=
  let st := s.lkState p
  if st = lTEST then s
  else
    let s0 := s.lkKeep p
    let keep := [(F.LK_STAT_RATE, p, (s0.port p).lastRate), (F.LK_STAT_WIDTH, p, (s0.port p).lastWidth),
                 (F.LK_STAT_LANES_USED, p, s.rd F.LK_STAT_LANES_USED p), (F.LK_STAT_LANES_GOOD, p, s.rd F.LK_STAT_LANES_GOOD p),
                 (F.LK_PRBS_STAT_LOCK, p, 0)]
    let s1 := if st = lACTIVE then s0.lkLost p 8 else s0.wr F.LK_STAT_FAIL_CODE p 8
    (s1.wrs keep).lkEnter p lTEST

/-- R279: TEST_EXIT ends the test: bring-up follows from WAIT. -/
def State.lkTestExit (s : State) (p : Nat) : State :=
  if s.lkState p = lTEST then ((s.wr F.LK_PRBS_STAT_LOCK p 0).lkClear p).lkRest p else s

/-- R280: a write of LK_CTL. -/
def wrLkCtl (p : Nat) (s : State) (data : Nat) : State × Ans :=
  if 1 < popcount 3 data then (s, .rejected rACTION_BITS 0)
  else if data.testBit 0 then (s.lkRetrain p, .ok)
  else if data.testBit 1 then (s.lkTest p, .ok)
  else if data.testBit 2 then (s.lkTestExit p, .ok)
  else (s, .ok)

/-- The address of a port's registers. -/
def lkAddr (p : Nat) : Nat := 0x350100 + 0x100 * p

/-- RETRAIN: a write of LK_CTL.RETRAIN. -/
def execRetrain (h : Hdr) (p : Fin 5) (s : State) : Host.Outcome State Fault Refusal :=
  .next (s.request h (lkAddr p.val) (.write64 1) (fun s => wrLkCtl p.val s 1))

/-- TEST_ENTER: a write of LK_CTL.TEST_ENTER. -/
def execTestEnter (h : Hdr) (p : Fin 5) (s : State) : Host.Outcome State Fault Refusal :=
  .next (s.request h (lkAddr p.val) (.write64 2) (fun s => wrLkCtl p.val s 2))

/-- TEST_EXIT: a write of LK_CTL.TEST_EXIT. -/
def execTestExit (h : Hdr) (p : Fin 5) (s : State) : Host.Outcome State Fault Refusal :=
  .next (s.request h (lkAddr p.val) (.write64 4) (fun s => wrLkCtl p.val s 4))

/-- PRBS_CHECKER_LOCK (R279, R276): a lane's checker locks and counts `errs` bit errors from there: in TEST a checker that LK_PRBS_CTL
enables, in ACTIVE the background test of a lane that is not in use. -/
def prbsCheckerLock (p k errs : Nat) (s : State) : State :=
  let st := s.lkState p
  if (st = lTEST ∧ (s.rd F.LK_PRBS_CTL_CHK p).testBit k) ∨
     (st = lACTIVE ∧ (s.port p).widen ∧ (s.rd F.LK_STAT_LANES_USED p).testBit k = false) then
    (s.wr F.LK_PRBS_STAT_LOCK p (setBit (s.rd F.LK_PRBS_STAT_LOCK p) k true)).bump F.LK_PRBS_ERR_COUNT (4 * p + k) errs F.LK_GSTATUS_SAT 0
      13 (0x100 + 0x100 * p + 0x78 + 8 * k)
  else s

/-- PRBS_CHECKER_LOCK. -/
def execPrbsCheckerLock (p : Fin 5) (k : Fin 4) (errs : BitVec 32) (s : State) : Host.Outcome State Fault Refusal :=
  .next (prbsCheckerLock p.val k.val errs.toNat s)

/-- R280, R266, R278: a write of LK_CFG: an ACTIVE port keeps its settings until the link next comes up. -/
def wrLkCfg (p : Nat) (s : State) (data : Nat) : State × Ans :=
  if bits data 4 4 = 0 then (s, .rejected rRANGE 0)
  else
    let st := s.lkState p
    let s1 := s.wrs [(F.LK_CFG_MAX_RATE, p, bits data 0 2), (F.LK_CFG_ENABLE, p, bits data 2 1), (F.LK_CFG_AUTO_WIDEN, p, bits data 3 1),
                     (F.LK_CFG_LANE_EN, p, bits data 4 4)]
    (if st = lACTIVE ∨ st = lTEST then s1
     else if data.testBit 2 then (if st = 0 then s1.lkEnter p lDETECT else s1)
     else (s1.lkClear p).lkEnter p 0, .ok)

/-- R280: a write of LK_PRBS_CTL. -/
def wrLkPrbsCtl (p : Nat) (s : State) (data : Nat) : State × Ans :=
  if bits data 0 2 = 3 then (s, .rejected rRANGE 0)
  else
    let chk := bits data 6 4
    (s.wrs [(F.LK_PRBS_CTL_PATTERN, p, bits data 0 2), (F.LK_PRBS_CTL_GEN, p, bits data 2 4), (F.LK_PRBS_CTL_CHK, p, chk),
            (F.LK_PRBS_STAT_LOCK, p, s.rd F.LK_PRBS_STAT_LOCK p &&& chk)], .ok)

end Sys2Proof.Machine
end

