-- ==== Sys2Proof/Machine/Cluster.lean ====
section
/-! DEFINITION. Clusters: discovery, admission, the lease, the tick's phase, the map, cluster groups, departures, takeover and partition
(13_cluster.md; 11_mount.md R252). -/

namespace Sys2Proof.Machine

/-- ID_STAT as it reads. -/
def State.idStat (s : State) : Nat :=
  pack [(0, 3, s.rd F.ID_STAT_STATE 0), (3, 1, s.rd F.ID_STAT_JOIN_WAIT 0), (4, 4, s.rd F.ID_STAT_MODULE 0), (8, 2, s.rd F.ID_STAT_ROLE 0),
        (10, 1, s.rd F.ID_STAT_TICK_HOLD 0), (11, 1, s.rd F.ID_STAT_ROOT_HOLDOVER 0), (12, 4, s.rd F.ID_STAT_ANCHOR 0),
        (16, 3, s.rd F.ID_STAT_REASON 0)]

/-- ID_STAT of another module, as far as the anchor knows it. -/
def State.idStatOf (s : State) (m state reason : Nat) : Nat :=
  let role := if state = 3 ∧ s.clu.secondary = some m then 2 else 0
  pack [(0, 3, state), (4, 4, if state = 3 then m else 0), (8, 2, role), (12, 4, s.rd F.ID_STAT_ANCHOR 0), (16, 3, reason)]

/-- R288: this module holds the lease. -/
def State.anchor (s : State) : Bool := s.on F.ID_LEASE_HELD 0

/-- The module's own serial. -/
def State.serial (s : State) : Nat := s.rd F.ID_SERIAL_SERIAL 0

/-- The cluster side, changed. -/
def State.onClu (s : State) (f : CluSt → CluSt) : State := { s with clu := f s.clu }

/-- R281: the module beyond a neighbour port of a module. -/
def State.beyond (s : State) (m p : Nat) : Option Nat := neighbour (s.rd F.ID_TOPO_KIND 0) (s.rd F.ID_TOPO_N 0) m p

/-- R293: the newest map has a path to a module. -/
def State.pathTo (s : State) (d : Nat) : Bool :=
  (routeHops (s.rd F.ID_TOPO_KIND 0) (s.rd F.ID_TOPO_N 0) 0 (s.rd F.ID_MAP_LINKS) (s.rd F.ID_STAT_MODULE 0) d).isSome

/-! ### Discovery (R282 to R286) -/

/-- R286: a valid roster entry with the serial. -/
def State.listed (s : State) (serial : Nat) : Option Nat :=
  (List.range 16).find? (fun m => s.on F.ID_ROSTER_VALID m && s.rd F.ID_ROSTER_SERIAL m == serial)

/-- R286: a module of which the map says that it is ADMITTED with this serial, other than `m`. -/
def State.admittedElsewhere (s : State) (m serial : Nat) : Bool :=
  (List.range 16).any (fun k => k != m && s.rd F.ID_MAP_MSTATE k == 3 && s.rd F.ID_MAP_SERIAL k == serial)

/-- R285: a challenge sent: a fresh nonce. -/
def State.challenge (s : State) (m serial fails : Nat) (chain : List Byte) : State :=
  let (s1, v) := s.fresh
  let c : Chal := { serial := serial, nonce := v % 2 ^ 256, sentAt := s.now, fails := fails, chain := chain }
  (s1.onClu (fun x => { x with chals := Table.set x.chals m c })).tell m (.nonce (BitVec.ofNat 256 c.nonce) (BitVec.ofNat 48 s.serial))

/-- R284 to R286: at the anchor a module asks to be admitted at position `m`; a REFUSED one is challenged again only after one of its
links has come up (`fresh`). -/
def State.candidate (s : State) (m : Nat) (h : HelloIn) (fresh : Bool) : State :=
  let serial := h.serial.toNat
  let ms := s.rd F.ID_MAP_MSTATE m
  if (s.listed s.serial).isNone then s.raise 0x54 s.module s.idStat 0
  else if s.rd F.ID_MAP_SERIAL m = serial ∧ (ms = 1 ∨ ms = 2 ∨ ms = 3 ∨ (ms = 5 ∧ fresh = false)) then s
  else (s.wrs [(F.ID_MAP_MSTATE, m, 1), (F.ID_MAP_SERIAL, m, serial)]).challenge m serial 0 h.chain

/-- R282: the link joins the wrong ports, or gives a module two positions. -/
def State.miswired (s : State) (p : Nat) (h : HelloIn) : Bool :=
  (h.port.val != (p + 2) % 4) ||
  (s.admitted && match s.beyond s.module p with
    | none => true
    | some m => s.admittedElsewhere m h.serial.toNat)

/-- R284: the serial of the cluster's anchor, 0 outside a cluster. -/
def State.anchorSerial (s : State) : Nat :=
  if s.anchor then s.serial else if s.admitted then s.rd F.ID_MAP_SERIAL (s.rd F.ID_STAT_ANCHOR 0) else 0

/-- R284: a HELLO of a neighbour. -/
def State.helloDirect (s : State) (p : Nat) (h : HelloIn) : State :=
  let x : Peer := { serial := h.serial.toNat, port := h.port.val, role := h.role.val, anchor := h.anchor.toNat, state := h.state.val,
                    chain := h.chain }
  let fence (s : State) : State := s.onClu (fun c => { c with fenced := if c.fenced.contains p then c.fenced else c.fenced ++ [p] })
  let old := Table.get? s.clu.peers p
  let s1 := s.onClu (fun c => { c with peers := Table.set c.peers p x })
  let own := s1.anchorSerial
  if s1.miswired p h then (fence s1).raise 0x52 p s1.idStat 0
  else if h.anchor.toNat ≠ 0 ∧ own ≠ 0 ∧ own ≠ h.anchor.toNat then (fence s1).raise 0x53 p s1.idStat 0
  else
    let s2 := s1.onClu (fun c => { c with fenced := c.fenced.filter (· != p) })
    let st := s2.rd F.ID_STAT_STATE 0
    if s2.anchor then
      match s2.admitted, s2.beyond s2.module p with
      | true, some m => s2.candidate m h old.isNone
      | true, none => s2
      | false, _ => if (s2.listed s2.serial).isNone then s2.raise 0x54 s2.module s2.idStat 0 else s2
    else if s2.admitted then
      (if old = some x then s2 else s2.tell (s2.rd F.ID_STAT_ANCHOR 0) (.report (Fin.ofNat 4 p) h))
    else if h.anchor.toNat ≠ 0 ∧ (st = 0 ∨ st = 4 ∨ st = 5) then s2.wrs [(F.ID_STAT_STATE, 0, 1), (F.ID_STAT_REASON, 0, 0)]
    else s2

/-- HELLO_RECEIVED (R284): a HELLO arrives on a neighbour port; at the anchor also one that a module has received on its port and reports: `via`
names it, and says whether that link has just come up (R285). -/
def helloReceived (p : Nat) (via : Option (Nat × Bool)) (h : HelloIn) (s : State) : State :=
  match via with
  | none => if p < 4 ∧ s.lkActive p then s.helloDirect p h else s
  | some (m, fresh) =>
    if s.anchor && s.admitted then
      match s.beyond m p with
      | some k => s.candidate k h fresh
      | none => s
    else s

/-- HELLO_RECEIVED. -/
def execHelloReceived (p : Fin 5) (via : Option (Fin 16 × Bool)) (h : HelloIn) (s : State) : Host.Outcome State Fault Refusal :=
  .next (helloReceived p.val (via.map (fun v => (v.1.val, v.2))) h s)

/-- HELLO_RESEND (R284): 1 ms after the last HELLO, while the peer's has not come; and at once when this module's state, role or anchor is not
what the last one said. -/
def helloResend (p : Nat) (s : State) : State :=
  let t := (Table.get? s.clu.helloAt p).getD (s.port p).since + 1000 * usTu
  if p < 4 ∧ s.lkActive p then
    if (Table.get? s.clu.said p).getD [] ≠ s.helloSays p then s.sendHello p s.now
    else if Table.get? s.clu.peers p = none ∧ s.due t then (s.goto t).sendHello p t
    else s
  else s

/-- HELLO_RESEND. -/
def execHelloResend (p : Fin 5) (s : State) : Host.Outcome State Fault Refusal := .next (helloResend p.val s)

/-! ### Identity and admission (R285 to R287) -/

/-- R294, R305: the map as it stands. -/
def State.mapEnts (s : State) : List MapEnt :=
  (List.range 16).map (fun m =>
    { state := Fin.ofNat 6 (s.rd F.ID_MAP_MSTATE m), links := Fin.ofNat 16 (s.rd F.ID_MAP_LINKS m), serial := BitVec.ofNat 48 (s.rd F.ID_MAP_SERIAL m) })

/-- R287: the anchor gives a module its adoption tick, the topology, the roster and the map. -/
def State.adoptAt (s : State) (m : Nat) : State :=
  let roster := (List.range 16).map (fun k => (BitVec.ofNat 48 (s.rd F.ID_ROSTER_SERIAL k), s.on F.ID_ROSTER_VALID k))
  (s.onClu (fun c => { c with adopt := Table.set c.adopt m (s.tick + 16), chals := Table.erase c.chals m })).tell m
    (.adopt (Fin.ofNat 16 m) { tick := BitVec.ofNat 64 (s.tick + 16), anchor := Fin.ofNat 16 s.module, kind := Fin.ofNat 5 (s.rd F.ID_TOPO_KIND 0),
                               n := Fin.ofNat 32 (s.rd F.ID_TOPO_N 0), roster := roster, map := s.mapEnts })

/-- R285, R286: a module ends REFUSED or FOREIGN at the anchor, and is told. -/
def State.turnAway (s : State) (m state reason : Nat) : State :=
  (((s.tell m (.verdict (decide (state = 4)) (Fin.ofNat 5 reason))).onClu (fun c => { c with chals := Table.erase c.chals m })).wr F.ID_MAP_MSTATE m (if state = 4 then 5 else 2)).raise 0x50 m
    (s.idStatOf m state reason) 0

/-- R286: the position of a module that has passed the challenge, against the roster. -/
def State.position (s : State) (m serial : Nat) : State :=
  if !s.on F.ID_ROSTER_VALID m then s.turnAway m 2 2
  else if s.rd F.ID_ROSTER_SERIAL m ≠ serial then s.turnAway m 2 1
  else if s.admittedElsewhere m serial then s.turnAway m 2 3
  else s.adoptAt m

/-- R285: the bytes that a module signs: the nonce, its serial, the anchor's. -/
def signed (nonce serial anchor : Nat) : List Byte := toBytes 32 nonce ++ toBytes 6 serial ++ toBytes 6 anchor

/-- CHALLENGE_RESPONSE (R285, R286): a module's answer, at the anchor; the anchor's challenge, which the module signs, or its verdict, at the
module. -/
def challengeResponse (m : Nat) (r : ChalIn) (s : State) : State :=
  match r with
  | .answer chainOk serial key sig =>
    match s.anchor, Table.get? s.clu.chals m with
    | true, some c =>
      if !chainOk then s.turnAway m 4 1
      else if serial.toNat ≠ c.serial then s.turnAway m 4 4
      else if !Config.ecdsaVerify key (Config.sha256 (signed c.nonce c.serial s.serial)) sig then s.turnAway m 4 2
      else s.position m c.serial
    | _, _ => s
  | .verdict refused reason =>
    if s.rd F.ID_STAT_STATE 0 = 1 ∧ s.anchor = false then
      let s1 := s.wrs [(F.ID_STAT_STATE, 0, if refused then 4 else 2), (F.ID_STAT_REASON, 0, reason.val)]
      s1.raise 0x50 0 s1.idStat 0
    else s
  | .nonce p nonce anchor =>
    if s.anchor ∨ s.admitted ∨ s.lkActive p.val = false then s
    else s.tell (16 + p.val) (.answer (Config.deviceSign (Config.sha256 (signed nonce.toNat s.serial anchor.toNat))))

/-- CHALLENGE_RESPONSE. -/
def execChallengeResponse (m : Fin 16) (r : ChalIn) (s : State) : Host.Outcome State Fault Refusal := .next (challengeResponse m.val r s)

/-- CHALLENGE_TIMEOUT (R285): no answer for 10 ms: a failed attempt, the third of which refuses the module. -/
def challengeTimeout (m : Nat) (s : State) : State :=
  match Table.get? s.clu.chals m with
  | none => s
  | some c =>
    let t := c.sentAt + 10000 * usTu
    if s.anchor && s.due t then
      let s1 := s.goto t
      if 3 ≤ c.fails + 1 then s1.turnAway m 4 3 else s1.challenge m c.serial (c.fails + 1) c.chain
    else s

/-- CHALLENGE_TIMEOUT. -/
def execChallengeTimeout (m : Fin 16) (s : State) : Host.Outcome State Fault Refusal := .next (challengeTimeout m.val s)

/-- R286, R287: the anchor of a cluster takes its own position, where the roster names it. -/
def State.seat (s : State) : State :=
  match s.listed s.serial with
  | some m =>
    if s.anchor && s.rd F.ID_STAT_STATE 0 == 0 && s.rd F.ID_TOPO_KIND 0 != 0 && decide (m < topoCount (s.rd F.ID_TOPO_KIND 0) (s.rd F.ID_TOPO_N 0)) then
      let s1 := s.wrs [(F.ID_STAT_STATE, 0, 3), (F.ID_STAT_MODULE, 0, m), (F.ID_STAT_ANCHOR, 0, m), (F.ID_STAT_REASON, 0, 0),
                       (F.ID_MAP_MSTATE, m, 3), (F.ID_MAP_SERIAL, m, s.serial)]
      s1.raise 0x50 m s1.idStat 0
    else s
  | none => s

/-- R286: a write of ID_ROSTER. -/
def wrIdRoster (m : Nat) (s : State) (data : Nat) : State × Ans :=
  if 2 ^ 49 ≤ data then (s, .rejected rRESERVED_BIT 0)
  else
    let serial := data % 2 ^ 48
    let valid := data.testBit 48
    let s0 := s.wrs [(F.ID_ROSTER_SERIAL, m, serial), (F.ID_ROSTER_VALID, m, bit valid)]
    let told := match s.anchor, s.clu.secondary with
      | true, some k => s0.tell k (.roster (Fin.ofNat 16 m) (BitVec.ofNat 48 serial) valid)
      | _, _ => s0
    let s1 := told.seat
    if s1.anchor ∧ valid ∧ s1.rd F.ID_MAP_MSTATE m = 2 ∧ s1.rd F.ID_MAP_SERIAL m = serial ∧ s1.admittedElsewhere m serial = false then
      (s1.adoptAt m, .ok)
    else (s1, .ok)

/-- ROSTER_WRITE: a write of ID_ROSTER of a module. -/
def execRosterWrite (h : Hdr) (m : Fin 16) (data : Word) (s : State) : Host.Outcome State Fault Refusal :=
  .next (s.request h (0x60100 + 8 * m.val) (.write64 data.toNat) (fun s => wrIdRoster m.val s data.toNat))

/-- R281, R305: a write of ID_TOPO. -/
def wrIdTopo (s : State) (data : Nat) : State × Ans :=
  let kind := bits data 0 3
  let n := bits data 3 5
  if 2 ^ 8 ≤ data then (s, .rejected rRESERVED_BIT 0)
  else if 4 < kind ∨ topoNOk kind n = false then (s, .rejected rRANGE 0)
  else if s.mstate = mMounted then (s, .rejected rSTATE 0)
  else ((s.wrs [(F.ID_TOPO_KIND, 0, kind), (F.ID_TOPO_N, 0, n)]).seat, .ok)

/-! ### Tick adoption (R287) -/

/-- How the clock moves at an adoption: from the instant `old` to `new`. -/
structure Shift where
  old : Nat
  new : Nat
  deriving DecidableEq, Repr

/-- An instant in the new timebase. -/
def Shift.t (d : Shift) (t : Nat) : Nat := t + d.new - d.old

/-- A tick in the new timebase. -/
def Shift.n (d : Shift) (n : Nat) : Nat := n + d.new / tickTu - d.old / tickTu

/-- A table of instants in the new timebase. -/
def Shift.tab (d : Shift) (t : Table Nat) : Table Nat := t.map (fun (e : Nat × Nat) => (e.1, d.t e.2))

/-- A table of ticks in the new timebase. -/
def Shift.ticks (d : Shift) (t : Table Nat) : Table Nat := t.map (fun (e : Nat × Nat) => (e.1, d.n e.2))

/-- The pending work of the DC block in the new timebase. -/
def Shift.dc (d : Shift) (x : DcSt) : DcSt :=
  let pm (e : Nat × Pmu) : Nat × Pmu := (e.1, { e.2 with next := e.2.next.map d.n })
  let ds (e : Nat × Dsa) : Nat × Dsa :=
    (e.1, { e.2 with next := e.2.next.map d.n, go := e.2.go.map d.n, t0 := d.t e.2.t0, tc := d.t e.2.tc, tf := d.t e.2.tf,
                     scanAt := e.2.scanAt.map d.n, tail := e.2.tail.map (fun (a : DsaTail) => { a with at_ := d.t a.at_ }) })
  let dg (e : Nat × Diag) : Nat × Diag := (e.1, { e.2 with at_ := d.n e.2.at_ })
  { x with pmus := x.pmus.map pm, dsas := x.dsas.map ds, diags := x.diags.map dg }

/-- R287: the edge records in the new timebase; pending pair edges, and the edges of the frequency gates in progress, are discarded. -/
def Shift.tmu (d : Shift) (x : TmuSt) : TmuSt :=
  let pin (e : Nat × TmuPin) : Nat × TmuPin :=
    (e.1, { e.2 with next := e.2.next.map (fun c => (d.n c.1, c.2)), last := e.2.last.map d.t })
  let q (e : Nat × List (Nat × Nat)) : Nat × List (Nat × Nat) := (e.1, e.2.map (fun r => (r.1, d.t r.2)))
  let fc (e : Nat × FcSt) : Nat × FcSt :=
    (e.1, { cur := e.2.cur.map (fun (g : FcGate) => { g with tick := d.n g.tick, first := none, last := 0, seen := 0, count := 0, lostSeen := false, lost := false })
            ended := e.2.ended.map (fun (g : FcGate) => { g with tick := d.n g.tick, first := g.first.map d.t, last := d.t g.last }) })
  { x with pins := x.pins.map pin, pairs := [], fcs := x.fcs.map fc, queues := x.queues.map q, drained := d.tab x.drained, pullIn := x.pullIn.map d.t }

/-- The waits of the guards in the new timebase. -/
def Shift.env (d : Shift) (x : EnvSt) : EnvSt :=
  { x with implSince := d.tab x.implSince, highSince := x.highSince.map d.t, clearSince := x.clearSince.map d.t, dewAt := d.t x.dewAt,
           safeAt := x.safeAt.map d.n, exitAt := x.exitAt.map d.n,
           exitBy := x.exitBy.map (fun e => (d.t e.1, e.2)), causeAt := x.causeAt.map d.t }

/-- The waits of the DRAM in the new timebase. -/
def Shift.dram (d : Shift) (x : DramSt) : DramSt :=
  { x with ueTick := d.ticks x.ueTick, ueTimes := x.ueTimes.map (fun (e : Nat × List Nat) => (e.1, e.2.map d.t)), bzTick := d.ticks x.bzTick,
           lastAccess := d.t x.lastAccess, refreshes := d.tab x.refreshes }

/-- The transactions in flight in the new timebase. -/
def Shift.host (d : Shift) (x : HostSt) : HostSt :=
  { x with kept := x.kept.map (fun (r : Resp) => { r with at_ := d.t r.at_ }), fwd := x.fwd.map (fun (f : Fwd) => { f with at_ := d.t f.at_ }) }

/-- The ports in the new timebase. -/
def Shift.lk (d : Shift) (x : LkSt) : LkSt :=
  { ports := x.ports.map (fun (e : Nat × Port) => (e.1, { e.2 with since := d.t e.2.since, lastGood := d.t e.2.lastGood })) }

/-- R287: GLB_TICK becomes `a` at this edge: what waits keeps the time it has left. -/
def State.stepTick (s : State) (a : Nat) : State :=
  let d : Shift := { old := s.now, new := tickAt a }
  let leaf (e : Nat × Leaf) : Nat × Leaf := (e.1, { e.2 with pubs := [] })
  let acq (e : Nat × AcqCh) : Nat × AcqCh := (e.1, { e.2 with drainAt := d.t e.2.drainAt })
  { s with
    sub := 0
    host := d.host s.host
    leaves := s.leaves.map leaf
    pulses := s.pulses.map (fun (p : Pulse) => { p with start := d.t p.start })
    mc := { s.mc with keyOpen := s.mc.keyOpen.map d.t }
    fl := { s.fl with queue := s.fl.queue.map (fun (e : Nat × Nat) => (d.t (e.1 / 16) * 16 + e.1 % 16, e.2)) }
    pl := { s.pl with commitAt := s.pl.commitAt.map d.n }
    dram := d.dram s.dram
    acq := { s.acq with ch := s.acq.ch.map acq, sent := s.acq.sent.map (fun (e : Nat × Nat) => (e.1, d.t e.2)) }
    tmu := d.tmu s.tmu
    dc := d.dc s.dc
    lk := d.lk s.lk
    vis := s.vis.map (fun (e : Nat × Nat × Ctx) => (d.t e.1, e.2))
    clu := { s.clu with folds := [], rx := [], beats := [], missed := [], lostAt := none, partAt := none, claimAt := none, newRoutes := none,
                        helloAt := d.tab s.clu.helloAt }
    cal := { s.cal with startAt := s.cal.startAt.map d.n, autoSince := s.cal.autoSince.map d.t }
    env := d.env s.env }.wr F.GLB_TICK_TICK 0 a

/-- The map as the anchor sent it. -/
def State.takeMap (s : State) (l : List MapEnt) : State :=
  s.wrs ((List.range 16).flatMap (fun m =>
    let e := l.getD m {}
    [(F.ID_MAP_MSTATE, m, e.state.val), (F.ID_MAP_LINKS, m, e.links.val), (F.ID_MAP_SERIAL, m, e.serial.toNat)]))

/-- The roster as the anchor sent it. -/
def State.takeRoster (s : State) (l : List (BitVec 48 × Bool)) : State :=
  s.wrs ((List.range 16).flatMap (fun m =>
    let e := l.getD m (0, false)
    [(F.ID_ROSTER_SERIAL, m, e.1.toNat), (F.ID_ROSTER_VALID, m, bit e.2)]))

/-- The link masks of the newest map. -/
def State.mapLinks (s : State) : Table Nat := (List.range 16).map (fun m => (m, s.rd F.ID_MAP_LINKS m))

/-- R287: the module adopts the cluster's tick as module `m`. -/
def State.adoptTick (s : State) (m : Nat) (a : AdoptIn) : State :=
  let old := s.tick
  let stop (s : State) (n : Nat) : State :=
    let s1 := s.acqStop n
    if s1.acqState n = aDONE then s1.wr F.ACQ_STAT_STATE n aSTOPPED else s1
  let s1 := (List.range 8).foldl stop s
  let s2 := (s1.stepTick a.tick.toNat).journalTime 5 old
  let s3 := ((s2.takeRoster a.roster).takeMap a.map).wrs
    [(F.ID_STAT_STATE, 0, 3), (F.ID_STAT_JOIN_WAIT, 0, 0), (F.ID_STAT_MODULE, 0, m), (F.ID_STAT_ANCHOR, 0, a.anchor.val),
     (F.ID_STAT_REASON, 0, 0), (F.ID_STAT_TICK_HOLD, 0, 0), (F.ID_TOPO_KIND, 0, a.kind.val), (F.ID_TOPO_N, 0, a.n.val),
     (F.TMU_EPOCH_EPOCH, 0, s2.now / 2 ^ 64 % 2 ^ 16)]
  let s4 := s3.onClu (fun c => { c with routes := s3.mapLinks, beats := [(a.anchor.val, a.tick.toNat + 4)] })
  s4.raise 0x50 m s4.idStat 0

/-- TICK_ADOPTION (R287): at T(A) the module adopts the tick and is ADMITTED, unless a unit of it runs; at the anchor it becomes
ADMITTED in the map. -/
def tickAdoption (m : Nat) (a : Option AdoptIn) (s : State) : State :=
  match a with
  | none =>
    match s.anchor, Table.get? s.clu.adopt m with
    | true, some n =>
      if s.due (tickAt n) then
        let s1 := ((s.goto (tickAt n)).onClu (fun c => { c with adopt := Table.erase c.adopt m, beats := Table.set c.beats m (n + 4) })).wr
          F.ID_MAP_MSTATE m 3
        s1.raise 0x50 m (s1.idStatOf m 3 0) 0
      else s
    | _, _ => s
  | some a =>
    let st := s.rd F.ID_STAT_STATE 0
    if s.anchor ∨ st = 0 ∨ st = 4 then s
    else if s.anyBusy then s.wr F.ID_STAT_JOIN_WAIT 0 1
    else s.adoptTick m a

/-- TICK_ADOPTION. -/
def execTickAdoption (m : Fin 16) (a : Option AdoptIn) (s : State) : Host.Outcome State Fault Refusal := .next (tickAdoption m.val a s)

/-! ### The lease (R288, R289) -/

/-- R288: port U is ACTIVE, and the image's hint, or no image since BOOT, makes the module a candidate. -/
def State.candidateU (s : State) (hint : Bool) : Bool := s.lkActive 4 && (hint || !s.mnt.everMounted)

/-- R288: the lease as ID_LEASE shows it. -/
def State.setExpiry (s : State) (e : Nat) : State := (s.onClu (fun c => { c with expiry := e })).wr F.ID_LEASE_EXPIRY 0 (e % 2 ^ 40)

/-- R288: the module holds the lease from this tick. -/
def State.takeLease (s : State) : State :=
  ((s.setExpiry (s.tick + 768)).onClu (fun c => { c with renewAt := s.tick + 256, asked := false })).wrs
    [(F.ID_LEASE_HELD, 0, 1), (F.ID_STAT_ROLE, 0, 1), (F.ID_STAT_ROOT_HOLDOVER, 0, s.rd F.TMU_REF_LOST 0)]

/-- R299: the module becomes the anchor of a cluster that has lost its own: the roster and the map are the copies it holds. -/
def State.becomeAnchor (s : State) : State :=
  let m := s.module
  let others := (List.range 16).filter (fun k => k != m && s.rd F.ID_MAP_MSTATE k == 3)
  let s1 := (s.onClu (fun c => { c with lostAt := none, partAt := none, claimAt := none, secondary := none })).wrs
    [(F.ID_STAT_ANCHOR, 0, m), (F.ID_LEASE_SEC_REG, 0, 0)]
  let s2 := (s1.takeLease.wrs [(F.ID_STAT_TICK_HOLD, 0, 0), (F.ID_PHASE_STEER, 0, 0), (F.ID_PHASE_PARENT, 0, 7), (F.ID_PHASE_DEPTH, 0, 0)]).onClu
    (fun c => { c with beats := others.map (fun k => (k, s.tick + 4)) })
  ((s2.raise 0x57 m s2.idStat 0).journalTime 7 s2.now).tellAll (.takeover (Fin.ofNat 16 m))

/-- LEASE_GRANT (R288): the site controller grants the lease: to the first anchor, or in a cluster without one. -/
def leaseGrant (s : State) : State :=
  if s.candidateU s.mnt.priCand ∧ s.anchor = false then
    if s.admitted = false then s.takeLease.seat else if s.clu.lostAt.isSome then s.becomeAnchor else s
  else s

/-- LEASE_GRANT. -/
def execLeaseGrant (s : State) : Host.Outcome State Fault Refusal := .next (leaseGrant s)

/-- LEASE_RENEW (R288): every 256 ticks the anchor asks for a renewal. -/
def leaseRenew (s : State) : State :=
  if s.anchor ∧ s.clu.renewAt ≤ s.tick then s.onClu (fun c => { c with renewAt := c.renewAt + 256, asked := true }) else s

/-- LEASE_RENEW. -/
def execLeaseRenew (s : State) : Host.Outcome State Fault Refusal := .next (leaseRenew s)

/-- RENEWAL_CONFIRM (R288): a renewal is confirmed: the expiry moves to the renewal tick + 768; the other modules are told it. -/
def renewalConfirm (expiry : Option Nat) (s : State) : State :=
  match expiry with
  | none =>
    if s.anchor && s.clu.asked then
      let e := s.clu.renewAt - 256 + 768
      ((s.setExpiry e).onClu (fun c => { c with asked := false })).tellAll (.expiry (BitVec.ofNat 64 e))
    else s
  | some e => if s.admitted && !s.anchor then s.setExpiry e else s

/-- RENEWAL_CONFIRM. -/
def execRenewalConfirm (expiry : Option (BitVec 64)) (s : State) : Host.Outcome State Fault Refusal :=
  .next (renewalConfirm (expiry.map (·.toNat)) s)

/-- R301: a module without its anchor has no path to a secondary. -/
def State.noSecondary (s : State) : Bool :=
  match s.clu.secondary with
  | none => true
  | some m => m != s.module && !s.pathTo m

/-- R308, R313: a plan that is PLANNING when the anchor is lost is refused. -/
def State.abandonPlan (s : State) : State :=
  match s.pl.next with
  | some p => if s.rd F.PL_STATUS_NEXT 0 = 1 then s.planFails p 0x0D 0xFFFFFFFF 0 else s
  | none => s

/-- R298: the module loses the anchor. -/
def State.loseAnchor (s : State) : State :=
  if s.admitted ∧ s.clu.lostAt = none then
    let s1 := s.abandonPlan.wrs [(F.ID_STAT_TICK_HOLD, 0, 1), (F.ID_PHASE_STEER, 0, 0)]
    let s2 := s1.onClu (fun c => { c with lostAt := some s.tick, partAt := if s.noSecondary then some (s.tick + 2) else none })
    (s2.raise 0x56 (s2.rd F.ID_STAT_ANCHOR 0) s2.idStat 0).journalTime 6 s2.now
  else s

/-- LEASE_EXPIRY (R288, R298): at T(expiry) without a confirmed renewal the anchor gives up the role; every module loses it. -/
def leaseExpiry (s : State) : State :=
  if s.anchor then
    if s.tick < s.clu.expiry then s else (s.wrs [(F.ID_LEASE_HELD, 0, 0), (F.ID_STAT_ROLE, 0, 0)]).loseAnchor
  else if s.tick = s.clu.expiry then s.loseAnchor
  else s

/-- LEASE_EXPIRY. -/
def execLeaseExpiry (s : State) : Host.Outcome State Fault Refusal := .next (leaseExpiry s)

/-- SECONDARY_REGISTRATION (R288): the site controller accepts a module as the secondary anchor. -/
def secondaryRegistration (m : Nat) (s : State) : State :=
  let s1 := (s.onClu (fun c => { c with secondary := some m })).wr F.ID_LEASE_SEC_REG 0 1
  if s.admitted ∧ s.module = m then
    if s.candidateU s.mnt.secCand && !s.anchor then s1.wr F.ID_STAT_ROLE 0 2 else s
  else if s.admitted then s1 else s

/-- SECONDARY_REGISTRATION. -/
def execSecondaryRegistration (m : Fin 16) (s : State) : Host.Outcome State Fault Refusal := .next (secondaryRegistration m.val s)

/-! ### Phase (R290, R291) -/

/-- PHASE_MARKER_SEND (R290): at every 256th tick a marker goes out on each active neighbour port. -/
def phaseMarkerSend (s : State) : State :=
  if s.tick % 256 = 0 ∧ s.admitted then
    let up := [0, 1, 2, 3].filter (fun p => s.lkActive p && !s.clu.fenced.contains p)
    s.onClu (fun c => { c with marker := { tick := s.tick, ports := maskOf up } })
  else s

/-- PHASE_MARKER_SEND. -/
def execPhaseMarkerSend (s : State) : Host.Outcome State Fault Refusal := .next (phaseMarkerSend s)

/-- R290: a value cut to a signed range. -/
def clampInt (lo hi v : Int) : Int := max lo (min hi v)

/-- R290: the steer that takes a phase error away over 256 ticks, in 0.001 ppm. -/
def steerOf (e : Int) : Int := clampInt (-2400) 2400 (-(e * 1000000000) / ((256 * tickTu : Nat) : Int))

/-- R293: the first hop of the copy-0 route toward the anchor. -/
def State.parentPort (s : State) : Option (Nat × Nat) :=
  match s.routeTo 0 (s.rd F.ID_STAT_ANCHOR 0) with
  | some ((m, p) :: t) => if m = s.module then some (p, t.length + 1) else none
  | _ => none

/-- R287, R290: the port whose markers this module measures against, and its depth: its parent's, or, while it joins, that of the lowest neighbour
whose HELLO names an anchor. -/
def State.phasePort (s : State) : Option (Nat × Nat) :=
  if s.admitted then s.parentPort
  else if s.rd F.ID_STAT_STATE 0 = 1 then
    ([0, 1, 2, 3].find? (fun p => s.lkActive p && match Table.get? s.clu.peers p with | some x => x.anchor != 0 | none => false)).map
      (fun p => (p, s.rd F.ID_PHASE_DEPTH 0))
  else none

/-- PHASE_MARKER_RECEIVE (R287, R290, R291, R299): a marker that arrives `a` tu after T(n), sent at offset `o`; the parent's gives the phase
error and the steer, and ends the tick holdover. -/
def phaseMarkerReceive (p : Nat) (a o : Int) (rootHold : Bool) (s : State) : State :=
  match s.phasePort with
  | some (q, depth) =>
    if s.anchor = false ∧ s.clu.lostAt = none ∧ q = p ∧ s.lkActive p then
      let e := a - (o + ((s.port p).delay : Nat))
      let s1 := s.fcRollAll.wrs [(F.ID_PHASE_ERR, 0, twos 16 (clampInt (-32768) 32767 e)), (F.ID_PHASE_STEER, 0, twos 16 (steerOf e)),
                       (F.ID_PHASE_PARENT, 0, p), (F.ID_PHASE_DEPTH, 0, depth), (F.ID_STAT_TICK_HOLD, 0, 0),
                       (F.ID_STAT_ROOT_HOLDOVER, 0, bit rootHold)]
      s1.fcMark
    else s
  | none => s

/-- PHASE_MARKER_RECEIVE. -/
def execPhaseMarkerReceive (p : Fin 5) (a o : BitVec 32) (rootHold : Bool) (s : State) : Host.Outcome State Fault Refusal :=
  .next (phaseMarkerReceive p.val a.toInt o.toInt rootHold s)

/-! ### Routes of the TICK flits and the flag bound (R292, R293, R295) -/

/-- R292: the modules that a source's TICK flits go to. -/
def tickDests (groups : List CluGroup) (anchor src : Nat) (admitted : Nat → Bool) : List Nat :=
  (List.range 16).filter (fun d => d != src && admitted d &&
    (d == anchor || src == anchor || groups.any (fun g => g.modmask.testBit src && g.modmask.testBit d)))

/-- R292: how many parts a source sends. -/
def tickParts (groups : List CluGroup) (src : Nat) : Nat := max 1 (ceilDiv (groups.filter (fun g => g.modmask.testBit src)).length 2)

/-- R293: the ports out of `m` on which a copy of a source's flits leaves. -/
def tickPorts (route : Nat → Nat → Option (List (Nat × Nat))) (src m : Nat) (dests : List Nat) : List Nat :=
  [0, 1, 2, 3].filter (fun p => dests.any (fun d => ((route src d).getD []).contains (m, p)))

/-- R293: the route of a copy by the newest map. -/
def State.mapRoute (s : State) (copy a b : Nat) : Option (List (Nat × Nat)) :=
  routeHops (s.rd F.ID_TOPO_KIND 0) (s.rd F.ID_TOPO_N 0) copy (s.rd F.ID_MAP_LINKS) a b

/-- A module of which the map says that it is ADMITTED. -/
def State.mapAdmitted (s : State) (m : Nat) : Bool := s.rd F.ID_MAP_MSTATE m == 3

/-- R295: the TICK flits per tick that a copy's routes place on a port. -/
def State.tickLoad (s : State) (groups : List CluGroup) (copy m p : Nat) : Nat :=
  let srcs := (List.range 16).filter s.mapAdmitted
  (srcs.map (fun a =>
    if (tickPorts (s.mapRoute copy) a m (tickDests groups s.module a s.mapAdmitted)).contains p then tickParts groups a else 0)).foldl (· + ·) 0

/-- R295: the bound of one path in ps. -/
def State.pathPs (s : State) (groups : List CluGroup) (hops : List HopIn) (copy : Nat) (path : List (Nat × Nat)) : Nat :=
  (path.map (fun (e : Nat × Nat) =>
    match hops.find? (fun h => h.module.val == e.1 && h.port.val == e.2) with
    | some h => h.hopNs.toNat * 1000 + (s.tickLoad groups copy e.1 e.2 - 1) * h.flitPs.toNat
    | none => 0)).foldl (· + ·) 0

/-- R295: the flag bound of a group for a copy in ps; a pair without a route has none. -/
def State.flagBound (s : State) (groups : List CluGroup) (hops : List HopIn) (copy modmask : Nat) : Option Nat :=
  let ms := maskList 16 modmask
  let pairs := ms.flatMap (fun a => (ms.filter (· != a)).map (fun b => s.mapRoute copy a b))
  if pairs.any (·.isNone) then none
  else some ((pairs.map (fun r => s.pathPs groups hops copy (r.getD []))).foldl max 0)

/-- R295: a bound meets a limit in ns. -/
def boundOk (b : Option Nat) (ns : Nat) : Bool := match b with | some v => decide (v ≤ ns * 1000) | none => false

/-- R305: a bound as ID_CG shows it. -/
def boundNs (b : Option Nat) : Nat := match b with | some v => min 1023 (ceilDiv v 1000) | none => 1023

/-- R305: ID_CG of a group takes its bounds. -/
def State.showBounds (s : State) (c : Nat) (b0 b1 : Option Nat) : State :=
  s.wrs [(F.ID_CG_COPY1_OK, c, bit (boundOk b1 332)), (F.ID_CG_BOUND0, c, boundNs b0), (F.ID_CG_BOUND1, c, boundNs b1)]

/-- R305: the anchor tells the other modules what ID_CG holds of a cluster group. -/
def State.tellGroup (s : State) (c : Nat) : State :=
  let g : Option CluGroup := s.clu.groups.find? (fun g => g.cunit == c)
  s.tellAll (.group (Fin.ofNat 1024 c)
    { formed := s.on F.ID_CG_FORMED c, copy1 := s.on F.ID_CG_COPY1_OK c, bound0 := BitVec.ofNat 10 (s.rd F.ID_CG_BOUND0 c),
      bound1 := BitVec.ofNat 10 (s.rd F.ID_CG_BOUND1 c), parent := (g.bind (fun (x : CluGroup) => x.parent)).map (Fin.ofNat 1024),
      modmask := BitVec.ofNat 16 ((g.map (fun (x : CluGroup) => x.modmask)).getD 0) })

/-- R295: the bounds of the formed groups computed again; one whose copy-0 bound rises above 358 ns is reported. -/
def State.rebound (s : State) (hops : List HopIn) : State :=
  s.clu.groups.foldl (fun (s : State) g =>
    let b0 := s.flagBound s.clu.groups hops 0 g.modmask
    let was := decide (s.rd F.ID_CG_BOUND0 g.cunit ≤ 358)
    let s1 := (s.showBounds g.cunit b0 (s.flagBound s.clu.groups hops 1 g.modmask)).tellGroup g.cunit
    if was && !boundOk b0 358 then s1.raise 0x55 g.cunit s1.idStat 0 else s1) s

/-! ### Cluster groups (R252, R295) -/

/-- R252: a cluster group ceases to exist. -/
def State.dissolve (s : State) (c : Nat) : State :=
  let s1 := (s.onClu (fun x => { x with groups := x.groups.filter (fun g => g.cunit != c) })).wrs
    [(F.ID_CG_FORMED, c, 0), (F.ID_CG_COPY1_OK, c, 0), (F.ID_CG_BOUND0, c, 0), (F.ID_CG_BOUND1, c, 0)]
  if s.anchor && s.on F.ID_CG_FORMED c then s1.tellGroup c else s1

/-- R252: this module's own declaration of a group. -/
def State.ownDecl (s : State) (c : Nat) : List DeclIn :=
  match s.image.bind (fun g => g.cgs.find? (fun x => x.cunit == c)) with
  | some x => [{ module := Fin.ofNat 16 s.module, parent := x.parent.map (Fin.ofNat 1024), modmask := BitVec.ofNat 16 x.modmask,
                 tag := BitVec.ofNat 32 x.tag, locals := Fin.ofNat 17 x.locals.length }]
  | none => []

/-- R252: the lowest-numbered module that disagrees with the declaration of the lowest. -/
def declBad (l : List DeclIn) : Option Nat :=
  let low := (List.range 16).findSome? (fun m => l.find? (fun d => d.module.val == m))
  match low with
  | none => none
  | some r => (List.range 16).find? (fun m => l.any (fun d => d.module.val == m &&
      (d.parent != r.parent || d.modmask != r.modmask || d.tag != r.tag || !d.modmask.toNat.testBit m)))

/-- CLUSTER_GROUP_FORM at the anchor (R252, R295). -/
def State.formGroup (s : State) (c : Nat) (i : CgIn) : State :=
  let ds := (i.decls.filter (fun d => d.module.val != s.module && s.mapAdmitted d.module.val)) ++ s.ownDecl c
  match declBad ds, ds.head? with
  | some m, _ => (s.dissolve c).raise 0x23 c m 0
  | none, none => s.dissolve c
  | none, some d =>
    let mask := d.modmask.toNat
    let members := (ds.map (fun d => d.locals.val)).foldl (· + ·) 0 + i.children.val
    let parentOk := match d.parent with | none => true | some p => s.on F.ID_CG_FORMED p.val
    let all := (maskList 16 mask).all (fun m => ds.any (fun d => d.module.val == m))
    if 255 < i.depth.toNat then (s.dissolve c).raise 0x23 c ((maskList 16 mask).headD 0) 0
    else if all && decide (2 ≤ members) && parentOk then
      let g : CluGroup := { cunit := c, parent := d.parent.map (·.val), modmask := mask, depth := i.depth.toNat }
      let groups := s.clu.groups.filter (fun x => x.cunit != c) ++ [g]
      let b0 := s.flagBound groups i.hops 0 mask
      if s.on F.ID_CG_FORMED c then s
      else if !boundOk b0 358 then
        let s1 := s.showBounds c b0 (s.flagBound groups i.hops 1 mask)
        s1.raise 0x55 c s1.idStat 0
      else
        let s1 := (s.onClu (fun x => { x with groups := groups })).wr F.ID_CG_FORMED c 1
        (s1.showBounds c b0 (s1.flagBound groups i.hops 1 mask)).tellGroup c
    else s.dissolve c

/-- CLUSTER_GROUP_FORM at another module: the anchor's copy of the group. -/
def State.toldGroup (s : State) (c : Nat) (t : CgTold) : State :=
  if t.formed then
    let g : CluGroup := { cunit := c, parent := t.parent.map (·.val), modmask := t.modmask.toNat }
    (s.onClu (fun x => { x with groups := x.groups.filter (fun y => y.cunit != c) ++ [g] })).wrs
      [(F.ID_CG_FORMED, c, 1), (F.ID_CG_COPY1_OK, c, bit t.copy1), (F.ID_CG_BOUND0, c, t.bound0.toNat), (F.ID_CG_BOUND1, c, t.bound1.toNat)]
  else s.dissolve c

/-- CLUSTER_GROUP_FORM (R252): the anchor checks a cluster group; the other modules take what it announces. -/
def clusterGroupForm (c : Nat) (i : CgIn) (told : Option CgTold) (s : State) : State :=
  match s.admitted, s.anchor, told with
  | true, true, _ => s.formGroup c i
  | true, false, some t => s.toldGroup c t
  | _, _, _ => s

/-- CLUSTER_GROUP_FORM. -/
def execClusterGroupForm (c : Fin 1024) (i : CgIn) (told : Option CgTold) (s : State) : Host.Outcome State Fault Refusal :=
  .next (clusterGroupForm c.val i told s)

/-! ### The map (R294) -/

/-- MAP_CHANGE (R294, R295, R301): the map changes; the new routes wait for the tick that the anchor names, which tells the other modules;
a module cut off from it names its own. -/
def mapChange (i : MapIn) (s : State) : State :=
  if s.admitted then
    let left := (List.range 16).filter (fun m => s.mapAdmitted m && s.anchor = false && m != s.module)
    let s0 := s.takeMap i.map
    let s1 := (left.filter (fun m => s0.rd F.ID_MAP_MSTATE m == 4)).foldl (fun (s : State) m => s.homeDeparted m) s0
    let n := if s.anchor then max i.at_.toNat (s.tick + 4) else if s.clu.lostAt.isSome then s.tick + 4 else i.at_.toNat
    let s2 := s1.onClu (fun c => { c with newRoutes := some (n, s1.mapLinks) })
    let s3 := if s2.anchor then (s2.rebound i.hops).tellAll (.map { i with at_ := BitVec.ofNat 64 n }) else s2
    if s3.clu.lostAt.isSome && s3.clu.partAt.isNone && s3.noSecondary then s3.onClu (fun c => { c with partAt := some (s.tick + 2) }) else s3
  else s

/-- MAP_CHANGE. -/
def execMapChange (i : MapIn) (s : State) : Host.Outcome State Fault Refusal := .next (mapChange i s)

/-- R277: the module that a response with a tag goes to: the one that sent the request, or for the host's the anchor, which forwards them. -/
def State.respDest (s : State) (tag : Nat) : Nat :=
  let src := match s.host.kept.find? (fun r => r.tag == tag), s.host.fwd.find? (fun f => f.tag == tag) with
    | some r, _ => r.src
    | none, some f => f.src
    | none, none => 16
  if src < 16 then src else s.rd F.ID_STAT_ANCHOR 0

/-- R277: the module that a CONTROL flit goes to. -/
def State.flitDest (s : State) (w : Nat) : Option Nat :=
  let op := bits w 0 4
  if op ≤ 3 then some (bits w 4 4)
  else if op = 6 then 
    match s.host.fwd.find? (fun f => f.src == bits w 8 8 && f.tag == bits w 16 16 && !f.answered) with
    | some f => some f.dst
    | none => some (s.respDest (bits w 16 16))
  else if op = 8 then some (s.respDest (bits w 16 16))
  else if op = 9 then some (s.rd F.ID_STAT_ANCHOR 0)
  else none

/-- R277: the CONTROL flits that wait at a port without a link take the new routes. -/
def State.reroute (s : State) (p : Nat) : State :=
  if s.lkActive p then s
  else
    let x := s.port p
    let goes (f : TxFlit) : Option Nat :=
      if f.typ = 2 then
        match (s.flitDest f.payload).bind (fun d => s.routeTo 0 d) with
        | some ((_, q) :: _) => if q = p then none else some q
        | _ => none
      else none
    let s1 := s.setPort p { x with waiting := x.waiting.filter (fun f => (goes f).isNone) }
    x.waiting.foldl (fun (s : State) f => match goes f with | some q => s.lkSend q f.typ f.payload | none => s) s1

/-- ROUTE_CHANGE_APPLY (R294, R277): at the named tick the new routes take effect. -/
def routeChangeApply (s : State) : State :=
  match s.clu.newRoutes with
  | none => s
  | some (n, r) =>
    if s.tick < n then s
    else ([0, 1, 2, 3].foldl (fun (s : State) p => s.reroute p) (s.onClu (fun c => { c with routes := r, newRoutes := none }))).pathLatch.reaskMoved s

/-- ROUTE_CHANGE_APPLY. -/
def execRouteChangeApply (s : State) : Host.Outcome State Fault Refusal := .next (routeChangeApply s)

/-! ### Departure, loss, takeover, partition (R297 to R303) -/

/-- R297, R298: the deadline at which a module's heartbeats of 4 ticks after its last one are missing. -/
def State.beatDeadline (s : State) (m : Nat) : Option Nat := (Table.get? s.clu.beats m).map (fun b => tickAt (b + 6) + 288 * cyc)

/-- R297: a module is DEPARTED, and its links are gone from the map, at both ends. -/
def State.cutLinks (s : State) (m : Nat) : State :=
  let (kind, n) := (s.rd F.ID_TOPO_KIND 0, s.rd F.ID_TOPO_N 0)
  s.wrs ([(F.ID_MAP_MSTATE, m, 4), (F.ID_MAP_LINKS, m, 0)] ++
    ((List.range 16).filter (· != m)).map (fun k =>
      (F.ID_MAP_LINKS, k, maskOf ([0, 1, 2, 3].filter (fun p => (s.rd F.ID_MAP_LINKS k).testBit p && neighbour kind n k p != some m)))))

/-- ID_DEPARTED (R297): a module's heartbeat is missing for 4 ticks: the anchor declares it DEPARTED. -/
def idDeparted (m : Nat) (s : State) : State :=
  match s.anchor && s.mapAdmitted m && m != s.module, s.beatDeadline m with
  | true, some t =>
    if s.due t then
      let s1 := ((s.goto t).onClu (fun c => { c with beats := Table.erase c.beats m })).cutLinks m
      let s2 := s1.raise 0x51 m (s1.idStatOf m 3 0) 0
      let gone := (s2.clu.groups.filter (fun g => g.modmask.testBit m)).map (fun (g : CluGroup) => g.cunit)
      let s3 := gone.foldl (fun (s : State) c => s.dissolve c) s2
      let s4 := if s3.clu.secondary = some m then (s3.onClu (fun c => { c with secondary := none })).wr F.ID_LEASE_SEC_REG 0 0 else s3
      let s5 := s4.onClu (fun c => { c with newRoutes := some (s4.tick + 4, s4.mapLinks) })
      ((s5.homeDeparted m).journalPlat 5 m 0 0).tellAll (.map { map := s5.mapEnts, at_ := BitVec.ofNat 64 (s5.tick + 4) })
    else s
  | _, _ => s

/-- ID_DEPARTED. -/
def execIdDeparted (m : Fin 16) (s : State) : Host.Outcome State Fault Refusal := .next (idDeparted m.val s)

/-- ID_ANCHOR_LOST (R298): the anchor's heartbeat is missing for 4 ticks. -/
def idAnchorLost (s : State) : State :=
  match s.admitted && !s.anchor, s.beatDeadline (s.rd F.ID_STAT_ANCHOR 0) with
  | true, some t => if s.due t then (s.goto t).loseAnchor else s
  | _, _ => s

/-- ID_ANCHOR_LOST. -/
def execIdAnchorLost (s : State) : Host.Outcome State Fault Refusal := .next (idAnchorLost s)

/-- ID_PARTITIONED (R301 to R303): at the PARTITIONED instant every running unit aborts. -/
def idPartitioned (s : State) : State :=
  match s.clu.partAt with
  | none => s
  | some n =>
    if s.tick < n ∨ s.admitted = false then s
    else
      let ls := (List.range 16).filter (fun l => (s.leaf l).phase == .play || (s.leaf l).phase == .ended)
      let s1 := ls.foldl (fun (s : State) l => s.ownAbort l 0x0F (tickAt n)) s
      let s2 := (s1.onClu (fun c => { c with partAt := none, lostAt := none, claimAt := none, secondary := none })).wrs
        [(F.ID_STAT_STATE, 0, 5), (F.ID_STAT_ROLE, 0, 0), (F.ID_LEASE_SEC_REG, 0, 0)]
      (s2.raise 0x58 (s2.rd F.ID_STAT_MODULE 0) s2.idStat 0).journalPlat 6 (s2.rd F.ID_STAT_MODULE 0) 0 0

/-- ID_PARTITIONED. -/
def execIdPartitioned (s : State) : Host.Outcome State Fault Refusal := .next (idPartitioned s)

/-- TICK_HOLDOVER_LIMIT (R298, R301): 1 024 ticks without an anchor. -/
def tickHoldoverLimit (s : State) : State :=
  match s.clu.lostAt with
  | some n => if n + 1024 ≤ s.tick then idPartitioned (s.onClu (fun c => { c with partAt := some (n + 1024) })) else s
  | none => s

/-- TICK_HOLDOVER_LIMIT. -/
def execTickHoldoverLimit (s : State) : Host.Outcome State Fault Refusal := .next (tickHoldoverLimit s)

/-- LEASE_CLAIM (R299): the secondary claims the lease at the expiry it holds, having lost the anchor. -/
def leaseClaim (s : State) : State :=
  match s.clu.lostAt with
  | some n =>
    if s.rd F.ID_STAT_ROLE 0 = 2 ∧ n ≤ s.clu.expiry ∧ s.clu.claimAt = none ∧ s.clu.expiry ≤ s.tick then
      s.onClu (fun c => { c with claimAt := some s.tick })
    else s
  | none => s

/-- LEASE_CLAIM. -/
def execLeaseClaim (s : State) : Host.Outcome State Fault Refusal := .next (leaseClaim s)

/-- ID_ANCHOR_TAKEOVER (R299): a granted claim makes module `m` the anchor. -/
def idAnchorTakeover (m : Nat) (s : State) : State :=
  if s.admitted = false ∨ s.anchor then s
  else
    if m = s.module then (if s.clu.claimAt.isSome then s.becomeAnchor else s)
    else
      let s1 := (s.onClu (fun c =>
          { c with lostAt := none, partAt := none, claimAt := none, secondary := none, beats := [(m, s.tick + 4)] })).wrs
        [(F.ID_STAT_ANCHOR, 0, m), (F.ID_LEASE_SEC_REG, 0, 0)]
      (s1.raise 0x57 m s1.idStat 0).journalTime 7 s1.now

/-- ID_ANCHOR_TAKEOVER. -/
def execIdAnchorTakeover (m : Fin 16) (s : State) : Host.Outcome State Fault Refusal := .next (idAnchorTakeover m.val s)

/-- CLAIM_REFUSED (R301): the secondary's claim is refused or unanswered: it announces P, 2 ticks after the next boundary; another module
takes the P it is told. -/
def claimRefused (p : Option Nat) (s : State) : State :=
  match p with
  | none =>
    if s.clu.claimAt.isSome then
      (s.onClu (fun c => { c with claimAt := none, partAt := some (s.tick + 3) })).tellAll (.partition (BitVec.ofNat 64 (s.tick + 3)))
    else s
  | some n => if s.clu.lostAt.isSome then s.onClu (fun c => { c with partAt := some n }) else s

/-- CLAIM_REFUSED. -/
def execClaimRefused (p : Option (BitVec 64)) (s : State) : Host.Outcome State Fault Refusal := .next (claimRefused (p.map (·.toNat)) s)

end Sys2Proof.Machine
end

