-- ==== Sys2Proof/Machine/Journal.lean ====
section
/-! DEFINITION. The journal's ring, its exports, and the JN registers (17_journal.md R363 to R374). -/

namespace Sys2Proof.Machine

/-! ### Records as bytes (R364) -/

/-- R364: a record as a 256-bit word. -/
def JRec.word (r : JRec) : Nat :=
  pack [(0, 64, r.tick), (64, 8, r.typ), (72, 4, r.leaf), (76, 4, r.module), (80, 1, bit r.replay), (96, 32, r.seq), (128, 128, r.body)]

/-- R363: how many records the ring holds. -/
def ringRecs : Nat := 8388608

/-- R368: the place from `p` on at which the writer puts a record: units of 256 bytes on a faulty subchannel are skipped. -/
def State.ringPlace (s : State) : Nat → Nat → Option Nat
  | 0, _ => none
  | fuel + 1, p =>
    if s.scFaulty (s.scOf (journalBase + 32 * p)) then
      let p' := if s.rd F.DM_MAP_JOURNAL 0 = 2 then (p / 8 + 1) * 8 else (p / 2097152 + 1) * 2097152
      State.ringPlace s fuel (p' % ringRecs)
    else some p

/-- R363, R368: where the record with a sequence number goes; none where every subchannel is faulty. -/
def State.ringAt (s : State) (seq : Nat) : Option Nat :=
  if s.healthy = 4 then some (seq % ringRecs) else s.ringPlace 9 s.jn.pos

/-- R363: a record written at a place of the ring. -/
def State.ringWrite (s : State) (p : Nat) (r : JRec) : State :=
  let a := journalBase + 32 * p
  let old := match Table.get? s.dram.mem a with | some _ => some (ofBytes (s.dram.read a 8)) | none => s.jn.past
  let s1 := s.wake.dramWrite a (toBytes 32 r.word)
  { s1 with jn := { s1.jn with pos := (p + 1) % ringRecs, past := old } }

/-- R367: staging space has returned after records were lost: a LOST record goes ahead of any new one. -/
def State.stageLost (s : State) : State :=
  if s.jn.lost ≠ 0 ∧ s.jn.queue.length < 2048 then
    let n := s.jn.lost
    let t := s.jn.lostTick
    { s with jn := { s.jn with lost := 0 } }.journal 0x0E 0 false (pack [(0, 32, n), (64, 64, t)])
  else s

/-- R335, R363: the place of the record that is written next lies on a subchannel that an alert stalls. -/
def State.ringStalled (s : State) (seq : Nat) : Bool :=
  match s.ringAt seq with
  | some p => s.stalledAt (journalBase + 32 * p) 32
  | none => false

/-- JOURNAL_DRAIN (R363, R367, R368): the writer takes one record from the staging queue to the ring; it waits while the place's subchannel
is stalled (R335). -/
def journalDrain (s : State) : State :=
  match s.jn.queue with
  | [] => s
  | r :: t =>
    if s.ringStalled r.seq then s
    else
      let s1 := { s with jn := { s.jn with queue := t } }
      let s2 := match s1.ringAt r.seq with | some p => s1.ringWrite p r | none => s1
      (s2.wr F.JN_WR_COUNT 0 (s2.rd F.JN_WR_COUNT 0 + 1)).stageLost

/-- JOURNAL_DRAIN. -/
def execJournalDrain (s : State) : Host.Outcome State Fault Refusal := .next (journalDrain s)

/-! ### Export (R369, R370) -/

/-- R369: a write of JN_CTL. -/
def wrJnCtl (s : State) (data : Nat) : State × Ans :=
  if data.testBit 0 then
    if s.rd F.JN_EXP_CFG_SLOT_KIB 0 = 0 then (s, .rejected rSTATE 0)
    else if s.rd F.JN_EXP_TO_TICK 0 < s.rd F.JN_EXP_FROM_TICK 0 then (s, .rejected rRANGE 0)
    else (s.askExport { from_ := s.rd F.JN_EXP_FROM_TICK 0, to_ := s.rd F.JN_EXP_TO_TICK 0, auto := false,
                          asked := edgeUp s.now }, .ok)
  else (s, .ok)

/-- EXPORT: a write of JN_CTL.EXPORT. -/
def execExport (h : Hdr) (s : State) : Host.Outcome State Fault Refusal :=
  .next (s.request h 0x380000 (.write64 1) (fun s => wrJnCtl s 1))

/-- The places of the ring that hold a record. -/
def State.ringHeld (s : State) : List Nat :=
  (s.dram.mem.filter (fun e => decide (journalBase ≤ e.1) && decide (e.1 < journalBase + 32 * ringRecs) && e.1 % 32 == 0)).map
    (fun e => (e.1 - journalBase) / 32)

/-- The word at a place of the ring. -/
def State.ringWord (s : State) (p : Nat) : Nat := ofBytes (s.dram.read (journalBase + 32 * p) 32)

/-- How far a record lies before the next SEQ, so that the oldest comes first. -/
def State.ringAge (s : State) (p : Nat) : Nat := (bits (s.ringWord p) 96 32 + 2 ^ 32 - s.jn.seq) % 2 ^ 32

/-- A place put into a list in SEQ order. -/
def State.ringInsert (s : State) (p : Nat) : List Nat → List Nat
  | [] => [p]
  | q :: t => if s.ringAge p < s.ringAge q then p :: q :: t else q :: State.ringInsert s p t

/-- R369: the places whose records lie in a range of ticks, in SEQ order. -/
def State.ringRange (s : State) (lo hi : Nat) : List Nat :=
  (s.ringHeld.filter (fun p => let t := bits (s.ringWord p) 0 64; decide (lo ≤ t) && decide (t ≤ hi))).foldl
    (fun l p => s.ringInsert p l) []

/-- R370: the records as the export reads them: the two records of a burst with an uncorrectable error give one LOST record. -/
def State.exportRecs (s : State) : List Nat → List Nat → List Nat
  | _, [] => []
  | done, p :: t =>
    if s.rangeUe (journalBase + 64 * (p / 2)) 64 then
      if done.contains (p / 2) then State.exportRecs s done t
      else
        let w := s.ringWord p
        let tick := bits w 0 64
        pack [(0, 64, tick), (64, 8, 0x0E), (76, 4, bits w 76 4), (96, 32, bits w 96 32), (128, 32, 2), (192, 64, tick)]
          :: State.exportRecs s (p / 2 :: done) t
    else s.ringWord p :: State.exportRecs s done t

/-- R369: the slot an export takes: in turn, but for the slot of an armed or active replay. -/
def State.exportSlot (s : State) : Nat :=
  let k := s.jn.slot % 8
  if (s.on F.JN_RPL_CFG_ARM 0 || s.on F.JN_RPL_STAT_ACTIVE 0) && s.rd F.JN_RPL_CFG_SLOT 0 == k then (k + 1) % 8 else k

/-- R369: the first 60 bytes of a file's header. -/
def State.fileHead (s : State) (e : Export) (flags first n : Nat) : List Byte :=
  toBytes 4 0x4A4E4C46 ++ toBytes 2 1 ++ toBytes 2 flags ++ toBytes 8 (s.rd F.ID_SERIAL_SERIAL 0) ++ toBytes 8 e.from_ ++ toBytes 8 e.to_
    ++ toBytes 4 first ++ toBytes 4 n ++ toBytes 20 0

/-- R369: a complete export: the file in its slot, JN_SLOT_INFO, and the event. -/
def State.exportFile (s : State) (e : Export) : State :=
  let k := s.exportSlot
  let size := s.rd F.JN_EXP_CFG_SLOT_KIB 0 * 1024
  let places := s.ringRange e.from_ e.to_
  let ue := places.any (fun p => s.rangeUe (journalBase + 64 * (p / 2)) 64)
  let all := s.exportRecs [] places
  let cap := (size - 64) / 32
  let recs := all.drop (all.length - cap)
  let gone := match s.jn.past with | some t => decide (e.from_ ≤ t) | none => false
  let trunc := bit (gone || decide (cap < all.length))
  let loss := bit (ue || all.any (fun w => bits w 64 8 == 0x0E))
  let s0 := places.foldl (fun (s : State) p => s.readerUe (journalBase + 64 * (p / 2)) 64) s
  let (s1, first) := match recs with
    | w :: _ => (s0, bits w 96 32)
    | [] => ((s0.fresh).1, (s0.fresh).2 % 2 ^ 32)
  let head := s1.fileHead e (bit e.auto + 2 * trunc + 4 * loss) first recs.length
  let body := recs.flatMap (toBytes 32)
  let file := head ++ toBytes 4 (crc32 (head ++ body)) ++ body
  let s2 := s1.wake.dramWrite (s1.rd F.JN_EXP_CFG_BASE 0 - dramWin + k * size) file
  let s3 := { s2 with jn := { s2.jn with slot := (k + 1) % 8 } }.wrs
    [(F.JN_SLOT_INFO_VALID, k, 1), (F.JN_SLOT_INFO_TRUNC, k, trunc), (F.JN_SLOT_INFO_AUTO, k, bit e.auto), (F.JN_SLOT_INFO_LOSS, k, loss),
     (F.JN_SLOT_INFO_GEN, k, s2.rd F.JN_SLOT_INFO_GEN k + 1), (F.JN_SLOT_INFO_RECORDS, k, recs.length), (F.JN_SLOT_FROM_TICK, k, e.from_)]
  s3.raise 0xF7 k (pack [(0, 1, 1), (1, 1, trunc), (2, 1, bit e.auto), (3, 1, loss), (16, 16, s3.rd F.JN_SLOT_INFO_GEN k),
    (32, 32, recs.length)]) 0

/-- JN_EXPORTED (R369): the oldest export, once its last tick has passed and the tick's records have left the staging queue, copies
its records into a slot. -/
def jnExported (s : State) : State :=
  match s.jn.exports with
  | [] => s
  | e :: t =>
    if e.to_ < s.tick ∧ s.jn.queue.all (fun r => decide (e.to_ < r.tick)) then
      let s1 := { s with jn := { s.jn with exports := t } }
      if s1.rd F.JN_EXP_CFG_SLOT_KIB 0 = 0 then s1.bump F.JN_EXP_DROPPED_COUNT 0 1 F.JN_STATUS_SAT 0 15 0x40 else s1.exportFile e
    else s

/-- JN_EXPORTED. -/
def execJnExported (s : State) : Host.Outcome State Fault Refusal := .next (jnExported s)

/-! ### Registers (R374) -/

/-- R374: a write of JN_EXP_CFG. -/
def wrJnExpCfg (s : State) (data : Nat) : State × Ans :=
  let base := bits data 0 40
  let kib := bits data 48 16
  if base % 4096 ≠ 0 ∨ (kib ≠ 0 ∧ (kib < 64 ∨ s.inCapture base (8 * kib * 1024) = false)) then (s, .rejected rRANGE 0)
  else (s.wrs [(F.JN_EXP_CFG_BASE, 0, base), (F.JN_EXP_CFG_SLOT_KIB, 0, kib)], .ok)

/-- R374: a write of a replay register: refused while a replay is ACTIVE. -/
def wrJnRpl (put : State → State) (s : State) : State × Ans :=
  if s.on F.JN_RPL_STAT_ACTIVE 0 then (s, .rejected rSTATE 0) else (put s, .ok)

/-- R374: a write of JN_RPL_CFG. -/
def wrJnRplCfg (s : State) (data : Nat) : State × Ans :=
  wrJnRpl (fun s => s.wrs [(F.JN_RPL_CFG_UNIT, 0, bits data 0 10), (F.JN_RPL_CFG_ARM, 0, bits data 10 1),
    (F.JN_RPL_CFG_CHECK, 0, bits data 12 3), (F.JN_RPL_CFG_SLOT, 0, bits data 16 3)]) s

/-- R374: a write of JN_RPL_SRC. -/
def wrJnRplSrc (s : State) (data : Nat) : State × Ans :=
  wrJnRpl (fun s => s.wrs [(F.JN_RPL_SRC_UNIT, 0, bits data 0 10), (F.JN_RPL_SRC_CLUSTER, 0, bits data 10 1),
    (F.JN_RPL_SRC_MODULE, 0, bits data 12 4)]) s

/-- R374: a write of JN_RPL_RUN. -/
def wrJnRplRun (s : State) (data : Nat) : State × Ans := wrJnRpl (fun s => s.wr F.JN_RPL_RUN_TICK 0 data) s

end Sys2Proof.Machine
end

