-- ==== Sys2Proof/Machine/Timing.lean ====
section
/-! DEFINITION. Timing sets: writes of the shadow bank, exchanges of banks, the lock of the vernier DLL, levels
(05_timing.md R127 to R129, R139 to R143, R147, R148). -/

namespace Sys2Proof.Machine

/-! ### Writes of TS registers (R139, R129) -/

/-- The shadow bank of a leaf. -/
def State.shadow (s : State) (l : Nat) : Nat := 1 - (s.leaf l).bank

/-- R139: an exchange is pending. -/
def State.swapPending (s : State) (l : Nat) : Bool := s.on F.TS_STATUS_SWAP_PENDING l

/-- R139: a write of TS_PERIOD in the shadow view. -/
def wrTsPeriod (l set : Nat) (s : State) (data : Nat) : State × Ans :=
  if s.swapPending l then (s, .rejected rTS_PENDING 0)
  else if data < 1280 ∨ 1280000000 < data then (s, .rejected rRANGE 0)
  else (s.wr F.TS_PERIOD_PERIOD (tsIdx (s.shadow l) l set) data, .ok)

/-- R139: a write of TS_PIN_A in the shadow view. -/
def wrTsPinA (l set slot : Nat) (s : State) (data : Nat) : State × Ans :=
  let i := pinIdx (s.shadow l) l set slot
  if s.swapPending l then (s, .rejected rTS_PENDING 0)
  else if 5 ≤ bits data 48 3 ∨ bits data 51 2 = 3 ∨ bits data 54 2 = 3 then (s, .rejected rRANGE 0)
  else
    (s.wrs [(F.TS_PIN_A_E1, i, bits data 0 24), (F.TS_PIN_A_E2, i, bits data 24 24), (F.TS_PIN_A_FMT, i, bits data 48 3),
            (F.TS_PIN_A_CMODE, i, bits data 51 2), (F.TS_PIN_A_ZCHK, i, bits data 53 1), (F.TS_PIN_A_TERM, i, bits data 54 2)], .ok)

/-- R139: a write of TS_PIN_B in the shadow view. -/
def wrTsPinB (l set slot : Nat) (s : State) (data : Nat) : State × Ans :=
  let i := pinIdx (s.shadow l) l set slot
  if s.swapPending l then (s, .rejected rTS_PENDING 0)
  else (s.wrs [(F.TS_PIN_B_E3, i, bits data 0 24), (F.TS_PIN_B_E4, i, bits data 24 24)], .ok)

/-- R139: a write of TS_SWAP_TICK. -/
def wrTsSwapTick (l : Nat) (s : State) (data : Nat) : State × Ans :=
  if s.swapPending l then (s, .rejected rTS_PENDING 0) else (s.wr F.TS_SWAP_TICK_TICK l data, .ok)

/-- R129, R148: a level's range, in units of 250 µV. -/
def levelOk (v : Nat) : Bool := decide (-6000 ≤ sx 16 v) && decide (sx 16 v ≤ 26000)

/-- R129: TS_LVL_DRV (`half` 0) or TS_LVL_CMP (`half` 1) of pin `i` as written. -/
def State.levelWritten (s : State) (i half : Nat) : Nat :=
  if half = 0 then
    pack [(0, 16, s.rd F.TS_LVL_DRV_VIL i), (16, 16, s.rd F.TS_LVL_DRV_VIH i), (32, 16, s.rd F.TS_LVL_DRV_VT i),
          (48, 16, s.rd F.TS_LVL_DRV_VCOM i)]
  else
    pack [(0, 16, s.rd F.TS_LVL_CMP_VOL i), (16, 16, s.rd F.TS_LVL_CMP_VOH i), (32, 16, s.rd F.TS_LVL_CMP_IOL i),
          (48, 16, s.rd F.TS_LVL_CMP_IOH i)]

/-- R148: the levels of a pin after reset, as the two registers hold them. -/
def levelReset (half : Nat) : Nat :=
  if half = 0 then
    pack [(0, 16, F.TS_LVL_DRV_VIL.rst), (16, 16, F.TS_LVL_DRV_VIH.rst), (32, 16, F.TS_LVL_DRV_VT.rst), (48, 16, F.TS_LVL_DRV_VCOM.rst)]
  else
    pack [(0, 16, F.TS_LVL_CMP_VOL.rst), (16, 16, F.TS_LVL_CMP_VOH.rst), (32, 16, F.TS_LVL_CMP_IOL.rst), (48, 16, F.TS_LVL_CMP_IOH.rst)]

/-- R129: the levels in force at pin `i`: `half` 0 those of the driver and the load's commutation, 1 those of the comparators and the load. -/
def State.levelInForce (s : State) (i half : Nat) : Nat := (Table.get? s.lvl.live (2 * i + half)).getD (levelReset half)

/-- R129: a level write waits for the first tick boundary after it registers. -/
def State.askLevel (s : State) (i half : Nat) : State :=
  { s with lvl := { s.lvl with written := s.lvl.written ++ [2 * i + half] } }

/-- R129: at a tick boundary what was written in the tick takes effect. -/
def State.levelTick (s : State) : State :=
  { s with lvl := { live := s.lvl.written.foldl (fun t k => Table.set t k (s.levelWritten (k / 2) (k % 2))) s.lvl.live, written := [] } }

/-- R148, R129: a write of TS_LVL_DRV. -/
def wrTsLvlDrv (l slot : Nat) (s : State) (data : Nat) : State × Ans :=
  let i := l * 9 + slot
  let f (k : Nat) : Nat := bits data (16 * k) 16
  if s.calBusy then (s, .rejected rCAL_BUSY 0)
  else if [0, 1, 2, 3].all (fun k => levelOk (f k)) then
    (s.wrs [(F.TS_LVL_DRV_VIL, i, f 0), (F.TS_LVL_DRV_VIH, i, f 1), (F.TS_LVL_DRV_VT, i, f 2), (F.TS_LVL_DRV_VCOM, i, f 3)]
      |>.askLevel i 0, .ok)
  else (s, .rejected rRANGE 0)

/-- R148, R129: a write of TS_LVL_CMP. -/
def wrTsLvlCmp (l slot : Nat) (s : State) (data : Nat) : State × Ans :=
  let i := l * 9 + slot
  let f (k : Nat) : Nat := bits data (16 * k) 16
  if s.calBusy then (s, .rejected rCAL_BUSY 0)
  else if levelOk (f 0) && levelOk (f 1) && decide (sx 16 (f 0) ≤ sx 16 (f 1)) && decide (f 2 ≤ 24000) && decide (f 3 ≤ 24000) then
    (s.wrs [(F.TS_LVL_CMP_VOL, i, f 0), (F.TS_LVL_CMP_VOH, i, f 1), (F.TS_LVL_CMP_IOL, i, f 2), (F.TS_LVL_CMP_IOH, i, f 3)]
      |>.askLevel i 1, .ok)
  else (s, .rejected rRANGE 0)

/-! ### Requests for an exchange (R140, R143) -/

/-- R140: a check that fails: its code, and the set, slot and edge. -/
abbrev SwapFault := Nat × Nat × Nat × Nat

/-- R140: code 0x01 on one pin of one set: a used edge at 4 periods or later. -/
def edgeRange (period : Nat) (p : PinSet) : Option Nat :=
  (driveEdges p.fmt ++ compareEdges p.cmode).find? (fun k => decide (4 * period ≤ p.edge k))

/-- R140: code 0x02 on one pin of one set: the later edge of a pair less than 512 tu after the one before. -/
def edgeOrder (p : PinSet) : Option Nat :=
  if (p.fmt = 4 ∧ p.e1 < p.e4 + 512) then some 1
  else if (p.fmt = 2 ∨ p.fmt = 3 ∨ p.fmt = 4) ∧ p.e2 < p.e1 + 512 then some 2
  else if p.cmode = 2 ∧ p.e4 < p.e3 + 512 then some 4
  else none

/-- R140: code 0x03 on one pin of one set: both uses of E4. -/
def sbcWindow (p : PinSet) : Option Nat := if p.fmt = 4 ∧ p.cmode = 2 then some 4 else none

/-- R140: one check over the whole shadow bank, set by set and slot by slot. -/
def State.bankCheck (s : State) (l code : Nat) (check : Nat → PinSet → Option Nat) : Option SwapFault :=
  ((List.range 16).flatMap (fun set => (List.range 9).filterMap (fun slot =>
    (check (s.period (s.shadow l) l set) (s.pinSet (s.shadow l) l set slot)).map (fun k => (code, set, slot, k))))).head?

/-- R140: the first check of a request that fails. -/
def State.swapFault (s : State) (l : Nat) : Option SwapFault :=
  match s.bankCheck l 1 edgeRange with
  | some f => some f
  | none =>
  match s.bankCheck l 2 (fun _ p => edgeOrder p) with
  | some f => some f
  | none =>
  match s.bankCheck l 3 (fun _ p => sbcWindow p) with
  | some f => some f
  | none =>
    if s.rd F.TS_SWAP_TICK_TICK l < s.tick + 1 then some (4, 0, 0, 0)
    else if s.swapPending l then some (5, 0, 0, 0)
    else none

/-- TS_STATUS as it reads. -/
def State.tsStatus (s : State) (l : Nat) : Nat :=
  pack [(0, 1, s.rd F.TS_STATUS_SWAP_PENDING l), (1, 1, s.rd F.TS_STATUS_LAST_SWAP_OK l), (2, 1, s.rd F.TS_STATUS_COLL_SEEN l),
        (3, 1, s.rd F.TS_STATUS_DLL_UNLOCK l), (4, 1, s.rd F.TS_STATUS_SAT l), (8, 8, s.rd F.TS_STATUS_REJECT l),
        (16, 4, s.rd F.TS_STATUS_REJ_SET l), (20, 4, s.rd F.TS_STATUS_REJ_SLOT l), (24, 3, s.rd F.TS_STATUS_REJ_EDGE l)]

/-- R140: a write of TS_CTL.SWAP. What TS_STATUS says of the last rejection, and LAST_SWAP_OK, stay as they are when a later request is
accepted or withdrawn: the model's choice (log entry 154). -/
def tsSwap (l : Nat) (s : State) : State × Ans :=
  match s.swapFault l with
  | none => (s.wr F.TS_STATUS_SWAP_PENDING l 1, .ok)
  | some (code, set, slot, edge) =>
    let s2 := s.wrs [(F.TS_STATUS_REJECT, l, code), (F.TS_STATUS_LAST_SWAP_OK, l, 0), (F.TS_STATUS_REJ_SET, l, set),
                     (F.TS_STATUS_REJ_SLOT, l, slot), (F.TS_STATUS_REJ_EDGE, l, edge)]
    (s2.raise 0x72 l (s2.tsStatus l) 0, .rejected rBLOCK_REJECT code)

/-- R141: the instant of a pending exchange and its WHERE (1 not playing, 2 at a bead boundary, 3 at the end of a run); none
while the leaf plays and no bead boundary has brought it. -/
def State.exchangeAt (s : State) (l : Nat) : Option (Nat × Nat) :=
  let x := s.leaf l
  let t := tickAt (s.rd F.TS_SWAP_TICK_TICK l)
  if !(s.swapPending l) then none
  else
    match x.phase with
    | .play => if s.swapDue l then some (edgeOf x.nextStart, 2) else none
    | .armed =>
      if s.rd F.TS_SWAP_TICK_TICK l < x.startTick then some (t, 1)
      else if s.rd F.TS_SWAP_TICK_TICK l = x.startTick then some (t, 2) else none
    | _ => if x.beadSeq ≠ 0 ∧ t ≤ x.nextStart then some (x.nextStart, 3) else some (t, 1)

/-- R141, R143: the leaf stands at the boundary, its launch edge come, at which the pending exchange takes place: no hold begins there. -/
def State.exchangeComes (s : State) (l : Nat) : Bool :=
  let s0 := s.settle l
  let x := s0.leaf l
  let le := edgeOf x.nextStart
  let n := s0.nextB l le
  let s1 := s0.moveTo l le n
  x.phase == .play && x.bdue && x.hold.isNone && s.due le && decide (tickAt (s.rd F.TS_SWAP_TICK_TICK l) ≤ le)
    && (n.stop || !s1.willHold l (s1.beadCheck l le true 0))

/-- R143: a write of TS_CTL.CANCEL: it withdraws a pending exchange whose edge has not come. -/
def tsCancel (l : Nat) (s : State) : State × Ans :=
  match s.exchangeAt l with
  | some (t, _) => if edgeOf t ≤ s.now then (s, .ok) else (s.wr F.TS_STATUS_SWAP_PENDING l 0, .ok)
  | none => if s.exchangeComes l then (s, .ok) else (s.wr F.TS_STATUS_SWAP_PENDING l 0, .ok)

/-- R140, R143: a write of TS_CTL. -/
def wrTsCtl (l : Nat) (s : State) (data : Nat) : State × Ans :=
  if data % 4 = 3 then (s, .rejected rACTION_BITS 0)
  else if data.testBit 0 then tsSwap l s
  else if data.testBit 1 then tsCancel l s
  else (s, .ok)

/-- The address of TS_CTL of a leaf. -/
def tsCtlAddr (l : Nat) : Nat := 0x202000 + l * 0x4000

/-- SWAP. -/
def execSwap (h : Hdr) (l : Fin 16) (s : State) : Host.Outcome State Fault Refusal :=
  .next (s.request h (tsCtlAddr l.val) (.write64 1) (tsSwap l.val))

/-- CANCEL. -/
def execCancel (h : Hdr) (l : Fin 16) (s : State) : Host.Outcome State Fault Refusal :=
  .next (s.request h (tsCtlAddr l.val) (.write64 2) (tsCancel l.val))

/-! ### The exchange (R141, R142) -/

/-- TS_EXCHANGE (R141, R142): the leaf's two banks change roles. -/
def tsExchange (l : Nat) (s : State) : State :=
  match s.exchangeAt l with
  | none => s
  | some (t, whr) =>
    if s.due t then
      let s0 := s.goto t
      let x := s0.leaf l
      let v := if whr = 1 ∨ x.phase = .armed then 0 else s0.rd F.UNIT_VCOUNT_VCOUNT l
      let s1 := (s0.setLeaf l { x with bank := 1 - x.bank, swapAt := if whr = 1 then x.swapAt else some v }).wrs
        [(F.TS_STATUS_SWAP_PENDING, l, 0), (F.TS_STATUS_LAST_SWAP_OK, l, 1), (F.TS_SWAP_AT_VINDEX, l, v), (F.TS_SWAP_AT_WHERE, l, whr)]
      let w := pack [(0, 48, v), (48, 2, whr)]
      (((s1.raiseInt l 5).journal 0x08 l x.replay w).raise 0x71 l w 0).checkFlow l
        (decide (whr = 1) || (s1.replayAt l 0x08 v (fun _ => true)).isSome)
    else s

/-- TS_EXCHANGE. -/
def execTsExchange (l : Fin 16) (s : State) : Host.Outcome State Fault Refusal := .next (tsExchange l.val s)

end Sys2Proof.Machine
end

