-- ==== Sys2Proof/Machine/Tick.lean ====
section
/-! DEFINITION. The site tick: its boundary, the snapshot, the group decisions, and the flags of cluster groups on the links (R19 to R29,
R77, R117, R144, R162, R271, R292 to R296). -/

namespace Sys2Proof.Machine

/-! ### The boundary (R19, R22, R23, R27) -/

/-- R20, R22: at the boundary that ends tick `n` a leaf publishes its CB bits as they stand; what it published long ago goes. -/
def Leaf.closeTick (x : Leaf) (n cb : Nat) (aborted : Bool) : Leaf :=
  let y := if cb = 0 ∧ aborted = false then x
    else x.setPub n (fun p => { p with flags := { p.flags with cb := cb }, aborted := aborted })
  { y with pubs := y.pubs.filter (fun (e : Nat × Pub) => decide (n < e.1 + 20) || (e.2.stop.isSome && decide (x.startTick ≤ e.1))) }

/-- R83: a leaf that holds raises UNDERRUN in each tick that the hold covers. -/
def Leaf.holdFlag (x : Leaf) (n : Nat) : Leaf :=
  match x.hold with
  | some h => if tickOf h.start ≤ n then x.setPub n (fun p => { p with flags := { p.flags with underrun := true } }) else x
  | none => x

/-- R22: the flag banks exchange: every leaf closes the tick. -/
def State.closeLeaves (s : State) : State :=
  { s with leaves := s.leaves.map (fun (e : Nat × Leaf) =>
      (e.1, (e.2.holdFlag s.tick).closeTick s.tick (s.shownCtx e.1).cb (s.rd F.UNIT_STATUS_STATE e.1 == 3))) }

/-- R110: the conditions sampled at a tick boundary: TRIGIN, host flags, threshold crossings and window events of the tick that ends. -/
def State.sampleConds (s : State) : State :=
  { s with trig := { s.trig with sample := s.trig.level &&& s.trigByte 9, thrLast := s.trig.thrNow, winLast := s.trig.winNow,
                                 thrNow := 0, winNow := 0 }
           mc := { s.mc with hostFlags := s.rd F.MC_HOSTFLAG_FLAG 0 } }

/-- What is kept of ticks past, and of pulses that have ended, goes. -/
def State.prune (s : State) : State :=
  let fresh (n : Nat) : Bool := decide (s.tick < n + 20)
  { s with
    pulses := s.pulses.filter (fun (p : Pulse) => decide (s.now < p.start + 10240))
    clu := { s.clu with folds := s.clu.folds.filter (fun e => fresh e.2.1), rx := s.clu.rx.filter (fun (r : FlagRx) => fresh r.tick), out := [] }
    lk := { ports := s.lk.ports.map (fun (e : Nat × Port) => (e.1, { e.2 with ticks := [], out := [], asks := [] })) } }

/-- TICK_BOUNDARY (R19): GLB_TICK increments, the flag banks exchange, what waits for the boundary takes effect, and the state at the
boundary is copied into the back snapshot bank. The tick does not run in BOOT (R19). -/
def tickBoundary (s : State) : State :=
  if s.env.off ∨ s.mstate = mBoot then s
  else
    let s0 := s.showDue (tickAt (s.tick + 1))
    let s1 := { s0.closeLeaves with sub := 0 }.wr F.GLB_TICK_TICK 0 (s.tick + 1)
    let s2 := (s1.sampleConds).prune
    let s3 := (List.range 8).foldl (fun (s : State) n => s.acqBegin n) s2
    let s4 := { s3 with tmu := { s3.tmu with pins := s3.tmu.pins.map (fun (e : Nat × TmuPin) => (e.1, e.2.atTick s3.tick)) } }
    (((((((((s4.levelTick).fcMark).dcTick).safeLeave).watch).plTick).calTick).leavesOut).parkOut).snapCopy

/-- TICK_BOUNDARY. -/
def execTickBoundary (s : State) : Host.Outcome State Fault Refusal := .next (tickBoundary s)

/-- R161: this module's parts of its cluster groups in the snapshot that has become the front bank: kept at the anchor, which composes the
groups' windows from them, and sent to it by any other module. -/
def State.shareParts (s : State) : State :=
  let mine := s.snap.front.recs.filter (fun e => decide (256 ≤ e.1))
  if s.admitted then
    mine.foldl (fun (s : State) e =>
      if s.anchor then s.addPart (e.1 - 256) s.module s.snap.front.tick e.2
      else s.tell (s.rd F.ID_STAT_ANCHOR 0) (.part (Fin.ofNat 16 s.module) (Fin.ofNat 1024 (e.1 - 256)) (BitVec.ofNat 64 s.snap.front.tick)
        (e.2.map (BitVec.ofNat 64)))) s
  else s

/-- SNAPSHOT_EXCHANGE (R27, R29): at cycle 64 the banks exchange, unless FREEZE is 1. -/
def snapshotExchange (s : State) : State :=
  if s.snap.fresh ∧ s.on F.GLB_SNAP_CTL_FREEZE 0 = false ∧ s.env.off = false ∧ s.mstate ≠ mBoot then
    { s.goto (tickAt s.tick + 64 * cyc) with snap := { front := s.snap.back, back := s.snap.front, fresh := false } }.shareParts
  else s

/-- SNAPSHOT_EXCHANGE. -/
def execSnapshotExchange (s : State) : Host.Outcome State Fault Refusal := .next (snapshotExchange s)

/-! ### Group decisions (R25, R117) -/

/-- A unit's leaves of the present run, or of the run that ended last. -/
def State.runLeaves (s : State) (u : Nat) : List Nat := (s.leavesOf u).filter (fun l => (s.leaf l).unit == u)

/-- A unit's leaves that take its decisions: those started with it whose run has not ended. -/
def State.inPlay (s : State) (u : Nat) : List Nat :=
  (s.leavesOf u).filter (fun l => let x := s.leaf l; x.unit == u && (x.phase == .play || x.phase == .ended))

/-- R117: a leaf has an arm bound to tick `n`. -/
def Engine.armedAt (g : Engine) (n : Nat) : Bool := g.arms.any (fun a => a.tick == some n)

/-- R365: a fold as bits 33 to 11 of an entry of R292. -/
def Fold.entryBits (f : Fold) (abort stop : Bool) : Nat :=
  pack [(0, 1, bit (f.or_.testBit 0)), (1, 1, bit (f.and_.testBit 0)), (2, 1, bit (f.or_.testBit 1)), (3, 1, bit (f.and_.testBit 1)),
        (4, 1, bit (f.or_.testBit 3)), (5, 1, bit abort), (6, 1, bit stop), (7, 8, bits f.or_ 8 8), (15, 8, bits f.and_ 8 8)]

/-- The fold that such bits stand for. -/
def foldOfEntry (b : Nat) : Fold :=
  { or_ := pack [(0, 1, bits b 0 1), (1, 1, bits b 2 1), (3, 1, bits b 4 1), (8, 8, bits b 7 8)]
    and_ := pack [(0, 1, bits b 1 1), (1, 1, bits b 3 1), (8, 8, bits b 15 8)] }

/-- R292: by the end of tick `n` a member leaf of the unit has ended ABORTED in this run. -/
def State.abortedBy (s : State) (u n : Nat) : Bool :=
  (s.leavesOf u).any (fun l => decide ((s.leaf l).startTick ≤ n) && ((s.leaf l).pub n).aborted)

/-- R162, R292: by the end of tick `n` a member leaf of the unit has made a stop request in this run. -/
def State.stopBy (s : State) (u n : Nat) : Bool :=
  (s.leavesOf u).any (fun l => (s.leaf l).pubs.any (fun (e : Nat × Pub) => decide ((s.leaf l).startTick ≤ e.1) && decide (e.1 ≤ n) && e.2.stop.isSome))

/-- R372: in a replay of the unit, the fold that the file's decision records give for a tick of the run: the latest at or before it. -/
def State.replayFold (s : State) (u n : Nat) : Option Fold :=
  if s.jn.replay.active ∧ s.jn.replay.unit = u then
    let t0 := match s.jn.replay.recs.find? (fun r => r.typ == 0x04) with | some r => r.tick | none => 0
    let k := n + t0 - (s.leaf ((s.leavesOf u).headD 0)).startTick
    let old := s.jn.replay.recs.filter (fun r => r.typ == 0x02 && decide (bits r.body 0 40 ≤ k % 2 ^ 40))
    some (foldOfEntry (match old.getLast? with | some r => bits r.body 56 23 | none => 0))
  else none

/-- R117: the arms of one leaf bound to tick `n` resolved at the ready instant `t`. -/
def State.resolveArms (s : State) (l n t : Nat) (f live : Fold) : State :=
  let g := s.eng l
  let mine := g.arms.filter (fun a => a.tick == some n)
  let s1 := s.setEng l { g with arms := g.arms.filter (fun a => a.tick != some n) }
  mine.foldl (fun (s : State) a =>
    let out := groupCond f a.cond
    let bad := out != groupCond live a.cond && (s.rd F.JN_RPL_CFG_CHECK 0).testBit 0
    let s0 := if bad then s.diverge l a.cond false (s.rd F.UNIT_VCOUNT_VCOUNT l) else s
    let s2 := (s0.setEng l { s0.eng l with decLast := out }).raiseInt l 4
    if out then s2.latchJump l 1 a.target t else s2) s1

/-- R365: the DECISION record of a unit. -/
def State.journalDecision (s : State) (u n : Nat) (f : Fold) (missing : Bool) : State :=
  let low := (s.leavesOf u).headD 0
  s.journal 0x02 low (s.leaf low).replay
    (pack [(0, 40, n), (40, 10, unitIndex u), (50, 1, bit (decide (256 ≤ u))), (51, 1, bit missing),
           (56, 23, f.entryBits (s.abortedBy u n) (s.stopBy u n))])

/-- R77: the strand entries of a leaf for a tick: vector index and strand. -/
def Pub.strands (p : Pub) : List (Nat × Nat) := p.entries.map (fun e => (e.1, e.2.1))

/-- R77: of the leaves of one unit, the first whose strand entries differ from the lowest leaf's. -/
def State.strandDiffers (s : State) (ls : List Nat) (n : Nat) : Option Nat :=
  match ls with
  | [] => none
  | r :: rest => rest.find? (fun l => ((s.leaf l).pub n).strands != ((s.leaf r).pub n).strands)

/-- Every leaf listed is asked to abort. -/
def State.askAll (s : State) (ls : List Nat) (a : AbortReq) : State := ls.foldl (fun (s : State) l => s.askAbort l a) s

/-- R162, R163: the stop on fail of a group that tick `n` brings reaches every member: its trigger instant is the ready instant. A member whose
run is DONE by then has FSTOP_HIT all the same. -/
def State.groupStop (s : State) (u n t src m : Nat) : State :=
  (s.runLeaves u).foldl (fun (s : State) l =>
    let x := s.leaf l
    if x.stopHit.isSome then s
    else if x.phase = .play ∨ x.phase = .ended then
      s.setLeaf l { x with stopHit := some t, aborts := x.aborts ++ [stopReq (s.rd F.UNIT_FSTOP_MODE u) t src m] }
    else if x.phase = .off ∧ s.rd F.UNIT_STATUS_STATE l = 2 ∧ x.startTick ≤ n then
      (s.setLeaf l { x with stopHit := some t }).wr F.UNIT_FSTAT_FSTOP_HIT l 1
    else s) s

/-- R162: of this module's leaves of a unit the one whose stop request in a tick is the earliest. -/
def State.stopLeaf (s : State) (ls : List Nat) (n : Nat) : Option Nat :=
  (ls.foldl (fun (a : Option (Nat × Nat)) l =>
    match ((s.leaf l).pub n).stop, a with
    | some i, some b => if i < b.1 then some (i, l) else some b
    | some i, none => some (i, l)
    | none, a => a) none).map (·.2)

/-- GROUP_DECISION_READY of a local unit (R25, R77, R117, R162): the decisions of the tick just ended. -/
def State.localDecision (s : State) (u n t : Nat) : State :=
  let s0 := s.goto t
  let ls := s0.inPlay u
  let live := s0.unitFold u n
  let f := (s0.replayFold u n).getD live
  let s1 := if ls.any (fun l => (s0.eng l).armedAt n) then s0.journalDecision u n f false else s0
  let s2 := match s1.strandDiffers ls n with
    | some bad => s1.askAll ls { notBefore := tickAt (s1.tick + 1), cause := 0x0D, srcUnit := bad, srcModule := s1.module, srcCause := 0x0D }
    | none => s1
  let s3 := match s2.stopLeaf (s2.runLeaves u) n with
    | some l => s2.groupStop u n t l s2.module
    | none => s2
  ls.foldl (fun (s : State) l => s.resolveArms l n t f live) s3

/-- GROUP_DECISION_READY of a cluster group (R24, R117, R296): the decisions of the tick three before; flags missing with an arm bound to
the tick abort the group. -/
def State.clusterDecision (s : State) (u n t : Nat) : State :=
  match s.clu.folds.find? (fun e => e.1 == u && e.2.1 == n) with
  | none => s
  | some (_, _, _, _, missing) =>
    let s0 := s.goto t
    let ls := s0.inPlay u
    let live := s0.unitFold u n
    let f := (s0.replayFold u n).getD live
    if ls.any (fun l => (s0.eng l).armedAt n) then
      let s1 := s0.journalDecision u n f missing
      if missing then
        ls.foldl (fun (s : State) l =>
          (s.setEng l { s.eng l with arms := (s.eng l).arms.filter (fun a => a.tick != some n) }).askAbort l
            { notBefore := t, cause := 0x08, srcUnit := l, srcModule := s.module, srcCause := 0x08 }) s1
      else ls.foldl (fun (s : State) l => s.resolveArms l n t f live) s1
    else s0

/-- R25: the decisions of a unit are given once in a tick. -/
def State.decides (s : State) (u : Nat) : State := s.setUnit u { s.unit u with decided := s.tick }

/-- GROUP_DECISION_READY (R25). -/
def groupDecisionReady (u : Nat) (s : State) : State :=
  if s.runLeaves u = [] ∨ s.tick ≤ (s.unit u).decided then s
  else if u < 256 then (s.decides u).localDecision u (s.tick - 1) (readyAt u (s.tick - 1))
  else if s.tick < 3 then s
  else (s.decides u).clusterDecision u (s.tick - 3) (readyAt u (s.tick - 3))

/-- GROUP_DECISION_READY. -/
def execGroupDecisionReady (u : UnitRef) (s : State) : Host.Outcome State Fault Refusal := .next (groupDecisionReady (uix u) s)

/-! ### TICK flits (R271, R292) -/

/-- R144, R292: the CRC-32 of the period values of a tick. -/
def periodCrc (l : List Nat) : Nat := crc32 (l.flatMap (toBytes 4))

/-- R292: SDIG of a tick's seam entries. -/
def seamDigest (l : List (Nat × Nat × Nat)) : Nat :=
  if l = [] then 0 else crc16 (l.flatMap (fun e => toBytes 1 e.2.2 ++ toBytes 2 e.2.1)) % 2 ^ 13

/-- R292: this module's entry for a cluster group and tick. -/
def State.flagEntry (s : State) (c n : Nat) : Nat :=
  let u := 256 + c
  let f := foldFlags ((s.leavesOf u).map (fun l => ((s.leaf l).pub n).flags))
  let p := (s.leaf ((s.leavesOf u).headD 0)).pub n
  pack [(0, 10, c), (10, 1, 1), (11, 23, f.entryBits (s.abortedBy u n) (s.stopBy u n)), (34, 9, p.periods.length), (43, 32, periodCrc p.periods),
        (75, 13, seamDigest p.entries)]

/-- A number put into a rising list. -/
def insNat (l : List Nat) (k : Nat) : List Nat :=
  match l with
  | [] => [k]
  | a :: t => if k < a then k :: a :: t else if k = a then a :: t else a :: insNat t k

/-- R292: the cluster groups in which this module holds members, ascending. -/
def State.ownGroups (s : State) : List Nat :=
  match s.image with
  | some g => (g.cgs.map (·.cunit)).foldl insNat []
  | none => []

/-- R271, R292: the payloads of this module's TICK flits for a tick. -/
def State.tickFlits (s : State) (n copy : Nat) : List Nat :=
  let es := s.ownGroups.map (fun c => s.flagEntry c n)
  (List.range (max 1 (ceilDiv es.length 2))).map (fun k =>
    pack [(0, 40, n), (40, 4, s.module), (44, 1, copy), (45, 3, k), (48, 88, es.getD (2 * k) 0), (136, 88, es.getD (2 * k + 1) 0)])

/-- R292, R293: the ports on which a copy of a source's TICK flits leaves this module. -/
def State.flagPorts (s : State) (copy src : Nat) : List Nat :=
  let route (a d : Nat) : Option (List (Nat × Nat)) := routeHops (s.rd F.ID_TOPO_KIND 0) (s.rd F.ID_TOPO_N 0) copy s.routeLinks a d
  (tickPorts route src s.module (tickDests s.clu.groups (s.rd F.ID_STAT_ANCHOR 0) src s.mapAdmitted)).filter
    (fun p => s.lkActive p && (s.port p).change.isNone && !s.clu.fenced.contains p)

/-- R23: the neighbour ports on which this module launches its own TICK flits: every active one (log entry 164). -/
def State.launchPorts (s : State) : List Nat :=
  [0, 1, 2, 3].filter (fun p => s.lkActive p && (s.port p).change.isNone && !s.clu.fenced.contains p)

/-- R271, R278: TICK flits leave a port at instant `t`: ahead of what leaves it at that instant. -/
def Port.sendTicks (x : Port) (t : Nat) (payloads : List Nat) : Port :=
  { x with ticks := x.ticks ++ payloads, captureRun := x.captureRun + payloads.length,
           out := x.out.filter (fun e => decide (e.1 < t)) ++ payloads.map (fun w => (t, x.flit 1 0 w)) ++ x.out.filter (fun e => decide (t ≤ e.1)) }

/-- R271: TICK flits sent on some ports. -/
def State.sendTicks (s : State) (ports payloads : List Nat) : State :=
  ports.foldl (fun (s : State) p => s.setPort p ((s.port p).sendTicks s.now payloads)) s

/-- TICK_FLIT_LAUNCH (R23, R271, R292): the first copy at cycle 160, the second at cycle 192. -/
def tickFlitLaunch (second : Bool) (s : State) : State :=
  if s.admitted ∧ s.tick ≠ 0 then
    let s0 := s.goto (tickAt s.tick + (if second then 192 else 160) * cyc)
    s0.sendTicks s0.launchPorts (s0.tickFlits (s0.tick - 1) (bit second))
  else s

/-- TICK_FLIT_LAUNCH. -/
def execTickFlitLaunch (second : Bool) (s : State) : Host.Outcome State Fault Refusal := .next (tickFlitLaunch second s)

/-! ### Cluster flags (R24, R77, R144, R292, R296) -/

/-- R292: the entry of a group that a module sent for a tick, if it has arrived. -/
def State.rxEntry (s : State) (c m n : Nat) : Option Nat :=
  (s.clu.rx.filter (fun (r : FlagRx) => r.tick == n && r.src == m)).findSome? (fun (r : FlagRx) =>
    [bits r.data 0 88, bits r.data 88 88].find? (fun w => w.testBit 10 && bits w 0 10 == c))

/-- R144, R77: of the member modules' entries the first that differs in a field from the lowest module's. -/
def entryDiffers (lo w : Nat) (es : List (Nat × Nat)) : Option Nat :=
  match es with
  | [] => none
  | r :: rest => (rest.find? (fun e => bits e.2 lo w != bits r.2 lo w)).map (·.1)

/-- The unit that UNIT_ABORT_SRC names on a module: this module's lowest member leaf, or, on another module, a number that no rule
says how this one learns. -/
def State.srcOn (s : State) (u m : Nat) : State × Nat :=
  if m = s.module then (s, (s.leavesOf u).headD 0)
  else let (s1, v) := s.fresh; (s1, v % 16)

/-- R77: the first member of a cluster group, in order of module and leaf, whose strand entries in a tick differ from the reference member's:
its module, and its leaf where it is one of this module's. The other modules' entries stand for their lowest leaves. -/
def State.strandFirst (s : State) (u n : Nat) (es : List (Nat × Nat)) : Option (Nat × Option Nat) :=
  match entryDiffers 75 13 es, s.strandDiffers (s.leavesOf u) n with
  | some m, some l => some (if m ≤ s.module then (m, none) else (s.module, some l))
  | some m, none => some (m, none)
  | none, some l => some (s.module, some l)
  | none, none => none

/-- R77, R144: a difference found on the cluster's flags aborts the members. -/
def State.clusterMismatch (s : State) (u m cause : Nat) (leaf : Option Nat) : State :=
  let (s1, src) := match leaf with | some l => (s, l) | none => s.srcOn u m
  let s2 := if cause = 0x06 then s1.raise 0x73 (unitIndex u) (pack [(0, 10, src), (10, 4, m), (16, 8, cause)]) 0 else s1
  s2.askAll (s2.inPlay u) { notBefore := tickAt (s2.tick + 1), cause := cause, srcUnit := src, srcModule := m, srcCause := cause }

/-- R77, R144: the causes that every member of a group has in common. -/
def sharedCause (c : Nat) : Bool := c == 0x06 || c == 0x0D

/-- R18, R77, R144, R292: a member on another module has ended ABORTED: the members here abort, with its own cause where the whole group has
it. The unit, module and cause are those that the module's message gives, 0 until it has come. -/
def State.clusterAborted (s : State) (u : Nat) : State :=
  let (su, sm, sc) := ((s.unit u).src).getD (0, 0, 0)
  let cause := if sharedCause sc then sc else 0x09
  let ls := (s.inPlay u).filter (fun l => !((s.leaf l).aborts.any (fun a => a.cause == 0x09 || a.cause == cause)))
  if ls = [] then s
  else s.askAll ls { notBefore := tickAt (s.tick + 1), cause := cause, srcUnit := su, srcModule := sm, srcCause := sc }

/-- R24, R296: the flags of one cluster group for tick `n`. -/
def State.foldGroup (s : State) (n : Nat) (g : CluGroup) : State :=
  let u := 256 + g.cunit
  let ms := maskList 16 g.modmask
  let es := ms.filterMap (fun m => (if m = s.module then some (s.flagEntry g.cunit n) else s.rxEntry g.cunit m n).map (fun w => (m, w)))
  let gone := ms.filter (fun m => !(es.any (fun e => e.1 == m)))
  let f := es.foldl (fun (a : Fold) e => let b := foldOfEntry (bits e.2 11 23); a.add b.or_ b.and_) {}
  let key (m : Nat) : Nat := g.cunit * 16 + m
  let twice := gone.any (fun m => decide (0 < n) && Table.get? s.clu.missed (key m) == some (n - 1))
  let s1 := s.onClu (fun c => { c with folds := c.folds ++ [(u, n, f.or_, f.and_, !gone.isEmpty)]
                                       missed := gone.foldl (fun (t : Table Nat) m => Table.set t (key m) n) c.missed })
  let ls := s1.inPlay u
  let s2 := if twice then ls.foldl (fun (s : State) l => s.ownAbort l 0x08 (tickAt (n + 3))) s1 else s1
  let s3 := if gone ≠ [] ∨ ls.any (fun l => decide (n < (s2.leaf l).startTick)) then s2
    else
      let sa := match s2.strandFirst u n es with | some (m, l) => s2.clusterMismatch u m 0x0D l | none => s2
      match entryDiffers 34 41 es with | some m => sa.clusterMismatch u m 0x06 none | none => sa
  let s4 := if es.any (fun e => e.1 != s.module && e.2.testBit 16) then s3.clusterAborted u else s3
  match es.find? (fun e => e.2.testBit 17) with
  | some e =>
    let (s5, src) := match (if e.1 = s4.module then s4.stopLeaf (s4.runLeaves u) n else none) with
      | some l => (s4, l)
      | none => s4.srcOn u e.1
    s5.groupStop u n (readyAt u n) src e.1
  | none => s4

/-- R296: the modules whose flags for a tick have not arrived. -/
def State.flagsGone (s : State) (n : Nat) : List Nat :=
  (List.range 16).filter (fun m => s.clu.groups.any (fun g =>
    g.modmask.testBit s.module && g.modmask.testBit m && m != s.module && (s.rxEntry g.cunit m n).isNone))

/-- CLUSTER_FLAG_DEADLINE (R24, R296): at cycle 288 the flags of the tick two before are folded. -/
def clusterFlagDeadline (s : State) : State :=
  if s.admitted ∧ 2 ≤ s.tick then
    let n := s.tick - 2
    let s0 := s.goto (tickAt s.tick + 288 * cyc)
    let s1 := s0.bump F.ID_FLAG_MISS_COUNT 0 (s0.flagsGone n).length F.ID_GSTATUS_SAT 0 5 0x28
    (s1.clu.groups.filter (fun g => g.modmask.testBit s1.module)).foldl (fun (s : State) g => s.foldGroup n g) s1
  else s

/-- CLUSTER_FLAG_DEADLINE. -/
def execClusterFlagDeadline (s : State) : Host.Outcome State Fault Refusal := .next (clusterFlagDeadline s)

end Sys2Proof.Machine
end

