-- ==== Sys2Proof/Machine/Reg.lean ====
section
/-! DEFINITION. The register blocks as the host sees them: which register an address names, the word it reads, and what a write of it does
(00_scope.md R6, R7; 19_registers.md R403 to R408, R412, and the register table of each chapter). -/

namespace Sys2Proof.Machine

/-! ### Addresses (R403) -/

/-- The indices, outermost first, that an offset from an array's base names; none between its registers. -/
def splitDims : List (Nat × Nat) → Nat → Option (List Nat)
  | [], off => if off = 0 then some [] else none
  | (n, stride) :: t, off => if off / stride < n then (splitDims t (off % stride)).map (fun l => off / stride :: l) else none

/-- The indices by which an address names this register. -/
def RegDesc.indices (d : RegDesc) (addr : Nat) : Option (List Nat) := if d.base ≤ addr then splitDims d.dims (addr - d.base) else none

/-- The copy that indices name: the last index runs fastest. -/
def copyAt : List (Nat × Nat) → List Nat → Nat → Nat
  | (n, _) :: t, i :: l, acc => copyAt t l (acc * n + i)
  | _, _, acc => acc

/-- The registers of the block that holds an address. -/
def blockRegs (addr : Nat) : List RegN :=
  match addr / 0x10000 with
  | 0x00 => RegN.ofGLB | 0x01 => RegN.ofEVT | 0x02 => RegN.ofMC | 0x03 => RegN.ofMNT | 0x04 => RegN.ofPL | 0x05 => RegN.ofENV
  | 0x06 => RegN.ofID | 0x30 => RegN.ofFL | 0x31 => RegN.ofACQ | 0x32 => RegN.ofTMU | 0x33 => RegN.ofDC | 0x34 => RegN.ofRS
  | 0x35 => RegN.ofLK | 0x36 => RegN.ofDM | 0x37 => RegN.ofCAL | 0x38 => RegN.ofJN
  | b => if 0x10 ≤ b ∧ b < 0x20 then RegN.ofUNIT else if 0x20 ≤ b ∧ b < 0x24 then RegN.ofTS else []

/-- The first register of a list that an address names. -/
def findReg (addr : Nat) : List RegN → Option (RegN × List Nat)
  | [] => none
  | r :: t => match r.desc.indices addr with | some l => some (r, l) | none => findReg addr t

/-- R403: the register at an address; the window of cluster group c holds the registers of a unit, under index 256 + c. -/
def regAt (addr : Nat) : Option (RegN × List Nat) :=
  if 0x600000 ≤ addr ∧ addr < 0xA00000 then
    match findReg (0x100000 + addr % 0x1000) RegN.ofUNIT with
    | some (r, _ :: t) => some (r, (256 + (addr - 0x600000) / 0x1000) :: t)
    | _ => none
  else findReg addr (blockRegs addr)

/-- R13, R403: the unit (by cell index) in whose window an address lies. -/
def winUnit (addr : Nat) : Option Nat :=
  if 0x100000 ≤ addr ∧ addr < 0x200000 then some ((addr - 0x100000) / 0x1000)
  else if 0x600000 ≤ addr ∧ addr < 0xA00000 then some (256 + (addr - 0x600000) / 0x1000)
  else none

/-- R400: the address lies in the window of a unit that does not exist. -/
def State.absentAt (s : State) (addr : Nat) : Bool := match winUnit addr with | some u => !s.unitExists u | none => false

/-! ### Reading -/

/-- R15: UNIT_DEPTH. -/
def State.unitDepth (s : State) (u : Nat) : Nat :=
  if u < 256 then (match s.image with | some g => g.depthOf 16 u | none => 0)
  else (match s.clu.groups.find? (fun g => g.cunit == u - 256) with | some g => g.depth | none => 0)

/-- R161, R407: the word of a unit's record that holds a copy of a register. -/
def recWord (r : RegN) (j : Nat) : Option Nat :=
  match r with
  | .UNIT_STATUS => some 0
  | .UNIT_VCOUNT => some 1
  | .UNIT_PFAIL => some (2 + j)
  | .UNIT_FVEC => some 11
  | .UNIT_FF_POS => some 12
  | .UNIT_FF_WHERE => some 13
  | .UNIT_FF_TICK => some 14
  | .UNIT_FSTAT => some 15
  | _ => none

/-- The registers of a unit's window as this module's own leaves give them (R96, R161). -/
def State.unitOwn (s : State) (r : RegN) (u j : Nat) : Nat :=
  match r with
  | .UNIT_STATUS => s.unitStatus u
  | .UNIT_KIND => bit (decide (16 ≤ u))
  | .UNIT_DEPTH => s.unitDepth u
  | .UNIT_VCOUNT => s.unitLow r u
  | .UNIT_HOLD_GAP => s.unitLow r u
  | .UNIT_SAFEPT => s.unitLow r u
  | .UNIT_ABORT_SRC => s.unitLow r u
  | .UNIT_PFAIL => s.unitPfail u j
  | .UNIT_FVEC => s.unitFvec u
  | .UNIT_FF_POS => s.unitFf r u
  | .UNIT_FF_WHERE => s.unitFf r u
  | .UNIT_FF_TICK => s.unitFf r u
  | .UNIT_FSTAT => s.unitFstat u
  | _ => s.cells r u

/-- The registers of a unit's window as they read (R96); those of a cluster group that a snapshot holds are composed from the member modules'
snapshots of one tick (R161). -/
def State.unitWord (s : State) (r : RegN) (u j : Nat) : Nat :=
  match (if u < 256 then none else recWord r j) with
  | some k => (s.cluRec (u - 256)).getD k 0
  | none => s.unitOwn r u j

/-- A 64-bit word of a payload kept as bytes. -/
def wordAt (b : List Byte) (k : Nat) : Nat := field b (8 * k) 8

/-- The MNT registers as they read (R263): 0 while no image is mounted. -/
def State.mntWord (s : State) (r : RegN) (i : Nat) : Nat :=
  let img (f : MntImg → Nat) : Nat := match s.image with | some g => f g | none => 0
  match r with
  | .MNT_STATUS => s.cells r 0 + s.cgPending % 1024 * 0x10000
  | .MNT_ID => img (fun g => g.imageId)
  | .MNT_HINTS => bit s.mnt.priCand + 2 * bit s.mnt.secCand
  | .MNT_UMAP => img (fun g => maskOf ((List.range 64).filter (fun b => g.has (64 * i + b))))
  | .MNT_LEAF => img (fun g =>
      let x := g.leafRecs.getD i {}
      pack [(0, 8, x.pinMin), (8, 8, x.pinMax), (16, 16, x.parkVt), (32, 24, x.rsafe)])
  | .MNT_TRIG => img (fun g => wordAt g.trig i)
  | .MNT_ACQ => img (fun g => g.acq.getD i 0 % 0x20000)
  | .MNT_RASTER => img (fun g => wordAt (g.raster.getD []) i)
  | .MNT_PARENT => s.mntParent i
  | _ => s.cells r i

/-- Four 16-bit values of a field in one word, from copy `i` on. -/
def State.four16 (s : State) (f : Fld) (i : Nat) : Nat :=
  pack [(0, 16, s.rd f i), (16, 16, s.rd f (i + 1)), (32, 16, s.rd f (i + 2)), (48, 16, s.rd f (i + 3))]

/-- R410: a path to an uplink exists: port U is ACTIVE, or a route leads to the anchor. -/
def State.evtPort (s : State) : Option Nat :=
  if s.lkActive 4 then some 4
  else if s.admitted && s.rd F.ID_STAT_ANCHOR 0 != s.rd F.ID_STAT_MODULE 0 then
    match s.routeTo 0 (s.rd F.ID_STAT_ANCHOR 0) with
    | some ((_, p) :: _) => some p
    | _ => none
  else none

/-- R190: the channels that are active or drain. -/
def State.acqActive (s : State) : Nat :=
  maskOf ((List.range 8).filter (fun n =>
    s.acqState n == aFILLING || s.acqState n == aARMED || s.acqState n == aTRIGGERED || !(s.acqCh n).fifo.isEmpty))

/-- R190: the bandwidth units in use. -/
def State.acqBwUsed (s : State) : Nat :=
  (((List.range 8).filter (fun n => s.acqHeld n && s.acqDram n && s.acqSource n != 0)).map (s.rd F.ACQ_BW_UNITS)).foldl (· + ·) 0

/-- A register's word as it reads (R6): its cells, or what the register's chapter makes it show. -/
def State.regWord (s : State) (r : RegN) (ix : List Nat) : Nat :=
  let i := ix.getD 0 0
  let j := ix.getD 1 0
  let k := ix.getD 2 0
  let c := copyAt r.desc.dims ix 0
  match r with
  | .TMU_CDT_HIST => if s.on F.TMU_CDT_RES_BUSY 0 then Config.cdtPartial s.now i % 2 ^ 20 else s.cells r i
  | .UNIT_STATUS | .UNIT_KIND | .UNIT_DEPTH | .UNIT_VCOUNT | .UNIT_HOLD_GAP | .UNIT_SAFEPT | .UNIT_ABORT_SRC | .UNIT_PFAIL
  | .UNIT_FVEC | .UNIT_FF_POS | .UNIT_FF_WHERE | .UNIT_FF_TICK | .UNIT_FSTAT => s.unitWord r i j
  | .MNT_STATUS | .MNT_ID | .MNT_HINTS | .MNT_UMAP | .MNT_LEAF | .MNT_TRIG | .MNT_ACQ | .MNT_RASTER | .MNT_PARENT => s.mntWord r i
  | .TS_PERIOD => s.cells r (tsIdx (s.shadow i) i j)
  | .TS_ACT_PERIOD => s.cells r (tsIdx (s.leaf i).bank i j)
  | .TS_PIN_A => s.cells r (pinIdx (s.shadow i) i j k)
  | .TS_ACT_PIN_A => s.cells r (pinIdx (s.leaf i).bank i j k)
  | .TS_PIN_B => s.cells r (pinIdx (s.shadow i) i j k)
  | .TS_ACT_PIN_B => s.cells r (pinIdx (s.leaf i).bank i j k)
  | .FL_STATUS => s.flStatus
  | .ACQ_GSTATUS => s.acqActive + s.cells r 0
  | .ACQ_BW_USED => s.acqBwUsed
  | .ACQ_SEQ => s.cells r i + (s.rd F.ACQ_SEQ_WR i - s.acqPages i) * 2 ^ 32
  | .DC_GSTATUS => maskOf ((List.range 16).filter (s.on F.DSA_STAT_PATH_FAULT)) + s.cells r 0
  | .RS_ACT_BG => s.cells r 1
  | .RS_ACT_L_CFG | .RS_ACT_L_POS | .RS_ACT_L_BASE | .RS_ACT_L_STRIDE => s.cells r (act i)
  | .RS_STATUS => s.cells r 0 / 2 * 2 + bit s.rasRunning
  | .LK_GSTATUS => maskOf ((List.range 5).filter s.lkActive) + s.cells r 0
  | .LK_STAT => s.lkStat i
  | .LK_SKEW => pack ((List.range 4).map (fun k => (8 * k, 8, s.rd F.LK_SKEW_V (4 * i + k))))
  | .PL_STREAM => s.plStream
  | .PL_EXP_COUNT => s.exposed.length
  | .PL_LEAF => s.plLeaf i
  | .PL_LINK => pack [(0, 16, s.linkCap i), (16, 16, s.plHome i), (32, 16, s.plPromo i)]
  | .PL_EXPOSED => match s.exposed[i]? with | some x => x.word | none => 0
  | .DM_STATUS => maskOf ((List.range 4).filter s.scFaulty) + s.cells r 0
  | .DM_BASE => [s.hdrBase, s.foreignBase, s.rasterBase, s.captureBase, journalBase].getD i 0
  | .DM_BZ_BASE => s.bzBase i * 64
  | .DM_BZ_LIMIT => s.bzLimit i * 64
  | .DM_BZ_CFG => pack [(0, 1, bit (s.bzOn i)), (1, 1, bit (s.bzReject i)), (2, 1, bit (decide (13 ≤ i)))]
  | .CAL_STATUS => s.calStatus
  | .CAL_TLEAF => s.four16 F.CAL_TLEAF_T (4 * i)
  | .CAL_LKT_INFO => s.cells r i + 2 * bit (s.inForce.contains i)
  | .CAL_LKT_TEMP => s.four16 F.CAL_LKT_T (16 * i + 4 * j)
  | .JN_STATUS => s.jn.queue.length + s.cells r 0 + s.jn.exports.length * 0x10000
  | .GLB_ID => 0x0D1B0144
  | .GLB_REV => Config.glbRev.toNat
  | .GLB_STATE => s.glbState
  | .GLB_SNAP_TICK => s.snap.front.tick
  | .GLB_SNAP_STATE => s.snap.front.glb
  | .EVT_STATUS => bit s.evtPort.isSome + s.cells r 0
  | _ => s.cells r c

/-- R407: a word of the snapshot window. -/
def State.snapWord (s : State) (off : Nat) : Nat :=
  match Table.get? s.snap.front.recs (off / 0x80) with
  | some l => l.getD (off % 0x80 / 8) 0
  | none => 0

/-- R409: an event message as a 192-bit word. -/
def EvtMsg.word (m : EvtMsg) : Nat :=
  pack [(0, 8, m.code), (8, 4, m.module), (16, 16, m.index), (32, 40, m.tick), (72, 24, m.seq), (96, 64, m.data), (160, 32, m.dataHi)]

/-- R410: a word of the event ring: 0x20 bytes for each entry, the message in the low 24. -/
def State.ringEntryWord (s : State) (off : Nat) : Nat :=
  match s.evt.ring.find? (fun (m : EvtMsg) => m.seq % 256 == off / 0x20) with
  | some m => m.word / 2 ^ (64 * (off % 0x20 / 8)) % 2 ^ 64
  | none => 0

/-- R403, R404: the word at a 64-bit aligned address outside the byte windows; 0 where nothing is defined. -/
def State.wordRead (s : State) (addr : Nat) : Nat :=
  if 0x8000 ≤ addr ∧ addr < 0x10000 then s.snapWord (addr - 0x8000)
  else if 0x11000 ≤ addr ∧ addr < 0x13000 then s.ringEntryWord (addr - 0x11000)
  else match regAt addr with
    | some (r, ix) => s.regWord r ix
    | none => 0

/-! ### Writing -/

/-- R7: some bit of the data lies in no field. -/
def strayBits : List Slot → Nat → Bool
  | [], d => d != 0
  | x :: t, d => strayBits t (d - bits d x.lo x.w * 2 ^ x.lo)

/-- R6: every field is RO. -/
def allRo (l : List Slot) : Bool := l.all (fun x => x.acc == .ro)

/-- R6: the fields of a copy take a write: RW fields the value, W1C fields lose the bits written as 1. -/
def State.putSlots (s : State) (l : List Slot) (c d : Nat) : State :=
  l.foldl (fun (s : State) x =>
    match x.cell, x.acc with
    | some f, .rw => s.wr f c (bits d x.lo x.w)
    | some f, .w1c => s.unflag f c (bits d x.lo x.w)
    | _, _ => s) s

/-- The registers that follow the counter rules (R406), but for those of a unit's window. -/
def RegN.isCounter : RegN → Bool
  | .MC_VACT_LATE | .TS_COLL_COUNT | .FL_DROPPED | .FL_LIMITED | .ACQ_IGN_TRIG | .ACQ_GAPS | .ACQ_LOST | .ACQ_LATE_TRIG | .TMU_MISSED
  | .TMU_PAIR_COUNT | .TMU_UNPAIRED | .TMU_WIN_COUNT | .DSA_THR_COUNT | .RS_TORN_COUNT | .RS_LATE_COUNT | .LK_TRAIN_FAILS | .LK_CRC_ERR
  | .LK_REPLAY | .LK_TICK_LOST | .LK_DOWNSHIFT | .LK_PRBS_ERR | .ID_FLAG_MISS | .PL_HINT_IGN | .PL_PROMOTIONS | .DM_CE | .DM_UE
  | .DM_CA_ALERT | .DM_BZ_HIT | .CAL_REJ_COUNT | .JN_LOST | .JN_EXP_DROPPED | .ENV_SAFE_COUNT | .GLB_ERR_COUNT | .EVT_LOST => true
  | _ => false

/-- R203: the counters of a pair engine, which are written only while EN is 0. -/
def RegN.isPairCount : RegN → Bool
  | .TMU_PAIR_COUNT | .TMU_UNPAIRED | .TMU_WIN_COUNT => true
  | _ => false

/-- R406, R8: a counter's clear. -/
def State.uncountSlots (s : State) (l : List Slot) (c : Nat) : State :=
  l.foldl (fun (s : State) x => match x.cell with | some f => s.uncount f c | none => s) s

/-- A write without conditions. -/
def putReg (r : RegN) (c : Nat) (s : State) (d : Nat) : State × Ans := (s.putSlots r.desc.slots c d, .ok)

/-- A write that a range check can refuse. -/
def rangeReg (r : RegN) (c : Nat) (ok : Bool) (s : State) (d : Nat) : State × Ans :=
  if ok then putReg r c s d else (s, .rejected rRANGE 0)

/-- R96: a write of UNIT_CTL. -/
def wrUnitCtl (u : Nat) (s : State) (d : Nat) : State × Ans :=
  if s.isMember u && popcount 4 d != 1 then (s, .rejected rUNIT_IS_MEMBER 0)
  else if 1 < popcount 4 d then (s, .rejected rACTION_BITS 0)
  else if d.testBit 0 then startWrite u s
  else if d.testBit 1 then unitAbort u s
  else if d.testBit 2 then unitJump u s
  else if d.testBit 3 then unitClear u s
  else (s, .ok)

/-- R96: a write of a register of a unit's window that a member does not take. -/
def wrOuter (r : RegN) (u : Nat) (s : State) (d : Nat) : State × Ans :=
  if s.isMember u then (s, .rejected rUNIT_IS_MEMBER 0) else putReg r u s d

/-- R162, R165: a write of UNIT_FSTOP. -/
def wrUnitFstop (u : Nat) (s : State) (d : Nat) : State × Ans :=
  if s.isMember u then (s, .rejected rUNIT_IS_MEMBER 0)
  else if d % 4 = 3 ∨ bits d 8 24 = 0 then (s, .rejected rRANGE 0)
  else if s.unitBusy u then (s, .rejected rSTATE 0)
  else putReg .UNIT_FSTOP u s d

/-- R161: a write of a counter of a unit's window: 0 clears it in every member leaf. -/
def wrUnitCount (u : Nat) (cells : Nat → Fld × Nat) (s : State) (d : Nat) : State × Ans :=
  if d ≠ 0 then (s, .rejected rCOUNTER_VALUE 0)
  else ((s.partsOf u).foldl (fun (s : State) l => s.uncount (cells l).1 (cells l).2) s, .ok)

/-- R161: a write of UNIT_FSTAT. -/
def wrUnitFstat (u : Nat) (s : State) (d : Nat) : State × Ans :=
  (if d.testBit 1 then (s.partsOf u).foldl (fun (s : State) l => s.unflag F.UNIT_FSTAT_SAT l 1) s else s, .ok)

/-- The writes of the registers of a unit's window (R96, R161, R165). -/
def wrUnitReg (r : RegN) (u j : Nat) (s : State) (d : Nat) : State × Ans :=
  match r with
  | .UNIT_CTL => wrUnitCtl u s d
  | .UNIT_HOLD_LIMIT => rangeReg r u (d != 0) s d
  | .UNIT_PFAIL => wrUnitCount u (fun l => (F.UNIT_PFAIL_COUNT, l * 9 + j)) s d
  | .UNIT_FVEC => wrUnitCount u (fun l => (F.UNIT_FVEC_COUNT, l)) s d
  | .UNIT_FSTOP => wrUnitFstop u s d
  | .UNIT_FSTAT => wrUnitFstat u s d
  | _ => wrOuter r u s d

/-- R125, R365: a write of MC_HOSTFLAG: each flag that changes is journalled. -/
def wrHostFlag (s : State) (d : Nat) : State × Ans :=
  let old := s.rd F.MC_HOSTFLAG_FLAG 0
  ((List.range 64).foldl (fun (s : State) b =>
    if old.testBit b = d.testBit b then s else s.journalInput 2 b (d.testBit b) (b / 4) s.now) (s.wr F.MC_HOSTFLAG_FLAG 0 d), .ok)

/-- R111: a write of MC_UREG: only while the leaf's outermost unit neither runs nor has a start pending. -/
def wrUreg (l u : Nat) (s : State) (d : Nat) : State × Ans :=
  if s.unitBusy l then (s, .rejected rSTATE 0) else putReg .MC_UREG (16 * l + u) s d

/-- R125: a write of MC_CTL. -/
def wrMcCtl (src : Nat) (s : State) (d : Nat) : State × Ans := if d.testBit 0 then mcLoad src s else (s, .ok)

/-- R164: a write of FL_WMARK: a level that the ring has reached already does not raise until it falls below it. -/
def wrFlWmark (s : State) (d : Nat) : State × Ans :=
  let s1 := s.wr F.FL_WMARK_LEVEL 0 d
  ({ s1 with fl := { s1.fl with above := decide (d ≠ 0) && decide (d ≤ s1.flOcc) } }, .ok)

/-- R408, R8: a write of GLB_ERR_INFO: where VALID is cleared on the edge of a further rejection, GLB_ERR holds that one. -/
def wrErrInfo (s : State) (d : Nat) : State × Ans :=
  let s1 := s.putSlots RegN.GLB_ERR_INFO.desc.slots 0 d
  let kept := if s.hot.cycle = s.now / cyc ∧ d.testBit 16 ∧ s.on F.GLB_ERR_INFO_VALID 0 then s.hot.rej else none
  (match kept with
   | some (addr, src, reason, detail, more) => (s1.wr F.GLB_ERR_INFO_MORE 0 (bit (more && !d.testBit 17))).fillReject addr src reason detail
   | none => s1, .ok)

/-- R408: a write of GLB_CMD: PING raises GLB_PONG. -/
def wrGlbCmd (tag : Nat) (s : State) (d : Nat) : State × Ans := (if d.testBit 0 then s.raise 0x03 tag 0 0 else s, .ok)

/-- R408: a write of GLB_ALARM. -/
def wrGlbAlarm (s : State) (d : Nat) : State × Ans := rangeReg .GLB_ALARM 0 (d == 0 || decide (s.tick + 1 < d)) s d

/-- R29: a write of GLB_SNAP_CTL: when FREEZE returns to 0, the copy taken before it does not reach the front bank. -/
def wrSnapCtl (s : State) (d : Nat) : State × Ans :=
  let s1 := s.wr F.GLB_SNAP_CTL_FREEZE 0 d
  (if s.on F.GLB_SNAP_CTL_FREEZE 0 && !d.testBit 0 then { s1 with snap := { s1.snap with fresh := false } } else s1, .ok)

/-- The writes of the registers of blocks TS, FL, ACQ, TMU, DC and RS that have conditions or effects. -/
def wrInstr (r : RegN) (i j k : Nat) (s : State) (d : Nat) : State × Ans :=
  match r with
  | .TS_PERIOD => wrTsPeriod i j s d
  | .TS_PIN_A => wrTsPinA i j k s d
  | .TS_PIN_B => wrTsPinB i j k s d
  | .TS_CTL => wrTsCtl i s d
  | .TS_SWAP_TICK => wrTsSwapTick i s d
  | .TS_LVL_DRV => wrTsLvlDrv i j s d
  | .TS_LVL_CMP => wrTsLvlCmp i j s d
  | .FL_CTL => wrFlCtl s d
  | .FL_CFG => wrFlCfg s d
  | .FL_RD => wrFlRd s d
  | .FL_APER => rangeReg r 0 (d % 2048 == 0 && decide (d < s.flCap)) s d
  | .FL_WMARK => wrFlWmark s d
  | .ACQ_APER => rangeReg r 0 (decide (d ≤ 2040)) s d
  | .ACQ_CTL => wrAcqCtl i s d
  | .ACQ_CFG => wrAcqCfg i s d
  | .ACQ_SRAM => acqSetup i (fun d => decide (bits d 16 12 ≤ 2048)) (fun s d => s.putSlots r.desc.slots i d) s d
  | .ACQ_DRAM => acqSetup i (fun _ => true) (fun s d => s.putSlots r.desc.slots i d) s d
  | .ACQ_PRE => acqSetup i (fun _ => true) (fun s d => s.putSlots r.desc.slots i d) s d
  | .ACQ_POST => acqSetup i (fun d => d != 0) (fun s d => s.putSlots r.desc.slots i d) s d
  | .ACQ_TRIG => wrAcqTrig i s d
  | .ACQ_RED => acqSetup i (fun d => d != 0) (fun s d => s.putSlots r.desc.slots i d) s d
  | .ACQ_BW => acqSetup i (fun d => decide (d ≤ 80)) (fun s d => s.putSlots r.desc.slots i d) s d
  | .TMU_CDT_CTL => wrCdtCtl s d
  | .TMU_PIN_CFG => wrTmuPin i s d
  | .TMU_PAIR_CFG => wrPairCfg i s d
  | .TMU_PAIR_W => wrPairReg i (fun d => d != 0 && decide (d < 2 ^ 39)) (fun s d => s.putSlots r.desc.slots i d) s d
  | .TMU_PAIR_LO => wrPairReg i (fun _ => true) (fun s d => s.putSlots r.desc.slots i d) s d
  | .TMU_PAIR_HI => wrPairReg i (fun _ => true) (fun s d => s.putSlots r.desc.slots i d) s d
  | .TMU_FC_CFG => wrFcCfg i s d
  | .DC_PIN_CFG => wrDcPinCfg i s d
  | .DC_PIN_FORCE => wrDcPinForce i s d
  | .DSA_CTL => wrDsaCtl i s d
  | .DSA_THR_CFG => wrDsaThrCfg i s d
  | .DSA_THR_LVL => wrDsaThrLvl i s d
  | .DSA_CMD => wrDsaCmd i s d
  | .DC_DIAG_CFG => wrDcDiagCfg i s d
  | .RS_CTL => wrRsCtl s d
  | .RS_COMMIT => wrRsCommit s d
  | .RS_CFG => wrRsCfg s d
  | .RS_STATIC => wrRsStatic s d
  | .RS_BG => wrRsBg s d
  | .RS_L_CFG => wrRsLCfg i s d
  | .RS_L_POS => wrRsLPos i s d
  | .RS_L_BASE => wrRsLBase i s d
  | .RS_L_STRIDE => wrRsLStride i s d
  | _ => putReg r (copyAt r.desc.dims [i, j, k] 0) s d

/-- The writes of the registers of the other blocks that have conditions or effects; `h` names the sender. -/
def wrModule (h : Hdr) (r : RegN) (i j k : Nat) (s : State) (d : Nat) : State × Ans :=
  match r with
  | .MC_CTL => wrMcCtl h.src.val s d
  | .MC_STATUS => wrMcStatus s d
  | .MC_OTP_KEY => wrOtpKey s d
  | .MC_OTP_CMD => wrOtpCmd s d
  | .MC_HOSTFLAG => wrHostFlag s d
  | .MC_UREG => wrUreg i j s d
  | .MNT_CTL => wrMntCtl h.src.val s d
  | .MNT_SRC_LEN => rangeReg r 0 (decide (32 ≤ d) && decide (d ≤ 1048576)) s d
  | .PL_CTL => wrPlCtl h.src.val s d
  | .PL_SRC_LEN => rangeReg r 0 (decide (16 ≤ d) && decide (d ≤ 4194304)) s d
  | .ENV_CTL => wrEnvCtl h.src.val s d
  | .ENV_CFG => wrEnvCfg s d
  | .ENV_DEW => wrEnvDew s d
  | .ENV_FW_CTL => wrEnvFwCtl s d
  | .ENV_FW_DATA => wrEnvFwData s d
  | .ID_TOPO => wrIdTopo s d
  | .ID_ROSTER => wrIdRoster i s d
  | .LK_CTL => wrLkCtl i s d
  | .LK_CFG => wrLkCfg i s d
  | .LK_PRBS_CTL => wrLkPrbsCtl i s d
  | .DM_CTL => wrDmCtl s d
  | .DM_REGION => wrDmRegion s d
  | .DM_MAP => wrDmMap s d
  | .DM_SR_IDLE => wrDmSrIdle s d
  | .DM_SCRUB => wrDmScrub s d
  | .DM_BZ_BASE => wrDmBzBase i s d
  | .DM_BZ_LIMIT => wrDmBzLimit i s d
  | .DM_BZ_CFG => wrDmBzCfg i s d
  | .CAL_CTL => wrCalCtl s.cal.eeprom s d
  | .CAL_CFG => wrCalCfg s d
  | .CAL_PARTNER => wrCalPartner i s d
  | .JN_CTL => wrJnCtl s d
  | .JN_EXP_CFG => wrJnExpCfg s d
  | .JN_RPL_CFG => wrJnRplCfg s d
  | .JN_RPL_SRC => wrJnRplSrc s d
  | .JN_RPL_RUN => wrJnRplRun s d
  | .GLB_ERR_INFO => wrErrInfo s d
  | .GLB_CMD => wrGlbCmd h.tag.val s d
  | .GLB_ALARM => wrGlbAlarm s d
  | .GLB_SNAP_CTL => wrSnapCtl s d
  | _ => wrInstr r i j k s d

/-- R404, R6, R7, R406: a write of a register: refused when its fields are all RO or a reserved bit is set; a counter takes 0 only; then
what the register's chapter says. -/
def State.regWrite (h : Hdr) (r : RegN) (ix : List Nat) (d : Nat) (s : State) : State × Ans :=
  if allRo r.desc.slots then (s, .rejected rRO_REGISTER 0)
  else if strayBits r.desc.slots d then (s, .rejected rRESERVED_BIT 0)
  else if r.isPairCount && s.on F.TMU_PAIR_CFG_EN (ix.getD 0 0) then (s, .rejected rSTATE 0)
  else if r.isCounter then
    (if d ≠ 0 then (s, .rejected rCOUNTER_VALUE 0) else (s.uncountSlots r.desc.slots (copyAt r.desc.dims ix 0), .ok))
  else if RegN.ofUNIT.contains r then wrUnitReg r (ix.getD 0 0) (ix.getD 1 0) s d
  else wrModule h r (ix.getD 0 0) (ix.getD 1 0) (ix.getD 2 0) s d

end Sys2Proof.Machine
end

