-- ==== Sys2Proof/Machine/Host.lean ====
section
/-! DEFINITION. Host transactions and event messages: reads and writes of the address map, forwarding, the service port, the ring
(19_registers.md R398 to R412, 18_power.md R395, 02_vectors.md R59, 06_compare.md R156, 07_acquisition.md R189, 15_dram.md R340). -/

namespace Sys2Proof.Machine

/-! ### Windows (R5, R403) -/

/-- The strand table. -/
def inStr (a : Nat) : Bool := decide (0x400000 ≤ a) && decide (a < 0x600000)
/-- R340: the DRAM window. -/
def inDram (a : Nat) : Bool := decide (0x100000000 ≤ a) && decide (a < 0x500000000)
/-- R59: the bead cache window. -/
def inCache (a : Nat) : Bool := decide (0x1000000 ≤ a) && decide (a < 0x3200000)
/-- R263: the pin-name window. -/
def inNames (a : Nat) : Bool := decide (0x31000 ≤ a) && decide (a < 0x32200)
/-- R156: the fail-log aperture. -/
def inFl (a : Nat) : Bool := decide (0x308000 ≤ a) && decide (a < 0x310000)
/-- R189: the acquisition aperture. -/
def inAcq (a : Nat) : Bool := decide (0x318000 ≤ a) && decide (a < 0x320000)
/-- R407: the snapshot window. -/
def inSnap (a : Nat) : Bool := decide (0x8000 ≤ a) && decide (a < 0x10000)

/-- The windows that accept byte access. -/
def byteWin (a : Nat) : Bool := inStr a || inDram a || inCache a || inNames a || inFl a || inAcq a

/-- The windows that take no write. -/
def readOnlyWin (a : Nat) : Bool := inCache a || inNames a || inFl a || inAcq a || inSnap a

/-- R403: the address lies in a row of the address map. -/
def mapped (a : Nat) : Bool :=
  byteWin a || decide (a < 0x70000) || (decide (0x100000 ≤ a) && decide (a < 0x240000)) || (decide (0x300000 ≤ a) && decide (a < 0x390000))
    || (decide (0x400000 ≤ a) && decide (a < 0xA00000))

/-- R153: a byte of the capture SRAM; what nothing has written is open. -/
def State.sramByte (s : State) (a : Nat) : Byte := (Table.get? s.sram.mem a).getD (Config.freeByte 0 (2 ^ 40 + a))

/-- R59: a byte of the bead cache window. -/
def State.cacheByte (s : State) (off : Nat) : Byte :=
  let head := decide (0x2000000 ≤ off)
  let (l, c, i) : Nat × Nat × Nat :=
    if head then ((off - 0x2000000) / 0x20000, (off - 0x2000000) % 0x20000 / 0x10, off % 0x10)
    else (off / 0x200000, off % 0x200000 / 0x100, off % 0x100)
  let open_ := Config.freeByte 0 (2 ^ 41 + off)
  match Table.get? (s.cache l).slots c with
  | some x => (if head then x.header else x.payload).getD i open_
  | none => open_

/-- R336, R334: a byte of DRAM as the host reads it; what a faulty subchannel delivers is open. -/
def State.dramByte (s : State) (a : Nat) : Byte :=
  if s.scFaulty (s.scOf a) then Config.freeByte s.dram.epoch (2 ^ 42 + a) else s.dram.byte a

/-- A byte of a byte window. -/
def State.winByte (s : State) (a : Nat) : Byte :=
  if inStr a then BitVec.ofNat 8 (bits (s.desc ((a - strBase) / 32)) (8 * ((a - strBase) % 32)) 8)
  else if inDram a then s.dramByte (a - dramWin)
  else if inCache a then s.cacheByte (a - 0x1000000)
  else if inNames a then s.pinName (a - 0x31000)
  else if inFl a then
    s.sramByte (16 * ((s.rd F.FL_APER_BASE 0 + (a - 0x308000) / 16) % max 1 s.flCap) + a % 16)
  else if inAcq a then s.sramByte (s.rd F.ACQ_APER_PAGE 0 * 4096 + (a - 0x318000))
  else 0

/-- Bytes of a window from an address on. -/
def State.winBytes (s : State) (a n : Nat) : List Byte := (List.range n).map (fun i => s.winByte (a + i))

/-- R334, R336, R339, R340: a host read through a byte window; in the DRAM window it wakes the DRAM and can meet an uncorrectable
error. `f` answers with the bytes, and `ue` when they met one. -/
def winRead (a n : Nat) (f ue : List Byte → Ans) (s : State) : State × Ans :=
  let b := s.winBytes a n
  if inDram a then
    let o := a - dramWin
    ((s.readerUe o n).wake, if s.rangeUe o n then ue b else f b)
  else (s, f b)

/-! ### Reads (R402, R404) -/

/-- READ64. -/
def hostRead (a : Nat) (s : State) : State × Ans :=
  if s.absentAt a then (s, .absent)
  else if byteWin a then winRead a 8 (fun b => .data (ofBytes b)) (fun b => .ueData (ofBytes b) []) s
  else if mapped a = false then (s, .data 0)
  else if a % 8 ≠ 0 then (s, .rejected rALIGN 0)
  else (s, .data (s.wordRead a))

/-- The words of consecutive registers, as bytes. -/
def State.wordBytes (s : State) (a n : Nat) : List Byte := (List.range (n / 8)).flatMap (fun i => toBytes 8 (s.wordRead (a + 8 * i)))

/-- READB. -/
def hostReadB (a n : Nat) (s : State) : State × Ans :=
  if s.absentAt a then (s, .absent)
  else if crosses a n then (s, .rejected rBURST 0)
  else if byteWin a then winRead a n (fun b => .bytes b) (fun b => .ueData 0 b) s
  else if mapped a = false then (s, .bytes (List.replicate n 0))
  else if a % 8 ≠ 0 ∨ n % 8 ≠ 0 then (s, .rejected rALIGN 0)
  else (s, .bytes (s.wordBytes a n))

/-! ### Writes (R402, R404) -/

/-- WRITE64: to the strand table, to DRAM, to a window that takes none, or to a register. -/
def hostWrite (h : Hdr) (a d : Nat) (s : State) : State × Ans :=
  if s.absentAt a then (s, match winUnit a with | some u => if a % 0x1000 = 0 ∧ d = 1 then s.startAbsent u else .absent | none => .absent)
  else if inStr a then (if a + 8 ≤ 0x600000 then (strWrite a (toBytes 8 d) s).1 else (s, .rejected rUNMAPPED 0))
  else if inDram a then (if a + 8 ≤ 0x500000000 then hostDramWrite (a - dramWin) (toBytes 8 d) s else (s, .rejected rUNMAPPED 0))
  else if readOnlyWin a then (s, .rejected rWINDOW_WRITE 0)
  else if mapped a = false then (s, .rejected rUNMAPPED 0)
  else if a % 8 ≠ 0 then (s, .rejected rALIGN 0)
  else if 0x11000 ≤ a ∧ a < 0x13000 then (s, .rejected rRO_REGISTER 0)
  else match regAt a with
    | some (r, ix) => s.regWrite h r ix d
    | none => (s, .rejected rUNMAPPED 0)

/-- WRITEB. -/
def hostWriteB (a : Nat) (data : List Byte) (s : State) : State × Ans :=
  if s.absentAt a then (s, .absent)
  else if crosses a data.length then (s, .rejected rBURST 0)
  else if inStr a then (strWrite a data s).1
  else if inDram a then hostDramWrite (a - dramWin) data s
  else if readOnlyWin a then (s, .rejected rWINDOW_WRITE 0)
  else if mapped a then (s, .rejected rBURST 0)
  else (s, .rejected rUNMAPPED 0)

/-- R63: the address that a rejected write records: in the strand table, byte 31 of the first descriptor that fails. -/
def State.errAddr (s : State) (a : Nat) (data : List Byte) : Nat :=
  if inStr a && decide (a + data.length ≤ 0x600000) && !(decide (8 < data.length) && crosses a data.length) then (strWrite a data s).2 else a

/-! ### Requests (R398 to R402) -/

/-- READ64 as a request. -/
def State.doRead (s : State) (h : Hdr) (a : Nat) : State := s.request h a .read64 (hostRead a)

/-- READB as a request. -/
def State.doReadB (s : State) (h : Hdr) (a n : Nat) : State := s.request h a (.readb n) (hostReadB a n)

/-- WRITE64 as a request. -/
def State.doWrite (s : State) (h : Hdr) (a d : Nat) : State :=
  s.request h (s.errAddr a (toBytes 8 d)) (.write64 d) (hostWrite h a d)

/-- WRITEB as a request; without data, or with more than 256 bytes, it is none that LENM1 can express. -/
def State.doWriteB (s : State) (h : Hdr) (a : Nat) (data : List Byte) : State :=
  if data.isEmpty || decide (256 < data.length) then s
  else s.request h (s.errAddr a data) (.writeb data) (hostWriteB a data)

/-- READ64. -/
def execRead64 (h : Hdr) (addr : BitVec 40) (s : State) : Host.Outcome State Fault Refusal := .next (s.doRead h addr.toNat)

/-- READB. -/
def execReadb (h : Hdr) (addr : BitVec 40) (lenm1 : Fin 256) (s : State) : Host.Outcome State Fault Refusal :=
  .next (s.doReadB h addr.toNat (lenm1.val + 1))

/-- WRITEB. -/
def execWriteb (h : Hdr) (addr : BitVec 40) (data : List Byte) (s : State) : Host.Outcome State Fault Refusal :=
  .next (s.doWriteB h addr.toNat data)

/-- WRITE64. -/
def execWrite64 (h : Hdr) (addr : BitVec 40) (data : Word) (s : State) : Host.Outcome State Fault Refusal :=
  .next (s.doWrite h addr.toNat data.toNat)

/-- PING: a write of GLB_CMD.PING. -/
def execPing (h : Hdr) (s : State) : Host.Outcome State Fault Refusal :=
  .next (s.request h 0x18 (.write64 1) (fun s => wrGlbCmd h.tag.val s 1))

/-- SERVICE_REQUEST (R395): a transaction that a datagram brings to the service port. -/
def serviceRequest (tag : Fin 65536) (dst : Fin 16) (op : HostOp) (s : State) : State :=
  let h : Hdr := { src := 0x81, tag := tag, dst := dst }
  match op with
  | .read64 a => s.doRead h a.toNat
  | .write64 a d => s.doWrite h a.toNat d.toNat
  | .readb a n => s.doReadB h a.toNat (n.val + 1)
  | .writeb a l => s.doWriteB h a.toNat l

/-- SERVICE_REQUEST. -/
def execServiceRequest (tag : Fin 65536) (dst : Fin 16) (op : HostOp) (s : State) : Host.Outcome State Fault Refusal :=
  .next (serviceRequest tag dst op s)

/-! ### Responses on a link, and timeouts (R400, R401) -/

/-- R400: the payloads of the CONTROL flits of a response. -/
def respFlits (r : Resp) : List Nat :=
  pack [(0, 4, 8), (4, 4, r.status), (8, 8, r.module), (16, 16, r.tag), (32, 40, r.tick), (72, 8, r.reason), (80, 8, r.detail),
        (96, 64, r.data)] :: dataFlits r.src r.tag 11 1 r.bytes

/-- R401: no response has come back 2 ms after a request was passed on: this module answers TIMEOUT. -/
def forwardTimeout (src tag : Nat) (s : State) : State :=
  match s.host.fwd.find? (fun f => f.src == src && f.tag == tag && !f.answered) with
  | none => s
  | some f =>
    if s.due (f.at_ + keepTu) then
      let s0 := s.goto (f.at_ + keepTu)
      let s1 := { s0 with host := { s0.host with fwd := s0.host.fwd.filter (fun g => g != f) } }
      let h : Hdr := { src := Fin.ofNat 256 src, tag := Fin.ofNat 65536 tag, dst := Fin.ofNat 16 f.dst }
      let s2 := s1.reply h .timeout
      match f.inPort with
      | none => s2
      | some p => (respFlits (s1.respOf h .timeout)).foldl (fun (s : State) w => s.lkSend p 2 w) s2
    else s

/-- FORWARD_TIMEOUT. -/
def execForwardTimeout (src : Fin 256) (tag : Fin 65536) (s : State) : Host.Outcome State Fault Refusal :=
  .next (forwardTimeout src.val tag.val s)

/-! ### Alarm and events (R408, R410) -/

/-- TICK_ALARM (R408): at T(GLB_ALARM) the message is raised and the register returns to 0. -/
def tickAlarm (s : State) : State :=
  let n := s.rd F.GLB_ALARM_TICK 0
  if n ≠ 0 ∧ n ≤ s.tick ∧ s.env.off = false ∧ s.mstate ≠ mBoot then (s.wr F.GLB_ALARM_TICK 0 0).raise 0x04 0 0 0 else s

/-- TICK_ALARM. -/
def execTickAlarm (s : State) : Host.Outcome State Fault Refusal := .next (tickAlarm s)

/-- R409: an event message sent on a port, as a CONTROL flit with OP 9. -/
def State.sendEvent (s : State) (p : Nat) (m : EvtMsg) : State :=
  ({ s with evt := { s.evt with tx := some m } }).lkSend p 2 (pack [(0, 4, 9), (32, 192, m.word)])

/-- R410: the EVT_OVERFLOW message: outside the series, with the SEQ of the message sent next. -/
def State.overflowMsg (s : State) : EvtMsg :=
  { code := 0x02, module := s.module, tick := s.tick % 2 ^ 40, seq := s.rd F.EVT_SEQ_SENT 0, data := s.evt.lostNow }

/-- EVENT_MESSAGE_SEND (R410): with UPLINK = 1 and a path, the oldest unsent message leaves; after losses EVT_OVERFLOW leaves first. -/
def eventMessageSend (s : State) : State :=
  if s.env.off ∨ s.on F.EVT_CFG_UPLINK 0 = false then s
  else match s.evtPort with
  | none => s
  | some p =>
    let lost := decide (s.evt.lostNow ≠ 0) && (s.rd F.EVT_ENABLE_EN 0).testBit 2
    let s1 := { s with evt := { s.evt with lostNow := 0 } }
    if lost then s1.sendEvent p s.overflowMsg
    else match s.evt.ring.find? (fun (m : EvtMsg) => m.seq == s.rd F.EVT_SEQ_SENT 0) with
      | some m => if s.rd F.EVT_SEQ_SENT 0 = s.rd F.EVT_SEQ_NEXT 0 then s1 else (s1.wr F.EVT_SEQ_SENT 0 (m.seq + 1)).sendEvent p m
      | none => s1

/-- EVENT_MESSAGE_SEND. -/
def execEventMessageSend (s : State) : Host.Outcome State Fault Refusal := .next (eventMessageSend s)

end Sys2Proof.Machine
end

