-- ==== Sys2Proof/Machine/Flit.lean ====
section
/-! DEFINITION. Flits received on a port (12_links.md R270 to R273; 13_cluster.md R292, R293; 19_registers.md R398 to R401, R409). -/

namespace Sys2Proof.Machine

/-- R271: the tick that 40 bits stand for, the nearest to the present one. -/
def State.fullTick (s : State) (n : Nat) : Nat :=
  let near := s.tick / 2 ^ 40 * 2 ^ 40 + n
  if s.tick + 2 ^ 39 < near then near - 2 ^ 40 else if near + 2 ^ 39 < s.tick then near + 2 ^ 40 else near

/-- R292: a heartbeat of a module for a tick. -/
def State.heartbeat (s : State) (m n : Nat) : State :=
  match Table.get? s.clu.beats m with
  | some b => { s with clu := { s.clu with beats := Table.set s.clu.beats m (max b n) } }
  | none => if s.mapAdmitted m then { s with clu := { s.clu with beats := Table.set s.clu.beats m n } } else s

/-- R282, R285: nothing but HELLO crosses the port: its link is fenced, or this module, or the module beyond it, is REFUSED. -/
def State.portShut (s : State) (p : Nat) : Bool :=
  s.clu.fenced.contains p || s.rd F.ID_STAT_STATE 0 == 4 ||
  (s.admitted && match s.beyond s.module p with | some m => s.rd F.ID_MAP_MSTATE m == 5 | none => false)

/-- R271, R293: a good TICK flit: the first copy is kept, and each copy is passed on once where its routes lead. -/
def State.tickFlit (s : State) (p payload : Nat) : State :=
  if s.admitted = false then s
  else
    let n := s.fullTick (bits payload 0 40)
    let src := bits payload 40 4
    let copy := bits payload 44 1
    let part := bits payload 45 3
    if src = s.module then s
    else
      let same (r : FlagRx) : Bool := r.tick == n && r.src == src && r.part == part
      let pass (s : State) : State := s.sendTicks ((s.flagPorts copy src).filter (· != p)) [payload]
      match s.clu.rx.find? same with
      | some r =>
        if r.copies.contains copy then s
        else pass { s with clu := { s.clu with rx := s.clu.rx.map (fun (x : FlagRx) => if same x then { x with copies := copy :: x.copies } else x) } }
      | none =>
        let r : FlagRx := { tick := n, src := src, part := part, data := bits payload 48 176, copies := [copy] }
        let s1 := { s with clu := { s.clu with rx := s.clu.rx ++ [r] } }
        pass (if part = 0 then s1.heartbeat src n else s1)

/-- R398: a request that came in on a port: its response goes back there, at once or when it comes. -/
def State.fromPort (s : State) (p : Nat) (h : Hdr) (run : State → State) : State :=
  let s1 := run { s with host := { s.host with tx := none } }
  match s1.host.tx with
  | some r => (respFlits r).foldl (fun (s : State) w => s.lkSend p 2 w) s1
  | none =>
    { s1 with host := { s1.host with fwd := s1.host.fwd.map (fun (f : Fwd) =>
        if f.src = h.src.val ∧ f.tag = h.tag.val ∧ f.inPort = none then { f with inPort := some p } else f) } }

/-- R399: the header of a request in a payload. -/
def reqHdr (w : Nat) : Hdr := { src := Fin.ofNat 256 (bits w 8 8), tag := Fin.ofNat 65536 (bits w 16 16), dst := Fin.ofNat 16 (bits w 4 4) }

/-- R401: a request that reaches its destination more than 7 812 ticks after it was forwarded. -/
def State.tooOld (s : State) (h : Hdr) (at_ : Option (BitVec 64)) : Bool :=
  s.isOwn h && (match at_ with | some n => decide (n.toNat + 7812 < s.tick) | none => false)

/-- R401, R398: a request that came in on a port runs, unless it is too old: then it is discarded. -/
def State.runPort (s : State) (p : Nat) (h : Hdr) (at_ : Option (BitVec 64)) (run : State → State) : State :=
  if s.tooOld h at_ then s else s.fromPort p h run

/-- R399: READ64, WRITE64 and READB requests run at once; a WRITEB waits for its data. -/
def State.reqFlit (s : State) (p w : Nat) (at_ : Option (BitVec 64)) : State :=
  let h := reqHdr w
  let a := bits w 32 40
  let op := bits w 0 4
  if op = 0 then s.runPort p h at_ (fun s => s.doRead h a)
  else if op = 1 then s.runPort p h at_ (fun s => s.doWrite h a (bits w 96 64))
  else if op = 2 then s.runPort p h at_ (fun s => s.doReadB h a (bits w 72 8 + 1))
  else { s with host := { s.host with asm := Table.set s.host.asm p (w, []) } }

/-- R293: a CONTROL payload for another module goes on by its route. -/
def State.relay (s : State) (d w : Nat) : State :=
  match s.routeTo 0 d with
  | some ((_, q) :: _) => s.lkSend q 2 w
  | _ => s

/-- R277: a response on a new route, which this module has not forwarded the request of, goes on toward the anchor. -/
def State.toAnchor (s : State) (w : Nat) : State :=
  if s.admitted ∧ s.anchor = false then s.relay (s.rd F.ID_STAT_ANCHOR 0) w else s

/-- R399, R400: a DATA flit: of the WRITEB that waits on the port, or of a READB response on its way back. -/
def State.dataFlit (s : State) (p w : Nat) (at_ : Option (BitVec 64)) : State :=
  let src := bits w 8 8
  let tag := bits w 16 16
  let b := toBytes 24 (bits w 32 192)
  let back (s : State) : State :=
    match s.host.fwd.find? (fun f => f.src == src && f.tag == tag && f.answered) with
    | none => s.toAnchor w
    | some f =>
      match f.inPort with
      | some q => s.lkSend q 2 w
      | none => { s with host := { s.host with tx := s.host.tx.map (fun (r : Resp) => { r with bytes := r.bytes ++ b }) } }
  match Table.get? s.host.asm p with
  | none => back s
  | some (q, l) =>
    if bits q 8 8 = src ∧ bits q 16 16 = tag then
      let n := bits q 72 8 + 1
      let l' := (l ++ b).take n
      if l'.length < n then { s with host := { s.host with asm := Table.set s.host.asm p (q, l') } }
      else
        let s1 := { s with host := { s.host with asm := Table.erase s.host.asm p } }
        s1.runPort p (reqHdr q) at_ (fun s => s.doWriteB (reqHdr q) (bits q 32 40) l')
    else back s

/-- R400: a response to a request that this module has passed on: it goes back where the request came from. -/
def State.respFlit (s : State) (p w : Nat) : State :=
  match s.host.fwd.find? (fun f => f.tag == bits w 16 16 && (f.port == p || f.dst == bits w 8 8) && !f.answered) with
  | none => s.toAnchor w
  | some f =>
    let s1 := { s with host := { s.host with fwd := s.host.fwd.map (fun (g : Fwd) => if g = f then { g with answered := true } else g) } }
    match f.inPort with
    | some q => s1.lkSend q 2 w
    | none =>
      let r : Resp := { src := f.src, status := bits w 4 4, module := bits w 8 8, tag := bits w 16 16, tick := bits w 32 40,
                        reason := bits w 72 8, detail := bits w 80 8, data := bits w 96 64, at_ := s.now }
      { s1 with host := { s1.host with tx := some r } }

/-- R410: an event message of another module on its way to the anchor, which sends it on its uplink. -/
def State.eventFlit (s : State) (w : Nat) : State :=
  if s.admitted then
    (if s.rd F.ID_STAT_ANCHOR 0 = s.module then s.lkSend 4 2 w
     else match s.routeTo 0 (s.rd F.ID_STAT_ANCHOR 0) with
       | some ((_, q) :: _) => s.lkSend q 2 w
       | _ => s)
  else s

/-- R18, R96, R292: another member module of a cluster group was the first to set ABORT: the unit, module and cause it tells of fill
UNIT_ABORT_SRC of the members here that abort, or have aborted, for its sake. -/
def State.tookAbort (s : State) (u su sm sc : Nat) : State :=
  if (s.unit u).src.isSome then s
  else
    let cause := if sharedCause sc then sc else 0x09
    let fill (a : AbortReq) : AbortReq :=
      if a.cause = 0x09 ∧ a.srcCause = 0 then { a with cause := cause, srcUnit := su, srcModule := sm, srcCause := sc } else a
    (s.leavesOf u).foldl (fun (s : State) l =>
      let x := s.leaf l
      if x.unit ≠ u then s
      else
        let s1 := s.setLeaf l { x with aborts := x.aborts.map fill }
        if s.rd F.UNIT_STATUS_STATE l = 3 ∧ s.rd F.UNIT_STATUS_CAUSE l = 0x09 ∧ s.rd F.UNIT_ABORT_SRC_SRC_CAUSE l = 0 then
          s1.wrs [(F.UNIT_ABORT_SRC_SRC_UNIT, l, su), (F.UNIT_ABORT_SRC_SRC_MODULE, l, sm), (F.UNIT_ABORT_SRC_SRC_CAUSE, l, sc)]
        else s1) (s.setUnit u { s.unit u with src := some (su, sm, sc) })

/-- R255: cluster events of a module are accepted. -/
def State.imports (s : State) (m : Nat) : Bool := (s.trigByte 12 + 256 * s.trigByte 13).testBit m

/-- R50, R272, R293: a bead of a leaf's plan region goes to another module in STREAM flits, 28 of its 272 bytes in each (log entry 163). -/
def State.sendBead (s : State) (d l b : Nat) : State :=
  let bytes := s.dram.read (s.payloadAt l b) 256 ++ s.dram.read (s.headerAt l b) 16
  match s.routeTo 0 d with
  | some ((_, p) :: _) =>
    (List.range 10).foldl (fun (s : State) k => s.lkSend p 3 (ofBytes ((bytes.drop (28 * k)).take 28))) s
  | _ => s

/-- A message of another module of the cluster (R18, R86, R161, R184, R286, R292). HELLO, challenges, their answers and
what follows from them come by commands of their own. -/
def State.cluMsg (s : State) (m : CluMsg) : State :=
  match m with
  | .firstAbort c su sm sc => s.tookAbort (256 + c.val) su.val sm.val sc.toNat
  | .strand m strand t => if s.imports m.val then s.occursStrand strand.toNat t.toNat else s
  | .xtrig m n t => if s.imports m.val then s.occursXtrig m.val n.val t.toNat else s
  | .part m c tick ws => if s.anchor then s.addPart c.val m.val tick.toNat (ws.map (·.toNat)) else s
  | .roster m serial valid =>
    if s.rd F.ID_STAT_ROLE 0 = 2 then s.wrs [(F.ID_ROSTER_SERIAL, m.val, serial.toNat), (F.ID_ROSTER_VALID, m.val, bit valid)] else s
  | .bead d l b => s.sendBead d.val l.val b.toNat
  | .faulty m k lost => if lost then s.farFault m.val k.val else s.farMended m.val k.val
  | .expiry n => renewalConfirm (some n.toNat) s
  | .map i => mapChange i s
  | .group c t => if s.anchor then s else s.toldGroup c.val t
  | .takeover m => if m.val = s.module then s else idAnchorTakeover m.val s
  | .partition n => claimRefused (some n.toNat) s
  | .adopt _ _ => s
  | .verdict _ _ => s
  | .hello _ => s
  | .report _ _ => s
  | .nonce _ _ => s
  | .answer _ => s

/-- R270, R399: a CONTROL flit in sequence; `x.msg` is the message that it completes, where R399, R400 and R409 give it no format. -/
def State.controlFlit (s : State) (p w : Nat) (x : FlitIn) : State :=
  let op := bits w 0 4
  if op ≤ 3 then s.reqFlit p w x.fwdAt
  else if op = 6 then s.dataFlit p w x.fwdAt
  else if op = 8 then s.respFlit p w
  else if op = 9 then s.eventFlit w
  else match s.admitted, x.msg with
    | true, some (d, m) => if d.val = s.module then s.cluMsg m else s.relay d.val w
    | _, _ => s

/-- R273: a flit of a retried class is taken in sequence; one out of sequence is discarded and asked for again. Of what a shut port brings
nothing is used. -/
def State.seqFlit (s : State) (p typ seq w : Nat) (b : FlitIn) : State :=
  let x := s.port p
  if seq = x.rxSeq then
    let s1 := s.setPort p { x with rxSeq := (x.rxSeq + 1) % 64, nak := false, got := true }
    if typ = 2 ∧ s.portShut p = false then s1.controlFlit p w b else s1
  else s.sendNak p

/-- FLIT_RECEIVE (R269, R270, R271, R273): 32 bytes arrive on a port; the receivers have adapted as `x` says. -/
def flitReceive (p : Nat) (x : FlitIn) (s0 : State) : State :=
  let raw := x.raw.toNat
  let s := if x.eq = [] then s0 else s0.lkAdapt p (x.eq.map (·.toNat))
  if s.lkActive p && (s.port p).change.isNone then
    let typ := bits raw 0 3
    let w := bits raw 16 224
    if crc16 (toBytes 30 raw) ≠ bits raw 240 16 then
      let s1 := s.lkBump F.LK_CRC_ERR_COUNT p 1 0x20
      let s2 := if typ = 1 then s1.lkBump F.LK_TICK_LOST_COUNT p 1 0x30 else s1
      s2.sendNak p
    else
      let s1 := s.setPort p { s.port p with lastGood := s.now }
      if 6 ≤ typ then s1.lkBump F.LK_CRC_ERR_COUNT p 1 0x20
      else
        let s2 := if raw.testBit 15 then s1.setPort p (((s1.port p).acked (bits raw 9 6)).pump s1.now 64) else s1
        if typ = 1 then (if s2.portShut p then s2 else s2.tickFlit p w)
        else if typ = 2 ∨ typ = 3 ∨ typ = 4 then s2.seqFlit p typ (bits raw 3 6) w x
        else s2
  else s

/-- FLIT_RECEIVE. -/
def execFlitReceive (p : Fin 5) (x : FlitIn) (s : State) : Host.Outcome State Fault Refusal :=
  .next (flitReceive p.val x s)

end Sys2Proof.Machine
end

