-- ==== Sys2Proof/Machine/Dispatch.lean ====
section
/-! DEFINITION. Which meaning each command has: one arm per row of the opcode table. -/

namespace Sys2Proof.Machine

/-- The effect of a command on everything but the queue. -/
def exec (i : Instr) (s : State) : Host.Outcome State Fault Refusal :=
  match i with
  | .tickBoundary => Sys2Proof.Machine.execTickBoundary s
  | .snapshotExchange => Sys2Proof.Machine.execSnapshotExchange s
  | .groupDecisionReady u => Sys2Proof.Machine.execGroupDecisionReady u s
  | .tickFlitLaunch second => Sys2Proof.Machine.execTickFlitLaunch second s
  | .clusterFlagDeadline => Sys2Proof.Machine.execClusterFlagDeadline s
  | .read64 h addr => Sys2Proof.Machine.execRead64 h addr s
  | .readb h addr lenm1 => Sys2Proof.Machine.execReadb h addr lenm1 s
  | .writeb h addr data => Sys2Proof.Machine.execWriteb h addr data s
  | .write64 h addr data => Sys2Proof.Machine.execWrite64 h addr data s
  | .forwardTimeout src tag => Sys2Proof.Machine.execForwardTimeout src tag s
  | .serviceRequest tag dst op => Sys2Proof.Machine.execServiceRequest tag dst op s
  | .ping h => Sys2Proof.Machine.execPing h s
  | .tickAlarm => Sys2Proof.Machine.execTickAlarm s
  | .eventMessageSend => Sys2Proof.Machine.execEventMessageSend s
  | .queueEntry l => Sys2Proof.Machine.execQueueEntry l s
  | .routineStart l => Sys2Proof.Machine.execRoutineStart l s
  | .vectorIssue l => Sys2Proof.Machine.execVectorIssue l s
  | .edgePlace l slot cl ch exc => Sys2Proof.Machine.execEdgePlace l slot cl ch exc s
  | .compareResult l slot => Sys2Proof.Machine.execCompareResult l slot s
  | .beadBoundary x => Sys2Proof.Machine.execBeadBoundary x s
  | .vectorActionDeadline l => Sys2Proof.Machine.execVectorActionDeadline l s
  | .beadLanding l slot link => Sys2Proof.Machine.execBeadLanding l slot link s
  | .streamFetch l => Sys2Proof.Machine.execStreamFetch l s
  | .holdResume x => Sys2Proof.Machine.execHoldResume x s
  | .holdTimeout l => Sys2Proof.Machine.execHoldTimeout l s
  | .runCompletion l => Sys2Proof.Machine.execRunCompletion l s
  | .start h u => Sys2Proof.Machine.execStart h u s
  | .runStart x => Sys2Proof.Machine.execRunStart x s
  | .abort h u => Sys2Proof.Machine.execAbort h u s
  | .abortTakeEffect l => Sys2Proof.Machine.execAbortTakeEffect l s
  | .jump h u => Sys2Proof.Machine.execJump h u s
  | .hostJumpLatch u => Sys2Proof.Machine.execHostJumpLatch u s
  | .clear h u => Sys2Proof.Machine.execClear h u s
  | .strandDescriptorWrite h addr data => Sys2Proof.Machine.execStrandDescriptorWrite h addr data s
  | .seqNext l => Sys2Proof.Machine.execSeqNext l s
  | .seqJump l => Sys2Proof.Machine.execSeqJump l s
  | .branchT l => Sys2Proof.Machine.execBranchT l s
  | .branchF l => Sys2Proof.Machine.execBranchF l s
  | .call l => Sys2Proof.Machine.execCall l s
  | .ret l => Sys2Proof.Machine.execRet l s
  | .done l => Sys2Proof.Machine.execDone l s
  | .wait l => Sys2Proof.Machine.execWait l s
  | .tickwait l => Sys2Proof.Machine.execTickwait l s
  | .interruptTaken l => Sys2Proof.Machine.execInterruptTaken l s
  | .load h => Sys2Proof.Machine.execLoad h s
  | .mcLoadComplete => Sys2Proof.Machine.execMcLoadComplete s
  | .otpKeyOpen h key => Sys2Proof.Machine.execOtpKeyOpen h key s
  | .otpKeyExpire => Sys2Proof.Machine.execOtpKeyExpire s
  | .programSlot h slot => Sys2Proof.Machine.execProgramSlot h slot s
  | .revokeSlot h slot => Sys2Proof.Machine.execRevokeSlot h slot s
  | .advanceSvn h => Sys2Proof.Machine.execAdvanceSvn h s
  | .stackFaultClear h => Sys2Proof.Machine.execStackFaultClear h s
  | .swap h l => Sys2Proof.Machine.execSwap h l s
  | .cancel h l => Sys2Proof.Machine.execCancel h l s
  | .tsExchange l => Sys2Proof.Machine.execTsExchange l s
  | .dllLockChange lock => Sys2Proof.Machine.execDllLockChange lock s
  | .failLogWrite => Sys2Proof.Machine.execFailLogWrite s
  | .flReset h => Sys2Proof.Machine.execFlReset h s
  | .flCfgWrite h data => Sys2Proof.Machine.execFlCfgWrite h data s
  | .flRdWrite h data => Sys2Proof.Machine.execFlRdWrite h data s
  | .armChannel h n => Sys2Proof.Machine.execArmChannel h n s
  | .acqStop h n => Sys2Proof.Machine.execStop h n s
  | .acqForce h n => Sys2Proof.Machine.execForce h n s
  | .clearChannel h n => Sys2Proof.Machine.execClearChannel h n s
  | .acqSample n pins => Sys2Proof.Machine.execAcqSample n pins s
  | .triggerOccurrence n => Sys2Proof.Machine.execTriggerOccurrence n s
  | .acqDrain n => Sys2Proof.Machine.execAcqDrain n s
  | .refinLoss => Sys2Proof.Machine.execRefinLoss s
  | .refGateEnd near off => Sys2Proof.Machine.execRefGateEnd near off s
  | .refinQualified => Sys2Proof.Machine.execRefinQualified s
  | .refRestored => Sys2Proof.Machine.execRefRestored s
  | .tsWrap => Sys2Proof.Machine.execTsWrap s
  | .tmuEdge p rising at_ => Sys2Proof.Machine.execTmuEdge p rising at_ s
  | .pairEdgeProcess e => Sys2Proof.Machine.execPairEdgeProcess e s
  | .pairPendingExpire e => Sys2Proof.Machine.execPairPendingExpire e s
  | .pairEnable h e data => Sys2Proof.Machine.execPairEnable h e data s
  | .fcModeWrite h f data => Sys2Proof.Machine.execFcModeWrite h f data s
  | .fcGateEnd f => Sys2Proof.Machine.execFcGateEnd f s
  | .cdtStart h p => Sys2Proof.Machine.execCdtStart h p s
  | .tmuCdtDone low mid high => Sys2Proof.Machine.execTmuCdtDone low mid high s
  | .dcClamp p => Sys2Proof.Machine.execDcClamp p s
  | .dsaOutput l raw => Sys2Proof.Machine.execDsaOutput l raw s
  | .dsaGo h l => Sys2Proof.Machine.execGo h l s
  | .dsaRefReady l => Sys2Proof.Machine.execDsaRefReady l s
  | .dsaStartTimeout l => Sys2Proof.Machine.execDsaStartTimeout l s
  | .dsaDiag h l => Sys2Proof.Machine.execDiag h l s
  | .dsaDiagDone l => Sys2Proof.Machine.execDsaDiagDone l s
  | .rsStop h => Sys2Proof.Machine.execRsStop h s
  | .rsCommit h => Sys2Proof.Machine.execCommit h s
  | .frontPorchStart => Sys2Proof.Machine.execFrontPorchStart s
  | .teEdge at_ => Sys2Proof.Machine.execTeEdge at_ s
  | .teTimeout => Sys2Proof.Machine.execTeTimeout s
  | .mount h => Sys2Proof.Machine.execMount h s
  | .mountComplete eeprom => Sys2Proof.Machine.execMountComplete eeprom s
  | .unmount h => Sys2Proof.Machine.execUnmount h s
  | .unmountComplete => Sys2Proof.Machine.execUnmountComplete s
  | .clusterGroupForm c i0 told => Sys2Proof.Machine.execClusterGroupForm c i0 told s
  | .linkSignalDetect p => Sys2Proof.Machine.execLinkSignalDetect p s
  | .laneTrainDone p lanes skew eq delay => Sys2Proof.Machine.execLaneTrainDone p lanes skew eq delay s
  | .trainTimeout p locked => Sys2Proof.Machine.execTrainTimeout p locked s
  | .capsReceived p rate lanes peer ver => Sys2Proof.Machine.execCapsReceived p rate lanes peer ver s
  | .capsTimeout p => Sys2Proof.Machine.execCapsTimeout p s
  | .rateStepDone p pass skew eq => Sys2Proof.Machine.execRateStepDone p pass skew eq s
  | .linkWaitExpire p => Sys2Proof.Machine.execLinkWaitExpire p s
  | .flitReceive p x => Sys2Proof.Machine.execFlitReceive p x s
  | .nakReceived p q => Sys2Proof.Machine.execNakReceived p q s
  | .laneLoss p k => Sys2Proof.Machine.execLaneLoss p k s
  | .lkWidth p => Sys2Proof.Machine.execLkWidth p s
  | .rxSilentTimeout p => Sys2Proof.Machine.execRxSilentTimeout p s
  | .laneWiden p k => Sys2Proof.Machine.execLaneWiden p k s
  | .retrain h p => Sys2Proof.Machine.execRetrain h p s
  | .testEnter h p => Sys2Proof.Machine.execTestEnter h p s
  | .testExit h p => Sys2Proof.Machine.execTestExit h p s
  | .helloReceived p via h => Sys2Proof.Machine.execHelloReceived p via h s
  | .helloResend p => Sys2Proof.Machine.execHelloResend p s
  | .challengeResponse m r => Sys2Proof.Machine.execChallengeResponse m r s
  | .challengeTimeout m => Sys2Proof.Machine.execChallengeTimeout m s
  | .rosterWrite h m data => Sys2Proof.Machine.execRosterWrite h m data s
  | .tickAdoption m a => Sys2Proof.Machine.execTickAdoption m a s
  | .leaseGrant => Sys2Proof.Machine.execLeaseGrant s
  | .leaseRenew => Sys2Proof.Machine.execLeaseRenew s
  | .renewalConfirm expiry => Sys2Proof.Machine.execRenewalConfirm expiry s
  | .leaseExpiry => Sys2Proof.Machine.execLeaseExpiry s
  | .phaseMarkerSend => Sys2Proof.Machine.execPhaseMarkerSend s
  | .phaseMarkerReceive p a o rootHold => Sys2Proof.Machine.execPhaseMarkerReceive p a o rootHold s
  | .mapChange i0 => Sys2Proof.Machine.execMapChange i0 s
  | .routeChangeApply => Sys2Proof.Machine.execRouteChangeApply s
  | .idDeparted m => Sys2Proof.Machine.execIdDeparted m s
  | .idAnchorLost => Sys2Proof.Machine.execIdAnchorLost s
  | .tickHoldoverLimit => Sys2Proof.Machine.execTickHoldoverLimit s
  | .leaseClaim => Sys2Proof.Machine.execLeaseClaim s
  | .idAnchorTakeover m => Sys2Proof.Machine.execIdAnchorTakeover m s
  | .claimRefused p => Sys2Proof.Machine.execClaimRefused p s
  | .idPartitioned => Sys2Proof.Machine.execIdPartitioned s
  | .plan h commit => Sys2Proof.Machine.execPlan h commit s
  | .plPlanned r => Sys2Proof.Machine.execPlPlanned r s
  | .planCommit h => Sys2Proof.Machine.execPlanCommit h s
  | .planCancel h => Sys2Proof.Machine.execPlanCancel h s
  | .plLoaded => Sys2Proof.Machine.execPlLoaded s
  | .replicaCopyDone st => Sys2Proof.Machine.execReplicaCopyDone st s
  | .scrubPass fixed bad => Sys2Proof.Machine.execScrubPass fixed bad s
  | .caAlert k again => Sys2Proof.Machine.execCaAlert k again s
  | .dmRetrain h sub => Sys2Proof.Machine.execDmRetrain h sub s
  | .dmRetrainDone pass => Sys2Proof.Machine.execDmRetrainDone pass s
  | .dramTempRead ts => Sys2Proof.Machine.execDramTempRead ts s
  | .dramRefresh k => Sys2Proof.Machine.execDramRefresh k s
  | .selfRefreshEntry => Sys2Proof.Machine.execSelfRefreshEntry s
  | .hostDramWrite h addr data => Sys2Proof.Machine.execHostDramWrite h addr data s
  | .calStartFull h => Sys2Proof.Machine.execCalStartFull h s
  | .calStartDrift h => Sys2Proof.Machine.execCalStartDrift h s
  | .calAutoStart => Sys2Proof.Machine.execCalAutoStart s
  | .calComplete c => Sys2Proof.Machine.execCalComplete c s
  | .calCancel h => Sys2Proof.Machine.execCalCancel h s
  | .calDelete h slot => Sys2Proof.Machine.execDelete h slot s
  | .calRescan h eeprom => Sys2Proof.Machine.execRescan h eeprom s
  | .journalDrain => Sys2Proof.Machine.execJournalDrain s
  | .jnExport h => Sys2Proof.Machine.execExport h s
  | .jnExported => Sys2Proof.Machine.execJnExported s
  | .powerUp low1s => Sys2Proof.Machine.execPowerUp low1s s
  | .bootComplete ms fallback trained eeprom => Sys2Proof.Machine.execBootComplete ms fallback trained eeprom s
  | .powerDown => Sys2Proof.Machine.execPowerDown s
  | .inputProtection => Sys2Proof.Machine.execInputProtection s
  | .thermalTrip => Sys2Proof.Machine.execThermalTrip s
  | .sensorSample k v bad => Sys2Proof.Machine.execSensorSample k v bad s
  | .safeEntry => Sys2Proof.Machine.execSafeEntry s
  | .safePark l => Sys2Proof.Machine.execSafePark l s
  | .safeEnter h => Sys2Proof.Machine.execSafeEnter h s
  | .safeExit h => Sys2Proof.Machine.execSafeExit h s
  | .clearOkReached => Sys2Proof.Machine.execClearOkReached s
  | .dewStaleTimeout => Sys2Proof.Machine.execDewStaleTimeout s
  | .faultEntry cause detail frontEnd dramRail => Sys2Proof.Machine.execFaultEntry cause detail frontEnd dramRail s
  | .moduleReset h => Sys2Proof.Machine.execModuleReset h s
  | .pfeFault i0 cause => Sys2Proof.Machine.execPfeFault i0 cause s
  | .triginEdge j rise at_ => Sys2Proof.Machine.execTriginEdge j rise at_ s
  | .fwBegin h => Sys2Proof.Machine.execBegin h s
  | .fwDataWrite h data => Sys2Proof.Machine.execFwDataWrite h data s
  | .fwCommit h => Sys2Proof.Machine.execFwCommit h s
  | .clampReturned p => Sys2Proof.Machine.execClampReturned p s
  | .fwVerifyDone code => Sys2Proof.Machine.execFwVerifyDone code s
  | .secondaryRegistration m => Sys2Proof.Machine.execSecondaryRegistration m s
  | .prbsCheckerLock p k errs => Sys2Proof.Machine.execPrbsCheckerLock p k errs s
  | .widthRequest p lanes => Sys2Proof.Machine.execWidthRequest p lanes s
  | .alertNDeassert k => Sys2Proof.Machine.execAlertNDeassert k s

end Sys2Proof.Machine
end

