-- ==== Sys2Proof/Machine/Step.lean ====
section
/-! DEFINITION. One step: the command in front of the queue. -/

namespace Sys2Proof.Machine

/-- DESIGN CHOICE: with nothing waiting, one base cycle passes inside the tick; the boundary of a tick is a command of its own. -/
def State.idle (s : State) : State := if s.sub + cyc < tickTu then s.subTo (s.sub + cyc) else s

/-- The first waiting command runs, on the state without it. -/
def step (s : State) : Host.Outcome State Fault Refusal :=
  match s.pending with
  | [] => .next s.idle
  | i :: rest => Sys2Proof.Machine.exec i { s with pending := rest }

/-- The command that a word spells, put in front of the queue; the state as it is where the word spells none. -/
def State.withFetchWord (s : State) (nbits w : Nat) : State :=
  match decodeTableWord nbits w with
  | some i => { s with pending := i :: s.pending }
  | none => s

end Sys2Proof.Machine
end

