-- ==== Sys2Proof/Safety.lean ====
section
/-! DEFINITION. What the statements about the block are said in: the invariants of every state, what a command leaves as it was, and
when the block executes a host request. -/

namespace Sys2Proof.Machine

/-! ### Invariants -/

/-- The place inside the tick lies inside it (R1, R19). -/
abbrev State.subOk (s : State) : Prop := s.sub < tickTu

/-- The file of register cells is in canonical form: keys strictly rising. -/
abbrev State.regsOk (s : State) : Prop := Table.wf s.regs = true

/-- The bytes of the DRAM and of the capture SRAM are in canonical form: addresses strictly rising. -/
abbrev State.memOk (s : State) : Prop := Memory.wf s.dram.mem = true ∧ Memory.wf s.sram.mem = true

/-- The strand table is in canonical form. -/
abbrev State.strOk (s : State) : Prop := Table.wf s.strands.table = true

/-! ### Frames -/

/-- Every register cell but those of the fields listed by key is in `t` as it is in `s`. -/
def State.keepsCells (s : State) (ks : List Nat) (t : State) : Prop :=
  ∀ (g : Fld) (j : Nat), g.key < 1024 → g.key ∉ ks → t.rd g j = s.rd g j

/-- Every byte of DRAM and of the capture SRAM is in `t` as it is in `s`. -/
def State.keepsBytes (s t : State) : Prop := (∀ a, t.dram.byte a = s.dram.byte a) ∧ (∀ a, t.sramByte a = s.sramByte a)

/-- Every byte of DRAM and of the capture SRAM and every strand descriptor is in `t` as it is in `s`. -/
def State.keepsMem (s t : State) : Prop := s.keepsBytes t ∧ (∀ id, t.desc id = s.desc id)

/-- The cells that a raised event message can change (R406, R410). -/
abbrev eventKeys : List Nat := [F.EVT_SEQ_NEXT.key, F.EVT_SEQ_SENT.key, F.EVT_LOST_COUNT.key, F.EVT_STATUS_SAT.key]

/-- The cells that a record staged for the journal can change when the queue is full (R367). -/
abbrev journalKeys : List Nat := [F.JN_LOST_COUNT.key, F.JN_STATUS_LOSS_SEEN.key, F.JN_STATUS_SAT.key] ++ eventKeys

/-- The cells that a recorded rejection can change (R404, R408). -/
abbrev rejectKeys : List Nat :=
  [F.GLB_ERR_ADDR_ADDR.key, F.GLB_ERR_ADDR_SRC.key, F.GLB_ERR_INFO_REASON.key, F.GLB_ERR_INFO_DETAIL.key, F.GLB_ERR_INFO_TICK.key,
   F.GLB_ERR_INFO_VALID.key, F.GLB_ERR_INFO_MORE.key, F.GLB_ERR_INFO_SAT.key, F.GLB_ERR_COUNT_COUNT.key] ++ eventKeys

/-! ### Host requests (R395, R398, R401) -/

/-- The module executes this request itself: it is awake, has not answered the request before, and the request names it or comes
through the service port, which reaches the address; the address is in no cluster group's window that is written; and a FOREIGN module takes
only reads of its ID block (R286). -/
abbrev State.serves (s : State) (h : Hdr) (addr : Nat) (q : Req) : Prop :=
  s.deaf h = false ∧ s.keptFor h = none ∧ (s.isOwn h = true ∨ h.src.val = 0x81)
    ∧ (h.src.val = 0x81 → s.serviceOpen addr q.len q.isWrite = true) ∧ cluWrite addr q = false
    ∧ ¬ (h.src.val ≠ 0x81 ∧ s.foreign = true ∧ idRead addr q = false)

/-- The response in front of the sender (R400). -/
abbrev State.told (t : State) (h : Hdr) (a : Ans) : Prop := t.host.tx = some (t.respOf h a)

end Sys2Proof.Machine
end

