-- ==== Sys2Proof/Certificates/Slice0/Obligations.lean ====
section
/-! DEFINITION. The statements about the block. -/

open Sys2Proof Sys2Proof.Machine

/-- O1. A step with the command c in front of the queue is exec of c on the state with the rest of the queue. The queue of
waiting commands is the model's own (log entry 5). -/
def Obligations.StepRunsFront : Prop :=
  ∀ (c : Instr) (rest : List Instr) (s : State), s.pending = c :: rest → step s = exec c { s with pending := rest }

/-- O2. With an empty queue a step answers a next state in which one base cycle of 1 024 tu has passed inside the tick,
the tick and the queue as they were; at the tick's last base cycle it leaves the state as it is, since the boundary is
a command of its own. That time passes on an empty queue is the model's choice (log entry 5), R1 and R19 give the base
cycle and the tick. -/
def Obligations.IdleStep : Prop :=
  ∀ s : State, s.pending = [] →
    (s.sub + 1024 < 327680 → ∃ t, step s = .next t ∧ t.sub = s.sub + 1024 ∧ t.tick = s.tick ∧ t.pending = [] ∧ s.keepsMem t) ∧
    (327680 ≤ s.sub + 1024 → step s = .next s)

/-- O3. In every state whose place inside the tick is below 327 680 tu (320 base cycles of 1 024 tu), a step that answers
a next state leaves it below 327 680 tu: no command carries the clock past a tick boundary, which only the boundary
itself crosses. -/
def Obligations.StepKeepsClock : Prop := ∀ s t : State, s.subOk → step s = .next t → t.subOk

/-- O4. In every state whose register cells are in canonical form (cell numbers strictly rising), a step that answers a
next state keeps them so. The canonical form is the model's own, so that equal register contents are equal data. -/
def Obligations.StepKeepsRegs : Prop := ∀ s t : State, s.regsOk → step s = .next t → t.regsOk

/-- O5. In every state whose DRAM bytes, capture SRAM bytes and strand descriptors are in canonical form (addresses and
strand numbers strictly rising), a step that answers a next state keeps them so. The canonical form is the model's
own. -/
def Obligations.StepKeepsMemory : Prop :=
  ∀ s t : State, s.memOk ∧ s.strOk → step s = .next t → t.memOk ∧ t.strOk

/-- O6. In every state with a command c in front of the queue a step answers a next state, for every command and all its
operands, and that state has exactly the rest of the queue waiting: no command faults or is refused, and none adds,
drops or reorders what waits. The queue is the model's own (log entry 5). -/
def Obligations.StepTakesOne : Prop :=
  (∀ (c : Instr) (rest : List Instr) (s t : State), s.pending = c :: rest → step s = .next t → t.pending = rest) ∧
  (∀ (c : Instr) (rest : List Instr) (s : State), s.pending = c :: rest → ∃ t, step s = .next t ∧ t.pending = rest)

/-- O7. After reset the module is in BOOT (ENV_STATUS.MSTATE 1), GLB_TICK is 0, no command waits, no image is mounted, no
response is kept, no event message has been formed, and the place in the tick, the register cells, the memories and
the strand table meet their invariants. That reset is the beginning of BOOT is R377's reading in log entry 2. -/
def Obligations.ResetState : Prop :=
  State.reset.mstate = 1 ∧ State.reset.tick = 0 ∧ State.reset.pending = [] ∧ State.reset.image = none ∧ State.reset.host.kept = [] ∧
    State.reset.evt.ring = [] ∧ State.reset.subOk ∧ State.reset.regsOk ∧ State.reset.memOk ∧ State.reset.strOk

/-- O8. In every state in which the tick runs (power on and not in BOOT), TICK_BOUNDARY answers a next state in which
GLB_TICK is one more (modulo 2^64), the place inside the tick is 0, the back snapshot bank is new and carries the new
tick, the front bank is as it was, and no byte of DRAM or capture SRAM has changed. -/
def Obligations.TickBoundary : Prop :=
  ∀ s : State, s.env.off = false → s.mstate ≠ 1 →
    ∃ t, exec .tickBoundary s = .next t ∧ t.tick = (s.tick + 1) % 2 ^ 64 ∧ t.sub = 0 ∧ t.snap.fresh = true ∧ t.snap.back.tick = t.tick ∧
      t.snap.front = s.snap.front ∧ s.keepsBytes t

/-- O9. With a copy taken at the last boundary, FREEZE at 0 and the tick running, SNAPSHOT_EXCHANGE answers a next state
in which the front bank is the back bank as it stood when the clock left the boundary's edge, the back bank is the old
front bank, and no register cell but MC_UREG (whose commits may come due) and no byte of memory has changed. With
FREEZE at 1 nothing changes. -/
def Obligations.SnapshotExchange : Prop :=
  ∀ s : State, s.env.off = false → s.mstate ≠ 1 → s.snap.fresh = true →
    (s.rd F.GLB_SNAP_CTL_FREEZE 0 = 0 → ∃ t, exec .snapshotExchange s = .next t ∧
      t.snap.front = (s.goto (tickAt s.tick + 64 * 1024)).snap.back ∧ (s.sub ≠ 0 → t.snap.front = s.snap.back) ∧
      t.snap.back = s.snap.front ∧ t.snap.fresh = false ∧ s.keepsCells [F.MC_UREG_VALUE.key] t ∧ s.keepsMem t) ∧
    (s.rd F.GLB_SNAP_CTL_FREEZE 0 ≠ 0 → exec .snapshotExchange s = .next s)

/-- O10. For a leaf u that is a unit in play alone, whose engine holds exactly one arm a bound to the tick just ended,
outside a replay, and whose decision of this tick is not yet given, GROUP_DECISION_READY answers a next state in which
no arm of the leaf is bound to that tick, the outcome DEC_LAST is the value of the arm's group-wide condition over the
leaf's own flags of that tick, and, when it is true and the leaf plays a pattern, a jump of the group-wide class to
the arm's target has latched. No byte of memory changes. -/
def Obligations.LeafDecision : Prop :=
  ∀ (s : State) (u : Fin 16) (a : Arm), s.inPlay u.val = [u.val] → 1 ≤ s.tick → (s.unit u.val).decided < s.tick →
    s.jn.replay.active = false → (s.eng u.val).arms.filter (fun b => b.tick == some (s.tick - 1)) = [a] →
    ∃ t, exec (.groupDecisionReady (.loc (Fin.ofNat 256 u.val))) s = .next t ∧
      (t.eng u.val).armedAt (s.tick - 1) = false ∧ (t.eng u.val).decLast = groupCond (s.unitFold u.val (s.tick - 1)) a.cond ∧
      (groupCond (s.unitFold u.val (s.tick - 1)) a.cond = true → (s.leaf u.val).phase = .play → (s.leaf u.val).raster = false →
        ∃ j ∈ (t.leaf u.val).jumps, j.cls = 1 ∧ j.target = a.target) ∧
      s.keepsMem t

/-- O11. On an ADMITTED module, after tick 0, TICK_FLIT_LAUNCH of a copy appends this module's TICK flits of the tick just
ended to what every neighbour port that carries traffic has sent in the tick, and changes no other port, no register
cell but MC_UREG (whose commits may come due) and no byte of memory; that every active port launches them is R23's
row, read beside R293 in log entry 164. CLUSTER_FLAG_DEADLINE, from tick 2 on, answers a next state in which each
group with a member here has its flags of the tick two before folded, ID_FLAG_MISS has counted each member module
whose flags of that tick have not come, and no byte of memory has changed. On a module that is not ADMITTED each
leaves the state as it is. -/
def Obligations.ClusterFlags : Prop :=
  (∀ (s : State) (second : Bool), s.admitted = true → s.tick ≠ 0 →
    ∃ t, exec (.tickFlitLaunch second) s = .next t ∧ s.keepsMem t ∧
      s.keepsCells [F.MC_UREG_VALUE.key] t ∧
      ∀ p, if p ∈ s.launchPorts
        then (t.port p).ticks = (s.port p).ticks ++
          (s.goto (tickAt s.tick + (if second then 192 else 160) * 1024)).tickFlits (s.tick - 1) (if second then 1 else 0)
        else t.port p = s.port p) ∧
  (∀ s : State, s.admitted = true → 2 ≤ s.tick →
    ∃ t, exec .clusterFlagDeadline s = .next t ∧ s.keepsMem t ∧
      t.rd F.ID_FLAG_MISS_COUNT 0 = satAdd 32 (s.rd F.ID_FLAG_MISS_COUNT 0) (s.flagsGone (s.tick - 2)).length ∧
      ∀ g ∈ s.clu.groups, g.modmask.testBit s.module = true → ∃ e ∈ t.clu.folds, e.1 = 256 + g.cunit ∧ e.2.1 = s.tick - 2) ∧
  (∀ (s : State) (second : Bool), s.admitted = false →
    exec (.tickFlitLaunch second) s = .next s ∧ exec .clusterFlagDeadline s = .next s)

/-- O12. A READ64 that this module serves, of a 64-bit aligned address outside the byte windows and in no absent unit's
window, answers OK with the word that the address holds; a READB of whole words answers their bytes in order. Nothing
but the response changes: the state is that before with the response in front of the sender and kept. -/
def Obligations.RegisterRead : Prop :=
  (∀ (s : State) (h : Hdr) (addr : BitVec 40), s.serves h addr.toNat .read64 → s.absentAt addr.toNat = false → byteWin addr.toNat = false →
    addr.toNat % 8 = 0 → exec (.read64 h addr) s = .next (s.respond h (.data (s.wordRead addr.toNat))) ∧
      (s.respond h (.data (s.wordRead addr.toNat))).told h (.data (s.wordRead addr.toNat))) ∧
  (∀ (s : State) (h : Hdr) (addr : BitVec 40) (n : Fin 256), s.serves h addr.toNat (.readb (n.val + 1)) → s.absentAt addr.toNat = false →
    byteWin addr.toNat = false → addr.toNat % 8 = 0 → (n.val + 1) % 8 = 0 → crosses addr.toNat (n.val + 1) = false →
    exec (.readb h addr n) s = .next (s.respond h (.bytes (s.wordBytes addr.toNat (n.val + 1)))))

/-- O13. A READB that this module serves, inside one 256-byte block of a byte window other than DRAM, answers OK with the
bytes of the window in address order and changes nothing else; in the strand table they are the bytes of the
descriptors. -/
def Obligations.WindowRead : Prop :=
  ∀ (s : State) (h : Hdr) (addr : BitVec 40) (n : Fin 256), s.serves h addr.toNat (.readb (n.val + 1)) → s.absentAt addr.toNat = false →
    byteWin addr.toNat = true → inDram addr.toNat = false → crosses addr.toNat (n.val + 1) = false →
    exec (.readb h addr n) s = .next (s.respond h (.bytes (s.winBytes addr.toNat (n.val + 1)))) ∧
    ∀ i ≤ n.val, inStr (addr.toNat + i) = true →
      (s.winBytes addr.toNat (n.val + 1))[i]? =
        some (BitVec.ofNat 8 (bits (s.desc ((addr.toNat + i - 0x400000) / 32)) (8 * ((addr.toNat + i - 0x400000) % 32)) 8))

/-- O14. A WRITE64 that this module serves, of a counter register outside the unit windows: zero is accepted, the
register's COUNT cell then holds what the module itself has counted in the same base cycle (R8), which is 0 where it
has counted nothing, and no other cell and no byte of memory changes; any other value without reserved bits is
rejected with reason COUNTER_VALUE (0x0A), and no cell but those of a recorded rejection changes. Shown for
FL_DROPPED, JN_LOST, GLB_ERR_COUNT, ACQ_GAPS of every channel and LK_CRC_ERR of every port. -/
def Obligations.CounterWrite : Prop :=
  ∀ (s : State) (h : Hdr) (a : Nat) (f : Fld) (i : Nat) (d : Word),
    ((a, f, i) ∈ [(0x300020, F.FL_DROPPED_COUNT, 0), (0x380020, F.JN_LOST_COUNT, 0), (0x58, F.GLB_ERR_COUNT_COUNT, 0)]
      ∨ (∃ n < 8, (a, f, i) = (0x310160 + 0x100 * n, F.ACQ_GAPS_COUNT, n)) ∨ (∃ p < 5, (a, f, i) = (0x350120 + 0x100 * p, F.LK_CRC_ERR_COUNT, p))) →
    s.serves h a (.write64 d.toNat) →
    (d = 0 → ∃ t, exec (.write64 h (BitVec.ofNat 40 a) d) s = .next t ∧ t.told h .ok ∧ t.rd f i = s.hotOf f i % 2 ^ 32 ∧
      (s.hot.cycle ≠ s.now / 1024 → t.rd f i = 0) ∧ s.keepsMem t ∧ ∀ (g : Fld) (j : Nat), cellNo g j ≠ cellNo f i → t.rd g j = s.rd g j) ∧
    (d ≠ 0 → d.toNat < 2 ^ 32 → ∃ t, exec (.write64 h (BitVec.ofNat 40 a) d) s = .next t ∧ t.told h (.rejected 0x0A 0) ∧
      s.keepsCells rejectKeys t ∧ s.keepsMem t)

/-- O15. A WRITE64 that this module serves to a register whose fields are all RO is rejected with reason RO_REGISTER
(0x03). With GLB_ERR_INFO.VALID at 0 the record takes the address, the sender and the reason, VALID becomes 1; with
VALID at 1 the first record stays and MORE becomes 1. No other register cell but those of the record and of the event
message, and no byte of memory, changes. Shown for GLB_TICK and FL_WR. -/
def Obligations.RejectionRecorded : Prop :=
  ∀ (s : State) (h : Hdr) (a : Nat) (d : Word), a = 0x20 ∨ a = 0x300010 → s.serves h a (.write64 d.toNat) →
    ∃ t, exec (.write64 h (BitVec.ofNat 40 a) d) s = .next t ∧ t.told h (.rejected 0x03 0) ∧ s.keepsCells rejectKeys t ∧ s.keepsMem t ∧
      t.rd F.GLB_ERR_INFO_VALID 0 ≠ 0 ∧
      (s.rd F.GLB_ERR_INFO_VALID 0 = 0 → t.rd F.GLB_ERR_INFO_VALID 0 = 1 ∧ t.rd F.GLB_ERR_ADDR_ADDR 0 = a ∧ t.rd F.GLB_ERR_ADDR_SRC 0 = h.src.val ∧
        t.rd F.GLB_ERR_INFO_REASON 0 = 0x03 ∧ t.rd F.GLB_ERR_INFO_MORE 0 = s.rd F.GLB_ERR_INFO_MORE 0) ∧
      (s.rd F.GLB_ERR_INFO_VALID 0 ≠ 0 → t.rd F.GLB_ERR_INFO_MORE 0 = 1 ∧ t.rd F.GLB_ERR_INFO_REASON 0 = s.rd F.GLB_ERR_INFO_REASON 0 ∧
        t.rd F.GLB_ERR_ADDR_ADDR 0 = s.rd F.GLB_ERR_ADDR_ADDR 0)

/-- O16. While a module that is not deaf keeps a response to a request's sender and tag, a WRITE64 with that sender and
tag puts the kept response in front of the sender again and changes nothing else. -/
def Obligations.RepeatedRequest : Prop :=
  ∀ (s : State) (h : Hdr) (addr : BitVec 40) (d : Word) (r : Resp), s.deaf h = false → s.keptFor h = some r →
    exec (.write64 h addr d) s = .next { s with host := { s.host with tx := some r } } ∧ r.src = h.src.val ∧ r.tag = h.tag.val ∧
      s.now ≤ r.at_ + 2560000000

/-- O17. A PING that this module serves is answered OK and, with code 3 enabled, puts a GLB_PONG message with the
request's TAG as its index and the next SEQ into the event ring. At or after the tick in GLB_ALARM, not 0, in a
running module, TICK_ALARM sets GLB_ALARM to 0 and, with code 4 enabled, puts a TICK_ALARM message with the next SEQ
into the ring. With UPLINK at 1, port U ACTIVE, nothing lost and an unsent message m in the ring, EVENT_MESSAGE_SEND
sends m and EVT_SEQ.SENT becomes the number after it. None changes a byte of memory. -/
def Obligations.EventsAndAlarm : Prop :=
  (∀ (s : State) (h : Hdr), s.serves h 0x18 (.write64 1) → (s.rd F.EVT_ENABLE_EN 0).testBit 3 = true →
    ∃ t m, exec (.ping h) s = .next t ∧ t.told h .ok ∧ m ∈ t.evt.ring ∧ m.seq = s.rd F.EVT_SEQ_NEXT 0 ∧ m.code = 3 ∧ m.index = h.tag.val ∧ m.tick = s.tick % 2 ^ 40 ∧
      s.keepsCells eventKeys t ∧ s.keepsMem t) ∧
  (∀ s : State, s.env.off = false → s.mstate ≠ 1 → s.rd F.GLB_ALARM_TICK 0 ≠ 0 → s.rd F.GLB_ALARM_TICK 0 ≤ s.tick →
    (s.rd F.EVT_ENABLE_EN 0).testBit 4 = true →
    ∃ t m, exec .tickAlarm s = .next t ∧ t.rd F.GLB_ALARM_TICK 0 = 0 ∧ m ∈ t.evt.ring ∧ m.seq = s.rd F.EVT_SEQ_NEXT 0 ∧ m.code = 4 ∧
      s.keepsCells (F.GLB_ALARM_TICK.key :: eventKeys) t ∧ s.keepsMem t) ∧
  (∀ (s : State) (m : EvtMsg), s.env.off = false → s.rd F.EVT_CFG_UPLINK 0 = 1 → s.rd F.LK_STAT_STATE 4 = 6 → s.evt.lostNow = 0 →
    s.rd F.EVT_SEQ_SENT 0 ≠ s.rd F.EVT_SEQ_NEXT 0 → s.evt.ring.find? (fun x => x.seq == s.rd F.EVT_SEQ_SENT 0) = some m →
    ∃ t, exec .eventMessageSend s = .next t ∧ t.evt.tx = some m ∧ t.rd F.EVT_SEQ_SENT 0 = (s.rd F.EVT_SEQ_SENT 0 + 1) % 2 ^ 24 ∧
      s.keepsCells [F.EVT_SEQ_SENT.key] t ∧ s.keepsMem t)

/-- O18. A transaction that a datagram brings to the service port of a module that is on and has not answered its tag is
carried out as the host's transaction of the same operation with SRC 0x81: a read of an aligned register of the ENV
block is answered OK with the register's word, and one at an address that the port does not reach, read or write,
single or burst (of 1 to 256 bytes), is rejected SERVICE_DENIED (0x0D) and changes no cell but a rejection's. When the
2 ms after a request that this module passed on fall in this tick with no response, FORWARD_TIMEOUT answers TIMEOUT,
over the port that the request came in on where there is one, and the request is no longer waited for. No byte of
memory changes. -/
def Obligations.ServiceAndForward : Prop :=
  (∀ (s : State) (tag : Fin 65536) (dst : Fin 16) (a : BitVec 40), s.env.off = false → s.keptFor ⟨0x81, tag, dst⟩ = none →
    0x50000 ≤ a.toNat → a.toNat < 0x60000 → a.toNat % 8 = 0 →
    exec (.serviceRequest tag dst (.read64 a)) s = .next (s.respond ⟨0x81, tag, dst⟩ (.data (s.wordRead a.toNat)))) ∧
  (∀ (s : State) (tag : Fin 65536) (dst : Fin 16) (a : BitVec 40) (d : Word), s.env.off = false → s.keptFor ⟨0x81, tag, dst⟩ = none →
    ¬ (0x50000 ≤ s.errAddr a.toNat (toBytes 8 d.toNat) ∧ s.errAddr a.toNat (toBytes 8 d.toNat) < 0x60000) →
    ∃ t, exec (.serviceRequest tag dst (.write64 a d)) s = .next t ∧ t.told ⟨0x81, tag, dst⟩ (.rejected 0x0D 0) ∧
      s.keepsCells rejectKeys t ∧ s.keepsMem t) ∧
  (∀ (s : State) (tag : Fin 65536) (dst : Fin 16) (a : BitVec 40) (op : HostOp) (n : Nat), s.env.off = false →
    s.keptFor ⟨0x81, tag, dst⟩ = none → s.serviceOpen a.toNat n false = false →
    ((op = .read64 a ∧ n = 8) ∨ (∃ k : Fin 256, op = .readb a k ∧ n = k.val + 1) ∨
      (∃ l : List Byte, op = .writeb a l ∧ n = l.length ∧ 1 ≤ n ∧ n ≤ 256 ∧
        ¬ (0x50000 ≤ s.errAddr a.toNat l ∧ s.errAddr a.toNat l < 0x60000))) →
    ∃ t, exec (.serviceRequest tag dst op) s = .next t ∧ t.told ⟨0x81, tag, dst⟩ (.rejected 0x0D 0) ∧
      s.keepsCells rejectKeys t ∧ s.keepsMem t) ∧
  (∀ (s : State) (tag : Fin 65536) (dst : Fin 16) (a : BitVec 40) (d : Word) (k : Fin 256) (l : List Byte),
    exec (.serviceRequest tag dst (.read64 a)) s = exec (.read64 ⟨0x81, tag, dst⟩ a) s ∧
    exec (.serviceRequest tag dst (.write64 a d)) s = exec (.write64 ⟨0x81, tag, dst⟩ a d) s ∧
    exec (.serviceRequest tag dst (.readb a k)) s = exec (.readb ⟨0x81, tag, dst⟩ a k) s ∧
    exec (.serviceRequest tag dst (.writeb a l)) s = exec (.writeb ⟨0x81, tag, dst⟩ a l) s) ∧
  (∀ (s : State) (src : Fin 256) (tag : Fin 65536) (f : Fwd),
    s.host.fwd.find? (fun f => f.src == src.val && f.tag == tag.val && !f.answered) = some f →
    f.at_ + 2560000000 < tickAt (s.tick + 1) →
    ∃ t r, exec (.forwardTimeout src tag) s = .next t ∧ t.host.tx = some r ∧ r.status = 4 ∧ r.src = src.val ∧ r.tag = tag.val ∧
      f ∉ t.host.fwd ∧ s.keepsMem t ∧ (f.inPort = none → t.lk = s.lk) ∧
      (∀ p, f.inPort = some p → t.port p = ((s.goto (f.at_ + 2560000000)).lkSend p 2 ((respFlits r).headD 0)).port p))

/-- O19. START of a local unit that is no raster start, in a write this module serves. Where the unit exists: when no
condition of R88 refuses it, the answer is OK, the unit is start-pending for the tick in UNIT_START_TICK, each of its
leaves is armed for it, and no byte of memory changes; when the condition of reason r refuses it, the answer is
rejected with r and nothing but the record of the rejection changes. Where no such unit exists because the module is
not MOUNTED, the answer is rejected with NOT_MOUNTED (0x10), recorded, and no unit changes. -/
def Obligations.StartAccepted : Prop :=
  ∀ (s : State) (h : Hdr) (u : Fin 256), s.serves h (unitAddr (.loc u)) (.write64 1) → s.rasterStarts u.val = false →
    (s.unitExists u.val = true → s.startRefused u.val (s.startLanded u.val) 0x14 = none →
      ∃ t, exec (.start h (.loc u)) s = .next t ∧ t.told h .ok ∧ (t.unit u.val).pending = some (s.rd F.UNIT_START_TICK_START_TICK u.val) ∧
        (∀ l ∈ s.leavesOf u.val, (t.leaf l).phase = .armed ∧ (t.leaf l).startTick = s.rd F.UNIT_START_TICK_START_TICK u.val ∧
          (t.leaf l).strand = s.rd F.UNIT_START_STRAND_STRAND u.val) ∧ s.keepsMem t) ∧
    (∀ r, s.unitExists u.val = true → s.startRefused u.val (s.startLanded u.val) 0x14 = some r →
      ∃ t, exec (.start h (.loc u)) s = .next t ∧ t.told h (.rejected r 0) ∧ s.keepsCells rejectKeys t ∧ s.keepsMem t ∧ t.units = s.units ∧
        t.leaves = s.leaves) ∧
    (s.unitExists u.val = false → s.mstate ≠ 3 →
      ∃ t, exec (.start h (.loc u)) s = .next t ∧ t.told h (.rejected 0x10 0) ∧ s.keepsCells rejectKeys t ∧ s.keepsMem t ∧ t.units = s.units ∧
        t.leaves = s.leaves)

/-- O20. In a MOUNTED module with a control store and no SAFE entry due, START of a leaf that exists, is in no group, is
idle with no start pending, is in service and is no raster leaf, with UNIT_START_TICK below GLB_TICK + 4, is rejected
with reason START_TOO_SOON (0x13) and starts nothing. -/
def Obligations.StartTooSoon : Prop :=
  ∀ (s : State) (h : Hdr) (l : Fin 16), s.serves h (0x100000 + l.val * 0x1000) (.write64 1) → s.unitExists l.val = true →
    s.rasterStarts l.val = false → s.mstate = 3 → s.safeDue = false → s.rd F.MC_STATUS_STATE 0 ≠ 1 → s.isMember l.val = false → s.unitState l.val ≠ 1 →
    s.startPending l.val = false → (∀ k ∈ s.leavesOf l.val, s.rd F.PL_LEAF_OOS k = 0) →
    s.rd F.UNIT_START_TICK_START_TICK l.val < s.tick + 4 →
    ∃ t, exec (.start h (.loc ⟨l.val, by omega⟩)) s = .next t ∧ t.told h (.rejected 0x13 0) ∧ t.units = s.units ∧ t.leaves = s.leaves ∧
      s.keepsCells rejectKeys t

/-- O21. At or after T(UNIT_START_TICK), RUN_START of a unit whose start is pending, whose leaves here are all armed, none
of them with an abort sampled before that tick. Where every member module has registered the start in time (a local
unit, or no module late): no start is pending any more, and every leaf of the unit reads RUNNING with UNIT_VCOUNT,
UNIT_HOLD_GAP and UNIT_STATUS.CAUSE 0 and plays; on a PARTITIONED module each is asked to abort with PARTITION (0x0F).
Where a member module of a cluster group is late, no start is pending and every leaf here reads ABORTED with
START_LATE (0x10) and UNIT_VCOUNT 0, its pins as they were. No byte of memory changes. -/
def Obligations.RunStart : Prop :=
  ∀ (s : State) (u : UnitRef) (n : Nat), (s.unit (uix u)).pending = some n → n ≤ s.tick →
    (∀ l ∈ s.leavesOf (uix u), (s.leaf l).phase = .armed ∧
      (s.leaf l).aborts.all (fun a => a.vec.isSome || decide (tickAt n ≤ a.notBefore)) = true) →
    (∀ late, uix u < 256 ∨ late = none → ∃ t, exec (.runStart ⟨u, late⟩) s = .next t ∧ (t.unit (uix u)).pending = none ∧
      (∀ l ∈ s.leavesOf (uix u), t.rd F.UNIT_STATUS_STATE l = 1 ∧ t.rd F.UNIT_VCOUNT_VCOUNT l = 0 ∧ t.rd F.UNIT_HOLD_GAP_GAP l = 0 ∧
        t.rd F.UNIT_STATUS_CAUSE l = 0 ∧ (t.leaf l).phase = .play ∧
        (s.rd F.ID_STAT_STATE 0 = 5 → ∃ a ∈ (t.leaf l).aborts, a.cause = 0x0F)) ∧ s.keepsMem t) ∧
    (∀ l m, 256 ≤ uix u → ∃ t, exec (.runStart ⟨u, (some (l, m))⟩) s = .next t ∧ (t.unit (uix u)).pending = none ∧
      (∀ l ∈ s.leavesOf (uix u), t.rd F.UNIT_STATUS_STATE l = 3 ∧ t.rd F.UNIT_VCOUNT_VCOUNT l = 0 ∧ t.rd F.UNIT_STATUS_CAUSE l = 0x10 ∧
        (t.leaf l).phase = .off ∧ (t.leaf l).drv = (s.leaf l).drv) ∧ s.keepsMem t)

/-- O22. For a local unit that exists and belongs to no group, in writes this module serves: ABORT is answered OK and asks
every leaf in a run to abort with HOST_ABORT from the first tick boundary on or after it, changing nothing else. JUMP
of a unit running or start-pending that is not in replay, with UNIT_JUMP_TICK 0 or at least 4 ticks ahead, is answered
OK and holds the host jump to UNIT_JUMP's strand for that tick, 0 standing for the tick 4 ahead. CLEAR of a unit DONE
or ABORTED is answered OK and its leaves read IDLE; no other cell changes. -/
def Obligations.AbortJumpClear : Prop :=
  ∀ (s : State) (h : Hdr) (u : Fin 256), s.unitExists u.val = true → s.isMember u.val = false →
    (s.serves h (unitAddr (.loc u)) (.write64 2) → ∃ t, exec (.abort h (.loc u)) s = .next t ∧ t.told h .ok ∧
      (∀ l ∈ s.leavesOf u.val, (s.leaf l).phase ≠ .off → ∃ a, (t.leaf l).aborts = (s.leaf l).aborts ++ [a] ∧ a.cause = 1 ∧
        a.notBefore = tickAt s.nextBoundary ∧ a.srcUnit = l ∧ a.srcModule = s.module) ∧
      (∀ l, l ∉ s.leavesOf u.val ∨ (s.leaf l).phase = .off → t.leaf l = s.leaf l) ∧ s.keepsCells [] t ∧ s.keepsMem t) ∧
    (s.serves h (unitAddr (.loc u)) (.write64 4) → s.unitState u.val = 1 ∨ s.startPending u.val = true →
      ¬ (s.jn.replay.active = true ∧ s.jn.replay.unit = u.val) →
      ∀ n, (s.rd F.UNIT_JUMP_TICK_JUMP_TICK u.val = 0 ∧ n = s.tick + 4) ∨ (s.rd F.UNIT_JUMP_TICK_JUMP_TICK u.val = n ∧ s.tick + 4 ≤ n) →
      ∃ t, exec (.jump h (.loc u)) s = .next t ∧ t.told h .ok ∧
      (t.unit u.val).hostJump = some (s.rd F.UNIT_JUMP_TARGET u.val, n) ∧ t.leaves = s.leaves ∧ s.keepsCells [] t ∧ s.keepsMem t) ∧
    (s.serves h (unitAddr (.loc u)) (.write64 8) → s.unitState u.val = 2 ∨ s.unitState u.val = 3 →
      ∃ t, exec (.clear h (.loc u)) s = .next t ∧ t.told h .ok ∧ (∀ l ∈ s.leavesOf u.val, t.rd F.UNIT_STATUS_STATE l = 0) ∧
        s.keepsCells [F.UNIT_STATUS_STATE.key] t ∧ s.keepsMem t)

/-- O23. A write of UNIT_CTL.START or of an abort to a local unit that exists and is a member of a group, in writes this
module serves, is rejected and recorded in GLB_ERR: the answer is rejected with reason UNIT_IS_MEMBER (0x11) in a
MOUNTED module with a control store and no SAFE entry due, the count of recorded rejections rises by one (up to its
greatest value), no unit and no leaf changes, and the unit's window still exists for reading. -/
def Obligations.MemberRefused : Prop :=
  ∀ (s : State) (h : Hdr) (u : Fin 256), s.unitExists u.val = true → s.isMember u.val = true → s.rasterStarts u.val = false → s.mstate = 3 →
    s.rd F.MC_STATUS_STATE 0 ≠ 1 → s.safeDue = false →
    (s.serves h (unitAddr (.loc u)) (.write64 1) → ∃ t, exec (.start h (.loc u)) s = .next t ∧ t.told h (.rejected 0x11 0) ∧
      t.rd F.GLB_ERR_COUNT_COUNT 0 = min (s.rd F.GLB_ERR_COUNT_COUNT 0 + 1) (2 ^ 32 - 1) ∧ t.units = s.units ∧ t.leaves = s.leaves ∧
      t.absentAt (unitAddr (.loc u)) = false) ∧
    (s.serves h (unitAddr (.loc u)) (.write64 2) → ∃ t, exec (.abort h (.loc u)) s = .next t ∧ t.told h (.rejected 0x11 0) ∧
      t.rd F.GLB_ERR_COUNT_COUNT 0 = min (s.rd F.GLB_ERR_COUNT_COUNT 0 + 1) (2 ^ 32 - 1) ∧ t.units = s.units ∧ t.leaves = s.leaves ∧
      t.absentAt (unitAddr (.loc u)) = false)

/-- O24. For a formed cluster group c outside any other, in a write that names this ADMITTED module, which is the anchor
(its lease held) or takes it from the anchor (another module's number as source): ABORT is answered OK and asks every
leaf of the group on this module that is in a run to abort with HOST_ABORT; CLEAR of a group DONE or ABORTED is
answered OK and its leaves here read IDLE; a START that nothing refuses and that is not late makes the group
start-pending; and a JUMP that R71 allows holds the host jump, 0 standing for the tick 4 ahead. -/
def Obligations.ClusterWindow : Prop :=
  ∀ (s : State) (h : Hdr) (c : Fin 1024), s.deaf h = false → s.keptFor h = none → s.isOwn h = true → s.admitted = true → h.src.val ≠ 0x81 →
    s.rd F.ID_LEASE_HELD 0 = 1 ∨ (s.rd F.ID_LEASE_HELD 0 = 0 ∧ h.src.val < 16) → s.rd F.ID_CG_FORMED c.val = 1 → s.isMember (256 + c.val) = false →
    (∃ t, exec (.abort h (.clu c)) s = .next t ∧ t.told h .ok ∧ ∀ l ∈ s.leavesOf (256 + c.val), (s.leaf l).phase ≠ .off →
      ∃ a ∈ (t.leaf l).aborts, a.cause = 1 ∧ a.notBefore = tickAt s.nextBoundary) ∧
    (s.unitState (256 + c.val) = 2 ∨ s.unitState (256 + c.val) = 3 →
      ∃ t, exec (.clear h (.clu c)) s = .next t ∧ t.told h .ok ∧ ∀ l ∈ s.leavesOf (256 + c.val), t.rd F.UNIT_STATUS_STATE l = 0) ∧
    (s.rasterStarts (256 + c.val) = false → s.startRefused (256 + c.val) (s.startLanded (256 + c.val)) 0x14 = none → s.startsLate (256 + c.val) = false →
      ∃ t, exec (.start h (.clu c)) s = .next t ∧ t.told h .ok ∧
        (t.unit (256 + c.val)).pending = some (s.rd F.UNIT_START_TICK_START_TICK (256 + c.val))) ∧
    (s.unitState (256 + c.val) = 1 ∨ s.startPending (256 + c.val) = true → ¬ (s.jn.replay.active = true ∧ s.jn.replay.unit = 256 + c.val) →
      ∀ n, (s.rd F.UNIT_JUMP_TICK_JUMP_TICK (256 + c.val) = 0 ∧ n = s.tick + 4) ∨
        (s.rd F.UNIT_JUMP_TICK_JUMP_TICK (256 + c.val) = n ∧ n ≠ 0 ∧ s.tick + 4 ≤ n) →
      ∃ t, exec (.jump h (.clu c)) s = .next t ∧ t.told h .ok ∧ (t.unit (256 + c.val)).hostJump =
        some (s.rd F.UNIT_JUMP_TARGET (256 + c.val), n))

/-- O25. At or after T(n), HOST_JUMP_LATCH of a unit whose host jump to a target is held for tick n answers a next state
in which no host jump is held, every leaf of the unit here that plays a pattern has a latched jump of the host class
to the target at T(n) and the host-jump interrupt pending (behind a handler that runs), no leaf outside the unit
changes, and no register cell and no byte of memory changes. -/
def Obligations.HostJumpLatch : Prop :=
  ∀ (s : State) (u : UnitRef) (target n : Nat), (s.unit (uix u)).hostJump = some (target, n) → n ≤ s.tick →
    ∃ t, exec (.hostJumpLatch u) s = .next t ∧ (t.unit (uix u)).hostJump = none ∧
      (∀ l ∈ s.leavesOf (uix u), (s.leaf l).phase = .play → (s.leaf l).raster = false →
        (∃ j ∈ (t.leaf l).jumps, j.cls = 0 ∧ j.target = target ∧ j.at_ = tickAt n) ∧ 3 ∈ (t.eng l).ints ++ (t.eng l).later) ∧
      (∀ l, l ∉ s.leavesOf (uix u) → t.leaf l = s.leaf l) ∧ s.keepsCells [] t ∧ s.keepsMem t

/-- O26. QUEUE_ENTRY of a leaf that plays, or is armed with T(start) less 32 cycles due, whose queue advances (no repeat,
no hold), holds fewer than 16 vectors and none at fault, and whose next place in the order of play is in a landed
slot, appends that place's vector, with its word of the slot, to the queue. STREAM_FETCH with a free ring slot k and a
next bead f appends k to the ring and asks for f there. BEAD_LANDING, for a fetch waiting at a slot, of 272 bytes over
a link from the module that holds the bead, or of the bead in this module's DRAM where no burst is in error and no
subchannel stalled: when the payload has the header's CRC, the slot holds that payload and header, landed at the edge
on or after now, and the fetch ends. None changes a byte of memory; over a link only PL_PREFETCH may change of the
registers, and STREAM_FETCH changes none. -/
def Obligations.QueueAndFetch : Prop :=
  (∀ (s : State) (l : Fin 16) (p : Nat × Nat × Nat × Nat) (k : Nat), (s.leaf l.val).raster = false →
    (s.leaf l.val).phase = .play ∨ ((s.leaf l.val).phase = .armed ∧ s.due (fillFrom (s.leaf l.val).startTick) = true) →
    (s.leaf l.val).queue.length < 16 → (s.leaf l.val).queue.all (fun q => q.fault.isNone) = true → (s.leaf l.val).queueMoves = true →
    s.entryPos l.val = some p → s.slotAt l.val p.1 p.2.1 p.2.2.1 = some k → ((s.cache l.val).slot k).landed ≠ none →
    ((s.cache l.val).slot k).bad = false →
    ∃ t q, exec (.queueEntry l) s = .next t ∧ (t.leaf l.val).queue = (s.leaf l.val).queue ++ [q] ∧
      (q.beadSeq, q.strand, q.bead, q.off) = p ∧ q.word = beadWord ((s.cache l.val).slot k).payload p.2.2.2 ∧
      s.keepsCells [F.MC_UREG_VALUE.key] t ∧ s.keepsMem t) ∧
  (∀ (s : State) (l : Fin 16) (k : Nat) (f : FetchCur), (s.cache l.val).freeSlot = some k →
    (s.cache l.val).cur.bind (s.nextStreamed l.val 41000) = some f →
    ∃ t, exec (.streamFetch l) s = .next t ∧ (t.cache l.val).ring = (s.cache l.val).ring ++ [k] ∧
      (∃ g ∈ (t.cache l.val).fetches, g.slot = k ∧ g.strand = f.strand ∧ g.bead = f.bead) ∧ s.keepsCells [] t ∧ s.keepsMem t) ∧
  (∀ (s : State) (l : Fin 16) (slot : Fin 8192) (f : Fetch) (link : Option (List Byte)) (pay hd : List Byte),
    (s.cache l.val).fetches.find? (fun f => f.slot == slot.val) = some f →
    (∀ b, link = some b → s.fetchFrom l.val f ≠ s.module ∧ b.length = 272 ∧ pay = b.take 256 ∧ hd = (b.drop 256).take 16) →
    (∀ pa ha, link = none → pa = s.payloadAt l.val (dStart (s.desc f.strand) + f.bead) → ha = s.headerAt l.val (dStart (s.desc f.strand) + f.bead) →
      s.fetchFrom l.val f = s.module ∧ s.stalledAt pa 256 = false ∧ s.stalledAt ha 16 = false ∧ s.rangeUe pa 256 = false ∧
      s.rangeUe ha 16 = false ∧ pay = s.dram.read pa 256 ∧ hd = s.dram.read ha 16) →
    landingOk pay hd = true →
    ∃ t, exec (.beadLanding l slot link) s = .next t ∧ ((t.cache l.val).slot slot.val).payload = pay ∧
      ((t.cache l.val).slot slot.val).header = hd ∧ ((t.cache l.val).slot slot.val).landed = some (edgeUp s.now) ∧
      ((t.cache l.val).slot slot.val).bad = false ∧ f ∉ (t.cache l.val).fetches ∧
      (link ≠ none → s.keepsCells [F.PL_PREFETCH_BEADS.key] t) ∧ s.keepsMem t)

/-- O27. A leaf in play of a pattern, nothing replayed and no vector action HOLD in progress, with no abort, exchange or
timeout due at its place, which is due in this tick. At the head of its queue inside a bead, no repeat left and no
hold: a vector q without a fault whose action is fixed (or that has no routine), without LOOPB, with room on the loop
stack, issues: it leaves the queue, the leaf takes its states and the repeats left, and the place moves on by the
period of its set in the active bank. A repeat left to play is played with the last set, one fewer left. A hold that
is not over plays a held period of the last set (set 0 before any vector). In each case UNIT_VCOUNT rises by one
modulo 2^48, and no byte of memory changes. -/
def Obligations.VectorIssue : Prop :=
  ∀ (s : State) (l : Fin 16), (s.leaf l.val).raster = false → (s.leaf l.val).phase = .play → (s.leaf l.val).vhold = false →
    (s.leaf l.val).abortNow false = [] →
    s.holdExpired l.val = false → s.swapDue l.val = false → s.jn.replay.active = false → (s.leaf l.val).nextStart < tickAt (s.tick + 1) →
    (∀ q r, (s.leaf l.val).bdue = false → (s.leaf l.val).hold = none → (s.leaf l.val).rptLeft = 0 → (s.leaf l.val).queue = q :: r →
      q.fault = none → vecOp q.word = 0 ∨ s.mc.dispatch.getD (hPage q.hdr * 16 + vecOp q.word) 0 = 0 ∨ q.act.fixed = true →
      q.act.loopb = none → (s.leaf l.val).loops.length + (s.eng l.val).c.loops.length + (if 2 ≤ q.act.rpt.getD 1 then 1 else 0)
        + (if q.act.hold then 1 else 0) ≤ 4 →
      ∃ t, exec (.vectorIssue l) s = .next t ∧ (t.leaf l.val).queue = r ∧ (t.leaf l.val).rptLeft = q.act.rpt.getD 1 - 1 ∧
        t.rd F.UNIT_VCOUNT_VCOUNT l.val = (s.rd F.UNIT_VCOUNT_VCOUNT l.val + 1) % 2 ^ 48 ∧
        (t.leaf l.val).nextStart = (s.leaf l.val).nextStart + s.period (s.leaf l.val).bank l.val (q.act.altset.getD (vecTsel q.word)) ∧
        (t.leaf l.val).off = q.off + 1 ∧
        (t.leaf l.val).last = (if q.act.repeatLast then (s.leaf l.val).last else vecStates (s.leaf l.val).last q.word) ∧ s.keepsMem t) ∧
    (∀ q, (s.leaf l.val).bdue = false → (s.leaf l.val).hold = none → (s.leaf l.val).rptLeft ≠ 0 → (s.leaf l.val).cur = some q →
      ∃ t, exec (.vectorIssue l) s = .next t ∧ (t.leaf l.val).queue = (s.leaf l.val).queue ∧ (t.leaf l.val).rptLeft = (s.leaf l.val).rptLeft - 1 ∧
        t.rd F.UNIT_VCOUNT_VCOUNT l.val = (s.rd F.UNIT_VCOUNT_VCOUNT l.val + 1) % 2 ^ 48 ∧
        (t.leaf l.val).nextStart = (s.leaf l.val).nextStart + s.period (s.leaf l.val).lastBank l.val (s.leaf l.val).lastSet ∧
        (t.leaf l.val).last = (s.leaf l.val).last ∧ s.keepsMem t) ∧
    (∀ h, (s.leaf l.val).hold = some h → (s.leaf l.val).holdOver = false →
      ∃ t, exec (.vectorIssue l) s = .next t ∧ (t.leaf l.val).queue = (s.leaf l.val).queue ∧ (t.leaf l.val).hold = some { h with len := h.len + 1 } ∧
        t.rd F.UNIT_VCOUNT_VCOUNT l.val = (s.rd F.UNIT_VCOUNT_VCOUNT l.val + 1) % 2 ^ 48 ∧
        (t.leaf l.val).nextStart = (s.leaf l.val).nextStart
          + s.period (s.leaf l.val).bank l.val (if (s.leaf l.val).last = [] then 0 else (s.leaf l.val).lastSet) ∧
        (t.leaf l.val).last = (s.leaf l.val).last ∧ s.keepsMem t)

/-- O28. When the next edge e of a pin is due in this tick, EDGE_PLACE removes it; a drive edge leaves the pin with the
enable and termination of its vector's state and the level that its format gives the edge, or the level it takes with
that state where the edge commands none; a compare edge changes no pin, and every compare of its vector on that pin
that was not suppressed has then taken the comparator outputs as its sample (a strobe) or has closed (a window close).
No register cell but MC_UREG, whose commits may come due, and no byte of memory changes. -/
def Obligations.EdgePlace : Prop :=
  ∀ (s : State) (l : Fin 16) (j : Fin 9) (cl ch exc : Bool) (e : Edge), nextEdge (s.leaf l.val).edges j.val = some e →
    e.placed < tickAt (s.tick + 1) →
    ∃ t, exec (.edgePlace l j cl ch exc) s = .next t ∧ (t.leaf l.val).edges = (s.leaf l.val).edges.erase e ∧
      (e.role = 0 → ∃ p, Table.get? (t.leaf l.val).drv j.val = some p ∧
        p.on = (pinTake ((Table.get? (s.leaf l.val).drv j.val).getD {}) e.fmt e.term e.state).on ∧
        p.term = (pinTake ((Table.get? (s.leaf l.val).drv j.val).getD {}) e.fmt e.term e.state).term ∧
        p.high = (driveLevel e.fmt e.state e.field).getD (pinTake ((Table.get? (s.leaf l.val).drv j.val).getD {}) e.fmt e.term e.state).high) ∧
      (e.role ≠ 0 → (t.leaf l.val).drv = (s.leaf l.val).drv ∧
        ∀ v ∈ (t.leaf l.val).vrecs, v.vindex = e.vindex → ∀ c ∈ v.cmps, c.slot = j.val → c.supp = false →
          (if e.field = 3 then c.sample = some (cl, ch) else c.closed = true)) ∧ s.keepsCells [F.MC_UREG_VALUE.key] t ∧ s.keepsMem t

/-- O29. When the next result of a pin forms in this tick: a masked compare forms none, and UNIT_PFAIL and UNIT_FVEC are
as they were. A counting compare that is ready (suppressed, or sampled and its window closed) is bad when it was
suppressed, when its window held an excursion, or when its state does not pass on the sampled comparators: when it is
not bad, UNIT_PFAIL of the pin is as it was; when it is bad, UNIT_PFAIL has risen by one (up to its greatest value),
and with no first fail recorded before it is the first fail, with its vector's index, strand and bead. -/
def Obligations.CompareResult : Prop :=
  ∀ (s : State) (l : Fin 16) (j : Fin 9) (v : VRec) (c : Cmp), nextCmp (s.leaf l.val).vrecs j.val = some (v, c) →
    c.inst < tickAt (s.tick + 1) →
    (c.counts = false → ∃ t, exec (.compareResult l j) s = .next t ∧
      (∀ i, t.rd F.UNIT_PFAIL_COUNT i = s.rd F.UNIT_PFAIL_COUNT i) ∧ (∀ i, t.rd F.UNIT_FVEC_COUNT i = s.rd F.UNIT_FVEC_COUNT i) ∧ s.keepsMem t) ∧
    (∀ a b bad, c.counts = true → c.ready = true → c.sample.getD (false, false) = (a, b) →
      bad = (c.supp || (c.window && c.exc.isSome) || !cmpPass c.state a b) →
      ∃ t, exec (.compareResult l j) s = .next t ∧
        (bad = false → t.rd F.UNIT_PFAIL_COUNT (l.val * 9 + j.val) = s.rd F.UNIT_PFAIL_COUNT (l.val * 9 + j.val)) ∧
        (bad = true →
          t.rd F.UNIT_PFAIL_COUNT (l.val * 9 + j.val) = min (s.rd F.UNIT_PFAIL_COUNT (l.val * 9 + j.val) + 1) (2 ^ 32 - 1) ∧
          (s.rd F.UNIT_FF_POS_VALID l.val = 0 → t.rd F.UNIT_FF_POS_VALID l.val = 1 ∧ t.rd F.UNIT_FF_POS_VINDEX l.val = v.vindex % 2 ^ 48 ∧
            t.rd F.UNIT_FF_WHERE_STRAND l.val = v.strand % 2 ^ 16 ∧ t.rd F.UNIT_FF_WHERE_BEAD l.val = v.bead % 2 ^ 24)) ∧
        s.keepsMem t)

/-- O30. A leaf in play of a pattern stands at a boundary whose launch edge is due in this tick, in no hold and with no
abort due there, nothing replayed; n is what follows. With no routine late: when the run stops there, the leaf has
ended its run and its queue is empty; when the bead's slot passes the checks, it is the current bead, at its first
vector; when it cannot be filled, the leaf holds (HOLDING reads 1) where the strand's policy is to hold, else it is
asked to abort with the fault's cause at its place; when the descriptor is unused, it is asked to abort with
UNUSED_STRAND (0x05) and UNDERRUN reads 1. With a routine that may change the flow not done there, and no hold to
come, it is asked to abort with MICRO_LATE (0x07). The header parity words par are any. No byte of memory changes. -/
def Obligations.BeadBoundary : Prop :=
  ∀ (s : State) (l par : Fin 16) (le : Nat) (n : NextB) (m : State), (s.leaf l.val).raster = false → (s.leaf l.val).phase = .play → (s.leaf l.val).bdue = true →
    (s.leaf l.val).hold = none → (s.leaf l.val).vhold = false → (s.leaf l.val).abortNow (s.atEnd l.val) = [] →
    s.jn.replay.active = false → le = edgeOf (s.leaf l.val).nextStart → le < tickAt (s.tick + 1) → s.nextB l.val le = n →
    m = s.moveTo l.val le n →
    (s.missedFlow l.val = none → n.stop = true →
      ∃ t, exec (.beadBoundary ⟨l, par⟩) s = .next t ∧ (t.leaf l.val).phase = .ended ∧ (t.leaf l.val).queue = [] ∧ s.keepsMem t) ∧
    (∀ k, s.missedFlow l.val = none → n.stop = false → m.beadCheck l.val le true par.val = .ok k →
      ∃ t, exec (.beadBoundary ⟨l, par⟩) s = .next t ∧ (t.leaf l.val).bdue = false ∧ (t.leaf l.val).off = 0 ∧
        (t.leaf l.val).beadSeq = (s.leaf l.val).beadSeq + 1 ∧ t.rd F.UNIT_STATUS_CUR_BEAD l.val = n.bead % 2 ^ 24 ∧
        t.rd F.UNIT_STATUS_CUR_STRAND l.val = n.strand % 2 ^ 16 ∧ s.keepsMem t) ∧
    (∀ f, n.stop = false → m.beadCheck l.val le true par.val = .fault f →
      (m.holds l.val n.strand = true → ∃ t h, exec (.beadBoundary ⟨l, par⟩) s = .next t ∧ (t.leaf l.val).hold = some h ∧ h.cause = f ∧
        t.rd F.UNIT_STATUS_HOLDING l.val = 1 ∧ s.keepsMem t) ∧
      (m.holds l.val n.strand = false → s.missedFlow l.val = none → ∃ t a, exec (.beadBoundary ⟨l, par⟩) s = .next t ∧
        (t.leaf l.val).aborts = (s.leaf l.val).aborts ++ [a] ∧ a.cause = f ∧ a.notBefore = (s.leaf l.val).nextStart ∧ s.keepsMem t)) ∧
    (s.missedFlow l.val = none → n.stop = false → m.beadCheck l.val le true par.val = .unused →
      ∃ t a, exec (.beadBoundary ⟨l, par⟩) s = .next t ∧ (t.leaf l.val).aborts = (s.leaf l.val).aborts ++ [a] ∧ a.cause = 5 ∧
        t.rd F.UNIT_STATUS_UNDERRUN l.val = 1 ∧ s.keepsMem t) ∧
    (∀ d, s.missedFlow l.val = some d → n.stop = true ∨ m.willHold l.val (m.beadCheck l.val le true par.val) = false →
      ∃ t a, exec (.beadBoundary ⟨l, par⟩) s = .next t ∧ (t.leaf l.val).aborts = (s.leaf l.val).aborts ++ [a] ∧ a.cause = 7 ∧ s.keepsMem t)

/-- O31. A leaf in play holds after len held vectors, nothing replayed, no abort due, and what it waited for is ready 16
base cycles before its place. Inside a bead, when the bead's slot has landed with no fault and the held vector itself
has none, HOLD_RESUME queues the held vector anew; at a boundary, with no jump latched and no routine late, when the
bead's slot passes the checks, HOLD_RESUME makes it the current bead at its first vector. Either way it ends the hold,
adds len to UNIT_HOLD_GAP (up to its greatest value) and clears HOLDING. When the hold's limit passes in this tick,
HOLD_TIMEOUT asks for an abort with HOLD_TIMEOUT (0x0A) from the tick boundary at which it expires. No byte of memory
changes. -/
def Obligations.HoldEnds : Prop :=
  (∀ (s : State) (l par : Fin 16) (h : Hold) (r k : Nat), (s.leaf l.val).phase = .play → (s.leaf l.val).hold = some h → h.forced = none →
    h.ready = some r → r + 16 * 1024 ≤ (s.leaf l.val).nextStart → (s.leaf l.val).nextStart < tickAt (s.tick + 1) →
    (s.leaf l.val).abortNow false = [] → s.jn.replay.active = false →
    ((s.leaf l.val).bdue = false → s.slotAt l.val (s.leaf l.val).beadSeq (s.leaf l.val).strand (s.leaf l.val).bead = some k →
      ((s.cache l.val).slot k).landed ≠ none → s.beadFault ((s.cache l.val).slot k) (s.leaf l.val).strand (s.leaf l.val).bead = none →
      vecFault (beadWord ((s.cache l.val).slot k).payload (s.leaf l.val).off) (s.leaf l.val).last.isEmpty = none →
      ∃ t q, exec (.holdResume ⟨l, par⟩) s = .next t ∧ (t.leaf l.val).hold = none ∧ t.rd F.UNIT_STATUS_HOLDING l.val = 0 ∧
        t.rd F.UNIT_HOLD_GAP_GAP l.val = min (s.rd F.UNIT_HOLD_GAP_GAP l.val + h.len) (2 ^ 48 - 1) ∧ (t.leaf l.val).queue = [q] ∧
        q.word = beadWord ((s.cache l.val).slot k).payload (s.leaf l.val).off ∧ s.keepsMem t) ∧
    ((s.leaf l.val).bdue = true → jumpWinner (s.leaf l.val).jumps (edgeOf (s.leaf l.val).nextStart) = none → s.missedFlow l.val = none →
      s.beadCheck l.val (edgeOf (s.leaf l.val).nextStart) false par.val = .ok k →
      ∃ t, exec (.holdResume ⟨l, par⟩) s = .next t ∧ (t.leaf l.val).hold = none ∧ t.rd F.UNIT_STATUS_HOLDING l.val = 0 ∧
        t.rd F.UNIT_HOLD_GAP_GAP l.val = min (s.rd F.UNIT_HOLD_GAP_GAP l.val + h.len) (2 ^ 48 - 1) ∧ (t.leaf l.val).bdue = false ∧
        (t.leaf l.val).off = 0 ∧ (t.leaf l.val).beadSeq = (s.leaf l.val).beadSeq + 1 ∧ s.keepsMem t)) ∧
  (∀ (s : State) (l : Fin 16) (k : Nat), (s.leaf l.val).phase = .play → s.holdLimit l.val = some k → s.holdExpired l.val = true →
    k ≤ s.tick → ∃ t a, exec (.holdTimeout l) s = .next t ∧ (t.leaf l.val).aborts = (s.leaf l.val).aborts ++ [a] ∧ a.cause = 0x0A ∧
      a.notBefore = tickAt k ∧ s.keepsMem t)

/-- O32. When a leaf has ended its run, all its results are formed and its last result's instant is due, RUN_COMPLETION
leaves it DONE. When an abort a governs at the place of a leaf in play, and that place is due in this tick,
ABORT_TAKE_EFFECT leaves the leaf ABORTED with the cause of a and the unit of the run's first abort, no edge is left
that would be placed at or after that place, and a slot whose SAFE code is D0 or D1 in the SAFE of the strand R91
names (a byte of 216 leaves its three pins as they are) drives that level. When an abort sampled before its start tick
governs a leaf that is armed, ABORT_TAKE_EFFECT leaves it ABORTED with UNIT_VCOUNT 0, its pins as they were, and the
unit's start not pending. -/
def Obligations.RunEnds : Prop :=
  (∀ (s : State) (l : Fin 16), (s.leaf l.val).phase = .ended → (s.leaf l.val).lastRes < tickAt (s.tick + 1) →
    (s.leaf l.val).vrecs.all (fun v => v.done) = true →
    ∃ t, exec (.runCompletion l) s = .next t ∧ t.rd F.UNIT_STATUS_STATE l.val = 2 ∧ (t.leaf l.val).phase = .off ∧ s.keepsMem t) ∧
  (∀ (s : State) (l : Fin 16) (a : AbortReq), (s.leaf l.val).phase = .play → (s.leaf l.val).vhold = false →
    chooseAbort ((s.leaf l.val).abortNow (s.atEnd l.val)) = some a → (s.leaf l.val).nextStart < tickAt (s.tick + 1) →
    ∃ t, exec (.abortTakeEffect l) s = .next t ∧ t.rd F.UNIT_STATUS_STATE l.val = 3 ∧ t.rd F.UNIT_STATUS_CAUSE l.val = a.cause % 2 ^ 8 ∧
      t.rd F.UNIT_ABORT_SRC_SRC_UNIT l.val = (s.firstSrc l.val a).1 % 2 ^ 10 ∧ (t.leaf l.val).phase = .off ∧
      (∀ e ∈ (t.leaf l.val).edges, e.placed < (s.leaf l.val).nextStart) ∧
      (∀ (j : Fin 9) (b : Nat), (s.leaf l.val).raster = false → b = bits (dSafe (s.desc (s.safeStrand l.val a.cause))) (8 * (j.val / 3)) 8 →
        b < 216 →
        (b / 6 ^ (j.val % 3) % 6 = 0 → Table.get? (t.leaf l.val).drv j.val = some { on := true, high := false, term := 3 }) ∧
        (b / 6 ^ (j.val % 3) % 6 = 1 → Table.get? (t.leaf l.val).drv j.val = some { on := true, high := true, term := 3 })) ∧ s.keepsMem t) ∧
  (∀ (s : State) (l : Fin 16) (a : AbortReq), (s.leaf l.val).phase = .armed → (s.leaf l.val).vhold = false →
    chooseAbort ((s.leaf l.val).aborts.filter (fun a => a.vec.isNone && decide (a.notBefore < tickAt (s.leaf l.val).startTick))) = some a →
    a.notBefore < tickAt (s.tick + 1) →
    ∃ t, exec (.abortTakeEffect l) s = .next t ∧ t.rd F.UNIT_STATUS_STATE l.val = 3 ∧ t.rd F.UNIT_STATUS_CAUSE l.val = a.cause % 2 ^ 8 ∧
      t.rd F.UNIT_VCOUNT_VCOUNT l.val = 0 ∧ (t.unit (s.leaf l.val).unit).pending = none ∧ (t.leaf l.val).phase = .off ∧
      (t.leaf l.val).drv = (s.leaf l.val).drv ∧ s.keepsMem t)

/-- O33. A write of the 32 bytes of one descriptor, aligned, that this module serves, is answered by R63's checks: when
the submitted descriptor d passes them, the answer is OK and the strand's descriptor is d with RESIDENCY 0
(UNPLANNED), no other strand's descriptor changes; when it fails with reason r, the answer is rejected with r and no
descriptor changes. WRITEB of the same bytes does the same. No byte of DRAM or SRAM changes. -/
def Obligations.DescriptorWrite : Prop :=
  ∀ (s : State) (h : Hdr) (id : Fin 65536) (data : List Byte) (d : Nat), data.length = 32 →
    d = submitDesc (s.desc id.val) ((Table.get? s.strands.staged id.val).getD []) (bytesFor (id.val * 32) id.val data) →
    s.serves h (0x400000 + id.val * 32) (.writeb data) →
    ∃ t, exec (.strandDescriptorWrite h (BitVec.ofNat 40 (0x400000 + id.val * 32)) data) s = .next t ∧
      exec (.writeb h (BitVec.ofNat 40 (0x400000 + id.val * 32)) data) s = .next t ∧ s.keepsBytes t ∧
      (s.descRefused id.val d = none → t.told h .ok ∧ t.desc id.val = dPlanned d 0 (dHome d) (dReplica d) (dRepValid d) ∧ dRes (t.desc id.val) = 0 ∧
        (∀ k, k ≠ id.val → t.desc k = s.desc k) ∧ s.keepsCells [F.PL_STATUS_REPLAN.key] t) ∧
      (∀ r, s.descRefused id.val d = some r → t.told h (.rejected r 0) ∧ (∀ k, t.desc k = s.desc k) ∧ s.keepsCells rejectKeys t)

/-- O34. For a working copy whose U register dst holds a below 2^32 and an operand b below 2^32: ADD leaves (a + b) mod
2^32 with C set on a carry out; SUB leaves (a - b) mod 2^32 with C set when a is at least b; AND, OR and XOR leave the
bitwise result with C clear; SHL and SHR by a distance k of 1 to 31 leave a shifted, C being the last bit shifted out;
DEC leaves (a - 1) mod 2^32; CMP and TST leave every U register as it was; SETCB sets CB0 to CB7 alone. Z and N follow
the result wherever it sets flags. -/
def Obligations.AluOperations : Prop :=
  ∀ (c : Ctx) (dst b : Nat), c.ureg dst < 2 ^ 32 → b < 2 ^ 32 →
    ((aluExec c 2 dst b).ureg dst = (c.ureg dst + b) % 2 ^ 32 ∧ (aluExec c 2 dst b).c = decide (2 ^ 32 ≤ c.ureg dst + b)) ∧
    ((aluExec c 3 dst b).ureg dst = (2 ^ 32 + c.ureg dst - b) % 2 ^ 32 ∧ (aluExec c 3 dst b).c = decide (b ≤ c.ureg dst)) ∧
    ((aluExec c 4 dst b).ureg dst = c.ureg dst &&& b ∧ (aluExec c 5 dst b).ureg dst = c.ureg dst ||| b ∧
      (aluExec c 6 dst b).ureg dst = c.ureg dst ^^^ b ∧ (aluExec c 4 dst b).c = false ∧ (aluExec c 5 dst b).c = false ∧
      (aluExec c 6 dst b).c = false) ∧
    (∀ k, 1 ≤ k → k ≤ 31 → b % 32 = k →
      (aluExec c 7 dst b).ureg dst = (c.ureg dst <<< k) % 2 ^ 32 ∧ (aluExec c 7 dst b).c = (c.ureg dst).testBit (32 - k) ∧
      (aluExec c 8 dst b).ureg dst = c.ureg dst >>> k ∧ (aluExec c 8 dst b).c = (c.ureg dst).testBit (k - 1)) ∧
    ((aluExec c 12 dst b).ureg dst = (2 ^ 32 + c.ureg dst - 1) % 2 ^ 32) ∧
    ((aluExec c 9 dst b).u = c.u ∧ (aluExec c 10 dst b).u = c.u ∧ (aluExec c 9 dst b).z = decide (c.ureg dst = b)) ∧
    ((aluExec c 11 dst b).cb = b % 256 ∧ (aluExec c 11 dst b).u = c.u ∧ (aluExec c 11 dst b).z = c.z) ∧
    (∀ op, op ∈ [2, 3, 4, 5, 6, 7, 8, 12] → (aluExec c op dst b).z = decide ((aluExec c op dst b).ureg dst = 0) ∧
      (aluExec c op dst b).n = ((aluExec c op dst b).ureg dst).testBit 31 ∧ ∀ j, j ≠ dst → (aluExec c op dst b).ureg j = c.ureg j)

/-- O35. A routine runs at a microword without TICKWAIT, whose loop operation raises no fault, with no interrupt to be
taken before it, its microcycle due in this tick; one with COMMIT asks nothing of its vector, its strand or the
events, nothing is pending and no arm slot is waited for. Then NEXT goes to the next word (0 after 4095), JUMP to
ADDR, BRANCH_T to ADDR when its condition, as evaluated, holds and to the next word otherwise, BRANCH_F the other way
round, CALL to ADDR with the next word's address pushed on the call stack (its top 4 kept), RETURN to the address
popped. The engine's time moves on by one base cycle and the working values take the ALU's and the loop operation's
result; with COMMIT they become the committed values and the routine resumes there, else the committed values stay.
Where the condition is not journalled, no register cell but MC_UREG, whose earlier commits may come due, changes; no
byte of memory does. -/
def Obligations.Microwords : Prop :=
  ∀ (s : State) (l : Fin 16) (r : Routine) (w : Nat) (c : Ctx), (s.eng l.val).run = some r → s.uword r.pc = w →
    uTickwait w = false → r.tickTo = none → (s.eng l.val).intFirst r w = false → (s.eng l.val).t < tickAt (s.tick + 1) →
    loopOp (aluExec (s.eng l.val).c (uAlu w) (uUdst w) (uOperand (s.eng l.val).c r.d.hdr (s.vindexOf l.val r.d.qid) w)) (s.leaf l.val).loops.length
      (uLoopop w) (uOperand (s.eng l.val).c r.d.hdr (s.vindexOf l.val r.d.qid) w) = some c →
    (uCommit w = true → r.pendV = [] ∧ r.pendE = [] ∧ uVact w = 0 ∧ uSact w = 0 ∧ uEvent w = 0 ∧ uLoopop w ≠ 1 ∧ uLoopop w ≠ 2 ∧
      armStall (s.eng l.val) [] = false) →
    ∀ (i : Instr) (cond : Bool) (pc : Nat) (calls : List Nat),
      cond = (s.evalCond l.val r.d (s.eng l.val).c (s.eng l.val).t (uCond w)).2 →
      ((i = .seqNext l ∧ uSeq w = 0 ∧ pc = (r.pc + 1) % 4096 ∧ calls = c.calls) ∨
       (i = .seqJump l ∧ uSeq w = 1 ∧ pc = uAddr w ∧ calls = c.calls) ∨
       (i = .branchT l ∧ uSeq w = 2 ∧ calls = c.calls ∧ pc = if cond then uAddr w else (r.pc + 1) % 4096) ∨
       (i = .branchF l ∧ uSeq w = 3 ∧ calls = c.calls ∧ pc = if cond then (r.pc + 1) % 4096 else uAddr w) ∨
       (i = .call l ∧ uSeq w = 4 ∧ pc = uAddr w ∧ calls = ((r.pc + 1) % 4096 :: c.calls).take 4) ∨
       (i = .ret l ∧ uSeq w = 5 ∧ pc = c.calls.headD 0 ∧ calls = c.calls.drop 1)) →
      ∃ t r', exec i s = .next t ∧ (t.eng l.val).run = some r' ∧ r'.pc = pc ∧ r'.d = r.d ∧ (t.eng l.val).c = { c with calls := calls } ∧
        (t.eng l.val).t = (s.eng l.val).t + 1024 ∧ (uCommit w = false → (t.eng l.val).w = (s.eng l.val).w) ∧
        (uCommit w = true → (t.eng l.val).w = { c with calls := calls } ∧ r'.saved = pc) ∧
        (isJournalled (uCond w) = false → s.keepsCells [F.MC_UREG_VALUE.key] t) ∧ s.keepsMem t

/-- O36. A routine runs with no effect pending, no interrupt to be taken and no arm slot waited for, its microcycle due in
this tick, at a microword with no vector action, strand action, event or loop operation. WAIT (with COMMIT) stays at
its word, waiting, while its condition, as evaluated, is false and goes to the next word when it is true. DONE ends
the routine, and the committed values are the working copy with the micro loops and the call stack empty. TICKWAIT
commits what came before it and begins to wait for the next tick boundary at its own word. -/
def Obligations.WaitDoneTickwait : Prop :=
  ∀ (s : State) (l : Fin 16) (r : Routine) (w : Nat) (c : Ctx), (s.eng l.val).run = some r → s.uword r.pc = w → r.tickTo = none → r.pendV = [] →
    r.pendE = [] → uLoopop w = 0 → uVact w = 0 → uSact w = 0 → uEvent w = 0 → (s.eng l.val).intFirst r w = false →
    armStall (s.eng l.val) [] = false → (s.eng l.val).t < tickAt (s.tick + 1) →
    c = aluExec (s.eng l.val).c (uAlu w) (uUdst w) (uOperand (s.eng l.val).c r.d.hdr (s.vindexOf l.val r.d.qid) w) →
    (∀ cond, uSeq w = 7 → uTickwait w = false → uCommit w = true →
      cond = (s.evalCond l.val r.d (s.eng l.val).c (s.eng l.val).t (uCond w)).2 →
      ∃ t r', exec (.wait l) s = .next t ∧ (t.eng l.val).run = some r' ∧ (t.eng l.val).w = c ∧
        (cond = true → r'.pc = (r.pc + 1) % 4096 ∧ r'.waiting = false) ∧ (cond = false → r'.pc = r.pc ∧ r'.waiting = true) ∧ s.keepsMem t) ∧
    (uSeq w = 6 → uTickwait w = false →
      ∃ t, exec (.done l) s = .next t ∧ (t.eng l.val).run = none ∧ (t.eng l.val).w = { c with loops := [], calls := [] } ∧ s.keepsMem t) ∧
    (uTickwait w = true →
      ∃ t r', exec (.tickwait l) s = .next t ∧ (t.eng l.val).run = some r' ∧ r'.pc = r.pc ∧ r'.waiting = true ∧
        r'.tickTo = some (tickOf (s.eng l.val).t + 1) ∧ (t.eng l.val).w = (s.eng l.val).c ∧ s.keepsMem t)

/-- O37. With the engine free and no interrupt pending, ROUTINE_START runs the oldest dispatched routine from its entry's
address on the committed values with empty stacks. INTERRUPT_TAKEN of an abort (or a starvation that ends the run)
ends the routine and every other interrupt, takes the committed values and its handler's base cycles. Any other
interrupt that is next is taken with the engine free, or where the routine waits, has come to a commit point, or
follows a handler: its handler's base cycles pass, the other interrupts stay pending, and a routine resumes after its
last commit on the committed values. At the deadline of the next vector whose action is open, VECTOR_ACTION_DEADLINE
fixes it, and asks for a MICRO_LATE abort at that vector when a required action is not resolved and the vector is not
at fault. ROUTINE_START and INTERRUPT_TAKEN change no register cell, and none of the three a byte of memory. -/
def Obligations.RoutinesAndInterrupts : Prop :=
  (∀ (s : State) (l : Fin 16) (d : Disp) (rest : List Disp), (s.eng l.val).run = none → (s.eng l.val).fifo = d :: rest →
    (s.eng l.val).ints = [] → (s.eng l.val).later = [] →
    ∃ t r, exec (.routineStart l) s = .next t ∧ (t.eng l.val).run = some r ∧ r.d = d ∧ r.pc = eAddr d.entry ∧ (t.eng l.val).fifo = rest ∧
      (t.eng l.val).c = { (s.eng l.val).w with calls := [], loops := [] } ∧ s.keepsCells [] t ∧ s.keepsMem t) ∧
  (∀ (s : State) (l : Fin 16) (p : Nat) (b : Bool), (s.eng l.val).nextInt = some (p, b) →
    (intDiscards p = true → ∃ t, exec (.interruptTaken l) s = .next t ∧ (t.eng l.val).run = none ∧ (t.eng l.val).ints = [] ∧
      (t.eng l.val).later = [] ∧ (t.eng l.val).c = (s.eng l.val).w ∧ (t.eng l.val).t = edgeUp s.now + handlerCycles p * 1024 ∧
      s.keepsCells [] t ∧ s.keepsMem t) ∧
    (intDiscards p = false → (s.eng l.val).run = none → ∃ t, exec (.interruptTaken l) s = .next t ∧
      (t.eng l.val).ints = (s.eng l.val).takeInt.ints ∧ (t.eng l.val).later = (s.eng l.val).takeInt.later ∧ (t.eng l.val).run = none ∧
      (t.eng l.val).t = max (s.eng l.val).t (edgeUp s.now) + handlerCycles p * 1024 ∧ s.keepsCells [] t ∧ s.keepsMem t) ∧
    (∀ r, intDiscards p = false → (s.eng l.val).run = some r → b = true ∨ r.waiting = true ∨ isCommit (s.uword r.pc) = true →
      ∃ t r', exec (.interruptTaken l) s = .next t ∧ (t.eng l.val).run = some r' ∧ r'.pc = r.saved ∧ r'.d = r.d ∧
      (t.eng l.val).c = (s.eng l.val).w ∧ (t.eng l.val).ints = (s.eng l.val).takeInt.ints ∧ (t.eng l.val).later = (s.eng l.val).takeInt.later ∧
      (t.eng l.val).t = max (s.eng l.val).t (edgeUp s.now) + handlerCycles p * 1024 ∧ s.keepsCells [] t ∧ s.keepsMem t)) ∧
  (∀ (s : State) (l : Fin 16) (k t0 : Nat) (q : QEnt), findIx? (fun q => !q.act.fixed) (s.leaf l.val).queue = some k → s.startOf l.val k = some t0 →
    (s.leaf l.val).queue[k]? = some q → (s.leaf l.val).phase = .play ∨ (s.leaf l.val).phase = .armed → edgeOf t0 - 8 * 1024 < tickAt (s.tick + 1) →
    ∃ t, exec (.vectorActionDeadline l) s = .next t ∧ (∀ e ∈ (t.leaf l.val).queue, e.qid = q.qid → e.act.fixed = true) ∧
      (vecOp q.word ≠ 0 → eVreq (s.mc.dispatch.getD (hPage q.hdr * 16 + vecOp q.word) 0) = true → q.act.resolved = false → q.fault = none →
        ∃ a ∈ (t.leaf l.val).aborts, a.cause = 0x07 ∧ a.vec = some q.qid) ∧ s.keepsMem t)

/-- O38. LOAD that this module serves is answered OK and the module is LOADING when the load may begin and the source lies
in the capture area; else it is rejected BLOCK_REJECT with MC_REJECT's code 0x0A or 0x0B and no image is staged.
MC_LOAD_COMPLETE of a staged image that fails no check stores its words, its dispatch table, its version number and
LAST_OK 1; of one that fails the check of a code, MC_REJECT names that code and its offset, LAST_OK is 0 and the store
is as it was. No byte of memory changes. -/
def Obligations.ControlStoreLoad : Prop :=
  (∀ (s : State) (h : Hdr), s.serves h 0x20000 (.write64 1) →
    (s.loadOpen = true → s.inCapture (s.rd F.MC_SRC_ADDR_ADDR 0) (s.rd F.MC_SRC_LEN_LEN 0) = true →
      ∃ t, exec (.load h) s = .next t ∧ t.told h .ok ∧ t.rd F.MC_STATUS_STATE 0 = 1 ∧ t.mc.loading ≠ none ∧ t.mc.words = s.mc.words ∧ s.keepsMem t) ∧
    (s.loadOpen = false → ∃ t, exec (.load h) s = .next t ∧ t.told h (.rejected 0x38 0x0A) ∧ t.rd F.MC_REJECT_CODE 0 = 0x0A ∧
      t.mc = s.mc ∧ s.keepsMem t) ∧
    (s.loadOpen = true → s.inCapture (s.rd F.MC_SRC_ADDR_ADDR 0) (s.rd F.MC_SRC_LEN_LEN 0) = false →
      ∃ t, exec (.load h) s = .next t ∧ t.told h (.rejected 0x38 0x0B) ∧ t.rd F.MC_REJECT_CODE 0 = 0x0B ∧ t.mc = s.mc ∧ s.keepsMem t)) ∧
  (∀ (s : State) (b : List Byte), s.mc.loading = some b →
    (s.imageFault b = none → ∃ t, exec .mcLoadComplete s = .next t ∧ t.rd F.MC_STATUS_STATE 0 = 2 ∧ t.rd F.MC_STATUS_LAST_OK 0 = 1 ∧
      t.mc.words = (List.range 4096).map (imgWord b) ∧ t.mc.dispatch = (List.range 256).map (imgEntry b) ∧
      t.rd F.MC_VER_SVN 0 = imgSvn b % 2 ^ 32 ∧ t.mc.loading = none ∧ s.keepsMem t) ∧
    (∀ code off, s.imageFault b = some (code, off) → ∃ t, exec .mcLoadComplete s = .next t ∧ t.rd F.MC_REJECT_CODE 0 = code % 2 ^ 8 ∧
      t.rd F.MC_REJECT_OFFSET 0 = off % 2 ^ 24 ∧ t.rd F.MC_STATUS_LAST_OK 0 = 0 ∧ t.mc.words = s.mc.words ∧ t.mc.dispatch = s.mc.dispatch ∧
      t.mc.loading = none ∧ s.keepsMem t))

/-- O39. In writes this module serves: MC_OTP_KEY with 0x000000004F545021 opens the key for 1 ms, any other value
withdraws it; at its end OTP_KEY_EXPIRE withdraws it. With the key open, PROGRAM_SLOT of a slot not programmed sets
its bit of MC_OTP.PROG, REVOKE_SLOT sets the slot's bit of REVOKED when another live slot remains and is rejected with
STATE when none does, ADVANCE_SVN raises MIN_SVN to the image's number (at most 63) when that is greater; each
consumes the key. Without it each is rejected OTP_KEY (0x37). STACK_FAULT_CLEAR clears the bits of STACK_FAULT and
STACK_LEAVES that were not set in this base cycle, alone. No other register cell but a rejection's and no byte of
memory changes. -/
def Obligations.OtpCommands : Prop :=
  (∀ (s : State) (h : Hdr) (key : Word), s.serves h 0x20040 (.write64 key.toNat) → ∃ t, exec (.otpKeyOpen h key) s = .next t ∧ t.told h .ok ∧
    t.mc.keyOpen = (if key.toNat = 0x4F545021 then some (s.now + 1280000000) else none) ∧ s.keepsCells [] t ∧ s.keepsMem t) ∧
  (∀ (s : State) (e : Nat), s.mc.keyOpen = some e → e < tickAt (s.tick + 1) → ∃ t, exec .otpKeyExpire s = .next t ∧ t.mc.keyOpen = none ∧
    s.keepsCells [F.MC_UREG_VALUE.key] t ∧ s.keepsMem t) ∧
  (∀ (s : State) (h : Hdr) (k : Fin 4), s.otpOpen = true →
    (s.serves h 0x20048 (.write64 (4 * k.val)) → (s.rd F.MC_OTP_PROG 0).testBit k.val = false →
      ∃ t, exec (.programSlot h k) s = .next t ∧ t.told h .ok ∧ (t.rd F.MC_OTP_PROG 0).testBit k.val = true ∧
        Table.get? t.mc.otpHash k.val = some s.otpData ∧ t.mc.keyOpen = none ∧ s.keepsCells [F.MC_OTP_PROG.key] t ∧ s.keepsMem t) ∧
    (s.serves h 0x20048 (.write64 (1 + 4 * k.val)) →
      (s.liveSlots.filter (· != k.val) ≠ [] → ∃ t, exec (.revokeSlot h k) s = .next t ∧ t.told h .ok ∧
        (t.rd F.MC_OTP_REVOKED 0).testBit k.val = true ∧ t.mc.keyOpen = none ∧ s.keepsCells [F.MC_OTP_REVOKED.key] t ∧ s.keepsMem t) ∧
      (s.liveSlots.filter (· != k.val) = [] → ∃ t, exec (.revokeSlot h k) s = .next t ∧ t.told h (.rejected 0x09 0) ∧ t.mc.keyOpen = none ∧
        s.keepsCells rejectKeys t ∧ s.keepsMem t)) ∧
    (s.serves h 0x20048 (.write64 2) → s.rd F.MC_OTP_MIN_SVN 0 < s.rd F.MC_VER_SVN 0 → ∃ t, exec (.advanceSvn h) s = .next t ∧ t.told h .ok ∧
      t.rd F.MC_OTP_MIN_SVN 0 = min 63 (s.rd F.MC_VER_SVN 0) ∧ t.mc.keyOpen = none ∧ s.keepsCells [F.MC_OTP_MIN_SVN.key] t ∧ s.keepsMem t)) ∧
  (∀ (s : State) (h : Hdr) (k : Fin 4), s.otpOpen = false →
    (s.serves h 0x20048 (.write64 (4 * k.val)) → ∃ t, exec (.programSlot h k) s = .next t ∧ t.told h (.rejected 0x37 0) ∧ t.mc = s.mc ∧
      s.keepsCells rejectKeys t) ∧
    (s.serves h 0x20048 (.write64 (1 + 4 * k.val)) → ∃ t, exec (.revokeSlot h k) s = .next t ∧ t.told h (.rejected 0x37 0) ∧ t.mc = s.mc ∧
      s.keepsCells rejectKeys t) ∧
    (s.serves h 0x20048 (.write64 2) → ∃ t, exec (.advanceSvn h) s = .next t ∧ t.told h (.rejected 0x37 0) ∧ t.mc = s.mc ∧
      s.keepsCells rejectKeys t)) ∧
  (∀ (s : State) (h : Hdr), s.serves h 0x20008 (.write64 8) → ∃ t, exec (.stackFaultClear h) s = .next t ∧ t.told h .ok ∧
    (t.rd F.MC_STATUS_STACK_FAULT 0).testBit 0 =
      ((s.rd F.MC_STATUS_STACK_FAULT 0).testBit 0 && (s.hotOf F.MC_STATUS_STACK_FAULT 0).testBit 0) ∧
    (∀ i < 16, (t.rd F.MC_STATUS_STACK_LEAVES 0).testBit i =
      ((s.rd F.MC_STATUS_STACK_LEAVES 0).testBit i && (s.hotOf F.MC_STATUS_STACK_LEAVES 0).testBit i)) ∧
    s.keepsCells [F.MC_STATUS_STACK_FAULT.key, F.MC_STATUS_STACK_LEAVES.key] t ∧ s.keepsMem t)

/-- O40. SWAP of a leaf, in a write this module serves: when no check of R140 fails it is answered OK and the exchange is
pending; when the check of a code fails it is rejected BLOCK_REJECT with that code, TS_STATUS.REJECT holds the code
and LAST_SWAP_OK is 0. CANCEL of an exchange whose edge has not come withdraws it; once it has come, CANCEL is
answered OK and changes no register. TS_EXCHANGE, at the instant of a pending exchange in this tick, changes the roles
of the leaf's two banks, clears SWAP_PENDING, sets LAST_SWAP_OK and records where. No byte of memory changes. -/
def Obligations.BankExchange : Prop :=
  (∀ (s : State) (h : Hdr) (l : Fin 16), s.serves h (0x202000 + l.val * 0x4000) (.write64 1) →
    (s.swapFault l.val = none → ∃ t, exec (.swap h l) s = .next t ∧ t.told h .ok ∧ t.rd F.TS_STATUS_SWAP_PENDING l.val = 1 ∧
      s.keepsCells [F.TS_STATUS_SWAP_PENDING.key] t ∧ s.keepsMem t) ∧
    (∀ f, s.swapFault l.val = some f → ∃ t, exec (.swap h l) s = .next t ∧ t.told h (.rejected 0x38 f.1) ∧
      t.rd F.TS_STATUS_REJECT l.val = f.1 % 2 ^ 8 ∧ t.rd F.TS_STATUS_LAST_SWAP_OK l.val = 0 ∧
      t.rd F.TS_STATUS_SWAP_PENDING l.val = s.rd F.TS_STATUS_SWAP_PENDING l.val ∧ s.keepsMem t)) ∧
  (∀ (s : State) (h : Hdr) (l : Fin 16), s.serves h (0x202000 + l.val * 0x4000) (.write64 2) →
    ((∀ e, s.exchangeAt l.val = some e → s.now < edgeOf e.1) → (s.exchangeAt l.val = none → s.exchangeComes l.val = false) →
      ∃ t, exec (.cancel h l) s = .next t ∧ t.told h .ok ∧
      t.rd F.TS_STATUS_SWAP_PENDING l.val = 0 ∧ s.keepsCells [F.TS_STATUS_SWAP_PENDING.key] t ∧ s.keepsMem t) ∧
    (∀ e, s.exchangeAt l.val = some e → edgeOf e.1 ≤ s.now → ∃ t, exec (.cancel h l) s = .next t ∧ t.told h .ok ∧ s.keepsCells [] t ∧
      s.keepsMem t)) ∧
  (∀ (s : State) (l : Fin 16) (e : Nat × Nat), s.exchangeAt l.val = some e → e.1 < tickAt (s.tick + 1) →
    ∃ t, exec (.tsExchange l) s = .next t ∧ (t.leaf l.val).bank = 1 - (s.leaf l.val).bank ∧ t.rd F.TS_STATUS_SWAP_PENDING l.val = 0 ∧
      t.rd F.TS_STATUS_LAST_SWAP_OK l.val = 1 ∧ t.rd F.TS_SWAP_AT_WHERE l.val = e.2 % 2 ^ 2 ∧ s.keepsMem t)

/-- O41. A write of FL_CTL.RESET sets FL_WR and FL_RD to 0 and clears FULL; it and a write of FL_CFG (with RING_64K 1 to
64, no reserved bit and no overlap with a channel's buffer) are accepted only when no unit of the module is RUNNING or
start-pending, otherwise rejected and recorded; an accepted FL_CFG write that changes RING_64K also resets the ring,
one that does not leaves FL_WR and FL_RD; the start and the ends of a run do not touch them. All in writes this module
serves. -/
def Obligations.FailLogRing : Prop :=
  (∀ (s : State) (h : Hdr), s.serves h 0x300000 (.write64 1) →
    (s.anyBusy = false → ∃ t, exec (.flReset h) s = .next t ∧ t.told h .ok ∧ t.rd F.FL_WR_WR 0 = 0 ∧ t.rd F.FL_RD_RD 0 = 0 ∧
      (0 < t.flCap → t.flStatus.testBit 19 = false) ∧ s.keepsCells [F.FL_WR_WR.key, F.FL_RD_RD.key] t ∧ s.keepsMem t) ∧
    (s.anyBusy = true → ∃ t, exec (.flReset h) s = .next t ∧ t.told h (.rejected 0x09 0) ∧
      t.rd F.GLB_ERR_COUNT_COUNT 0 = min (s.rd F.GLB_ERR_COUNT_COUNT 0 + 1) (2 ^ 32 - 1) ∧ s.keepsCells rejectKeys t ∧ s.keepsMem t)) ∧
  (∀ (s : State) (h : Hdr) (d : Word), s.serves h 0x300008 (.write64 d.toNat) → d.toNat < 2 ^ 32 → bits d.toNat 7 9 = 0 →
    1 ≤ bits d.toNat 0 7 → bits d.toNat 0 7 ≤ 64 →
    (s.anyBusy = false → s.acqOverlap 0 (16 * bits d.toNat 0 7) = false → ∃ t, exec (.flCfgWrite h d) s = .next t ∧ t.told h .ok ∧
      t.rd F.FL_CFG_RING_64K 0 = bits d.toNat 0 7 ∧ t.rd F.FL_CFG_LEAF_EN 0 = bits d.toNat 16 16 ∧
      (bits d.toNat 0 7 ≠ s.rd F.FL_CFG_RING_64K 0 → t.rd F.FL_WR_WR 0 = 0 ∧ t.rd F.FL_RD_RD 0 = 0) ∧
      (bits d.toNat 0 7 = s.rd F.FL_CFG_RING_64K 0 → t.rd F.FL_WR_WR 0 = s.rd F.FL_WR_WR 0 ∧ t.rd F.FL_RD_RD 0 = s.rd F.FL_RD_RD 0) ∧ s.keepsMem t) ∧
    (s.anyBusy = true → ∃ t, exec (.flCfgWrite h d) s = .next t ∧ t.told h (.rejected 0x09 0) ∧
      t.rd F.GLB_ERR_COUNT_COUNT 0 = min (s.rd F.GLB_ERR_COUNT_COUNT 0 + 1) (2 ^ 32 - 1) ∧ s.keepsCells rejectKeys t ∧ s.keepsMem t)) ∧
  (∀ (s : State) (u : UnitRef) (late : Option (Fin 16 × Fin 16)) (l : Fin 16) (i : Instr),
    i = .runStart ⟨u, late⟩ ∨ i = .runCompletion l ∨ i = .abortTakeEffect l →
    ∃ t, exec i s = .next t ∧ t.rd F.FL_WR_WR 0 = s.rd F.FL_WR_WR 0 ∧ t.rd F.FL_RD_RD 0 = s.rd F.FL_RD_RD 0)

/-- O42. With a record w of leaf l at the head of the queue, which the writer can take (its instant has come, the write
port has room and no other was taken in this base cycle), below the leaf's FL_LIMIT (0: none) and with room in the
ring, FAIL_LOG_WRITE stores the 16 bytes of the record, with its FIRST and DROPPED_BEFORE bits, at ring index FL_WR
modulo the capacity, adds one to FL_WR (modulo 2^32), takes the record from the queue, and changes no other byte of
the SRAM. With the ring full the record is dropped: FL_DROPPED rises by one (up to its greatest value) and no byte
changes; with the leaf's limit reached it is dropped and FL_LIMITED rises by one instead. A write of FL_RD that this
module serves is accepted when the new value lies between the old FL_RD and FL_WR modulo 2^32, else rejected with
RANGE and FL_RD stays. -/
def Obligations.FailLogRecords : Prop :=
  (∀ (s : State) (key w : Nat) (rest : List (Nat × Nat)) (x : Leaf), s.fl.queue = (key, w) :: rest → s.leaf (key % 16) = x →
    s.flReady key = true →
    (s.rd F.FL_LIMIT_MAX (key % 16) ≠ 0 → s.rd F.FL_LIMIT_MAX (key % 16) ≤ x.flCount → ∃ t, exec .failLogWrite s = .next t ∧
      t.rd F.FL_LIMITED_COUNT 0 = min (s.rd F.FL_LIMITED_COUNT 0 + 1) (2 ^ 32 - 1) ∧ t.rd F.FL_WR_WR 0 = s.rd F.FL_WR_WR 0 ∧ t.fl.queue = rest ∧
      s.keepsMem t) ∧
    (s.rd F.FL_LIMIT_MAX (key % 16) = 0 ∨ x.flCount < s.rd F.FL_LIMIT_MAX (key % 16) → s.flOcc < s.flCap → ∃ t, exec .failLogWrite s = .next t ∧ t.rd F.FL_WR_WR 0 = (s.rd F.FL_WR_WR 0 + 1) % 2 ^ 32 ∧ t.fl.queue = rest ∧
      (∀ i < 16, Table.get? t.sram.mem (16 * (s.rd F.FL_WR_WR 0 % s.flCap) + i) =
        (toBytes 16 (w + (if x.minFail = some (failIndex w) then 2 ^ 87 else 0) + (if x.flLost then 2 ^ 88 else 0)))[i]?) ∧
      (∀ a, a < 16 * (s.rd F.FL_WR_WR 0 % s.flCap) ∨ 16 * (s.rd F.FL_WR_WR 0 % s.flCap) + 16 ≤ a → t.sramByte a = s.sramByte a) ∧
      (∀ a, t.dram.byte a = s.dram.byte a)) ∧
    (s.rd F.FL_LIMIT_MAX (key % 16) = 0 ∨ x.flCount < s.rd F.FL_LIMIT_MAX (key % 16) → s.flCap ≤ s.flOcc → ∃ t, exec .failLogWrite s = .next t ∧
      t.rd F.FL_DROPPED_COUNT 0 = min (s.rd F.FL_DROPPED_COUNT 0 + 1) (2 ^ 32 - 1) ∧ t.rd F.FL_WR_WR 0 = s.rd F.FL_WR_WR 0 ∧ t.fl.queue = rest ∧
      s.keepsMem t)) ∧
  (∀ (s : State) (h : Hdr) (d : Word), s.serves h 0x300018 (.write64 d.toNat) → d.toNat < 2 ^ 32 →
    ((d.toNat + 2 ^ 32 - s.rd F.FL_RD_RD 0) % 2 ^ 32 ≤ s.flOcc → ∃ t, exec (.flRdWrite h d) s = .next t ∧ t.told h .ok ∧
      t.rd F.FL_RD_RD 0 = d.toNat ∧ s.keepsMem t) ∧
    (s.flOcc < (d.toNat + 2 ^ 32 - s.rd F.FL_RD_RD 0) % 2 ^ 32 → ∃ t, exec (.flRdWrite h d) s = .next t ∧ t.told h (.rejected 0x02 0) ∧
      t.rd F.FL_RD_RD 0 = s.rd F.FL_RD_RD 0 ∧ s.keepsMem t))

/-- O43. In writes of ACQ_CTL that this module serves: ARM that fails no check of R176 is answered OK; the channel's data
and counters are cleared, it starts collecting at the next tick boundary, ACQ_POST_EFF is 0 for SOURCE NONE, POST when
PRE + POST fits the capacity C and C - PRE when it does not, and POST_CLIPPED says which. ARM that fails the check of
a code is rejected BLOCK_REJECT with it, ACQ_STAT.REJECT holds it, and the channels are as they were. STOP of a
channel filling, armed or triggered, or DONE by a trigger that registered on this edge, ends it STOPPED with no page
open; otherwise it changes no register. FORCE of an ARMED channel triggers it at the next tick boundary, in the fill
it adds one to ACQ_IGN_TRIG, in any other state it does nothing. CLEAR takes a channel DONE or STOPPED with no arm
waiting to IDLE and is rejected STATE otherwise. None writes DRAM, but a STOP on the edge of the trigger, which takes
the trigger's mark out of its page. -/
def Obligations.ChannelCommands : Prop :=
  ∀ (s : State) (h : Hdr) (n : Fin 8),
    (s.serves h (0x310100 + 0x100 * n.val) (.write64 1) →
      (s.acqArmFault n.val = none → ∃ t, exec (.armChannel h n) s = .next t ∧ t.told h .ok ∧ t.acqCh n.val = { armAt := some (s.tick + 1) } ∧
        t.rd F.ACQ_IGN_TRIG_COUNT n.val = 0 ∧ t.rd F.ACQ_LATE_TRIG_COUNT n.val = 0 ∧ t.rd F.ACQ_GAPS_COUNT n.val = 0 ∧
        t.rd F.ACQ_LOST_COUNT n.val = 0 ∧ t.rd F.ACQ_TRIG_LOC_VALID n.val = 0 ∧ t.rd F.ACQ_SEQ_WR n.val = 0 ∧ t.rd F.ACQ_STAT_SHORT n.val = 0 ∧
        t.rd F.ACQ_STAT_GAP_SEEN n.val = 0 ∧ t.acqState n.val = s.acqState n.val ∧
        (s.acqSource n.val = 0 → t.rd F.ACQ_POST_EFF_COUNT n.val = 0 ∧ t.rd F.ACQ_STAT_POST_CLIPPED n.val = 0) ∧
        (s.acqSource n.val ≠ 0 → s.rd F.ACQ_PRE_COUNT n.val + s.rd F.ACQ_POST_COUNT n.val ≤ s.acqCap n.val →
          t.rd F.ACQ_POST_EFF_COUNT n.val = s.rd F.ACQ_POST_COUNT n.val % 2 ^ 32 ∧ t.rd F.ACQ_STAT_POST_CLIPPED n.val = 0) ∧
        (s.acqSource n.val ≠ 0 → s.acqCap n.val < s.rd F.ACQ_PRE_COUNT n.val + s.rd F.ACQ_POST_COUNT n.val →
          t.rd F.ACQ_POST_EFF_COUNT n.val = (s.acqCap n.val - s.rd F.ACQ_PRE_COUNT n.val) % 2 ^ 32 ∧ t.rd F.ACQ_STAT_POST_CLIPPED n.val = 1) ∧
        (∀ m, m ≠ n.val → t.acqCh m = s.acqCh m) ∧ s.keepsMem t) ∧
      (∀ code, s.acqArmFault n.val = some code → ∃ t, exec (.armChannel h n) s = .next t ∧ t.told h (.rejected 0x38 code) ∧
        t.rd F.ACQ_STAT_REJECT n.val = code % 2 ^ 8 ∧ t.acq = s.acq ∧ s.keepsCells (F.ACQ_STAT_REJECT.key :: rejectKeys) t ∧ s.keepsMem t)) ∧
    (s.serves h (0x310100 + 0x100 * n.val) (.write64 2) →
      (s.acqLive n.val = true ∨ (s.acqState n.val = 4 ∧ ∃ old, (s.acqCh n.val).trigEdge = some (edgeUp s.now, old)) →
        ∃ t, exec (.acqStop h n) s = .next t ∧ t.told h .ok ∧ t.acqState n.val = 5 ∧ (t.acqCh n.val).pages = [] ∧ (t.acqCh n.val).occ = [] ∧
          ((∀ e, (s.acqCh n.val).trigEdge = some e → e.1 ≠ edgeUp s.now) → ∀ a, t.dram.byte a = s.dram.byte a)) ∧
      (s.acqLive n.val = false → (∀ e, (s.acqCh n.val).trigEdge = some e → e.1 ≠ edgeUp s.now) → ∃ t, exec (.acqStop h n) s = .next t ∧ t.told h .ok ∧ t.acq = s.acq ∧ s.keepsCells [] t ∧ s.keepsMem t)) ∧
    (s.serves h (0x310100 + 0x100 * n.val) (.write64 4) →
      (s.acqState n.val = 2 → ∃ t, exec (.acqForce h n) s = .next t ∧ t.told h .ok ∧
        (t.acqCh n.val).occ = (s.acqCh n.val).occ ++ [{ inst := tickAt (s.tick + 1), force := true }] ∧ s.keepsCells [] t ∧ s.keepsMem t) ∧
      (s.acqState n.val = 1 → ∃ t, exec (.acqForce h n) s = .next t ∧ t.told h .ok ∧ t.acq = s.acq ∧
        t.rd F.ACQ_IGN_TRIG_COUNT n.val = min (s.rd F.ACQ_IGN_TRIG_COUNT n.val + 1) (2 ^ 32 - 1) ∧
        s.keepsCells (F.ACQ_IGN_TRIG_COUNT.key :: F.ACQ_GSTATUS_SAT.key :: eventKeys) t ∧ s.keepsMem t) ∧
      (s.acqState n.val ≠ 1 → s.acqState n.val ≠ 2 → ∃ t, exec (.acqForce h n) s = .next t ∧ t.told h .ok ∧ t.acq = s.acq ∧
        s.keepsCells [] t ∧ s.keepsMem t)) ∧
    (s.serves h (0x310100 + 0x100 * n.val) (.write64 8) →
      (s.acqState n.val = 4 ∨ s.acqState n.val = 5 → (s.acqCh n.val).armAt = none → ∃ t, exec (.clearChannel h n) s = .next t ∧ t.told h .ok ∧ t.acqState n.val = 0 ∧
        t.acq = s.acq ∧ s.keepsCells [F.ACQ_STAT_STATE.key] t ∧ s.keepsMem t) ∧
      ((s.acqState n.val ≠ 4 ∧ s.acqState n.val ≠ 5) ∨ (s.acqCh n.val).armAt ≠ none → ∃ t, exec (.clearChannel h n) s = .next t ∧ t.told h (.rejected 0x09 0) ∧
        t.acq = s.acq ∧ s.keepsCells rejectKeys t ∧ s.keepsMem t))

/-- O44. A channel without reduction, filling or armed, whose next sample i is due in this tick: ACQ_SAMPLE takes it and
counts it under its leaf (PIN) or for the channel; with room in the write port, no gap and no page waiting and two
places or more free in the open page the sample is stored behind the page's others; a filling channel is ARMED when
every count has reached PRE. TRIGGER_OCCURRENCE of the earliest occurrence o due in this tick: in the fill it adds one
to ACQ_IGN_TRIG; ARMED and no FORCE, more than 4 ticks late, one to ACQ_LATE_TRIG; in time but with a trigger sample
at or before the PRE-th, one to ACQ_IGN_TRIG; otherwise, selecting a new sample (or with SOURCE NONE), it counts, and
as the COUNT-th triggers the channel: ACQ_TRIG_TIME takes its instant and the state is TRIGGERED or DONE; one that
selects a sample again does not count; a FORCE triggers. ACQ_DRAIN, with a page due, its place not stalled, and no
page waiting behind a channel that is TRIGGERED: with no subchannel of the place faulty it writes exactly the page's
bytes there, else the page is lost in a gap, counted; ACQ_SEQ.WR follows the page's number. -/
def Obligations.ChannelSamples : Prop :=
  (∀ (s : State) (n : Fin 8) (pins : BitVec 18) (i : AcqItem) (rest : List AcqItem), (s.acqCh n.val).feed = i :: rest → i.gap = none → i.opens = false →
    s.acqState n.val = 1 ∨ s.acqState n.val = 2 → s.acqRed n.val = false → i.inst < tickAt (s.tick + 1) →
    ∃ t, exec (.acqSample n pins) s = .next t ∧ (t.acqCh n.val).feed = rest ∧
      (∀ key, key = (if s.acqPin n.val then i.leaf else 0) →
        Table.get? (t.acqCh n.val).counts key = some ((Table.get? (s.acqCh n.val).counts key).getD 0 + 1) ∧
        ((s.goto i.inst).portUsed + (s.goto i.inst).portKept n.val + s.acqCost n.val ≤ 4032 → (s.acqCh n.val).gaps = [] →
          (∀ p ∈ (s.acqCh n.val).pages, p.closed = false) →
          ((s.acqCh n.val).page key i.pos).items.length + 2 ≤ 252 → ∃ p ∈ (t.acqCh n.val).pages, p.leaf = key ∧
            p.items = ((if s.acqPin n.val then pins.toNat else i.data), false) :: ((s.acqCh n.val).page key i.pos).items)) ∧
      t.acqState n.val = (if s.acqState n.val = 2 ∨ (s.acqKeys n.val).all (fun k =>
        decide (s.rd F.ACQ_PRE_COUNT n.val ≤ (Table.get? (t.acqCh n.val).counts k).getD 0)) = true then 2 else 1)) ∧
  (∀ (s : State) (n : Fin 8) (o : AcqOcc) (ords : List Nat), s.firstOcc n.val = some o →
    ords = (s.acqKeys n.val).map (fun k => (s.acqCh n.val).ordAt k o.inst) →
    ∃ t, exec (.triggerOccurrence n) s = .next t ∧
      (s.acqState n.val = 1 → t.rd F.ACQ_IGN_TRIG_COUNT n.val = min (s.rd F.ACQ_IGN_TRIG_COUNT n.val + 1) (2 ^ 32 - 1) ∧
        t.acqState n.val = 1 ∧ s.keepsMem t) ∧
      (s.acqState n.val = 2 → o.force = false → o.inst + 4 * 327680 < s.now →
        t.rd F.ACQ_LATE_TRIG_COUNT n.val = min (s.rd F.ACQ_LATE_TRIG_COUNT n.val + 1) (2 ^ 32 - 1) ∧ t.acqState n.val = 2 ∧ s.keepsMem t) ∧
      (s.acqState n.val = 2 → o.force = false → s.now ≤ o.inst + 4 * 327680 → s.acqSource n.val ≠ 0 →
        (∃ k ∈ ords, k < s.rd F.ACQ_PRE_COUNT n.val) →
        t.rd F.ACQ_IGN_TRIG_COUNT n.val = min (s.rd F.ACQ_IGN_TRIG_COUNT n.val + 1) (2 ^ 32 - 1) ∧ t.acqState n.val = 2 ∧ s.keepsMem t) ∧
      (s.acqState n.val = 2 → o.force = true → t.rd F.ACQ_TRIG_TIME_TIME n.val = o.inst % 2 ^ 64 ∧ (t.acqState n.val = 3 ∨ t.acqState n.val = 4)) ∧
      (s.acqState n.val = 2 → o.force = false → s.now ≤ o.inst + 4 * 327680 → s.acqSource n.val ≠ 0 →
        (∀ k ∈ ords, s.rd F.ACQ_PRE_COUNT n.val ≤ k) → ords ∈ (s.acqCh n.val).hits → (s.acqCh n.val).hits.length < s.rd F.ACQ_TRIG_COUNT n.val →
        (t.acqCh n.val).hits = (s.acqCh n.val).hits ∧ t.acqState n.val = 2 ∧ s.keepsCells [] t ∧ s.keepsMem t) ∧
      (s.acqState n.val = 2 → o.force = false → s.now ≤ o.inst + 4 * 327680 →
        (s.acqSource n.val = 0 ∨ ((∀ k ∈ ords, s.rd F.ACQ_PRE_COUNT n.val ≤ k) ∧ ords ∉ (s.acqCh n.val).hits)) →
        ((s.acqCh n.val).hits.length + 1 < s.rd F.ACQ_TRIG_COUNT n.val → (t.acqCh n.val).hits = ords :: (s.acqCh n.val).hits ∧ t.acqState n.val = 2 ∧
          s.keepsCells [] t ∧ s.keepsMem t) ∧
        (s.rd F.ACQ_TRIG_COUNT n.val ≤ (s.acqCh n.val).hits.length + 1 → t.rd F.ACQ_TRIG_TIME_TIME n.val = o.inst % 2 ^ 64 ∧
          (t.acqState n.val = 3 ∨ t.acqState n.val = 4)))) ∧
  (∀ (s : State) (n : Fin 8) (d : AcqDone) (b : List Byte) (rest : List (AcqDone × List Byte)), (s.acqCh n.val).fifo = (d, b) :: rest →
    (s.acqCh n.val).drainAt < tickAt (s.tick + 1) → s.acqDram n.val = true → s.stalledAt (s.acqDramAt n.val d.seq) 4096 = false →
    (∀ p ∈ (s.acqCh n.val).pages, p.closed = false) ∨ s.acqState n.val ≠ 3 →
    (s.rangeFaulty (s.acqDramAt n.val d.seq) 4096 = false →
    ∃ t, exec (.acqDrain n) s = .next t ∧ rest <+: (t.acqCh n.val).fifo ∧ t.rd F.ACQ_SEQ_WR n.val = (d.seq + 1) % 2 ^ 32 ∧
      (∀ i, i < b.length → t.dram.byte (s.acqDramAt n.val d.seq + i) = b.getD i 0) ∧
      (∀ a, a < s.acqDramAt n.val d.seq ∨ s.acqDramAt n.val d.seq + b.length ≤ a → t.dram.byte a = s.dram.byte a) ∧
      ∀ a, t.sramByte a = s.sramByte a) ∧
    (s.rangeFaulty (s.acqDramAt n.val d.seq) 4096 = true →
    ∃ t, exec (.acqDrain n) s = .next t ∧ rest <+: (t.acqCh n.val).fifo ∧ t.rd F.ACQ_SEQ_WR n.val = (d.seq + 1) % 2 ^ 32 ∧
      t.rd F.ACQ_GAPS_COUNT n.val = min (s.rd F.ACQ_GAPS_COUNT n.val + 1) (2 ^ 32 - 1) ∧ (∀ a, t.dram.byte a = s.dram.byte a) ∧
      ∀ a, t.sramByte a = s.sramByte a))

/-- O45. In OFF and BOOT REFIN_LOSS changes nothing. Powered and out of BOOT, REFIN_LOSS restarts the qualification and,
with REFIN not lost before, sets LOST, LOST_SEEN and SRC (and ROOT_HOLDOVER at the anchor). REF_GATE_END shows the
gate's OFFSET; with the frequency known, a gate inside 50 ppm of it adds one to QUAL_MS (at most 1 000) while REFIN is
lost, and one outside leaves REFIN lost with QUAL_MS 0; out of BOOT with no frequency known, a gate of the frequency
being tried adds one and a gate of none gives 0. REFIN_QUALIFIED, with REFIN lost and QUAL_MS 1 000, starts the
pull-in and selects the frequency. REF_RESTORED at its end clears SRC and LOST. TS_WRAP at the next wrap in this tick
sets TMU_EPOCH to the wraps since T(0), modulo 2^16. DLL_LOCK_CHANGE shows the new lock in TMU_DLL and in every leaf;
an unlock sets UNLOCK_SEEN. No byte of memory changes. -/
def Obligations.TimingReference : Prop :=
  (∀ s : State, s.mstate = 0 ∨ s.mstate = 1 → exec .refinLoss s = .next s) ∧
  (∀ s : State, s.mstate ≠ 0 → s.mstate ≠ 1 →
    (s.rd F.TMU_REF_LOST 0 = 0 → ∃ t, exec .refinLoss s = .next t ∧ t.rd F.TMU_REF_LOST 0 = 1 ∧ t.rd F.TMU_REF_LOST_SEEN 0 = 1 ∧
      t.rd F.TMU_REF_SRC 0 = 1 ∧ t.rd F.TMU_REF_QUAL_MS 0 = 0 ∧ t.tmu.pullIn = none ∧ s.keepsCells ([F.TMU_REF_LOST.key,
        F.TMU_REF_LOST_SEEN.key, F.TMU_REF_SRC.key, F.TMU_REF_QUAL_MS.key, F.ID_STAT_ROOT_HOLDOVER.key] ++ journalKeys) t ∧ s.keepsMem t) ∧
    (s.rd F.TMU_REF_LOST 0 ≠ 0 → ∃ t, exec .refinLoss s = .next t ∧ t.rd F.TMU_REF_QUAL_MS 0 = 0 ∧ t.tmu.pullIn = none ∧
      s.keepsCells [F.TMU_REF_QUAL_MS.key] t ∧ s.keepsMem t)) ∧
  (∀ (s : State) (near : Option (Fin 2)) (off : BitVec 12), ∃ t, exec (.refGateEnd near off) s = .next t ∧
    t.rd F.TMU_REF_OFFSET 0 = off.toNat ∧ s.keepsMem t ∧
    (s.tmu.known = true → near.map (·.val) = some (s.rd F.TMU_REF_FREQ 0) → -500 ≤ off.toInt → off.toInt ≤ 500 →
      (s.rd F.TMU_REF_LOST 0 ≠ 0 → t.rd F.TMU_REF_QUAL_MS 0 = min 1000 (s.rd F.TMU_REF_QUAL_MS 0 + 1) ∧ t.tmu = s.tmu) ∧
      (s.rd F.TMU_REF_LOST 0 = 0 → s.keepsCells [F.TMU_REF_OFFSET.key] t ∧ t.tmu = s.tmu)) ∧
    (s.tmu.known = true → (near.map (·.val) ≠ some (s.rd F.TMU_REF_FREQ 0) ∨ off.toInt < -500 ∨ 500 < off.toInt) →
      t.rd F.TMU_REF_LOST 0 ≠ 0 ∧ t.rd F.TMU_REF_QUAL_MS 0 = 0 ∧ t.tmu.pullIn = none) ∧
    (s.tmu.known = false → s.mstate ≠ 1 →
      (near = none ∨ off.toInt < -500 ∨ 500 < off.toInt → t.rd F.TMU_REF_QUAL_MS 0 = 0 ∧ t.tmu.cand = none) ∧
      (∀ f, near = some f → -500 ≤ off.toInt → off.toInt ≤ 500 → s.tmu.cand = some f.val →
        t.rd F.TMU_REF_QUAL_MS 0 = min 1000 (s.rd F.TMU_REF_QUAL_MS 0 + 1)))) ∧
  (∀ s : State, s.rd F.TMU_REF_LOST 0 ≠ 0 → s.rd F.TMU_REF_QUAL_MS 0 = 1000 → s.tmu.pullIn = none →
    ∃ t, exec .refinQualified s = .next t ∧ t.tmu.pullIn = some s.now ∧ t.tmu.known = true ∧
      (s.tmu.known = true → t.rd F.TMU_REF_FREQ 0 = s.rd F.TMU_REF_FREQ 0) ∧
      (s.tmu.known = false → ∀ f : Fin 2, s.tmu.cand = some f.val → t.rd F.TMU_REF_FREQ 0 = f.val) ∧
      s.keepsCells [F.TMU_REF_FREQ.key] t ∧ s.keepsMem t) ∧
  (∀ (s : State) (p : Nat), s.tmu.pullIn = some p → ∃ t, exec .refRestored s = .next t ∧ t.rd F.TMU_REF_SRC 0 = 0 ∧
    t.rd F.TMU_REF_LOST 0 = 0 ∧ t.tmu.pullIn = none ∧
    s.keepsCells ([F.TMU_REF_SRC.key, F.TMU_REF_LOST.key, F.ID_STAT_ROOT_HOLDOVER.key] ++ journalKeys) t ∧ s.keepsMem t) ∧
  (∀ (s : State) (k : Nat), s.now / 2 ^ 64 + 1 = k → s.now % 2 ^ 64 ≠ 0 → k * 2 ^ 64 < tickAt (s.tick + 1) →
    ∃ t, exec .tsWrap s = .next t ∧ t.rd F.TMU_EPOCH_EPOCH 0 = k % 2 ^ 16 ∧ t.now = k * 2 ^ 64 ∧ s.keepsMem t) ∧
  (∀ (s : State) (lock : Bool),
    (s.on F.TMU_DLL_LOCK 0 ≠ lock → ∃ t, exec (.dllLockChange lock) s = .next t ∧ t.on F.TMU_DLL_LOCK 0 = lock ∧
      (∀ l < 16, t.on F.TS_STATUS_DLL_UNLOCK l = !lock) ∧ (lock = false → t.rd F.TMU_DLL_UNLOCK_SEEN 0 = 1) ∧
      s.keepsCells ([F.TMU_DLL_LOCK.key, F.TS_STATUS_DLL_UNLOCK.key, F.TMU_DLL_UNLOCK_SEEN.key] ++ journalKeys) t ∧ s.keepsMem t) ∧
    (s.on F.TMU_DLL_LOCK 0 = lock → exec (.dllLockChange lock) s = .next s))

/-- O46. TMU_EDGE of an enabled direction, not of a pin under a code-density test (which records none), in STANDBY,
MOUNTED or SAFE: 3 072 tu or more after the pin's last recorded edge, with fewer than 16 of its records waiting,
TMU_LAST takes its timestamp; sooner, TMU_MISSED rises by one and TMU_LAST stays. An edge of a direction not enabled
changes nothing. PAIR_EDGE_PROCESS of an engine's next edge a, due in this tick: a start with a stop pending not more
than W before it, or a stop with such a start pending, forms a pair: TMU_PAIR_COUNT rises by one, DELTA is stop minus
start (0 with COINCIDENT when less than 4 tu apart, ORDER when negative otherwise), and that pending edge is gone;
with no edge pending of either kind, a becomes pending; a second start replaces the first, counted in TMU_UNPAIRED.
PAIR_PENDING_EXPIRE discards a pending start of age W and counts it. PAIR_ENABLE that this module serves with legal
fields sets EN with its pins and empties the engine; a pin above 143 is rejected RANGE, a direction that its TMU does
not record STATE. -/
def Obligations.EdgesAndPairs : Prop :=
  (∀ (s : State) (p : Fin 144) (rising : Bool) (at_ : Fin 327680) (t0 : Nat), s.mstate = 2 ∨ s.mstate = 3 ∨ s.mstate = 4 →
    t0 = max s.now (tickAt s.tick + at_.val) →
    ((s.tmuPin p.val).cfg.testBit (if rising then 0 else 1) = true → s.rd F.TMU_CDT_RES_BUSY 0 = 0 ∨ s.tmu.cdtPin ≠ p.val →
      ((∀ u, (s.tmuPin p.val).last = some u → u + 3072 ≤ t0) → (((drainTo t0 ((Table.get? s.tmu.queues (p.val / 9)).getD [])
          ((Table.get? s.tmu.drained (p.val / 9)).getD 0)).1.filter (fun e => e.1 == p.val % 9)).length < 16) →
        ∃ t, exec (.tmuEdge p rising at_) s = .next t ∧ t.rd F.TMU_LAST_TIME p.val = t0 % 2 ^ 64 ∧
          t.rd F.TMU_MISSED_COUNT p.val = s.rd F.TMU_MISSED_COUNT p.val ∧ (t.tmuPin p.val).last = some t0 ∧
          (t.tmuPin p.val).missed = false ∧ s.keepsMem t) ∧
      (∀ u, (s.tmuPin p.val).last = some u → t0 < u + 3072 → ∃ t, exec (.tmuEdge p rising at_) s = .next t ∧
        t.rd F.TMU_MISSED_COUNT p.val = min (s.rd F.TMU_MISSED_COUNT p.val + 1) (2 ^ 32 - 1) ∧
        t.rd F.TMU_LAST_TIME p.val = s.rd F.TMU_LAST_TIME p.val ∧ (t.tmuPin p.val).last = some u ∧ (t.tmuPin p.val).missed = true ∧
        s.keepsMem t)) ∧
    ((s.tmuPin p.val).cfg.testBit (if rising then 0 else 1) = false ∨ (s.rd F.TMU_CDT_RES_BUSY 0 ≠ 0 ∧ s.tmu.cdtPin = p.val) →
      exec (.tmuEdge p rising at_) s = .next s)) ∧
  (∀ (s : State) (e : Fin 16) (a : TmuEdge) (r : List TmuEdge), (s.pair e.val).queue = a :: r →
    a.time + 160 * 1024 < tickAt (s.tick + 1) →
    (∀ (st sp : TmuEdge) (raw : Int), ((a.start = true ∧ st = a ∧ (s.pair e.val).pStop = some sp ∧ a.time ≤ sp.time + s.rd F.TMU_PAIR_W_W e.val) ∨
        (a.start = false ∧ sp = a ∧ (s.pair e.val).pStart = some st ∧ a.time ≤ st.time + s.rd F.TMU_PAIR_W_W e.val)) →
      raw = (sp.time : Int) - (st.time : Int) →
      ∃ t, exec (.pairEdgeProcess e) s = .next t ∧ (t.pair e.val).queue = r ∧
        t.rd F.TMU_PAIR_COUNT_COUNT e.val = min (s.rd F.TMU_PAIR_COUNT_COUNT e.val + 1) (2 ^ 32 - 1) ∧ t.rd F.TMU_PAIR_LAST_VALID e.val = 1 ∧
        (raw.natAbs < 4 → t.rd F.TMU_PAIR_LAST_DELTA e.val = 0 ∧ t.rd F.TMU_PAIR_LAST_COINCIDENT e.val = 1 ∧
          t.rd F.TMU_PAIR_LAST_ORDER e.val = 0) ∧
        (4 ≤ raw.natAbs → t.rd F.TMU_PAIR_LAST_DELTA e.val = (raw % 2 ^ 40).toNat ∧ t.rd F.TMU_PAIR_LAST_COINCIDENT e.val = 0 ∧
          t.rd F.TMU_PAIR_LAST_ORDER e.val = if raw < 0 then 1 else 0) ∧
        (if a.start then (t.pair e.val).pStop = none ∧ (t.pair e.val).pStart = (s.pair e.val).pStart
          else (t.pair e.val).pStart = none ∧ (t.pair e.val).pStop = (s.pair e.val).pStop) ∧ s.keepsMem t) ∧
    ((s.pair e.val).pStart = none → (s.pair e.val).pStop = none → ∃ t, exec (.pairEdgeProcess e) s = .next t ∧ (t.pair e.val).queue = r ∧
      (if a.start then (t.pair e.val).pStart = some a else (t.pair e.val).pStop = some a) ∧ s.keepsCells [F.MC_UREG_VALUE.key] t ∧ s.keepsMem t) ∧
    (∀ b, a.start = true → (s.pair e.val).pStart = some b → (s.pair e.val).pStop = none → ∃ t, exec (.pairEdgeProcess e) s = .next t ∧
      (t.pair e.val).pStart = some a ∧ t.rd F.TMU_UNPAIRED_COUNT e.val = min (s.rd F.TMU_UNPAIRED_COUNT e.val + 1) (2 ^ 32 - 1) ∧
      s.keepsMem t)) ∧
  (∀ (s : State) (e : Fin 16) (a : TmuEdge), (s.pair e.val).pStart = some a → (s.pair e.val).pStop = none →
    a.time + s.rd F.TMU_PAIR_W_W e.val < tickAt (s.tick + 1) → (∀ q ∈ (s.pair e.val).queue, a.time + s.rd F.TMU_PAIR_W_W e.val < q.time) →
    ∃ t, exec (.pairPendingExpire e) s = .next t ∧ (t.pair e.val).pStart = none ∧
      t.rd F.TMU_UNPAIRED_COUNT e.val = min (s.rd F.TMU_UNPAIRED_COUNT e.val + 1) (2 ^ 32 - 1) ∧ s.keepsMem t) ∧
  (∀ (s : State) (h : Hdr) (e : Fin 16) (d : Word), s.serves h (0x323000 + 0x40 * e.val) (.write64 d.toNat) → d.toNat < 2 ^ 21 →
    s.calBusy = false → bits d.toNat 18 2 ≠ 3 →
    (bits d.toNat 0 8 ≤ 143 → bits d.toNat 8 8 ≤ 143 →
      (s.records (bits d.toNat 0 8) (bits d.toNat 16 1) = true → s.records (bits d.toNat 8 8) (bits d.toNat 17 1) = true →
        sx 40 (s.rd F.TMU_PAIR_LO_LO e.val) ≤ sx 40 (s.rd F.TMU_PAIR_HI_HI e.val) →
        ∃ t, exec (.pairEnable h e d) s = .next t ∧ t.told h .ok ∧ t.rd F.TMU_PAIR_CFG_EN e.val = 1 ∧
          t.rd F.TMU_PAIR_CFG_START_PIN e.val = bits d.toNat 0 8 ∧ t.rd F.TMU_PAIR_CFG_STOP_PIN e.val = bits d.toNat 8 8 ∧
          t.rd F.TMU_PAIR_CFG_WMODE e.val = bits d.toNat 18 2 ∧ (s.rd F.TMU_PAIR_CFG_EN e.val = 0 → t.pair e.val = {}) ∧ s.keepsMem t) ∧
      (s.records (bits d.toNat 0 8) (bits d.toNat 16 1) = false ∨ s.records (bits d.toNat 8 8) (bits d.toNat 17 1) = false →
        ∃ t, exec (.pairEnable h e d) s = .next t ∧ t.told h (.rejected 0x09 0) ∧
        t.tmu = s.tmu ∧ s.keepsCells rejectKeys t ∧ s.keepsMem t)) ∧
    (143 < bits d.toNat 0 8 ∨ 143 < bits d.toNat 8 8 → ∃ t, exec (.pairEnable h e d) s = .next t ∧ t.told h (.rejected 0x02 0) ∧ t.tmu = s.tmu ∧
      s.keepsCells rejectKeys t ∧ s.keepsMem t))

/-- O47. In writes this module serves, with no calibration running: FC_MODE_WRITE with legal fields and MODE SINGLE or
CONTINUOUS is answered OK and the counter awaits its first gate at TMU_FC_TICK, when that lies ahead and the pin's TMU
records DIR; with TMU_FC_TICK below GLB_TICK + 1 it is rejected STATE; MODE OFF ends the gate in progress. FC_GATE_END
of a gate g, ended already or in progress and then marked with HOLDOVER and UNCAL as they stand, 160 base cycles after
its end, in this tick: COUNT, VALID (2 edges or more), MISSED, HOLDOVER, UNCAL and SPAN take the gate's, GEN rises by
one, SINGLE returns to OFF, CONTINUOUS goes on with the next gate. CDT_START of a pin at most 143 whose TMU is off and
unused, with no test running, clears the histogram and runs; otherwise it is rejected STATE. TMU_CDT_DONE of a running
test stores the 1 024 bins, DNL and INL as they follow from them, and PASS when both lie within 0.5 and 2 tu and the
DLL was locked. -/
def Obligations.CountersAndDensityTest : Prop :=
  (∀ (s : State) (h : Hdr) (f : Fin 16) (d : Word), s.serves h (0x323400 + 0x20 * f.val) (.write64 d.toNat) → s.calBusy = false →
    bits d.toNat 9 7 = 0 → bits d.toNat 34 30 = 0 → bits d.toNat 0 8 ≤ 143 → bits d.toNat 16 16 ≠ 0 →
    (bits d.toNat 32 2 = 1 ∨ bits d.toNat 32 2 = 2 →
      (s.tick + 1 ≤ s.rd F.TMU_FC_TICK_TICK f.val → s.records (bits d.toNat 0 8) (bits d.toNat 8 1) = true →
        ∃ t, exec (.fcModeWrite h f d) s = .next t ∧ t.told h .ok ∧ t.fc f.val = { cur := some { tick := s.rd F.TMU_FC_TICK_TICK f.val } } ∧
          t.rd F.TMU_FC_CFG_MODE f.val = bits d.toNat 32 2 ∧ t.rd F.TMU_FC_CFG_PIN f.val = bits d.toNat 0 8 ∧
          t.rd F.TMU_FC_CFG_GATE f.val = bits d.toNat 16 16 ∧ s.keepsMem t) ∧
      (s.rd F.TMU_FC_TICK_TICK f.val < s.tick + 1 → ∃ t, exec (.fcModeWrite h f d) s = .next t ∧ t.told h (.rejected 0x09 0) ∧
        t.tmu = s.tmu ∧ s.keepsCells rejectKeys t ∧ s.keepsMem t)) ∧
    (bits d.toNat 32 2 = 0 → ∃ t, exec (.fcModeWrite h f d) s = .next t ∧ t.told h .ok ∧ (t.fc f.val).cur = none ∧
      t.rd F.TMU_FC_CFG_MODE f.val = 0 ∧ s.keepsMem t)) ∧
  (∀ (s : State) (f : Fin 16) (g : FcGate), (s.fc f.val).ended = some g ∨ ((s.fc f.val).ended = none ∧
      ∃ c, (s.fc f.val).cur = some c ∧ g = c.mark s.holdover (!(s.on F.TMU_DLL_LOCK 0))) →
    s.fcEnd f.val g + 160 * 1024 < tickAt (s.tick + 1) →
    ∃ t, exec (.fcGateEnd f) s = .next t ∧ t.rd F.TMU_FC_RES_COUNT f.val = g.count % 2 ^ 32 ∧
      t.rd F.TMU_FC_RES_VALID f.val = (if 2 ≤ g.count then 1 else 0) ∧ t.on F.TMU_FC_RES_MISSED f.val = g.lost ∧
      t.on F.TMU_FC_RES_HOLDOVER f.val = g.hold ∧ t.on F.TMU_FC_RES_UNCAL f.val = g.uncal ∧
      (∀ a, g.first = some a → t.rd F.TMU_FC_SPAN_SPAN f.val = (g.last - a) % 2 ^ 48) ∧ (g.first = none → t.rd F.TMU_FC_SPAN_SPAN f.val = 0) ∧ t.rd F.TMU_FC_RES_GEN f.val = (s.rd F.TMU_FC_RES_GEN f.val + 1) % 2 ^ 16 ∧
      t.rd F.TMU_FC_CFG_MODE f.val = (if s.rd F.TMU_FC_CFG_MODE f.val = 1 then 0 else s.rd F.TMU_FC_CFG_MODE f.val) ∧
      (t.fc f.val).ended = none ∧ ((s.fc f.val).ended = some g → (t.fc f.val).cur = (s.fc f.val).cur) ∧
      ((s.fc f.val).ended = none → s.rd F.TMU_FC_CFG_MODE f.val = 2 →
        ∃ c, (t.fc f.val).cur = some c ∧ c.tick = g.tick + s.rd F.TMU_FC_CFG_GATE f.val) ∧ s.keepsMem t) ∧
  (∀ (s : State) (h : Hdr) (p : BitVec 8), s.serves h 0x320028 (.write64 (p.toNat + 256)) → s.calBusy = false → p.toNat ≤ 143 →
    (s.rd F.TMU_CDT_RES_BUSY 0 = 0 → s.rd F.TMU_PIN_CFG_RISE p.toNat = 0 → s.rd F.TMU_PIN_CFG_FALL p.toNat = 0 → s.tmuUsed p.toNat = false →
      ∃ t, exec (.cdtStart h p) s = .next t ∧ t.told h .ok ∧ t.rd F.TMU_CDT_CTL_PIN 0 = p.toNat ∧ t.rd F.TMU_CDT_RES_BUSY 0 = 1 ∧
        t.rd F.TMU_CDT_RES_DONE 0 = 0 ∧ (∀ c < 1024, t.rd F.TMU_CDT_HIST_HITS c = 0) ∧ s.keepsCells [F.TMU_CDT_CTL_PIN.key,
          F.TMU_CDT_RES_BUSY.key, F.TMU_CDT_RES_DONE.key, F.TMU_CDT_HIST_HITS.key] t ∧ s.keepsMem t) ∧
    (s.rd F.TMU_CDT_RES_BUSY 0 ≠ 0 ∨ s.rd F.TMU_PIN_CFG_RISE p.toNat ≠ 0 ∨ s.rd F.TMU_PIN_CFG_FALL p.toNat ≠ 0 ∨ s.tmuUsed p.toNat = true →
      ∃ t, exec (.cdtStart h p) s = .next t ∧ t.told h (.rejected 0x09 0) ∧ t.tmu = s.tmu ∧
      s.keepsCells rejectKeys t ∧ s.keepsMem t)) ∧
  (∀ (s : State) (low mid high hits : List (BitVec 32)) (dnl inl : Nat), s.rd F.TMU_CDT_RES_BUSY 0 ≠ 0 → hits = low ++ mid ++ high → hits.length = 1024 →
    dnl = maxAbs (cdtDnl (hits.map (·.toNat))) → inl = maxAbs (cdtInl 0 (cdtDnl (hits.map (·.toNat)))) →
    ∃ t, exec (.tmuCdtDone low mid high) s = .next t ∧ t.rd F.TMU_CDT_RES_BUSY 0 = 0 ∧ t.rd F.TMU_CDT_RES_DONE 0 = 1 ∧
      t.rd F.TMU_CDT_RES_DNL 0 = min (dnl / 4) 0xFFFF ∧ t.rd F.TMU_CDT_RES_INL 0 = min (inl / 4) 0xFFFF ∧
      (t.rd F.TMU_CDT_RES_PASS 0 = 1 ↔ dnl ≤ 512 ∧ inl ≤ 2048 ∧ s.tmu.cdtUncal = false) ∧
      (∀ c < 1024, t.rd F.TMU_CDT_HIST_HITS c = (hits.getD c 0).toNat) ∧ s.keepsMem t)

/-- O48. DC_CLAMP of a forcing PMU sets CLAMP and CLAMP_SEEN once; CLAMP_RETURNED clears CLAMP. DSA_OUTPUT of a running
converter, no output held from before a change and its output due in this tick: output n + 1 carries the saturated
value, the node, VALID only past the invalid outputs and unsaturated, and SETTLE the invalid ones still to come (at
most 7); it is delivered to DSA_RES and counted in GEN unless SUPPRESS withholds an invalid one; a valid one in SINGLE
without a diagnosis powers the converter down; an output that ended before a change took effect is delivered first, as
it was marked then. GO, in a write this module serves, starts at the next tick boundary in MODE SINGLE with BUSY 0 and
is rejected STATE otherwise. DSA_REF_READY restarts the decimator 40 us after the start at the earliest, with d +
ceil(ts' / Tout) invalid outputs. DSA_START_TIMEOUT 100 us after the start abandons the conversion: MODE OFF and
START_FAIL. No byte of memory changes. -/
def Obligations.ConverterAndClamps : Prop :=
  (∀ (s : State) (p : Fin 144), (s.pmu p.val).mode = 1 ∨ (s.pmu p.val).mode = 2 →
    (s.rd F.DC_PIN_STAT_CLAMP p.val = 0 → ∃ t, exec (.dcClamp p) s = .next t ∧ t.rd F.DC_PIN_STAT_CLAMP p.val = 1 ∧
      t.rd F.DC_PIN_STAT_CLAMP_SEEN p.val = 1 ∧ s.keepsCells ([F.DC_PIN_STAT_CLAMP.key, F.DC_PIN_STAT_CLAMP_SEEN.key] ++ eventKeys) t ∧
      s.keepsMem t) ∧
    (s.rd F.DC_PIN_STAT_CLAMP p.val ≠ 0 → exec (.dcClamp p) s = .next s)) ∧
  (∀ (s : State) (p : Fin 144), ∃ t, exec (.clampReturned p) s = .next t ∧ t.rd F.DC_PIN_STAT_CLAMP p.val = 0 ∧
    s.keepsCells [F.DC_PIN_STAT_CLAMP.key] t ∧ t.dc = s.dc ∧ s.keepsMem t) ∧
  (∀ (s : State) (l : Fin 16) (raw : BitVec 32) (x : Dsa) (v : Int) (n : Nat), s.dsa l.val = x → x.tail = none → x.phase = 2 → x.scanAt = none →
    x.n + 1 = n → v = max (-8388608) (min 8388607 raw.toInt) → x.tf + n * (x.ratio * 128000) + 160 * 1024 < tickAt (s.tick + 1) →
    ∃ t, exec (.dsaOutput l raw) s = .next t ∧ (t.dsa l.val).n = n ∧ s.keepsMem t ∧
      (x.suppress = false ∨ (x.inval < n ∧ v = raw.toInt) →
        bits (t.rd F.DSA_RES_RESULT l.val) 0 24 = (v % 2 ^ 24).toNat ∧ bits (t.rd F.DSA_RES_RESULT l.val) 28 4 = x.node % 16 ∧
        ((t.rd F.DSA_RES_RESULT l.val).testBit 24 = true ↔ x.inval < n ∧ v = raw.toInt) ∧
        bits (t.rd F.DSA_RES_RESULT l.val) 25 3 = (if x.inval < n then 0 else min 7 (x.inval - n)) ∧
        t.rd F.DSA_RES_GEN l.val = (s.rd F.DSA_RES_GEN l.val + 1) % 2 ^ 16) ∧
      (x.suppress = true → n ≤ x.inval ∨ v ≠ raw.toInt →
        t.rd F.DSA_RES_RESULT l.val = s.rd F.DSA_RES_RESULT l.val ∧ t.rd F.DSA_RES_GEN l.val = s.rd F.DSA_RES_GEN l.val) ∧
      (x.inval < n → v = raw.toInt → x.mode = 2 → Table.get? s.dc.diags l.val = none →
        (t.dsa l.val).phase = 0 ∧ t.rd F.DSA_STAT_BUSY l.val = 0)) ∧
  (∀ (s : State) (l : Fin 16) (raw : BitVec 32) (a : DsaTail) (v : Int) (valid : Bool), (s.dsa l.val).tail = some a →
    v = max (-8388608) (min 8388607 raw.toInt) → (valid = true ↔ a.late = true ∧ v = raw.toInt) →
    a.at_ + 160 * 1024 < tickAt (s.tick + 1) →
    ∃ t, exec (.dsaOutput l raw) s = .next t ∧ (t.dsa l.val).tail = none ∧ (t.dsa l.val).n = (s.dsa l.val).n ∧ s.keepsMem t ∧
      (a.suppress = false ∨ valid = true →
        t.rd F.DSA_RES_RESULT l.val = ((v % 2 ^ 24).toNat + (if valid then 2 ^ 24 else 0) + a.settle % 8 * 2 ^ 25 + a.node % 16 * 2 ^ 28) % 2 ^ 32 ∧
        t.rd F.DSA_RES_GEN l.val = (s.rd F.DSA_RES_GEN l.val + 1) % 2 ^ 16) ∧
      (a.suppress = true → valid = false →
        t.rd F.DSA_RES_RESULT l.val = s.rd F.DSA_RES_RESULT l.val ∧ t.rd F.DSA_RES_GEN l.val = s.rd F.DSA_RES_GEN l.val)) ∧
  (∀ (s : State) (h : Hdr) (l : Fin 16), s.serves h (0x332040 + 0x100 * l.val) (.write64 1) → s.calBusy = false →
    (s.rd F.DSA_CTL_MODE l.val = 2 → s.rd F.DSA_STAT_BUSY l.val = 0 → ∃ t, exec (.dsaGo h l) s = .next t ∧ t.told h .ok ∧
      (t.dsa l.val).go = some (s.tick + 1) ∧ s.keepsCells [] t ∧ s.keepsMem t) ∧
    (s.rd F.DSA_CTL_MODE l.val ≠ 2 ∨ s.rd F.DSA_STAT_BUSY l.val ≠ 0 → ∃ t, exec (.dsaGo h l) s = .next t ∧ t.told h (.rejected 0x09 0) ∧
      t.dc = s.dc ∧ s.keepsCells rejectKeys t ∧ s.keepsMem t)) ∧
  (∀ (s : State) (l : Fin 16) (x : Dsa) (tf : Nat), s.dsa l.val = x → x.phase = 1 → tf = max s.now (x.t0 + 40 * 1280000) →
    tf < tickAt (s.tick + 1) → tf < x.t0 + 100 * 1280000 → ∃ t, exec (.dsaRefReady l) s = .next t ∧ (t.dsa l.val).phase = 2 ∧
      (t.dsa l.val).tf = tf ∧ (t.dsa l.val).n = 0 ∧ (t.dsa l.val).inval = (if x.fir then 5 else 2) +
        ceilDiv (x.ts - (tf - x.tc)) (max 1 (x.ratio * 128000)) ∧ s.keepsCells [F.MC_UREG_VALUE.key] t ∧ s.keepsMem t) ∧
  (∀ (s : State) (l : Fin 16), (s.dsa l.val).phase = 1 → (s.dsa l.val).t0 + 100 * 1280000 < tickAt (s.tick + 1) →
    ∃ t, exec (.dsaStartTimeout l) s = .next t ∧ (t.dsa l.val).phase = 0 ∧ t.rd F.DSA_CTL_MODE l.val = 0 ∧ t.rd F.DSA_STAT_BUSY l.val = 0 ∧
      t.rd F.DSA_STAT_START_FAIL l.val = 1 ∧ s.keepsMem t)

/-- O49. DIAG in a write this module serves, no calibration running: with MODE OFF, no diagnosis running and the target
pin's PMU OFF it is answered OK, the test DAC takes CODE, and the target is converted from the next tick boundary on;
with MODE not OFF, a diagnosis running or the target pin's PMU not OFF it is rejected STATE and nothing but the record
of the rejection changes. DSA_DIAG_DONE, 16 valid outputs taken: MEAS holds their mean (one of the two nearest
integers, the rounding being open, log entry 1), DONE is 1, PASS is 1 exactly when MEAS lies within TOL of CODE x
78.125 rounded, PATH_FAULT becomes 1 when it does not, the diagnosis is over and the converter is OFF. No byte of
memory changes. -/
def Obligations.PathDiagnosis : Prop :=
  (∀ (s : State) (h : Hdr) (l : Fin 16), s.serves h (0x332040 + 0x100 * l.val) (.write64 2) → s.calBusy = false →
    (s.rd F.DSA_CTL_MODE l.val = 0 → Table.get? s.dc.diags l.val = none →
      (s.rd F.DC_DIAG_CFG_TARGET l.val ≠ 0 → (s.pmu (9 * l.val + (s.rd F.DC_DIAG_CFG_TARGET l.val - 1))).mode = 0 ∧
        s.rd F.DC_PIN_CFG_MODE (9 * l.val + (s.rd F.DC_DIAG_CFG_TARGET l.val - 1)) = 0) →
      ∃ t d, exec (.dsaDiag h l) s = .next t ∧ t.told h .ok ∧ Table.get? t.dc.diags l.val = some d ∧ d.at_ = s.tick + 1 ∧ d.count = 0 ∧
        d.node = (if s.rd F.DC_DIAG_CFG_TARGET l.val = 0 then 9 else s.rd F.DC_DIAG_CFG_TARGET l.val - 1) ∧
        Table.get? t.dc.dacs l.val = some (s.rd F.DC_DIAG_CFG_CODE l.val) ∧ s.keepsCells [] t ∧ s.keepsMem t) ∧
    (s.rd F.DSA_CTL_MODE l.val ≠ 0 ∨ Table.get? s.dc.diags l.val ≠ none ∨ (s.rd F.DC_DIAG_CFG_TARGET l.val ≠ 0 ∧
        ((s.pmu (9 * l.val + (s.rd F.DC_DIAG_CFG_TARGET l.val - 1))).mode ≠ 0 ∨
          s.rd F.DC_PIN_CFG_MODE (9 * l.val + (s.rd F.DC_DIAG_CFG_TARGET l.val - 1)) ≠ 0)) → ∃ t, exec (.dsaDiag h l) s = .next t ∧
      t.told h (.rejected 0x09 0) ∧ t.dc = s.dc ∧ s.keepsCells rejectKeys t ∧ s.keepsMem t)) ∧
  (∀ (s : State) (l : Fin 16) (d : Diag), Table.get? s.dc.diags l.val = some d → 16 ≤ d.count →
    ∃ t, ∃ meas : Int, exec (.dsaDiagDone l) s = .next t ∧ (meas = d.sum / 16 ∨ (meas = d.sum / 16 + 1 ∧ d.sum % 16 ≠ 0)) ∧
      t.rd F.DC_DIAG_RES_MEAS l.val = (meas % 2 ^ 24).toNat ∧ t.rd F.DC_DIAG_RES_DONE l.val = 1 ∧
      (t.rd F.DC_DIAG_RES_PASS l.val = 1 ↔ (meas - ((s.rd F.DC_DIAG_CFG_CODE l.val * 625 + 4) / 8 : Nat)).natAbs ≤ s.rd F.DC_DIAG_CFG_TOL l.val) ∧
      (t.rd F.DC_DIAG_RES_PASS l.val = 0 → t.rd F.DSA_STAT_PATH_FAULT l.val = 1) ∧
      (t.rd F.DC_DIAG_RES_PASS l.val = 1 → t.rd F.DSA_STAT_PATH_FAULT l.val = s.rd F.DSA_STAT_PATH_FAULT l.val) ∧
      Table.get? t.dc.diags l.val = none ∧ t.rd F.DSA_CTL_MODE l.val = 0 ∧ (t.dsa l.val).phase = 0 ∧ s.keepsMem t)

/-- O50. A raster START in a write this module serves is accepted when R88 and the timing of R232 refuse nothing: the unit
is start-pending and its leaves are armed for a raster run; else it is rejected with the reason and starts nothing. At
the boundary of every 64th pixel BEAD_BOUNDARY opens the next 64. VECTOR_ISSUE ends the run at the end RS_STOP asked
for, asks for an abort with cause 0x04 and sets PERIOD_BAD where the set no longer fits, and else plays the next
pixel: UNIT_VCOUNT rises and the place moves on. In writes this module serves: RS_STOP with a raster run RUNNING marks
the run to end with its frame, otherwise it does nothing. COMMIT that fails the check of a code is rejected
BLOCK_REJECT with it and no shadow applies; that fails none applies every shadow at once while the raster unit does
not run, and is pending while it does; one in an extended porch ends the extension with its line. FRONT_PORCH_START,
at the first pixel of a vertical front porch due in this tick on the first leaf that plays, applies a pending commit
(the count of still frames is then 0) and otherwise counts one still frame where DIV is on; with RS_STATIC.N reached
the porch is DIV frames of lines longer and STATIC reads 1, else it is the mode's. TE_EDGE under SYNC ends a wait
begun on or before it, and ends free running with TE_TIMEOUT 0. TE_TIMEOUT, 2 frame times into a wait without an edge,
sets TE_TIMEOUT and free-runs. No byte of memory changes. -/
def Obligations.RasterEngine : Prop :=
  (∀ (s : State) (h : Hdr), s.serves h 0x340000 (.write64 1) →
    (s.rasRunning = true → ∃ t, exec (.rsStop h) s = .next t ∧ t.told h .ok ∧ t.ras = { s.ras with stop := true } ∧ s.keepsCells [] t ∧
      s.keepsMem t) ∧
    (s.rasRunning = false → ∃ t, exec (.rsStop h) s = .next t ∧ t.told h .ok ∧ t.ras = s.ras ∧ s.keepsCells [] t ∧ s.keepsMem t)) ∧
  (∀ (s : State) (h : Hdr), s.serves h 0x340008 (.write64 1) →
    (∀ c, s.commitFault = some c → ∃ t, exec (.rsCommit h) s = .next t ∧ t.told h (.rejected 0x38 c) ∧
      t.rd F.RS_STATUS_REJECT 0 = c % 2 ^ 8 ∧ s.keepsCells (F.RS_STATUS_REJECT.key :: rejectKeys) t ∧ t.ras = s.ras ∧ s.keepsMem t) ∧
    (s.commitFault = none → s.rasterUnitRuns = false → ∃ t, exec (.rsCommit h) s = .next t ∧ t.told h .ok ∧
      t.rd F.RS_BG_COLOUR 1 = s.rd F.RS_BG_COLOUR 0 % 2 ^ 24 ∧ (∀ n < 3,
        t.rd F.RS_L_CFG_EN (3 + n) = s.rd F.RS_L_CFG_EN n % 2 ∧ t.rd F.RS_L_CFG_FMT (3 + n) = s.rd F.RS_L_CFG_FMT n % 2 ^ 2 ∧
        t.rd F.RS_L_POS_X (3 + n) = s.rd F.RS_L_POS_X n % 2 ^ 11 ∧ t.rd F.RS_L_POS_Y (3 + n) = s.rd F.RS_L_POS_Y n % 2 ^ 11 ∧
        t.rd F.RS_L_BASE_BASE (3 + n) = s.rd F.RS_L_BASE_BASE n % 2 ^ 34 ∧
        t.rd F.RS_L_STRIDE_STRIDE (3 + n) = s.rd F.RS_L_STRIDE_STRIDE n % 2 ^ 16) ∧
      t.rd F.RS_STATUS_COMMIT_PENDING 0 = 0 ∧ t.rd F.RS_STATUS_REJECT 0 = 0 ∧ s.keepsMem t) ∧
    (s.commitFault = none → s.rasterUnitRuns = true → ∃ t, exec (.rsCommit h) s = .next t ∧ t.told h .ok ∧
      t.rd F.RS_STATUS_COMMIT_PENDING 0 = 1 ∧ s.keepsCells [F.RS_STATUS_COMMIT_PENDING.key, F.RS_STATUS_REJECT.key] t ∧ s.keepsMem t ∧
      (s.ras.sect = 1 → s.ras.judged = true → s.rmode.vf < s.ras.porch → t.ras =
        { s.ras with porch := max s.rmode.vf (min s.ras.porch (s.ras.line + 1)), cut := true }) ∧
      (s.ras.sect ≠ 1 ∨ s.ras.judged = false ∨ s.ras.porch ≤ s.rmode.vf → t.ras = s.ras))) ∧
  (∀ (s : State) (l : Nat), s.rasterLeaves.find? (fun l => decide ((s.leaf l).phase = .play)) = some l → s.rasPlays = true →
    s.atPorch = true → (s.leaf l).bdue = false → (s.leaf l).nextStart < tickAt (s.tick + 1) → (s.leaf l).abortNow false = [] →
    s.rd F.UNIT_VCOUNT_VCOUNT l = s.ras.k % 2 ^ 48 →
    ∃ t, exec .frontPorchStart s = .next t ∧ t.ras.judged = true ∧ s.keepsMem t ∧
      (s.rd F.RS_STATUS_COMMIT_PENDING 0 ≠ 0 → t.rd F.RS_STATUS_COMMIT_PENDING 0 = 0 ∧ t.ras.still = 0 ∧
        t.rd F.RS_BG_COLOUR 1 = s.rd F.RS_BG_COLOUR 0 % 2 ^ 24 ∧
        (∀ n < 3, t.rd F.RS_L_BASE_BASE (3 + n) = s.rd F.RS_L_BASE_BASE n % 2 ^ 34)) ∧
      (s.rd F.RS_STATUS_COMMIT_PENDING 0 = 0 → (∀ n < 3, t.gen n = s.gen n) ∧
        t.ras.still = (if s.rd F.RS_STATIC_DIV 0 = 0 then 0 else s.ras.still + 1)) ∧
      (s.rd F.RS_STATIC_DIV 0 ≠ 0 → s.rd F.RS_STATIC_N 0 ≤ t.ras.still →
        t.ras.porch = s.rmode.vf + s.rd F.RS_STATIC_DIV 0 * s.rmode.vt ∧ t.rd F.RS_STATUS_STATIC 0 = 1) ∧
      (s.rd F.RS_STATIC_DIV 0 = 0 ∨ t.ras.still < s.rd F.RS_STATIC_N 0 →
        t.ras.porch = s.rmode.vf ∧ t.rd F.RS_STATUS_STATIC 0 = 0)) ∧
  (∀ (s : State) (at_ : Fin 327680), s.rasPlays = true → s.rd F.RS_CFG_SYNC 0 ≠ 0 →
    (s.ras.free = true → ∃ t, exec (.teEdge at_) s = .next t ∧ t.ras = { s.ras with free := false } ∧ t.rd F.RS_STATUS_TE_TIMEOUT 0 = 0 ∧
      s.keepsCells [F.RS_STATUS_TE_TIMEOUT.key, F.MC_UREG_VALUE.key] t ∧ s.keepsMem t) ∧
    (∀ w, s.ras.free = false → s.ras.wait = some w → s.ras.edge = none → w ≤ tickAt s.tick + at_.val →
      ∃ t, exec (.teEdge at_) s = .next t ∧ t.ras = { s.ras with edge := some (tickAt s.tick + at_.val) } ∧
        t.rd F.RS_STATUS_WAITING 0 = 0 ∧ s.keepsCells [F.RS_STATUS_WAITING.key, F.MC_UREG_VALUE.key] t ∧ s.keepsMem t)) ∧
  (∀ (s : State) (w : Nat), s.rasPlays = true → s.ras.wait = some w → s.ras.edge = none → s.ras.free = false →
    w + 2 * (s.rmode.ht * s.rmode.vt * s.rmode.period) < tickAt (s.tick + 1) →
    ∃ t, exec .teTimeout s = .next t ∧ t.rd F.RS_STATUS_TE_TIMEOUT 0 = 1 ∧ t.rd F.RS_STATUS_WAITING 0 = 0 ∧
      t.ras = { s.ras with free := true, gaveUp := true, wait := none } ∧ s.keepsMem t) ∧
  (∀ (s : State) (h : Hdr) (u : Fin 256), s.serves h (unitAddr (.loc u)) (.write64 1) → s.rasterStarts u.val = true → s.unitExists u.val = true →
    (s.startRefused u.val s.rasTiming rRS_TIMING = none → ∃ t, exec (.start h (.loc u)) s = .next t ∧ t.told h .ok ∧
      (t.unit u.val).pending = some (s.rd F.UNIT_START_TICK_START_TICK u.val) ∧
      (∀ l ∈ s.leavesOf u.val, (t.leaf l).phase = .armed ∧ (t.leaf l).raster = true) ∧ s.keepsMem t) ∧
    (∀ r, s.startRefused u.val s.rasTiming rRS_TIMING = some r → ∃ t, exec (.start h (.loc u)) s = .next t ∧ t.told h (.rejected r 0) ∧
      s.keepsCells rejectKeys t ∧ t.units = s.units ∧ t.leaves = s.leaves ∧ s.keepsMem t)) ∧
  (∀ (s : State) (l par : Fin 16), (s.leaf l.val).raster = true → (s.leaf l.val).phase = .play → (s.leaf l.val).bdue = true →
    edgeOf (s.leaf l.val).nextStart < tickAt (s.tick + 1) → (s.leaf l.val).abortNow (s.atEnd l.val) = [] →
    ∃ t, exec (.beadBoundary ⟨l, par⟩) s = .next t ∧ (t.leaf l.val).bdue = false ∧ (t.leaf l.val).off = 0 ∧
      (t.leaf l.val).beadSeq = (s.leaf l.val).beadSeq + 1 ∧ (t.leaf l.val).phase = .play ∧ s.keepsMem t) ∧
  (∀ (s : State) (l : Fin 16), (s.leaf l.val).raster = true → (s.leaf l.val).phase = .play → (s.leaf l.val).bdue = false →
    (s.leaf l.val).nextStart < tickAt (s.tick + 1) → (s.leaf l.val).abortNow (s.atEnd l.val) = [] → s.swapDue l.val = false →
    (s.rasAtEnd l.val = true → ∃ t, exec (.vectorIssue l) s = .next t ∧ (t.leaf l.val).phase = .ended ∧ s.keepsMem t) ∧
    (s.rasAtEnd l.val = false → (s.leaf l.val).off = 0 → s.period (s.leaf l.val).bank l.val (s.rd F.RS_CFG_TSEL 0) ≠ s.rmode.period →
      ∃ t a, exec (.vectorIssue l) s = .next t ∧ (t.leaf l.val).aborts = (s.leaf l.val).aborts ++ [a] ∧ a.cause = 0x04 ∧
        t.rd F.RS_STATUS_PERIOD_BAD 0 = 1 ∧ s.keepsMem t) ∧
    (s.rasAtEnd l.val = false → (s.leaf l.val).off ≠ 0 ∨ s.period (s.leaf l.val).bank l.val (s.rd F.RS_CFG_TSEL 0) = s.rmode.period →
      s.atPorch = false ∨ s.rd F.UNIT_VCOUNT_VCOUNT l.val ≠ s.ras.k % 2 ^ 48 →
      ∃ t, exec (.vectorIssue l) s = .next t ∧ t.rd F.UNIT_VCOUNT_VCOUNT l.val = (s.rd F.UNIT_VCOUNT_VCOUNT l.val + 1) % 2 ^ 48 ∧
        (t.leaf l.val).nextStart = (s.leaf l.val).nextStart + s.period (s.leaf l.val).bank l.val (s.rd F.RS_CFG_TSEL 0) ∧
        (t.leaf l.val).off = (s.leaf l.val).off + 1 ∧ (t.leaf l.val).bdue = decide (63 ≤ (s.leaf l.val).off) ∧ s.keepsMem t))

/-- O51. In writes of MNT_CTL that this module serves: MOUNT that fails none of checks 0x01 to 0x03 is answered OK and
stages the image (MNT_STATUS MOUNTING); one that fails the check of a code is rejected BLOCK_REJECT with it,
MNT_REJECT holds it with OFFSET and SECTION 0 and LAST_OK stays. MOUNT_COMPLETE of a staged image that passes every
check, in STANDBY and not abandoned, at a tick boundary: the module is MOUNTED, the image is in force, every unit
reads IDLE, every strand is UNPLANNED and LAST_OK is 1; of one that fails a check, MNT_REJECT names it with its place,
LAST_OK is 0 and the module stays as it was, UNMOUNTED; of one abandoned, the code is 0x13. UNMOUNT in MOUNTED with no
unit running or start-pending is answered OK, the module is in STANDBY, and no local unit and no cluster group of it
exists; otherwise it is rejected STATE. UNMOUNT_COMPLETE leaves UNMOUNTED, no channel active, every PMU and converter
OFF, every strand UNPLANNED and no plan. No byte of DRAM changes. -/
def Obligations.Mounting : Prop :=
  (∀ (s : State) (h : Hdr), s.serves h 0x30000 (.write64 1) →
    (s.mountClosed = none → ∃ t, exec (.mount h) s = .next t ∧ t.told h .ok ∧ t.rd F.MNT_STATUS_STATE 0 = 1 ∧ t.mstate = s.mstate ∧
      t.mnt.staging = some (s.dram.read (s.rd F.MNT_SRC_ADDR_ADDR 0 - 0x100000000) (s.rd F.MNT_SRC_LEN_LEN 0)) ∧ t.mnt.abandon = false ∧
      t.mnt.img = s.mnt.img ∧ s.keepsMem t) ∧
    (∀ c, s.mountClosed = some c → ∃ t, exec (.mount h) s = .next t ∧ t.told h (.rejected 0x38 c) ∧ t.rd F.MNT_REJECT_CODE 0 = c % 2 ^ 8 ∧
      t.rd F.MNT_REJECT_OFFSET 0 = 0 ∧ t.rd F.MNT_REJECT_SECTION 0 = 0 ∧ t.mnt = s.mnt ∧ s.keepsCells ([F.MNT_REJECT_CODE.key,
        F.MNT_REJECT_OFFSET.key, F.MNT_REJECT_SECTION.key] ++ rejectKeys) t ∧ s.keepsMem t)) ∧
  (∀ (s : State) (e : Option (BitVec 80)) (b : List Byte), s.mnt.staging = some b →
    (∀ c, imageCheck b b.length s.mnt.stageMod = .inr c → s.mnt.abandon = false → s.mstate = 2 → s.sub = 0 →
      ∃ t, exec (.mountComplete e) s = .next t ∧ t.rd F.MNT_STATUS_STATE 0 = 2 ∧ t.rd F.MNT_STATUS_LAST_OK 0 = 1 ∧ t.mstate = 3 ∧
        t.image = some c.image ∧ t.mnt.staging = none ∧ (∀ l < 16, t.rd F.UNIT_STATUS_STATE l = 0) ∧ (∀ id, dRes (t.desc id) = 0) ∧
        s.keepsBytes t) ∧
    (∀ code off sec, imageCheck b b.length s.mnt.stageMod = .inl (code, off, sec) → ∃ t, exec (.mountComplete e) s = .next t ∧
      t.rd F.MNT_REJECT_CODE 0 = code % 2 ^ 8 ∧ t.rd F.MNT_REJECT_OFFSET 0 = off % 2 ^ 24 ∧ t.rd F.MNT_REJECT_SECTION 0 = sec % 2 ^ 16 ∧
      t.rd F.MNT_STATUS_STATE 0 = 0 ∧ t.rd F.MNT_STATUS_LAST_OK 0 = 0 ∧ t.mnt = { s.mnt with staging := none, abandon := false } ∧
      s.keepsCells ([F.MNT_REJECT_CODE.key, F.MNT_REJECT_OFFSET.key, F.MNT_REJECT_SECTION.key, F.MNT_STATUS_STATE.key,
        F.MNT_STATUS_LAST_OK.key] ++ rejectKeys) t ∧ s.keepsMem t) ∧
    (∀ c, imageCheck b b.length s.mnt.stageMod = .inr c → s.mnt.abandon = true → ∃ t, exec (.mountComplete e) s = .next t ∧
      t.rd F.MNT_REJECT_CODE 0 = 0x13 ∧ t.rd F.MNT_REJECT_OFFSET 0 = 0 ∧ t.rd F.MNT_STATUS_STATE 0 = 0 ∧
      t.rd F.MNT_STATUS_LAST_OK 0 = 0 ∧ t.mnt.staging = none ∧ t.mnt.img = s.mnt.img ∧ s.keepsMem t)) ∧
  (∀ (s : State) (h : Hdr), s.serves h 0x30000 (.write64 2) →
    (s.mstate = 3 → s.rd F.MNT_STATUS_STATE 0 = 2 → s.anyBusy = false → ∃ t, exec (.unmount h) s = .next t ∧ t.told h .ok ∧ t.mstate = 2 ∧
      t.rd F.MNT_STATUS_STATE 0 = 3 ∧ (∀ u < 256, t.unitExists u = false) ∧
      (∀ g ∈ t.clu.groups, g.modmask.testBit s.module = false ∧ g ∈ s.clu.groups) ∧ s.keepsMem t) ∧
    (s.mstate ≠ 3 ∨ s.rd F.MNT_STATUS_STATE 0 ≠ 2 ∨ s.anyBusy = true → ∃ t, exec (.unmount h) s = .next t ∧ t.told h (.rejected 0x09 0) ∧
      t.mnt = s.mnt ∧ s.keepsCells rejectKeys t ∧ s.keepsMem t)) ∧
  (∀ s : State, s.rd F.MNT_STATUS_STATE 0 = 3 → ∃ t, exec .unmountComplete s = .next t ∧ t.rd F.MNT_STATUS_STATE 0 = 0 ∧ t.mnt.img = none ∧
    (∀ n < 8, t.acqQuiet n = true) ∧ (∀ p < 144, t.rd F.DC_PIN_CFG_MODE p = 0) ∧ (∀ l < 16, t.rd F.DSA_CTL_MODE l = 0) ∧
    (∀ id, dRes (t.desc id) = 0) ∧ t.rd F.PL_STATUS_CUR 0 = 0 ∧ ∀ a, t.dram.byte a = s.dram.byte a)

/-- O52. For a port out of BOOT: LINK_SIGNAL_DETECT takes DETECT to TRAIN. LANE_TRAIN_DONE within 2 ms with an enabled
lane aligned within 16 ns takes TRAIN to CAPS and shows the good lanes and the skews, with none it changes nothing.
TRAIN_TIMEOUT after 2 ms and CAPS_TIMEOUT after 1 ms end bring-up with their FAIL_CODE and one more LK_TRAIN_FAILS.
CAPS_RECEIVED within 1 ms of version 1 with a common lane uses the lowest good lanes and goes to STEP, or to ACTIVE
where the target is rate 0; of another version it fails. RATE_STEP_DONE that passes within 5 ms, the used lanes within
16 ns, raises RATE by one and enters ACTIVE at the target; else it enters ACTIVE at the rate held, with STEP_CHECK.
LINK_WAIT_EXPIRE after 10 ms goes to DETECT. In writes this module serves, RETRAIN of an ACTIVE port loses the link
with FAIL_CODE RETRAIN and leaves none unacknowledged, TEST_ENTER goes to TEST at the last rate and width with no
checker locked, TEST_EXIT from TEST to WAIT. Without ENABLE, WAIT is DISABLED. No byte of memory changes. -/
def Obligations.LinkBringUp : Prop :=
  ∀ (s : State) (p : Fin 5), s.mstate ≠ 1 →
    (s.lkState p.val = 2 → ∃ t, exec (.linkSignalDetect p) s = .next t ∧ t.lkState p.val = 3 ∧ s.keepsCells [F.LK_STAT_STATE.key] t ∧
      s.keepsMem t) ∧
    (∀ (lanes : Fin 16) (skew : List (BitVec 8)) (eq : List (BitVec 44)) (delay : BitVec 32), s.lkState p.val = 3 →
      ((∃ k < 4, lanes.val.testBit k = true ∧ (s.rd F.LK_CFG_LANE_EN p.val).testBit k = true ∧ (skew.getD k 0).toNat ≤ 128) →
          s.now ≤ (s.port p.val).since + 2000 * 1280000 →
        ∃ t, exec (.laneTrainDone p lanes skew eq delay) s = .next t ∧ t.lkState p.val = 4 ∧
          (∀ k < 4, (t.rd F.LK_STAT_LANES_GOOD p.val).testBit k = (lanes.val.testBit k && (s.rd F.LK_CFG_LANE_EN p.val).testBit k &&
            decide ((skew.getD k 0).toNat ≤ 128))) ∧ (∀ k < 4, t.rd F.LK_SKEW_V (4 * p.val + k) = (skew.getD k 0).toNat) ∧ s.keepsMem t) ∧
      ((∀ k < 4, (lanes.val.testBit k && (s.rd F.LK_CFG_LANE_EN p.val).testBit k && decide ((skew.getD k 0).toNat ≤ 128)) = false) →
        exec (.laneTrainDone p lanes skew eq delay) s = .next s)) ∧
    (∀ locked, s.lkState p.val = 3 → (s.port p.val).since + 2000 * 1280000 < tickAt (s.tick + 1) →
      ∃ t, exec (.trainTimeout p locked) s = .next t ∧ t.rd F.LK_STAT_FAIL_CODE p.val = (if locked then 2 else 1) ∧
        t.rd F.LK_STAT_STATE p.val = bit (s.on F.LK_CFG_ENABLE p.val) ∧
        t.rd F.LK_TRAIN_FAILS_COUNT p.val = min (s.rd F.LK_TRAIN_FAILS_COUNT p.val + 1) (2 ^ 32 - 1) ∧ s.keepsMem t) ∧
    (s.lkState p.val = 4 → (s.port p.val).since + 1000 * 1280000 < tickAt (s.tick + 1) →
      ∃ t, exec (.capsTimeout p) s = .next t ∧ t.rd F.LK_STAT_FAIL_CODE p.val = 3 ∧ t.rd F.LK_STAT_STATE p.val = bit (s.on F.LK_CFG_ENABLE p.val) ∧
        t.rd F.LK_TRAIN_FAILS_COUNT p.val = min (s.rd F.LK_TRAIN_FAILS_COUNT p.val + 1) (2 ^ 32 - 1) ∧ s.keepsMem t) ∧
    (∀ (rate : Fin 4) (lanes : Fin 16) (peer : Fin 8) (ver : BitVec 8), s.lkState p.val = 4 →
      s.now ≤ (s.port p.val).since + 1000 * 1280000 →
      (ver.toNat = 1 → useLanes (s.rd F.LK_STAT_LANES_GOOD p.val &&& lanes.val) ≠ 0 →
        ∃ t, exec (.capsReceived p rate lanes peer ver) s = .next t ∧ t.rd F.LK_STAT_RATE p.val = 0 ∧
          t.rd F.LK_STAT_LANES_USED p.val = useLanes (s.rd F.LK_STAT_LANES_GOOD p.val &&& lanes.val) ∧
          t.rd F.LK_STAT_PEER_PORT p.val = (if peer.val < 5 then peer.val else 7) ∧
          t.lkState p.val = (if min (s.rd F.LK_CFG_MAX_RATE p.val) rate.val = 0 then 6 else 5) ∧ s.keepsMem t) ∧
      (ver.toNat ≠ 1 → ∃ t, exec (.capsReceived p rate lanes peer ver) s = .next t ∧ t.rd F.LK_STAT_FAIL_CODE p.val = 3 ∧
        t.rd F.LK_STAT_STATE p.val = bit (s.on F.LK_CFG_ENABLE p.val) ∧ s.keepsMem t)) ∧
    (∀ (pass : Bool) (skew : List (BitVec 8)) (eq : List (BitVec 44)), s.lkState p.val = 5 →
      (pass = true → s.now ≤ (s.port p.val).since + 5000 * 1280000 →
          (∀ k < 4, (s.rd F.LK_STAT_LANES_USED p.val).testBit k = true → (skew.getD k 0).toNat ≤ 128) →
        ∃ t, exec (.rateStepDone p pass skew eq) s = .next t ∧ t.rd F.LK_STAT_RATE p.val = (s.rd F.LK_STAT_RATE p.val + 1) % 2 ^ 2 ∧
        t.lkState p.val = (if (s.port p.val).target ≤ (s.rd F.LK_STAT_RATE p.val + 1) % 2 ^ 2 then 6 else 5) ∧ s.keepsMem t) ∧
      (pass = false ∨ (s.port p.val).since + 5000 * 1280000 < s.now ∨
          (∃ k < 4, (s.rd F.LK_STAT_LANES_USED p.val).testBit k = true ∧ 128 < (skew.getD k 0).toNat) →
        ∃ t, exec (.rateStepDone p pass skew eq) s = .next t ∧ t.rd F.LK_STAT_RATE p.val = s.rd F.LK_STAT_RATE p.val ∧ t.lkState p.val = 6 ∧
        t.rd F.LK_STAT_FAIL_CODE p.val = 4 ∧
        t.rd F.LK_TRAIN_FAILS_COUNT p.val = min (s.rd F.LK_TRAIN_FAILS_COUNT p.val + 1) (2 ^ 32 - 1) ∧ s.keepsMem t)) ∧
    (s.lkState p.val = 1 → (s.port p.val).since + 10000 * 1280000 < tickAt (s.tick + 1) →
      ∃ t, exec (.linkWaitExpire p) s = .next t ∧ t.rd F.LK_STAT_STATE p.val = (if s.on F.LK_CFG_ENABLE p.val then 2 else 0) ∧
        s.keepsCells [F.LK_STAT_STATE.key, F.MC_UREG_VALUE.key] t ∧ s.keepsMem t) ∧
    (∀ h : Hdr, s.serves h (0x350100 + 0x100 * p.val) (.write64 1) → s.lkState p.val = 6 →
      ∃ t, exec (.retrain h p) s = .next t ∧ t.told h .ok ∧ t.rd F.LK_STAT_FAIL_CODE p.val = 8 ∧ t.rd F.LK_STAT_WIDTH p.val = 0 ∧
        t.rd F.LK_STAT_STATE p.val = bit (s.on F.LK_CFG_ENABLE p.val) ∧ (t.port p.val).unacked = [] ∧ s.keepsMem t) ∧
    (∀ h : Hdr, s.serves h (0x350100 + 0x100 * p.val) (.write64 2) → s.lkState p.val ≠ 7 →
      ∃ t, exec (.testEnter h p) s = .next t ∧ t.told h .ok ∧ t.lkState p.val = 7 ∧ t.rd F.LK_STAT_FAIL_CODE p.val = 8 ∧
        t.rd F.LK_PRBS_STAT_LOCK p.val = 0 ∧ s.keepsMem t ∧
        (s.rd F.LK_STAT_WIDTH p.val ≠ 0 → t.rd F.LK_STAT_RATE p.val = s.rd F.LK_STAT_RATE p.val % 2 ^ 2 ∧
          t.rd F.LK_STAT_WIDTH p.val = s.rd F.LK_STAT_WIDTH p.val % 2 ^ 2) ∧
        (s.rd F.LK_STAT_WIDTH p.val = 0 → t.rd F.LK_STAT_RATE p.val = (s.port p.val).lastRate % 2 ^ 2 ∧
          t.rd F.LK_STAT_WIDTH p.val = (s.port p.val).lastWidth % 2 ^ 2)) ∧
    (∀ h : Hdr, s.serves h (0x350100 + 0x100 * p.val) (.write64 4) →
      (s.lkState p.val = 7 → ∃ t, exec (.testExit h p) s = .next t ∧ t.told h .ok ∧ t.rd F.LK_PRBS_STAT_LOCK p.val = 0 ∧
        t.rd F.LK_STAT_STATE p.val = bit (s.on F.LK_CFG_ENABLE p.val) ∧ s.keepsMem t) ∧
      (s.lkState p.val ≠ 7 → ∃ t, exec (.testExit h p) s = .next t ∧ t.told h .ok ∧ t.lk = s.lk ∧ s.keepsCells [] t ∧ s.keepsMem t))

/-- O53. On an ACTIVE port whose width is not changing: FLIT_RECEIVE of a flit with a bad CRC counts it in LK_CRC_ERR, and
in LK_TICK_LOST when it is a TICK; a STREAM or CAPTURE flit with a good CRC and the SEQ expected moves the expected
SEQ on by one modulo 64, any other SEQ leaves it and asks for a replay; a port that is not ACTIVE takes nothing.
NAK_RECEIVED that names an unacknowledged flit, replayed fewer than 4 times, replays from it and counts in LK_REPLAY;
replayed 4 times, the link is lost with REPLAY_LIMIT; one that names none changes nothing. LANE_LOSS of a lane in use
begins to narrow to the lowest lanes good at both ends, at width 1 or with none left it loses the link with
LANES_LOST. RX_SILENT_TIMEOUT 10 us after the last good flit loses it with RX_SILENT. LANE_WIDEN begins to widen where
a wider width is possible. WIDTH_REQUEST begins to narrow to good lanes, or with AUTO_WIDEN to widen to enabled ones,
and without it widens nothing. LK_WIDTH completes a change: the lanes in use are the new ones, a narrowing counts in
LK_DOWNSHIFT; with a flit replayed 4 times already the link is lost with REPLAY_LIMIT. PRBS_CHECKER_LOCK of a checker
that TEST enables shows LOCK and adds its errors. -/
def Obligations.LinkTraffic : Prop :=
  ∀ (s : State) (p : Fin 5),
    (s.lkActive p.val = true → (s.port p.val).change = none →
      (∀ (x : FlitIn),
        (crc16 (toBytes 30 x.raw.toNat) ≠ bits x.raw.toNat 240 16 → ∃ t, exec (.flitReceive p x) s = .next t ∧
          t.rd F.LK_CRC_ERR_COUNT p.val = min (s.rd F.LK_CRC_ERR_COUNT p.val + 1) (2 ^ 32 - 1) ∧ (t.port p.val).nak = true ∧
          (t.port p.val).rxSeq = (s.port p.val).rxSeq ∧ (bits x.raw.toNat 0 3 = 1 →
            t.rd F.LK_TICK_LOST_COUNT p.val = min (s.rd F.LK_TICK_LOST_COUNT p.val + 1) (2 ^ 32 - 1)) ∧ s.keepsMem t) ∧
        (crc16 (toBytes 30 x.raw.toNat) = bits x.raw.toNat 240 16 → bits x.raw.toNat 0 3 = 3 ∨ bits x.raw.toNat 0 3 = 4 →
          ∃ t, exec (.flitReceive p x) s = .next t ∧ (t.port p.val).lastGood = s.now ∧ (x.eq = [] → s.keepsCells [] t) ∧ s.keepsMem t ∧
            (bits x.raw.toNat 3 6 = (s.port p.val).rxSeq → (t.port p.val).rxSeq = ((s.port p.val).rxSeq + 1) % 64 ∧ (t.port p.val).nak = false) ∧
            (bits x.raw.toNat 3 6 ≠ (s.port p.val).rxSeq → (t.port p.val).rxSeq = (s.port p.val).rxSeq ∧ (t.port p.val).nak = true))) ∧
      (∀ q : Fin 64,
        ((s.port p.val).holds q.val = true → (∀ f ∈ (s.port p.val).unacked, f.seq = q.val → f.replays < 4) →
          ∃ t, exec (.nakReceived p q) s = .next t ∧ (t.port p.val).unacked.map (·.seq) = (s.port p.val).unacked.map (·.seq) ∧
            (∀ f ∈ (t.port p.val).unacked, f.seq = q.val → 1 ≤ f.replays) ∧
            t.rd F.LK_REPLAY_COUNT p.val = min (s.rd F.LK_REPLAY_COUNT p.val + 1) (2 ^ 32 - 1) ∧ s.keepsMem t) ∧
        ((∃ f ∈ (s.port p.val).unacked, f.seq = q.val ∧ 4 ≤ f.replays) → ∃ t, exec (.nakReceived p q) s = .next t ∧
          t.rd F.LK_STAT_FAIL_CODE p.val = 5 ∧ t.rd F.LK_STAT_STATE p.val = bit (s.on F.LK_CFG_ENABLE p.val) ∧ (t.port p.val).unacked = [] ∧
          s.keepsMem t) ∧
        ((s.port p.val).holds q.val = false → exec (.nakReceived p q) s = .next s)) ∧
      ((s.port p.val).lastGood + 10 * 1280000 < tickAt (s.tick + 1) → ∃ t, exec (.rxSilentTimeout p) s = .next t ∧
        t.rd F.LK_STAT_FAIL_CODE p.val = 6 ∧ t.rd F.LK_STAT_STATE p.val = bit (s.on F.LK_CFG_ENABLE p.val) ∧ s.keepsMem t) ∧
      (∀ k : Fin 4, (s.port p.val).widen = true → (s.port p.val).laneEn.testBit k.val = true →
        (s.rd F.LK_STAT_LANES_USED p.val).testBit k.val = false →
        ∃ t, exec (.laneWiden p k) s = .next t ∧ (t.rd F.LK_STAT_LANES_GOOD p.val).testBit k.val = true ∧
          (t.port p.val).change = (if laneWidth (popcount 4 (s.rd F.LK_STAT_LANES_USED p.val)) <
              laneWidth (popcount 4 (t.rd F.LK_STAT_LANES_GOOD p.val &&& (s.port p.val).peerLanes))
            then some (useLanes (t.rd F.LK_STAT_LANES_GOOD p.val &&& (s.port p.val).peerLanes), false) else none) ∧
          s.keepsCells [F.LK_STAT_LANES_GOOD.key] t ∧ s.keepsMem t)) ∧
    (s.lkActive p.val = false → ∀ (x : FlitIn), x.eq = [] → exec (.flitReceive p x) s = .next s) ∧
    (∀ (k : Fin 4) (good : Nat), s.lkActive p.val = true → (s.rd F.LK_STAT_LANES_USED p.val).testBit k.val = true →
      good = setBit (s.rd F.LK_STAT_LANES_GOOD p.val) k.val false % 2 ^ 4 &&& (s.port p.val).peerLanes →
      (good ≠ 0 → 2 ≤ popcount 4 (s.rd F.LK_STAT_LANES_USED p.val) →
        ∃ t, exec (.laneLoss p k) s = .next t ∧ (t.rd F.LK_STAT_LANES_GOOD p.val).testBit k.val = false ∧
          (t.port p.val).change = some (useLanes good, true) ∧
          s.keepsCells [F.LK_STAT_LANES_GOOD.key] t ∧ s.keepsMem t) ∧
      (good = 0 ∨ popcount 4 (s.rd F.LK_STAT_LANES_USED p.val) ≤ 1 →
        ∃ t, exec (.laneLoss p k) s = .next t ∧ t.rd F.LK_STAT_FAIL_CODE p.val = 7 ∧
          t.rd F.LK_STAT_STATE p.val = bit (s.on F.LK_CFG_ENABLE p.val) ∧ s.keepsMem t)) ∧
    (∀ (lanes : Fin 16) (used : Nat), s.lkActive p.val = true → used = s.rd F.LK_STAT_LANES_USED p.val →
      (∀ want : Nat, popcount 4 lanes.val < popcount 4 used → want = useLanes (lanes.val &&& s.rd F.LK_STAT_LANES_GOOD p.val) →
        want ≠ 0 → want ≠ used → ∃ t, exec (.widthRequest p lanes) s = .next t ∧ (t.port p.val).change = some (want, true) ∧
        s.keepsCells [] t ∧ s.keepsMem t) ∧
      (popcount 4 used ≤ popcount 4 lanes.val → (s.port p.val).widen = true → useLanes (lanes.val &&& (s.port p.val).laneEn) = lanes.val →
        lanes.val ≠ 0 → lanes.val ≠ used → ∃ t, exec (.widthRequest p lanes) s = .next t ∧ (t.port p.val).change = some (lanes.val, false) ∧
        s.keepsCells [] t ∧ s.keepsMem t) ∧
      (popcount 4 used ≤ popcount 4 lanes.val → (s.port p.val).widen = false → used < 16 → exec (.widthRequest p lanes) s = .next s)) ∧
    (∀ (lanes : Fin 16) (narrow : Bool), (s.port p.val).change = some (lanes.val, narrow) →
      (replaySpent (s.port p.val).unacked = true → ∃ t, exec (.lkWidth p) s = .next t ∧ (t.port p.val).change = none ∧
        t.rd F.LK_STAT_FAIL_CODE p.val = 5 ∧ t.rd F.LK_STAT_STATE p.val = bit (s.on F.LK_CFG_ENABLE p.val) ∧ s.keepsMem t) ∧
      (replaySpent (s.port p.val).unacked = false → ∃ t, exec (.lkWidth p) s = .next t ∧ (t.port p.val).change = none ∧ t.rd F.LK_STAT_LANES_USED p.val = lanes.val ∧
        t.rd F.LK_STAT_WIDTH p.val = widthCode lanes.val ∧ (narrow = true →
          t.rd F.LK_DOWNSHIFT_COUNT p.val = min (s.rd F.LK_DOWNSHIFT_COUNT p.val + 1) (2 ^ 32 - 1)) ∧
        (narrow = false → t.rd F.LK_DOWNSHIFT_COUNT p.val = s.rd F.LK_DOWNSHIFT_COUNT p.val) ∧ s.keepsMem t)) ∧
    (∀ (k : Fin 4) (errs : BitVec 32), s.lkState p.val = 7 → (s.rd F.LK_PRBS_CTL_CHK p.val).testBit k.val = true →
      ∃ t, exec (.prbsCheckerLock p k errs) s = .next t ∧ (t.rd F.LK_PRBS_STAT_LOCK p.val).testBit k.val = true ∧
        t.rd F.LK_PRBS_ERR_COUNT (4 * p.val + k.val) = min (s.rd F.LK_PRBS_ERR_COUNT (4 * p.val + k.val) + errs.toNat) (2 ^ 32 - 1) ∧
        s.keepsMem t)

/-- O54. A HELLO that names an anchor on an ACTIVE neighbour port takes a module in no cluster to JOINING, when the ports
match; ports that do not match fence the port. HELLO_RESEND sends a HELLO whose state, role or anchor has changed, and
an unanswered one again 1 ms later. At the anchor a challenge answered with a chain or a serial that fails makes the
module REFUSED; one answered rightly gives it an adoption tick 16 ticks on where the roster lists it, else it is
FOREIGN. An answer missing for 10 ms is a failed attempt, the third makes it REFUSED. The challenged module signs the
nonce, and shows the verdict. ROSTER_WRITE, in a write this module serves, sets the entry. TICK_ADOPTION makes the
tick A, the module ADMITTED with its number, unless a unit runs (JOIN_WAIT); at the anchor the map shows it ADMITTED.
A cluster group is formed at the anchor when the declarations of all its members agree, it has two members or more,
its parent is formed and its copy-0 bound meets 358 ns; the other modules show what the anchor tells them. -/
def Obligations.ClusterAdmission : Prop :=
  ∀ s : State,
    (∀ (p : Fin 5) (h : HelloIn), p.val < 4 → s.lkActive p.val = true → s.anchor = false →
      s.rd F.ID_STAT_STATE 0 = 0 ∨ s.rd F.ID_STAT_STATE 0 = 4 ∨ s.rd F.ID_STAT_STATE 0 = 5 →
      (h.port.val = (p.val + 2) % 4 → h.anchor ≠ 0 → ∃ t, exec (.helloReceived p none h) s = .next t ∧ t.rd F.ID_STAT_STATE 0 = 1 ∧
        t.rd F.ID_STAT_REASON 0 = 0 ∧ t.clu.fenced.contains p.val = false ∧ s.keepsCells [F.ID_STAT_STATE.key, F.ID_STAT_REASON.key] t ∧
        s.keepsMem t) ∧
      (h.port.val ≠ (p.val + 2) % 4 → ∃ t, exec (.helloReceived p none h) s = .next t ∧ t.clu.fenced.contains p.val = true ∧
        s.keepsCells eventKeys t ∧ s.keepsMem t)) ∧
    (∀ p : Fin 5, p.val < 4 → s.lkActive p.val = true → (Table.get? s.clu.said p.val).getD [] ≠ s.helloSays p.val →
      ∃ t, exec (.helloResend p) s = .next t ∧ Table.get? t.clu.helloAt p.val = some s.now ∧
        Table.get? t.clu.said p.val = some (s.helloSays p.val) ∧ t.clu.out = s.clu.out ++ [(16 + p.val, .hello (s.ownHello p.val))] ∧
        s.keepsCells [] t ∧ s.keepsMem t) ∧
    (∀ p : Fin 5, p.val < 4 → s.lkActive p.val = true → (Table.get? s.clu.said p.val).getD [] = s.helloSays p.val →
      Table.get? s.clu.peers p.val = none →
      (Table.get? s.clu.helloAt p.val).getD (s.port p.val).since + 1000 * 1280000 < tickAt (s.tick + 1) →
      ∃ t, exec (.helloResend p) s = .next t ∧
        Table.get? t.clu.helloAt p.val = some ((Table.get? s.clu.helloAt p.val).getD (s.port p.val).since + 1000 * 1280000) ∧
        s.keepsCells [F.MC_UREG_VALUE.key] t ∧ s.keepsMem t) ∧
    (∀ (m : Fin 16) (c : Chal) (ok : Bool) (serial : BitVec 48) (key sig : List Byte), s.anchor = true → Table.get? s.clu.chals m.val = some c →
      (ok = false ∨ serial.toNat ≠ c.serial → ∃ t, exec (.challengeResponse m (.answer ok serial key sig)) s = .next t ∧
        t.rd F.ID_MAP_MSTATE m.val = 5 ∧ Table.get? t.clu.chals m.val = none ∧ s.keepsCells (F.ID_MAP_MSTATE.key :: eventKeys) t ∧ s.keepsMem t) ∧
      (ok = true → serial.toNat = c.serial → Config.ecdsaVerify key (Config.sha256 (signed c.nonce c.serial s.serial)) sig = true →
        (s.on F.ID_ROSTER_VALID m.val = true → s.rd F.ID_ROSTER_SERIAL m.val = c.serial → s.admittedElsewhere m.val c.serial = false →
          ∃ t, exec (.challengeResponse m (.answer ok serial key sig)) s = .next t ∧ Table.get? t.clu.adopt m.val = some (s.tick + 16) ∧
            s.keepsCells [] t ∧ s.keepsMem t) ∧
        (s.on F.ID_ROSTER_VALID m.val = false ∨ s.rd F.ID_ROSTER_SERIAL m.val ≠ c.serial ∨ s.admittedElsewhere m.val c.serial = true →
          ∃ t, exec (.challengeResponse m (.answer ok serial key sig)) s = .next t ∧ t.rd F.ID_MAP_MSTATE m.val = 2 ∧ s.keepsMem t))) ∧
    (∀ (m : Fin 16) (p : Fin 4) (nonce : BitVec 256) (a : BitVec 48), s.anchor = false → s.admitted = false → s.lkActive p.val = true →
      ∃ t, exec (.challengeResponse m (.nonce p nonce a)) s = .next t ∧ t.clu.out = s.clu.out ++
        [(16 + p.val, .answer (Config.deviceSign (Config.sha256 (signed nonce.toNat s.serial a.toNat))))] ∧ s.keepsCells [] t ∧ s.keepsMem t) ∧
    (∀ (m : Fin 16) (refused : Bool) (reason : Fin 5), s.rd F.ID_STAT_STATE 0 = 1 → s.anchor = false →
      ∃ t, exec (.challengeResponse m (.verdict refused reason)) s = .next t ∧ t.rd F.ID_STAT_STATE 0 = (if refused then 4 else 2) ∧
        t.rd F.ID_STAT_REASON 0 = reason.val ∧ s.keepsCells ([F.ID_STAT_STATE.key, F.ID_STAT_REASON.key] ++ eventKeys) t ∧ s.keepsMem t) ∧
    (∀ (m : Fin 16) (c : Chal), s.anchor = true → Table.get? s.clu.chals m.val = some c → c.sentAt + 10000 * 1280000 < tickAt (s.tick + 1) →
      (c.fails < 2 → ∃ t, exec (.challengeTimeout m) s = .next t ∧
        (∃ d, Table.get? t.clu.chals m.val = some d ∧ d.serial = c.serial ∧ d.fails = c.fails + 1) ∧ s.keepsCells [F.MC_UREG_VALUE.key] t ∧
        s.keepsMem t) ∧
      (2 ≤ c.fails → ∃ t, exec (.challengeTimeout m) s = .next t ∧ t.rd F.ID_MAP_MSTATE m.val = 5 ∧ Table.get? t.clu.chals m.val = none ∧
        s.keepsMem t)) ∧
    (∀ (h : Hdr) (m : Fin 16) (data : Word), s.serves h (0x60100 + 8 * m.val) (.write64 data.toNat) → data.toNat < 2 ^ 49 →
      ∃ t, exec (.rosterWrite h m data) s = .next t ∧ t.told h .ok ∧ t.rd F.ID_ROSTER_SERIAL m.val = data.toNat % 2 ^ 48 ∧
        t.on F.ID_ROSTER_VALID m.val = data.toNat.testBit 48 ∧ s.keepsMem t) ∧
    (∀ (m : Fin 16) (a : AdoptIn), s.anchor = false → s.rd F.ID_STAT_STATE 0 ≠ 0 → s.rd F.ID_STAT_STATE 0 ≠ 4 →
      (s.anyBusy = true → ∃ t, exec (.tickAdoption m (some a)) s = .next t ∧ t.rd F.ID_STAT_JOIN_WAIT 0 = 1 ∧
        s.keepsCells [F.ID_STAT_JOIN_WAIT.key] t ∧ s.keepsMem t) ∧
      (s.anyBusy = false → ∃ t, exec (.tickAdoption m (some a)) s = .next t ∧ t.tick = a.tick.toNat ∧ t.sub = 0 ∧ t.admitted = true ∧
        t.module = m.val ∧ t.rd F.ID_STAT_ANCHOR 0 = a.anchor.val ∧ t.rd F.ID_STAT_JOIN_WAIT 0 = 0 ∧ t.rd F.ID_STAT_TICK_HOLD 0 = 0)) ∧
    (∀ (m : Fin 16) (n : Nat), s.anchor = true → Table.get? s.clu.adopt m.val = some n → n ≤ s.tick →
      ∃ t, exec (.tickAdoption m none) s = .next t ∧ t.rd F.ID_MAP_MSTATE m.val = 3 ∧ Table.get? t.clu.adopt m.val = none ∧ s.keepsMem t) ∧
    (∀ (c : Fin 1024) (i : CgIn) (told : Option CgTold) (d : DeclIn) (ds : List DeclIn) (g : CluGroup), s.admitted = true → s.anchor = true →
      g = { cunit := c.val, parent := d.parent.map (·.val), modmask := d.modmask.toNat, depth := i.depth.toNat } →
      ds = (i.decls.filter (fun d => d.module.val != s.module && s.mapAdmitted d.module.val)) ++ s.ownDecl c.val → declBad ds = none →
      ds.head? = some d → i.depth.toNat ≤ 255 → (∀ m < 16, d.modmask.toNat.testBit m = true → ∃ e ∈ ds, e.module.val = m) →
      2 ≤ (ds.map (fun d => d.locals.val)).foldl (· + ·) 0 + i.children.val →
      (∀ p, d.parent = some p → s.on F.ID_CG_FORMED p.val = true) → s.on F.ID_CG_FORMED c.val = false →
      (boundOk (s.flagBound (s.clu.groups.filter (fun x => x.cunit != c.val) ++ [g]) i.hops 0 d.modmask.toNat) 358 = true →
        ∃ t, exec (.clusterGroupForm c i told) s = .next t ∧ t.on F.ID_CG_FORMED c.val = true ∧
          s.keepsCells [F.ID_CG_FORMED.key, F.ID_CG_COPY1_OK.key, F.ID_CG_BOUND0.key, F.ID_CG_BOUND1.key] t ∧ s.keepsMem t) ∧
      (boundOk (s.flagBound (s.clu.groups.filter (fun x => x.cunit != c.val) ++ [g]) i.hops 0 d.modmask.toNat) 358 = false →
        ∃ t, exec (.clusterGroupForm c i told) s = .next t ∧ t.on F.ID_CG_FORMED c.val = false ∧ s.keepsMem t)) ∧
    (∀ (c : Fin 1024) (i : CgIn) (w : CgTold), s.admitted = true → s.anchor = false →
      ∃ t, exec (.clusterGroupForm c i (some w)) s = .next t ∧ t.on F.ID_CG_FORMED c.val = w.formed ∧
        t.rd F.ID_CG_BOUND0 c.val = (if w.formed then w.bound0.toNat else 0) ∧
        s.keepsCells [F.ID_CG_FORMED.key, F.ID_CG_COPY1_OK.key, F.ID_CG_BOUND0.key, F.ID_CG_BOUND1.key] t ∧ s.keepsMem t)

/-- O55. A candidate in no cluster takes the lease: HELD, ROLE 1, expiry 768 ticks on; in one without its anchor it
becomes the anchor. Every 256 ticks the anchor asks for a renewal; one confirmed moves the expiry to the renewal tick
plus 768, a member takes the expiry it is told. At its expiry an anchor gives up the role and has lost the anchor
(TICK_HOLD 1, steer 0), and so has a member whose anchor's heartbeat is missing. A registered secondary shows ROLE 2,
the others SEC_REG. A plan being made is then refused. Markers go out at every 256th tick; the parent's (of a joining
module, its phase port's) gives ERR and STEER and ends TICK_HOLD. A changed map is taken at once, its routes at their
tick. A missing heartbeat makes a module DEPARTED without links, and its cluster groups cease. The secondary claims
the lease at the expiry it holds; the grant makes it the anchor on every module; a refusal announces P 3 ticks on. At
P, or 1024 ticks after the loss, the module is PARTITIONED and every running unit is asked to abort with cause 0x0F. -/
def Obligations.AnchorAndLease : Prop :=
  ∀ s : State,
    (s.candidateU s.mnt.priCand = true → s.anchor = false → s.admitted = false → ∃ t, exec .leaseGrant s = .next t ∧ t.anchor = true ∧
      t.rd F.ID_STAT_ROLE 0 = 1 ∧ t.rd F.ID_LEASE_EXPIRY 0 = (s.tick + 768) % 2 ^ 40 ∧ t.clu.renewAt = s.tick + 256 ∧ s.keepsMem t) ∧
    (s.candidateU s.mnt.priCand = true → s.anchor = false → s.admitted = true → s.clu.lostAt.isSome = true → ∃ t, exec .leaseGrant s = .next t ∧
      t.anchor = true ∧ t.rd F.ID_STAT_ROLE 0 = 1 ∧ t.rd F.ID_STAT_TICK_HOLD 0 = 0 ∧ t.clu.lostAt = none ∧ s.keepsMem t) ∧
    (s.anchor = true → s.clu.renewAt ≤ s.tick → ∃ t, exec .leaseRenew s = .next t ∧ t.clu.renewAt = s.clu.renewAt + 256 ∧ t.clu.asked = true ∧
      s.keepsCells [] t ∧ s.keepsMem t) ∧
    (s.anchor = true → s.clu.asked = true → ∃ t, exec (.renewalConfirm none) s = .next t ∧ t.clu.expiry = s.clu.renewAt - 256 + 768 ∧
      t.rd F.ID_LEASE_EXPIRY 0 = (s.clu.renewAt - 256 + 768) % 2 ^ 40 ∧ s.keepsCells [F.ID_LEASE_EXPIRY.key] t ∧ s.keepsMem t) ∧
    (∀ e : BitVec 64, s.admitted = true → s.anchor = false → ∃ t, exec (.renewalConfirm (some e)) s = .next t ∧ t.clu.expiry = e.toNat ∧
      t.rd F.ID_LEASE_EXPIRY 0 = e.toNat % 2 ^ 40 ∧ s.keepsCells [F.ID_LEASE_EXPIRY.key] t ∧ s.keepsMem t) ∧
    (s.anchor = true → s.admitted = true → s.clu.lostAt = none → s.clu.expiry ≤ s.tick → ∃ t, exec .leaseExpiry s = .next t ∧ t.anchor = false ∧
      t.rd F.ID_STAT_ROLE 0 = 0 ∧ t.rd F.ID_STAT_TICK_HOLD 0 = 1 ∧ t.rd F.ID_PHASE_STEER 0 = 0 ∧ t.clu.lostAt = some s.tick ∧ s.keepsMem t) ∧
    (∀ b : Nat, s.admitted = true → s.anchor = false → s.clu.lostAt = none → Table.get? s.clu.beats (s.rd F.ID_STAT_ANCHOR 0) = some b →
      tickAt (b + 6) + 288 * 1024 < tickAt (s.tick + 1) → ∃ t, exec .idAnchorLost s = .next t ∧ t.rd F.ID_STAT_TICK_HOLD 0 = 1 ∧
      t.rd F.ID_PHASE_STEER 0 = 0 ∧ t.clu.lostAt = some s.tick ∧
      (s.rd F.PL_STATUS_NEXT 0 ≠ 1 → s.keepsCells ([F.ID_STAT_TICK_HOLD.key, F.ID_PHASE_STEER.key, F.MC_UREG_VALUE.key] ++ journalKeys) t) ∧
      (s.rd F.PL_STATUS_NEXT 0 = 1 → s.pl.next.isSome = true → t.rd F.PL_STATUS_NEXT 0 = 0 ∧ t.rd F.PL_STATUS_REJECT 0 = 0x0D) ∧ s.keepsMem t) ∧
    (∀ m : Fin 16, s.admitted = true →
      (s.module = m.val → s.candidateU s.mnt.secCand = true → s.anchor = false → ∃ t, exec (.secondaryRegistration m) s = .next t ∧
        t.rd F.ID_STAT_ROLE 0 = 2 ∧ t.rd F.ID_LEASE_SEC_REG 0 = 1 ∧ s.keepsCells [F.ID_STAT_ROLE.key, F.ID_LEASE_SEC_REG.key] t ∧ s.keepsMem t) ∧
      (s.module ≠ m.val → ∃ t, exec (.secondaryRegistration m) s = .next t ∧ t.rd F.ID_LEASE_SEC_REG 0 = 1 ∧ t.clu.secondary = some m.val ∧
        s.keepsCells [F.ID_LEASE_SEC_REG.key] t ∧ s.keepsMem t)) ∧
    (s.admitted = true → s.tick % 256 = 0 → ∃ t, exec .phaseMarkerSend s = .next t ∧ t.clu.marker.tick = s.tick ∧
      (∀ p < 4, t.clu.marker.ports.testBit p = (s.lkActive p && !s.clu.fenced.contains p)) ∧ s.keepsCells [] t ∧ s.keepsMem t) ∧
    (∀ (p : Fin 5) (d : Nat) (a o : BitVec 32) (rootHold : Bool), s.anchor = false → s.clu.lostAt = none →
      s.lkActive p.val = true → s.phasePort = some (p.val, d) → ∃ t, exec (.phaseMarkerReceive p a o rootHold) s = .next t ∧
      t.rd F.ID_PHASE_ERR 0 = twos 16 (clampInt (-32768) 32767 (a.toInt - (o.toInt + ((s.port p.val).delay : Nat)))) ∧
      t.rd F.ID_PHASE_STEER 0 = twos 16 (steerOf (a.toInt - (o.toInt + ((s.port p.val).delay : Nat)))) ∧ t.rd F.ID_PHASE_PARENT 0 = p.val ∧
      t.rd F.ID_STAT_TICK_HOLD 0 = 0 ∧ t.on F.ID_STAT_ROOT_HOLDOVER 0 = rootHold ∧ s.keepsMem t) ∧
    (∀ i : MapIn, s.admitted = true → ∃ t, exec (.mapChange i) s = .next t ∧
      (∀ m < 16, t.rd F.ID_MAP_MSTATE m = (i.map.getD m {}).state.val ∧ t.rd F.ID_MAP_LINKS m = (i.map.getD m {}).links.val ∧
        t.rd F.ID_MAP_SERIAL m = (i.map.getD m {}).serial.toNat) ∧
      (∃ r, t.clu.newRoutes = some (if s.anchor then max i.at_.toNat (s.tick + 4) else if s.clu.lostAt.isSome then s.tick + 4 else i.at_.toNat, r)) ∧
      t.clu.routes = s.clu.routes ∧ s.keepsBytes t) ∧
    (∀ (n : Nat) (r : Table Nat), s.clu.newRoutes = some (n, r) → n ≤ s.tick → ∃ t, exec .routeChangeApply s = .next t ∧ t.clu.routes = r ∧
      t.clu.newRoutes = none ∧ s.keepsCells [] t ∧ s.keepsMem t) ∧
    (∀ (m : Fin 16) (b : Nat), s.anchor = true → s.mapAdmitted m.val = true → m.val ≠ s.module → Table.get? s.clu.beats m.val = some b →
      tickAt (b + 6) + 288 * 1024 < tickAt (s.tick + 1) → ∃ t, exec (.idDeparted m) s = .next t ∧ t.rd F.ID_MAP_MSTATE m.val = 4 ∧
      t.rd F.ID_MAP_LINKS m.val = 0 ∧ (∀ g ∈ s.clu.groups, g.modmask.testBit m.val = true → t.rd F.ID_CG_FORMED g.cunit = 0) ∧ s.keepsBytes t) ∧
    (∀ n : Nat, s.clu.lostAt = some n →
      (s.rd F.ID_STAT_ROLE 0 = 2 → n ≤ s.clu.expiry → s.clu.claimAt = none → s.clu.expiry ≤ s.tick →
        ∃ t, exec .leaseClaim s = .next t ∧ t.clu.claimAt = some s.tick ∧ s.keepsCells [] t ∧ s.keepsMem t) ∧
      (s.admitted = true → n + 1024 ≤ s.tick → ∃ t, exec .tickHoldoverLimit s = .next t ∧ t.rd F.ID_STAT_STATE 0 = 5 ∧
        t.rd F.ID_STAT_ROLE 0 = 0 ∧ s.keepsMem t) ∧
      (∀ w : BitVec 64, ∃ t, exec (.claimRefused (some w)) s = .next t ∧ t.clu.partAt = some w.toNat ∧ s.keepsCells [] t ∧ s.keepsMem t)) ∧
    (∀ m : Fin 16, s.admitted = true → s.anchor = false →
      (m.val = s.module → s.clu.claimAt.isSome = true → ∃ t, exec (.idAnchorTakeover m) s = .next t ∧ t.anchor = true ∧ t.tick = s.tick ∧
        t.rd F.ID_STAT_ROLE 0 = 1 ∧ t.rd F.ID_STAT_ANCHOR 0 = m.val ∧ t.rd F.ID_STAT_TICK_HOLD 0 = 0 ∧ s.keepsMem t) ∧
      (m.val ≠ s.module → ∃ t, exec (.idAnchorTakeover m) s = .next t ∧ t.rd F.ID_STAT_ANCHOR 0 = m.val ∧ t.clu.lostAt = none ∧ t.tick = s.tick ∧
        s.keepsCells ([F.ID_STAT_ANCHOR.key, F.ID_LEASE_SEC_REG.key] ++ journalKeys) t ∧ s.keepsMem t)) ∧
    (s.clu.claimAt.isSome = true → ∃ t, exec (.claimRefused none) s = .next t ∧ t.clu.claimAt = none ∧ t.clu.partAt = some (s.tick + 3) ∧
      s.keepsCells [] t ∧ s.keepsMem t) ∧
    (∀ n : Nat, s.clu.partAt = some n → n ≤ s.tick → s.admitted = true → ∃ t, exec .idPartitioned s = .next t ∧ t.rd F.ID_STAT_STATE 0 = 5 ∧
      t.rd F.ID_STAT_ROLE 0 = 0 ∧ t.rd F.ID_LEASE_SEC_REG 0 = 0 ∧
      (∀ l < 16, (s.leaf l).phase = .play → ∃ a, (t.leaf l).aborts = (s.leaf l).aborts ++ [a] ∧ a.cause = 0x0F ∧ a.notBefore = tickAt n) ∧
      s.keepsCells ([F.ID_STAT_STATE.key, F.ID_STAT_ROLE.key, F.ID_LEASE_SEC_REG.key] ++ journalKeys) t ∧ s.keepsMem t)

/-- O56. A PLAN this module serves, on a MOUNTED module that is not PARTITIONED and has no plan PLANNING, with a table of
whole entries in the capture region, is answered OK: NEXT is PLANNING, REJECT is 0, and the table is the bytes in
DRAM. PL_PLANNED ends it: where a check fails, REJECT, ENTRY and STRAND name it and NEXT is 0; where none fails and no
commit came with it, the plan is READY and the plan in force and every descriptor stay. COMMIT of a READY plan none of
whose units is busy and none of whose ranges has changed is answered OK and waits for the next tick boundary; without
a READY plan it is rejected with PL_BUSY. CANCEL discards the plan. PL_LOADED makes CUR IN_FORCE once every pinned
bead is loaded. REPLICA_COPY_DONE sets REPLICA_VALID of a planned strand that has a replica and changes no other
descriptor. -/
def Obligations.PlacementPlanner : Prop :=
  ∀ s : State,
    (∀ (h : Hdr) (commit : Bool), s.serves h 0x40000 (.write64 (1 + 2 * bit commit)) → s.mstate = 3 → s.rd F.ID_STAT_STATE 0 ≠ 5 →
      s.rd F.PL_STATUS_NEXT 0 ≠ 1 → s.inCapture (s.rd F.PL_SRC_ADDR_ADDR 0) (s.rd F.PL_SRC_LEN_LEN 0) = true →
      s.rd F.PL_SRC_LEN_LEN 0 % 16 = 0 →
      ∃ t, exec (.plan h commit) s = .next t ∧ t.told h .ok ∧ t.rd F.PL_STATUS_NEXT 0 = 1 ∧ t.rd F.PL_STATUS_REJECT 0 = 0 ∧
        t.rd F.PL_REJECT_AT_ENTRY 0 = 0 ∧ t.rd F.PL_REJECT_AT_STRAND 0 = 0 ∧ t.pl.cur = s.pl.cur ∧ s.keepsMem t ∧
        ∃ q, t.pl.next = some q ∧ q.thenCommit = commit ∧
          q.raw = s.planTable (s.rd F.PL_SRC_ADDR_ADDR 0 - dramWin) (s.rd F.PL_SRC_LEN_LEN 0)) ∧
    (∀ (r : PlanIn) (p : Plan), s.pl.next = some p → s.rd F.PL_STATUS_NEXT 0 = 1 →
      (∀ c e st : Nat, s.planFault p r = some (c, e, st) → ∃ t, exec (.plPlanned r) s = .next t ∧ t.rd F.PL_STATUS_NEXT 0 = 0 ∧
        t.rd F.PL_STATUS_REJECT 0 = c % 2 ^ 8 ∧ t.rd F.PL_REJECT_AT_ENTRY 0 = e % 2 ^ 32 ∧ t.rd F.PL_REJECT_AT_STRAND 0 = st % 2 ^ 16 ∧
        t.pl.next = none ∧ t.pl.cur = s.pl.cur ∧ s.keepsMem t) ∧
      (s.planFault p r = none → p.thenCommit = false → ∃ t, exec (.plPlanned r) s = .next t ∧ t.rd F.PL_STATUS_NEXT 0 = 2 ∧
        t.pl.next = some (s.computePlan p r) ∧ t.pl.cur = s.pl.cur ∧ t.rd F.PL_STATUS_CUR 0 = s.rd F.PL_STATUS_CUR 0 ∧ s.keepsMem t)) ∧
    (∀ h : Hdr, s.serves h 0x40000 (.write64 2) →
      (∀ p, s.pl.next = some p → s.rd F.PL_STATUS_NEXT 0 = 2 → (∀ u ∈ p.units, s.unitBusy u = false ∧ s.startPending u = false) →
        p.stale = false → ∃ t, exec (.planCommit h) s = .next t ∧ t.told h .ok ∧
          t.pl.commitAt = some (if s.sub = 0 then s.tick else s.tick + 1) ∧ t.pl.next = some p ∧ s.keepsCells [] t ∧ s.keepsMem t) ∧
      (s.rd F.PL_STATUS_NEXT 0 ≠ 2 → ∃ t, exec (.planCommit h) s = .next t ∧ t.told h (.rejected rPL_BUSY 0) ∧ t.pl = s.pl ∧
        s.keepsCells rejectKeys t ∧ s.keepsMem t)) ∧
    (∀ h : Hdr, s.serves h 0x40000 (.write64 4) → ∃ t, exec (.planCancel h) s = .next t ∧ t.told h .ok ∧ t.rd F.PL_STATUS_NEXT 0 = 0 ∧
      t.pl.next = none ∧ t.pl.cur = s.pl.cur ∧ s.keepsCells [F.PL_STATUS_NEXT.key] t ∧ s.keepsMem t) ∧
    (s.rd F.PL_STATUS_CUR 0 = 1 → (∀ l < 16, s.loading l = false) → ∃ t, exec .plLoaded s = .next t ∧ t.rd F.PL_STATUS_CUR 0 = 2 ∧
      s.keepsCells (F.PL_STATUS_CUR.key :: eventKeys) t ∧ s.keepsMem t) ∧
    (∀ st : BitVec 16, (∃ x ∈ s.pl.cur.strands, x.strand = st.toNat ∧ x.replica.isSome = true) → dRes (s.desc st.toNat) ≠ 0 →
      ∃ t, exec (.replicaCopyDone st) s = .next t ∧ dRepValid (t.desc st.toNat) = true ∧ dRes (t.desc st.toNat) = dRes (s.desc st.toNat) ∧
        dHome (t.desc st.toNat) = dHome (s.desc st.toNat) ∧ dReplica (t.desc st.toNat) = dReplica (s.desc st.toNat) ∧
        (∀ id, id ≠ st.toNat → t.desc id = s.desc id) ∧ s.keepsCells [] t ∧ s.keepsBytes t)

/-- O57. With EN set, a scrub pass counts the one correctable burst, on a healthy subchannel, in DM_CE with its address,
and corrects it; with EN clear it waits for a reader; each burst that went bad is uncorrectable afterwards. An alert
of a healthy subchannel counts and stalls it until ALERT_N_DEASSERT; the third in a row of one command marks it faulty
with CA_REPLAY. RETRAIN in STANDBY, in a write this module serves, is answered OK, elsewhere rejected with STATE; at
its end each subchannel of the mask is faulty exactly when it fails, and what was written on the others stays. A
device above 85 C or implausible halves its subchannel's refresh interval, all at 82 C or below restore it. A refresh
comes one interval after the last. Self-refresh is entered in STANDBY or SAFE after SR_IDLE without an access. A host
write of 1 to 256 bytes in one window that no check of R341 refuses is answered OK: exactly its bytes change; one that
a check refuses is rejected with that reason and changes no byte. -/
def Obligations.PatternMemory : Prop :=
  ∀ s : State,
    (∀ b : Fin 268435456, s.on F.DM_SCRUB_EN 0 = true → s.dram.soft = [] → s.dram.ue.contains b.val = false →
      s.scFaulty (s.scOf (b.val * 64)) = false → ∃ t, exec (.scrubPass [b] []) s = .next t ∧ t.dram.soft = [] ∧
      t.rd F.DM_CE_COUNT (s.scOf (b.val * 64)) = min (s.rd F.DM_CE_COUNT (s.scOf (b.val * 64)) + 1) (2 ^ 32 - 1) ∧
      t.rd F.DM_CE_LAST_ADDR (s.scOf (b.val * 64)) = b.val * 64 ∧ s.keepsMem t) ∧
    (∀ b : Fin 268435456, s.on F.DM_SCRUB_EN 0 = false → s.dram.ue.contains b.val = false → ∃ t, exec (.scrubPass [b] []) s = .next t ∧
      t.dram.soft.contains b.val = true ∧ s.keepsCells [] t ∧ s.keepsMem t) ∧
    (∀ soft bad : List (Fin 268435456), ∃ t, exec (.scrubPass soft bad) s = .next t ∧
      (∀ b ∈ bad, t.dram.ue.contains b.val = true) ∧ (∀ id, t.desc id = s.desc id) ∧
      (∀ a v, Table.get? s.dram.mem a = some v → (∀ b ∈ bad, a < b.val * 64 ∨ b.val * 64 + 64 ≤ a) → Table.get? t.dram.mem a = some v)) ∧
    (∀ (k : Fin 4) (again : Bool), s.scFaulty k.val = false → ∃ t, exec (.caAlert k again) s = .next t ∧
      t.rd F.DM_CA_ALERT_COUNT k.val = min (s.rd F.DM_CA_ALERT_COUNT k.val + 1) (2 ^ 32 - 1) ∧ t.dram.stalled.contains k.val = true ∧ s.keepsMem t ∧
      (t.scFaulty k.val = true ↔ again = true ∧ 2 ≤ (Table.get? s.dram.alertRun k.val).getD 0) ∧
      (t.scFaulty k.val = true → t.rd F.DM_SC_STAT_CAUSE k.val = 1)) ∧
    (∀ k : Fin 4, ∃ t, exec (.alertNDeassert k) s = .next t ∧ t.dram.stalled.contains k.val = false ∧ s.keepsCells [] t ∧ s.keepsMem t) ∧
    (∀ (h : Hdr) (sub : Fin 16), s.serves h 0x360000 (.write64 (1 + 16 * sub.val)) → sub.val ≠ 0 →
      (s.mstate = 2 → ∃ t, exec (.dmRetrain h sub) s = .next t ∧ t.told h .ok ∧ t.dram.retrain = some (sub.val ||| s.dram.retrain.getD 0) ∧
        s.keepsCells [] t ∧ s.keepsMem t) ∧
      (s.mstate ≠ 2 → ∃ t, exec (.dmRetrain h sub) s = .next t ∧ t.told h (.rejected rSTATE 0) ∧ t.dram = s.dram ∧ s.keepsCells rejectKeys t ∧
        s.keepsMem t)) ∧
    (∀ (pass : Fin 16) (m : Nat), s.dram.retrain = some m → ∃ t, exec (.dmRetrainDone pass) s = .next t ∧ t.dram.retrain = none ∧
      (∀ k < 4, m.testBit k = true → t.scFaulty k = !pass.val.testBit k) ∧ (∀ k < 4, m.testBit k = false → t.scFaulty k = s.scFaulty k) ∧
      (∀ a v, Table.get? s.dram.mem a = some v → m.testBit (s.scOf a) = false → Table.get? t.dram.mem a = some v) ∧
      (∀ id, t.desc id = s.desc id)) ∧
    (∀ ts : List (BitVec 8), ∃ t, exec (.dramTempRead ts) s = .next t ∧ s.keepsMem t ∧ ∀ k < 4,
      t.rd F.DM_SC_STAT_TEMP k = twos 8 ((((ts.map (fun x => x.toInt)).drop (3 * k)).take 3).foldl max (-128)) ∧
      ((∃ x ∈ (ts.drop (3 * k)).take 3, x.toInt < -40 ∨ 85 < x.toInt) → t.on F.DM_SC_STAT_HOT k = true) ∧
      ((∀ x ∈ (ts.drop (3 * k)).take 3, -40 ≤ x.toInt ∧ x.toInt ≤ 82) → t.on F.DM_SC_STAT_HOT k = false)) ∧
    (∀ (k : Fin 4) (u : Nat), s.on F.DM_STATUS_SR 0 = false → Table.get? s.dram.refreshes k.val = some u →
      u + (if s.on F.DM_SC_STAT_HOT k.val then 2496000 else 4992000) < tickAt (s.tick + 1) → ∃ t, exec (.dramRefresh k) s = .next t ∧
      Table.get? t.dram.refreshes k.val = some (u + (if s.on F.DM_SC_STAT_HOT k.val then 2496000 else 4992000)) ∧
      s.keepsCells [F.MC_UREG_VALUE.key] t ∧ s.keepsMem t) ∧
    (s.mstate = 2 ∨ s.mstate = 4 → s.on F.DM_STATUS_SR 0 = false → (∀ n < 8, (s.acqCh n).fifo = []) →
      s.dram.lastAccess + s.rd F.DM_SR_IDLE_US 0 * 1280000 < tickAt (s.tick + 1) → ∃ t, exec .selfRefreshEntry s = .next t ∧
      t.on F.DM_STATUS_SR 0 = true ∧ s.keepsCells [F.DM_STATUS_SR.key, F.MC_UREG_VALUE.key] t ∧ s.keepsMem t) ∧
    (∀ (h : Hdr) (addr : BitVec 40) (data : List Byte), s.serves h addr.toNat (.writeb data) → dramWin ≤ addr.toNat →
      addr.toNat + data.length ≤ dramWin + dramSize → 1 ≤ data.length → data.length ≤ 256 → crosses addr.toNat data.length = false →
      (s.dramRefused (addr.toNat - dramWin) data.length = none → ∃ t, exec (.hostDramWrite h addr data) s = .next t ∧ t.told h .ok ∧
        (∀ i, i < data.length → t.dram.byte (addr.toNat - dramWin + i) = data.getD i 0) ∧
        (∀ a, a < addr.toNat - dramWin ∨ addr.toNat - dramWin + data.length ≤ a → t.dram.byte a = s.dram.byte a) ∧
        (∀ a, t.sramByte a = s.sramByte a)) ∧
      (∀ r, s.dramRefused (addr.toNat - dramWin) data.length = some r → ∃ t, exec (.hostDramWrite h addr data) s = .next t ∧
        t.told h (.rejected r 0) ∧ s.keepsCells rejectKeys t ∧ s.keepsMem t))

/-- O58. CAL_START_FULL and CAL_START_DRIFT, in writes this module serves, are answered OK when no check of R347 fails,
and begin at the next tick boundary with REJECT 0; otherwise they are rejected, REJECT shows the code, and nothing
waits. CAL_AUTO_START begins DRIFT when DUE has held for IDLE_S seconds with every check passing. CANCEL of a
procedure gives OUTCOME CANCELLED with reason HOST and STATE IDLE; with none running it changes no register. DELETE is
taken for the next tick boundary unless a procedure runs. RESCAN, while no unit is busy, takes the ID the EEPROM
answers. CAL_COMPLETE takes a running procedure through the stages that have ended (STATE 1 to 3): a failed
precondition, a drifted reference, a lost REFIN, a trim that fails a check, a leaf that moved more than 2 C and a
missing edge give their OUTCOME and REASON and leave the lockets as they were; otherwise, at a tick boundary, the
locket is written to its slot, VALID, with the next SEQ, and OUTCOME is ACCEPTED, or CANCELLED where the flash fails. -/
def Obligations.CalibrationProcedures : Prop :=
  ∀ s : State,
    (∀ h : Hdr, s.serves h 0x370000 (.write64 1) →
      (s.calCheck 0 = 0 → ∃ t, exec (.calStartFull h) s = .next t ∧ t.told h .ok ∧ t.cal.startAt = some (s.tick + 1) ∧ t.cal.proc = 0 ∧
        t.rd F.CAL_STATUS_REJECT 0 = 0 ∧ s.keepsCells [F.CAL_STATUS_REJECT.key] t ∧ s.keepsMem t) ∧
      (s.calCheck 0 ≠ 0 → ∃ t, exec (.calStartFull h) s = .next t ∧ t.told h (.rejected rBLOCK_REJECT (s.calCheck 0)) ∧
        t.rd F.CAL_STATUS_REJECT 0 = s.calCheck 0 ∧ t.cal = s.cal ∧ s.keepsMem t)) ∧
    (∀ h : Hdr, s.serves h 0x370000 (.write64 0x101) →
      (s.calCheck 1 = 0 → ∃ t, exec (.calStartDrift h) s = .next t ∧ t.told h .ok ∧ t.cal.startAt = some (s.tick + 1) ∧ t.cal.proc = 1 ∧
        t.rd F.CAL_STATUS_REJECT 0 = 0 ∧ s.keepsCells [F.CAL_STATUS_REJECT.key] t ∧ s.keepsMem t) ∧
      (s.calCheck 1 ≠ 0 → ∃ t, exec (.calStartDrift h) s = .next t ∧ t.told h (.rejected rBLOCK_REJECT (s.calCheck 1)) ∧
        t.rd F.CAL_STATUS_REJECT 0 = s.calCheck 1 ∧ t.cal = s.cal ∧ s.keepsMem t)) ∧
    (∀ u : Nat, s.cal.autoSince = some u → s.on F.CAL_CFG_AUTO 0 = true → s.cal.tried = false → s.calCheck 1 = 0 →
      u + s.rd F.CAL_CFG_IDLE_S 0 * 1280000000000 ≤ s.now → ∃ t, exec .calAutoStart s = .next t ∧ t.cal.startAt = some (s.tick + 1) ∧
      t.cal.proc = 1 ∧ t.cal.auto = true ∧ s.keepsCells [F.CAL_STATUS_REJECT.key] t ∧ s.keepsMem t) ∧
    (∀ h : Hdr, s.serves h 0x370000 (.write64 2) →
      (s.calBusy = true ∨ s.cal.startAt.isSome = true → ∃ t, exec (.calCancel h) s = .next t ∧ t.told h .ok ∧ t.calBusy = false ∧
        t.cal.startAt = none ∧ t.rd F.CAL_RESULT_OUTCOME 0 = 4 ∧ t.rd F.CAL_RESULT_REASON 0 = 0x20 ∧ t.cal.lockets = s.cal.lockets ∧
        t.cal.live = s.cal.live ∧ s.keepsMem t) ∧
      (s.calBusy = false → s.cal.startAt = none → ∃ t, exec (.calCancel h) s = .next t ∧ t.told h .ok ∧ t.cal = s.cal ∧ s.keepsCells [] t ∧
        s.keepsMem t)) ∧
    (∀ (h : Hdr) (slot : Fin 32), s.serves h 0x370000 (.write64 (4 + slot.val * 65536)) →
      (s.calBusy = false → s.cal.startAt = none → ∃ t, exec (.calDelete h slot) s = .next t ∧ t.told h .ok ∧
        t.cal.deletes = s.cal.deletes ++ [(s.tick + 1, slot.val)] ∧ s.keepsCells [] t ∧ s.keepsMem t) ∧
      (s.calBusy = true ∨ s.cal.startAt.isSome = true → ∃ t, exec (.calDelete h slot) s = .next t ∧ t.told h (.rejected rCAL_BUSY 0) ∧
        t.cal = s.cal ∧ s.keepsCells rejectKeys t ∧ s.keepsMem t)) ∧
    (∀ (h : Hdr) (e : Option (BitVec 80)), s.serves h 0x370000 (.write64 8) → s.anyBusy = false → ∃ t, exec (.calRescan h e) s = .next t ∧
      t.told h .ok ∧ t.rd F.CAL_LBID_ID 0 = lbidOf (e.map (·.toNat)) ∧ t.on F.CAL_STATUS_NONE 0 = t.inForce.isEmpty ∧
      s.keepsCells [F.CAL_LBID_ID.key, F.CAL_STATUS_NONE.key, F.ACQ_GSTATUS_SKEW_DEFAULT.key] t ∧ s.keepsMem t) ∧
    (∀ c : CalIn, s.rd F.CAL_STATUS_STATE 0 = 1 →
      (∀ r p v, s.calPre c = some (r, p, v) → ∃ t, exec (.calComplete c) s = .next t ∧ t.calBusy = false ∧ t.rd F.CAL_RESULT_OUTCOME 0 = 2 ∧
        t.rd F.CAL_RESULT_REASON 0 = r % 2 ^ 8 ∧ t.rd F.CAL_RESULT_PIN 0 = p % 2 ^ 8 ∧ t.rd F.CAL_RESULT_VALUE 0 = v.toNat ∧
        t.rd F.CAL_REJ_COUNT_COUNT 0 = min (s.rd F.CAL_REJ_COUNT_COUNT 0 + 1) (2 ^ 32 - 1) ∧ t.cal.lockets = s.cal.lockets ∧ s.keepsMem t) ∧
      (s.calPre c = none → c.upTo.val = 0 → ∃ t, exec (.calComplete c) s = .next t ∧ t.rd F.CAL_STATUS_STATE 0 = 2 ∧ t.cal = s.cal ∧
        s.keepsCells [F.CAL_STATUS_STATE.key] t ∧ s.keepsMem t)) ∧
    (∀ c : CalIn, (s.rd F.CAL_STATUS_STATE 0 = 1 ∧ s.calPre c = none ∧ c.upTo.val ≠ 0) ∨ s.rd F.CAL_STATUS_STATE 0 = 2 →
      (50000 < c.ratio.toInt.natAbs → ∃ t, exec (.calComplete c) s = .next t ∧ t.calBusy = false ∧ t.rd F.CAL_RESULT_OUTCOME 0 = 3 ∧
        t.rd F.CAL_RESULT_REASON 0 = 5 ∧ t.on F.CAL_STATUS_REF_DRIFT 0 = true ∧ t.cal.lockets = s.cal.lockets ∧ s.keepsMem t) ∧
      (c.ratio.toInt.natAbs ≤ 50000 → c.refLost = true → ∃ t, exec (.calComplete c) s = .next t ∧ t.calBusy = false ∧
        t.rd F.CAL_RESULT_OUTCOME 0 = 4 ∧ t.rd F.CAL_RESULT_REASON 0 = 0x24 ∧ t.cal.lockets = s.cal.lockets ∧ s.keepsMem t) ∧
      (∀ (ts v : List Int) (rep : Option Nat), c.ratio.toInt.natAbs ≤ 50000 → c.refLost = false →
        ts = (List.range 16).map (fun l => (c.temps.getD l 0).toInt) → v = s.newTrims c ts → rep = s.replaces (meanTemp ts) →
        (∀ r i, s.trimFault rep ts v = some (r, i) → ∃ t, exec (.calComplete c) s = .next t ∧ t.calBusy = false ∧
          t.rd F.CAL_RESULT_OUTCOME 0 = 3 ∧ t.rd F.CAL_RESULT_REASON 0 = r % 2 ^ 8 ∧ t.rd F.CAL_RESULT_PIN 0 = trimPin i % 2 ^ 8 ∧
          t.rd F.CAL_REJ_COUNT_COUNT 0 = min (s.rd F.CAL_REJ_COUNT_COUNT 0 + 1) (2 ^ 32 - 1) ∧ t.cal.lockets = s.cal.lockets ∧ s.keepsMem t) ∧
        (s.trimFault rep ts v = none →
          (∀ l : Fin 16, 200 < (c.moves.getD l.val 0).toNat → (∀ k < l.val, (c.moves.getD k 0).toNat ≤ 200) →
            ∃ t, exec (.calComplete c) s = .next t ∧ t.calBusy = false ∧ t.rd F.CAL_RESULT_OUTCOME 0 = 3 ∧ t.rd F.CAL_RESULT_REASON 0 = 4 ∧
              t.rd F.CAL_RESULT_PIN 0 = 9 * l.val ∧ t.cal.lockets = s.cal.lockets ∧ s.keepsMem t) ∧
          ((∀ k < 16, (c.moves.getD k 0).toNat ≤ 200) →
            (∀ p, c.noEdge = some p → ∃ t, exec (.calComplete c) s = .next t ∧ t.calBusy = false ∧ t.rd F.CAL_RESULT_OUTCOME 0 = 3 ∧
              t.rd F.CAL_RESULT_REASON 0 = 6 ∧ t.rd F.CAL_RESULT_PIN 0 = p.val ∧ t.cal.lockets = s.cal.lockets ∧ s.keepsMem t) ∧
            (c.noEdge = none → c.upTo.val < 2 → ∃ t, exec (.calComplete c) s = .next t ∧ t.rd F.CAL_STATUS_STATE 0 = 3 ∧
              t.cal = { s.cal with staged := some (ts, v) } ∧ s.keepsCells [F.CAL_STATUS_STATE.key] t ∧ s.keepsMem t) ∧
            (c.noEdge = none → c.upTo.val = 2 → c.flashBad = false → s.sub = 0 →
              ∃ t, exec (.calComplete c) s = .next t ∧ t.calBusy = false ∧ t.rd F.CAL_RESULT_OUTCOME 0 = 1 ∧
                t.rd F.CAL_RESULT_SLOT 0 = s.lktSlot % 2 ^ 5 ∧ t.on F.CAL_LKT_INFO_VALID s.lktSlot = true ∧
                t.rd F.CAL_LKT_INFO_SEQ s.lktSlot = s.cal.nextSeq % 2 ^ 32 ∧ t.cal.nextSeq = s.cal.nextSeq + 1 ∧ s.keepsMem t))))) ∧
    (∀ (c : CalIn) (ts v : List Int), s.rd F.CAL_STATUS_STATE 0 = 3 → s.cal.staged = some (ts, v) →
      (c.flashBad = true → ∃ t, exec (.calComplete c) s = .next t ∧ t.calBusy = false ∧ t.rd F.CAL_RESULT_OUTCOME 0 = 4 ∧
        t.rd F.CAL_RESULT_REASON 0 = 0x25 ∧ t.cal.lockets = s.cal.lockets ∧ s.keepsMem t) ∧
      (c.flashBad = false → s.sub = 0 → ∃ t, exec (.calComplete c) s = .next t ∧ t.calBusy = false ∧ t.rd F.CAL_RESULT_OUTCOME 0 = 1 ∧
        t.rd F.CAL_RESULT_SLOT 0 = s.lktSlot % 2 ^ 5 ∧ t.on F.CAL_LKT_INFO_VALID s.lktSlot = true ∧
        t.rd F.CAL_LKT_INFO_SEQ s.lktSlot = s.cal.nextSeq % 2 ^ 32 ∧ t.cal.nextSeq = s.cal.nextSeq + 1 ∧ s.keepsMem t))

/-- O59. POWER_UP from OFF begins BOOT at tick 0 with LAST_UV and LAST_TRIP and no strand, the lockets kept; POWER_DOWN,
INPUT_PROTECTION and a die above 125 C lead to OFF with DRAM lost. BOOT_COMPLETE makes tick 0, marks the subchannels
that failed, and enters STANDBY, or SAFE where a cause is present, or FAULT where none trained. A FAULT cause enters
FAULT with its cause and stops every port. SENSOR_SAMPLE keeps the last five samples; a filtered flow below 1.2 L/min
registers cause FLOW, and SAFE follows at the next tick boundary. SAFE_ENTRY enters SAFE from STANDBY or MOUNTED,
shows where from and why, counts, and asks every leaf in a run to abort with MODULE_SAFE; SAFE_PARK parks a leaf
SAFE_HOLD_US later. In writes this module serves, SAFE_ENTER registers cause HOST, SAFE_EXIT is accepted only in SAFE
with CLEAR_OK and no cause registering on its edge, and RESET only over the service port. CLEAR_OK is reached CLEAR_S
seconds after the last cause, DEW_STALE DEW_TMO_S seconds after the last dew point. PFE_FAULT takes four leaves out. -/
def Obligations.PowerSafeAndFault : Prop :=
  ∀ s : State,
    (∀ low1s : Bool, s.env.off = true → s.env.locked = false ∨ low1s = true → ∃ t, exec (.powerUp low1s) s = .next t ∧ t.env.off = false ∧
      t.mstate = 1 ∧ t.tick = 0 ∧ t.on F.ENV_BOOT_LAST_UV 0 = s.env.uv ∧ t.on F.ENV_BOOT_LAST_TRIP 0 = s.env.trip ∧ (∀ id, t.desc id = 0) ∧
      t.cal.lockets = s.cal.lockets ∧ t.mc.otpHash = s.mc.otpHash ∧ t.pending = s.pending) ∧
    (s.env.off = false →
      (∃ t, exec .powerDown s = .next t ∧ t.env.off = true ∧ t.env.uv = true ∧ t.env.locked = false ∧ t.dram.mem = [] ∧
        t.cal.lockets = s.cal.lockets) ∧
      (∃ t, exec .inputProtection s = .next t ∧ t.env.off = true ∧ t.env.locked = false ∧ t.dram.mem = [] ∧ t.cal.lockets = s.cal.lockets) ∧
      ((∃ k ∈ [5, 6, 7, 8, 9], ∃ v, s.good k = some v ∧ 12500 < v) → ∃ t, exec .thermalTrip s = .next t ∧ t.env.off = true ∧
        t.env.trip = true ∧ t.env.locked = true ∧ t.dram.mem = [] ∧ t.cal.lockets = s.cal.lockets) ∧
      (∀ (ms : BitVec 16) (fallback : Bool) (trained : Fin 16) (e : Option (BitVec 80)), s.mstate = 1 →
        ∃ t, exec (.bootComplete ms fallback trained e) s = .next t ∧ t.tick = 0 ∧ t.sub = 0 ∧ t.rd F.ENV_BOOT_BOOT_MS 0 = ms.toNat ∧
          t.on F.ENV_BOOT_FALLBACK 0 = fallback ∧ (∀ k < 4, trained.val.testBit k = false → t.scFaulty k = true) ∧
          t.rd F.CAL_LBID_ID 0 = lbidOf (e.map (·.toNat)) ∧ (trained.val = 0 → t.mstate = 5 ∧ t.rd F.ENV_FAULT_CAUSE 0 = 2) ∧
          (trained.val ≠ 0 → t.mstate = if t.env.causes = 0 then 2 else 4)) ∧
      (∀ (cause : Fin 6) (detail : BitVec 8) (fe dr : Bool), s.mstate ≠ 5 → cause.val ≠ 0 →
        ∃ t, exec (.faultEntry cause detail fe dr) s = .next t ∧ t.mstate = 5 ∧ t.rd F.ENV_FAULT_CAUSE 0 = cause.val ∧
          t.rd F.ENV_FAULT_DETAIL 0 = detail.toNat ∧ (∀ p < 5, t.lkState p = 0) ∧ (∀ id, t.desc id = s.desc id)) ∧
      (∀ (k : Fin 27) (v : BitVec 32), ∃ t, exec (.sensorSample k v false) s = .next t ∧
        Table.get? t.env.samples k.val = some ((v.toInt :: (Table.get? s.env.samples k.val).getD []).take 5) ∧ s.keepsMem t ∧
        (∀ l, k.val = 3 → l = (v.toInt :: (Table.get? s.env.samples 3).getD []).take 5 → l.length = 5 → 0 ≤ median5 l → median5 l < 1200 →
          t.env.causes.testBit 0 = true ∧ t.on F.ENV_STATUS_FLOW_LOW 0 = true ∧
          (s.mstate = 2 ∨ s.mstate = 3 → s.env.safeAt = none → t.env.safeAt = some (s.tick + 1)))) ∧
      (∀ i cause : Fin 4, ∃ t, exec (.pfeFault i cause) s = .next t ∧ (t.rd F.ENV_PFE_FAULT 0).testBit i.val = true ∧
        (∀ j < 4, t.on F.PL_LEAF_OOS (4 * i.val + j) = true ∨ 4 * i.val + j ∈ t.pl.oosNext) ∧
        (s.rd F.ENV_PFE_FAULT 0 = 0 → t.rd F.ENV_PFE_CAUSE 0 = cause.val) ∧ s.keepsMem t) ∧
      (s.on F.ENV_STATUS_DEW_STALE 0 = false → s.env.dewAt + s.rd F.ENV_CFG_DEW_TMO_S 0 * 1280000000000 < tickAt (s.tick + 1) →
        ∃ t, exec .dewStaleTimeout s = .next t ∧ t.on F.ENV_STATUS_DEW_STALE 0 = true ∧ s.keepsMem t)) ∧
    (∀ n : Nat, s.env.safeAt = some n → n ≤ s.tick → s.mstate = 2 ∨ s.mstate = 3 → ∃ t, exec .safeEntry s = .next t ∧ t.mstate = 4 ∧
      t.rd F.ENV_STATUS_RETURN 0 = s.mstate ∧ t.rd F.ENV_SAFE_NOW_CAUSES 0 = s.env.causes % 2 ^ 9 ∧
      t.rd F.ENV_SAFE_COUNT_COUNT 0 = min (s.rd F.ENV_SAFE_COUNT_COUNT 0 + 1) (2 ^ 32 - 1) ∧ (∀ id, t.desc id = s.desc id) ∧
      (∀ l < 16, (s.leaf l).phase ≠ .off → ∃ a, (t.leaf l).aborts = (s.leaf l).aborts ++ [a] ∧ a.cause = 0x0E ∧ a.notBefore = tickAt s.tick)) ∧
    (∀ l : Fin 16, s.env.parkWait.contains l.val = true → (s.leaf l.val).phase = .off →
      (s.leaf l.val).nextStart + s.rd F.ENV_CFG_SAFE_HOLD_US 0 * 1280000 < tickAt (s.tick + 1) → ∃ t, exec (.safePark l) s = .next t ∧
      (t.leaf l.val).drv = parkedDrv ∧ t.env.parkWait.contains l.val = false ∧ s.keepsCells [F.MC_UREG_VALUE.key] t ∧ s.keepsMem t) ∧
    (∀ h : Hdr, s.serves h 0x50000 (.write64 1) → ∃ t, exec (.safeEnter h) s = .next t ∧ t.told h .ok ∧ t.env.causes.testBit 8 = true ∧
      (s.mstate = 2 ∨ s.mstate = 3 → s.env.safeAt = none → t.env.safeAt = some (s.tick + 1)) ∧
      (s.mstate = 4 → (t.rd F.ENV_SAFE_NOW_CAUSES 0).testBit 8 = true) ∧ s.keepsMem t) ∧
    (∀ h : Hdr, s.serves h 0x50000 (.write64 2) →
      (s.mstate = 4 → s.on F.ENV_STATUS_CLEAR_OK 0 = true → s.env.causeAt ≠ some (edgeUp s.now) → ∃ t, exec (.safeExit h) s = .next t ∧ t.told h .ok ∧
        t.env.exitAt = some (s.tick + 1) ∧ s.keepsCells [] t ∧ s.keepsMem t) ∧
      (s.mstate ≠ 4 ∨ s.on F.ENV_STATUS_CLEAR_OK 0 = false ∨ s.env.causeAt = some (edgeUp s.now) → ∃ t, exec (.safeExit h) s = .next t ∧ t.told h (.rejected rSTATE 0) ∧
        t.env = s.env ∧ s.keepsCells rejectKeys t ∧ s.keepsMem t)) ∧
    (∀ u : Nat, s.env.clearSince = some u → s.mstate = 4 → s.on F.ENV_STATUS_CLEAR_OK 0 = false →
      u + s.rd F.ENV_CFG_CLEAR_S 0 * 1280000000000 < tickAt (s.tick + 1) → ∃ t, exec .clearOkReached s = .next t ∧
      t.on F.ENV_STATUS_CLEAR_OK 0 = true ∧ (s.on F.ENV_CFG_AUTO_EXIT 0 = true → s.env.causes.testBit 8 = false →
        t.env.exitAt = some (s.tick + 1)) ∧ s.keepsCells [F.ENV_STATUS_CLEAR_OK.key, F.MC_UREG_VALUE.key] t ∧ s.keepsMem t) ∧
    (∀ h : Hdr, s.serves h 0x50000 (.write64 4) →
      (h.src.val = 0x81 → ∃ t, exec (.moduleReset h) s = .next t ∧ t.told h .ok ∧ t.mstate = 1 ∧ t.tick = 0 ∧ t.dram.mem = [] ∧
        t.cal.lockets = s.cal.lockets) ∧
      (h.src.val ≠ 0x81 → ∃ t, exec (.moduleReset h) s = .next t ∧ t.told h (.rejected rSERVICE_ONLY 0) ∧ s.keepsCells rejectKeys t ∧
        s.keepsMem t))

/-- O60. JOURNAL_DRAIN, with no subchannel of the place stalled, takes the oldest record from the staging queue: JN_WR
counts it and, with four healthy subchannels, its 32 bytes lie at its place of the ring and every other byte of DRAM
stays. EXPORT, in a write this module serves, is rejected with SLOT_KIB 0; otherwise, with FROM not above TO, it is
answered OK and waits where fewer than 4 wait. JN_EXPORTED completes the oldest export, once its last tick has passed
and that tick's records have left the queue: its slot is VALID with its FROM and one more GEN. A TRIGIN edge outside
BOOT sets the level, and a fall is journalled. In writes this module serves: BEGIN in STANDBY, SAFE or FAULT, while
nothing verifies, starts an empty image; each FW_DATA write then appends 8 bytes; COMMIT starts verification;
elsewhere they are rejected with code STATE. FW_VERIFY_DONE makes the image READY in the inactive bank, or shows why
it was refused. -/
def Obligations.JournalInputsAndFirmware : Prop :=
  ∀ s : State,
    (∀ (r : JRec) (q : List JRec), s.jn.queue = r :: q → s.ringStalled r.seq = false → ∃ t, exec .journalDrain s = .next t ∧
      t.rd F.JN_WR_COUNT 0 = (s.rd F.JN_WR_COUNT 0 + 1) % 2 ^ 64 ∧ (s.jn.lost = 0 → t.jn.queue = q) ∧
      (s.healthy = 4 → (∀ i < 32, t.dram.byte (journalBase + 32 * (r.seq % ringRecs) + i) = (toBytes 32 r.word).getD i 0) ∧
        (∀ a, a < journalBase + 32 * (r.seq % ringRecs) ∨ journalBase + 32 * (r.seq % ringRecs) + 32 ≤ a → t.dram.byte a = s.dram.byte a)) ∧
      (∀ id, t.desc id = s.desc id) ∧ s.keepsCells ([F.JN_WR_COUNT.key, F.DM_STATUS_SR.key] ++ journalKeys) t) ∧
    (∀ h : Hdr, s.serves h 0x380000 (.write64 1) →
      (s.rd F.JN_EXP_CFG_SLOT_KIB 0 = 0 → ∃ t, exec (.jnExport h) s = .next t ∧ t.told h (.rejected rSTATE 0) ∧ t.jn = s.jn ∧
        s.keepsCells rejectKeys t ∧ s.keepsMem t) ∧
      (s.rd F.JN_EXP_CFG_SLOT_KIB 0 ≠ 0 → s.rd F.JN_EXP_FROM_TICK 0 ≤ s.rd F.JN_EXP_TO_TICK 0 →
        (s.jn.exports.length < 4 → ∃ t, exec (.jnExport h) s = .next t ∧ t.told h .ok ∧
          t.jn.exports = s.jn.exports ++
            [{ from_ := s.rd F.JN_EXP_FROM_TICK 0, to_ := s.rd F.JN_EXP_TO_TICK 0, auto := false, asked := edgeUp s.now }] ∧
          s.keepsCells [] t ∧ s.keepsMem t) ∧
        (4 ≤ s.jn.exports.length → ∃ t, exec (.jnExport h) s = .next t ∧ t.told h .ok ∧ t.jn.exports = s.jn.exports.take 4 ∧
          t.rd F.JN_EXP_DROPPED_COUNT 0 = min (s.rd F.JN_EXP_DROPPED_COUNT 0 + 1) (2 ^ 32 - 1) ∧ s.keepsMem t))) ∧
    (∀ (e : Export) (q : List Export), s.jn.exports = e :: q → e.to_ < s.tick → (∀ r ∈ s.jn.queue, e.to_ < r.tick) →
      s.rd F.JN_EXP_CFG_SLOT_KIB 0 ≠ 0 → ∃ t, exec .jnExported s = .next t ∧ t.jn.exports = q ∧ t.on F.JN_SLOT_INFO_VALID s.exportSlot = true ∧
      t.rd F.JN_SLOT_INFO_GEN s.exportSlot = (s.rd F.JN_SLOT_INFO_GEN s.exportSlot + 1) % 2 ^ 16 ∧
      t.rd F.JN_SLOT_FROM_TICK s.exportSlot = e.from_ % 2 ^ 64 ∧ t.on F.JN_SLOT_INFO_AUTO s.exportSlot = e.auto ∧
      t.jn.slot = (s.exportSlot + 1) % 8 ∧ (∀ id, t.desc id = s.desc id)) ∧
    (∀ (j : Fin 4) (rise : Bool) (u : Fin 327680), s.env.off = false → s.mstate ≠ 1 → ∃ t, exec (.triginEdge j rise u) s = .next t ∧
      t.trig.level.testBit j.val = rise ∧
      (rise = false → s.jn.queue.length < 2048 → ∃ r, t.jn.queue = s.jn.queue ++ [r] ∧ r.tick = s.tick ∧ r.typ = 9 ∧
        bits r.body 0 4 = 1 ∧ bits r.body 4 8 = j.val ∧ s.keepsCells [] t ∧ s.keepsMem t)) ∧
    (∀ h : Hdr, s.serves h 0x50070 (.write64 1) →
      (s.mstate = 2 ∨ s.mstate = 4 ∨ s.mstate = 5 → s.rd F.ENV_FW_STAT_STATE 0 ≠ 2 → ∃ t, exec (.fwBegin h) s = .next t ∧ t.told h .ok ∧
        t.env.fw = [] ∧ t.rd F.ENV_FW_STAT_STATE 0 = 1 ∧ t.rd F.ENV_FW_STAT_BYTES 0 = 0 ∧ t.rd F.ENV_FW_STAT_REJECT 0 = 0 ∧
        s.keepsCells [F.ENV_FW_STAT_STATE.key, F.ENV_FW_STAT_REJECT.key, F.ENV_FW_STAT_BYTES.key] t ∧ s.keepsMem t) ∧
      (s.mstate = 1 ∨ s.mstate = 3 → ∃ t, exec (.fwBegin h) s = .next t ∧ t.told h (.rejected rSTATE 0) ∧
        t.rd F.ENV_FW_STAT_REJECT 0 = 4 ∧ t.env = s.env ∧ s.keepsMem t)) ∧
    (s.mstate = 2 ∨ s.mstate = 4 ∨ s.mstate = 5 → s.rd F.ENV_FW_STAT_STATE 0 = 1 →
      (∀ (h : Hdr) (data : Word), s.serves h 0x50080 (.write64 data.toNat) → ∃ t, exec (.fwDataWrite h data) s = .next t ∧ t.told h .ok ∧
        t.env.fw = s.env.fw ++ toBytes 8 data.toNat ∧ t.rd F.ENV_FW_STAT_BYTES 0 = (s.rd F.ENV_FW_STAT_BYTES 0 + 8) % 2 ^ 32 ∧
        s.keepsCells [F.ENV_FW_STAT_BYTES.key] t ∧ s.keepsMem t) ∧
      (∀ h : Hdr, s.serves h 0x50070 (.write64 2) → ∃ t, exec (.fwCommit h) s = .next t ∧ t.told h .ok ∧ t.rd F.ENV_FW_STAT_STATE 0 = 2 ∧
        s.keepsCells [F.ENV_FW_STAT_STATE.key] t ∧ s.keepsMem t)) ∧
    (∀ code : Fin 4, s.rd F.ENV_FW_STAT_STATE 0 = 2 → ∃ t, exec (.fwVerifyDone code) s = .next t ∧
      (code.val = 0 → t.rd F.ENV_FW_STAT_STATE 0 = 3 ∧ t.env.bank = 1 - s.rd F.ENV_BOOT_FW_BANK 0) ∧
      (code.val ≠ 0 → t.rd F.ENV_FW_STAT_STATE 0 = 0 ∧ t.rd F.ENV_FW_STAT_REJECT 0 = code.val ∧ t.env = s.env) ∧
      s.keepsCells [F.ENV_FW_STAT_STATE.key, F.ENV_FW_STAT_REJECT.key] t ∧ s.keepsMem t)
end

