-- ==== Sys2Proof/Laws/Table.lean ====
section
/-! SUPPORT. Laws of tables, memories and the file of register cells: a read after a write, and that every operation keeps the
canonical form. -/

namespace Sys2Proof.Machine

/-! ### Reading -/

theorem Table.get?_set_self {α : Type} (t : Table α) (k : Nat) (v : α) : Table.get? (Table.set t k v) k = some v := by
  induction t with
  | nil => simp [Table.set, Table.get?]
  | cons e t ih =>
    obtain ⟨k', v'⟩ := e
    by_cases h1 : k < k'
    · simp [Table.set, Table.get?, h1]
    · by_cases h2 : k' = k
      · simp [Table.set, Table.get?, h2]
      · simp [Table.set, Table.get?, h1, h2, ih]

theorem Table.get?_set_ne {α : Type} (t : Table α) (k j : Nat) (v : α) (h : j ≠ k) :
    Table.get? (Table.set t k v) j = Table.get? t j := by
  induction t with
  | nil => simp [Table.set, Table.get?, Ne.symm h]
  | cons e t ih =>
    obtain ⟨k', v'⟩ := e
    by_cases h1 : k < k'
    · simp [Table.set, Table.get?, h1, Ne.symm h]
    · by_cases h2 : k' = k
      · simp [Table.set, Table.get?, h2, Ne.symm h]
      · by_cases h3 : k' = j
        · subst h3; simp [Table.set, Table.get?, h1, h2]
        · simp [Table.set, Table.get?, h1, h2, h3, ih]

theorem Table.get?_filter {α : Type} (t : Table α) (p : Nat → Bool) (k : Nat) :
    Table.get? (List.filter (fun e => p e.1) t) k = if p k then Table.get? t k else none := by
  induction t with
  | nil => simp [Table.get?]
  | cons e t ih =>
    obtain ⟨k', v'⟩ := e
    by_cases hp : p k' = true
    · by_cases hk : k' = k
      · subst hk; simp [List.filter, hp, Table.get?]
      · simp [List.filter, hp, Table.get?, hk, ih]
    · by_cases hk : k' = k
      · subst hk; simp [List.filter, hp, ih]
      · simp [List.filter, hp, Table.get?, hk, ih]

theorem Table.get?_erase_self {α : Type} (t : Table α) (k : Nat) : Table.get? (Table.erase t k) k = none := by
  simp [Table.erase, Table.get?_filter t (fun n => n != k) k]

theorem Table.get?_erase_ne {α : Type} (t : Table α) (k j : Nat) (h : j ≠ k) :
    Table.get? (Table.erase t k) j = Table.get? t j := by
  simp [Table.erase, Table.get?_filter t (fun n => n != k) j, h]

/-! ### The canonical form -/

theorem Table.rising_mono {α : Type} (t : Table α) {m n : Nat} (h : m ≤ n) (ht : Table.rising n t = true) :
    Table.rising m t = true := by
  cases t with
  | nil => rfl
  | cons e t =>
    obtain ⟨k, v⟩ := e
    simp only [Table.rising, Bool.and_eq_true, decide_eq_true_eq] at ht ⊢
    exact ⟨by omega, ht.2⟩

theorem Table.rising_set {α : Type} (t : Table α) (n k : Nat) (v : α) (hn : n ≤ k) (ht : Table.rising n t = true) :
    Table.rising n (Table.set t k v) = true := by
  induction t generalizing n with
  | nil => simp [Table.set, Table.rising, hn]
  | cons e t ih =>
    obtain ⟨k', v'⟩ := e
    simp only [Table.rising, Bool.and_eq_true, decide_eq_true_eq] at ht
    by_cases h1 : k < k'
    · simp only [Table.set, h1, if_true, Table.rising, Bool.and_eq_true, decide_eq_true_eq]
      exact ⟨hn, by omega, ht.2⟩
    · by_cases h2 : k' = k
      · subst h2
        simpa [Table.set, Table.rising, hn] using ht.2
      · simp only [Table.set, h1, h2, if_false, Table.rising, Bool.and_eq_true, decide_eq_true_eq]
        exact ⟨ht.1, ih (k' + 1) (by omega) ht.2⟩

theorem Table.rising_filter {α : Type} (t : Table α) (p : Nat × α → Bool) (n : Nat) (ht : Table.rising n t = true) :
    Table.rising n (t.filter p) = true := by
  induction t generalizing n with
  | nil => rfl
  | cons e t ih =>
    obtain ⟨k', v'⟩ := e
    simp only [Table.rising, Bool.and_eq_true, decide_eq_true_eq] at ht
    by_cases hp : p (k', v') = true
    · simp only [List.filter, hp, Table.rising, Bool.and_eq_true, decide_eq_true_eq]
      exact ⟨ht.1, ih (k' + 1) ht.2⟩
    · simp only [List.filter, hp]
      exact Table.rising_mono _ (by omega) (ih (k' + 1) ht.2)

theorem Table.wf_nil {α : Type} : Table.wf ([] : Table α) = true := rfl

theorem Table.wf_set {α : Type} (t : Table α) (k : Nat) (v : α) (h : Table.wf t = true) : Table.wf (Table.set t k v) = true :=
  Table.rising_set t 0 k v (Nat.zero_le k) h

theorem Table.wf_filter {α : Type} (t : Table α) (p : Nat × α → Bool) (h : Table.wf t = true) : Table.wf (t.filter p) = true :=
  Table.rising_filter t p 0 h

theorem Table.wf_erase {α : Type} (t : Table α) (k : Nat) (h : Table.wf t = true) : Table.wf (Table.erase t k) = true :=
  Table.wf_filter t _ h

theorem Table.wf_eraseRange {α : Type} (t : Table α) (lo hi : Nat) (h : Table.wf t = true) :
    Table.wf (Table.eraseRange t lo hi) = true :=
  Table.wf_filter t _ h

/-! ### Memories -/

theorem memWrite_wf (m : Memory) (a : Nat) (l : List Byte) (h : Memory.wf m = true) : Memory.wf (memWrite m a l) = true := by
  induction l generalizing m a with
  | nil => exact h
  | cons b t ih => exact ih _ _ (Table.wf_set m a b h)

/-- A byte outside those written reads as before. -/
theorem memWrite_get_outside (m : Memory) (a j : Nat) (l : List Byte) (h : j < a ∨ a + l.length ≤ j) :
    Table.get? (memWrite m a l) j = Table.get? m j := by
  induction l generalizing m a with
  | nil => rfl
  | cons b t ih =>
    simp only [List.length_cons] at h
    rw [memWrite, ih (Table.set m a b) (a + 1) (by omega), Table.get?_set_ne m a j b (by omega)]

/-- A byte of those written reads as it was written. -/
theorem memWrite_get_inside (m : Memory) (a i : Nat) (l : List Byte) (h : i < l.length) :
    Table.get? (memWrite m a l) (a + i) = l[i]? := by
  induction l generalizing m a i with
  | nil => simp at h
  | cons b t ih =>
    cases i with
    | zero =>
      rw [memWrite, memWrite_get_outside _ _ _ _ (by omega)]
      simpa using Table.get?_set_self m a b
    | succ i =>
      have h' : i < t.length := by simpa using h
      have := ih (Table.set m a b) (a + 1) i h'
      rw [memWrite, show a + (i + 1) = a + 1 + i by omega, this]
      simp

theorem Memory.wf_eraseRange (m : Memory) (lo hi : Nat) (h : Memory.wf m = true) :
    Memory.wf (Table.eraseRange m lo hi) = true := Table.wf_eraseRange m lo hi h

/-! ### The file of register cells -/

theorem cellNo_inj {f g : Fld} {i j : Nat} (hf : f.key < 1024) (hg : g.key < 1024) (h : cellNo f i = cellNo g j) :
    f.key = g.key ∧ i = j := by
  unfold cellNo at h
  omega

/-- A field reads as written, cut to its width. -/
theorem RegFile.get_put_self (r : RegFile) (f : Fld) (i v : Nat) : RegFile.get (RegFile.put r f i v) f i = v % 2 ^ f.w := by
  unfold RegFile.get RegFile.put
  split
  · rename_i h; rw [Table.get?_erase_self, h]; rfl
  · rw [Table.get?_set_self]; rfl

/-- Every other cell reads as before. -/
theorem RegFile.get_put_ne (r : RegFile) (f g : Fld) (i j v : Nat) (h : cellNo g j ≠ cellNo f i) :
    RegFile.get (RegFile.put r f i v) g j = RegFile.get r g j := by
  unfold RegFile.get RegFile.put
  split
  · rw [Table.get?_erase_ne _ _ _ h]
  · rw [Table.get?_set_ne _ _ _ _ h]

theorem RegFile.wf_put (r : RegFile) (f : Fld) (i v : Nat) (h : Table.wf r = true) : Table.wf (RegFile.put r f i v) = true := by
  unfold RegFile.put
  split
  · exact Table.wf_erase r _ h
  · exact Table.wf_set r _ _ h

end Sys2Proof.Machine
end

