-- ==== Sys2Proof/Laws/State.lean ====
section
/-! SUPPORT. The small laws of State: what each update leaves as it was (by rfl), what is read after a write, and what the clock
does. -/

namespace Sys2Proof.Machine

/-! ### What an update leaves as it was -/

@[simp] theorem State.wr_sub (s : State) (f : Fld) (i v : Nat) : (s.wr f i v).sub = s.sub := rfl
@[simp] theorem State.wr_pending (s : State) (f : Fld) (i v : Nat) : (s.wr f i v).pending = s.pending := rfl
@[simp] theorem State.wr_host (s : State) (f : Fld) (i v : Nat) : (s.wr f i v).host = s.host := rfl
@[simp] theorem State.wr_evt (s : State) (f : Fld) (i v : Nat) : (s.wr f i v).evt = s.evt := rfl
@[simp] theorem State.wr_jn (s : State) (f : Fld) (i v : Nat) : (s.wr f i v).jn = s.jn := rfl
@[simp] theorem State.wr_snap (s : State) (f : Fld) (i v : Nat) : (s.wr f i v).snap = s.snap := rfl
@[simp] theorem State.wr_leaves (s : State) (f : Fld) (i v : Nat) : (s.wr f i v).leaves = s.leaves := rfl
@[simp] theorem State.wr_caches (s : State) (f : Fld) (i v : Nat) : (s.wr f i v).caches = s.caches := rfl
@[simp] theorem State.wr_engines (s : State) (f : Fld) (i v : Nat) : (s.wr f i v).engines = s.engines := rfl
@[simp] theorem State.wr_units (s : State) (f : Fld) (i v : Nat) : (s.wr f i v).units = s.units := rfl
@[simp] theorem State.wr_pulses (s : State) (f : Fld) (i v : Nat) : (s.wr f i v).pulses = s.pulses := rfl
@[simp] theorem State.wr_strands (s : State) (f : Fld) (i v : Nat) : (s.wr f i v).strands = s.strands := rfl
@[simp] theorem State.wr_mc (s : State) (f : Fld) (i v : Nat) : (s.wr f i v).mc = s.mc := rfl
@[simp] theorem State.wr_fl (s : State) (f : Fld) (i v : Nat) : (s.wr f i v).fl = s.fl := rfl
@[simp] theorem State.wr_mnt (s : State) (f : Fld) (i v : Nat) : (s.wr f i v).mnt = s.mnt := rfl
@[simp] theorem State.wr_pl (s : State) (f : Fld) (i v : Nat) : (s.wr f i v).pl = s.pl := rfl
@[simp] theorem State.wr_dram (s : State) (f : Fld) (i v : Nat) : (s.wr f i v).dram = s.dram := rfl
@[simp] theorem State.wr_sram (s : State) (f : Fld) (i v : Nat) : (s.wr f i v).sram = s.sram := rfl
@[simp] theorem State.wr_trig (s : State) (f : Fld) (i v : Nat) : (s.wr f i v).trig = s.trig := rfl
@[simp] theorem State.wr_acq (s : State) (f : Fld) (i v : Nat) : (s.wr f i v).acq = s.acq := rfl
@[simp] theorem State.wr_tmu (s : State) (f : Fld) (i v : Nat) : (s.wr f i v).tmu = s.tmu := rfl
@[simp] theorem State.wr_dc (s : State) (f : Fld) (i v : Nat) : (s.wr f i v).dc = s.dc := rfl
@[simp] theorem State.wr_ras (s : State) (f : Fld) (i v : Nat) : (s.wr f i v).ras = s.ras := rfl
@[simp] theorem State.wr_lk (s : State) (f : Fld) (i v : Nat) : (s.wr f i v).lk = s.lk := rfl
@[simp] theorem State.wr_clu (s : State) (f : Fld) (i v : Nat) : (s.wr f i v).clu = s.clu := rfl
@[simp] theorem State.wr_cal (s : State) (f : Fld) (i v : Nat) : (s.wr f i v).cal = s.cal := rfl
@[simp] theorem State.wr_env (s : State) (f : Fld) (i v : Nat) : (s.wr f i v).env = s.env := rfl
@[simp] theorem State.wr_shown (s : State) (f : Fld) (i v : Nat) : (s.wr f i v).shown = s.shown := rfl
@[simp] theorem State.wr_vis (s : State) (f : Fld) (i v : Nat) : (s.wr f i v).vis = s.vis := rfl
@[simp] theorem State.wr_hot (s : State) (f : Fld) (i v : Nat) : (s.wr f i v).hot = s.hot := rfl
@[simp] theorem State.wr_lvl (s : State) (f : Fld) (i v : Nat) : (s.wr f i v).lvl = s.lvl := rfl
@[simp] theorem State.wr_free (s : State) (f : Fld) (i v : Nat) : (s.wr f i v).free = s.free := rfl

@[simp] theorem State.setLeaf_regs (s : State) (l : Nat) (x : Leaf) : (s.setLeaf l x).regs = s.regs := rfl
@[simp] theorem State.setLeaf_sub (s : State) (l : Nat) (x : Leaf) : (s.setLeaf l x).sub = s.sub := rfl
@[simp] theorem State.setLeaf_pending (s : State) (l : Nat) (x : Leaf) : (s.setLeaf l x).pending = s.pending := rfl
@[simp] theorem State.setLeaf_host (s : State) (l : Nat) (x : Leaf) : (s.setLeaf l x).host = s.host := rfl
@[simp] theorem State.setLeaf_evt (s : State) (l : Nat) (x : Leaf) : (s.setLeaf l x).evt = s.evt := rfl
@[simp] theorem State.setLeaf_jn (s : State) (l : Nat) (x : Leaf) : (s.setLeaf l x).jn = s.jn := rfl
@[simp] theorem State.setLeaf_snap (s : State) (l : Nat) (x : Leaf) : (s.setLeaf l x).snap = s.snap := rfl
@[simp] theorem State.setLeaf_caches (s : State) (l : Nat) (x : Leaf) : (s.setLeaf l x).caches = s.caches := rfl
@[simp] theorem State.setLeaf_engines (s : State) (l : Nat) (x : Leaf) : (s.setLeaf l x).engines = s.engines := rfl
@[simp] theorem State.setLeaf_units (s : State) (l : Nat) (x : Leaf) : (s.setLeaf l x).units = s.units := rfl
@[simp] theorem State.setLeaf_pulses (s : State) (l : Nat) (x : Leaf) : (s.setLeaf l x).pulses = s.pulses := rfl
@[simp] theorem State.setLeaf_strands (s : State) (l : Nat) (x : Leaf) : (s.setLeaf l x).strands = s.strands := rfl
@[simp] theorem State.setLeaf_mc (s : State) (l : Nat) (x : Leaf) : (s.setLeaf l x).mc = s.mc := rfl
@[simp] theorem State.setLeaf_fl (s : State) (l : Nat) (x : Leaf) : (s.setLeaf l x).fl = s.fl := rfl
@[simp] theorem State.setLeaf_mnt (s : State) (l : Nat) (x : Leaf) : (s.setLeaf l x).mnt = s.mnt := rfl
@[simp] theorem State.setLeaf_pl (s : State) (l : Nat) (x : Leaf) : (s.setLeaf l x).pl = s.pl := rfl
@[simp] theorem State.setLeaf_dram (s : State) (l : Nat) (x : Leaf) : (s.setLeaf l x).dram = s.dram := rfl
@[simp] theorem State.setLeaf_sram (s : State) (l : Nat) (x : Leaf) : (s.setLeaf l x).sram = s.sram := rfl
@[simp] theorem State.setLeaf_trig (s : State) (l : Nat) (x : Leaf) : (s.setLeaf l x).trig = s.trig := rfl
@[simp] theorem State.setLeaf_acq (s : State) (l : Nat) (x : Leaf) : (s.setLeaf l x).acq = s.acq := rfl
@[simp] theorem State.setLeaf_tmu (s : State) (l : Nat) (x : Leaf) : (s.setLeaf l x).tmu = s.tmu := rfl
@[simp] theorem State.setLeaf_dc (s : State) (l : Nat) (x : Leaf) : (s.setLeaf l x).dc = s.dc := rfl
@[simp] theorem State.setLeaf_ras (s : State) (l : Nat) (x : Leaf) : (s.setLeaf l x).ras = s.ras := rfl
@[simp] theorem State.setLeaf_lk (s : State) (l : Nat) (x : Leaf) : (s.setLeaf l x).lk = s.lk := rfl
@[simp] theorem State.setLeaf_clu (s : State) (l : Nat) (x : Leaf) : (s.setLeaf l x).clu = s.clu := rfl
@[simp] theorem State.setLeaf_cal (s : State) (l : Nat) (x : Leaf) : (s.setLeaf l x).cal = s.cal := rfl
@[simp] theorem State.setLeaf_env (s : State) (l : Nat) (x : Leaf) : (s.setLeaf l x).env = s.env := rfl
@[simp] theorem State.setLeaf_shown (s : State) (l : Nat) (x : Leaf) : (s.setLeaf l x).shown = s.shown := rfl
@[simp] theorem State.setLeaf_vis (s : State) (l : Nat) (x : Leaf) : (s.setLeaf l x).vis = s.vis := rfl
@[simp] theorem State.setLeaf_hot (s : State) (l : Nat) (x : Leaf) : (s.setLeaf l x).hot = s.hot := rfl
@[simp] theorem State.setLeaf_lvl (s : State) (l : Nat) (x : Leaf) : (s.setLeaf l x).lvl = s.lvl := rfl
@[simp] theorem State.setLeaf_free (s : State) (l : Nat) (x : Leaf) : (s.setLeaf l x).free = s.free := rfl

@[simp] theorem State.setCache_regs (s : State) (l : Nat) (x : Cache) : (s.setCache l x).regs = s.regs := rfl
@[simp] theorem State.setCache_sub (s : State) (l : Nat) (x : Cache) : (s.setCache l x).sub = s.sub := rfl
@[simp] theorem State.setCache_pending (s : State) (l : Nat) (x : Cache) : (s.setCache l x).pending = s.pending := rfl
@[simp] theorem State.setCache_host (s : State) (l : Nat) (x : Cache) : (s.setCache l x).host = s.host := rfl
@[simp] theorem State.setCache_evt (s : State) (l : Nat) (x : Cache) : (s.setCache l x).evt = s.evt := rfl
@[simp] theorem State.setCache_jn (s : State) (l : Nat) (x : Cache) : (s.setCache l x).jn = s.jn := rfl
@[simp] theorem State.setCache_snap (s : State) (l : Nat) (x : Cache) : (s.setCache l x).snap = s.snap := rfl
@[simp] theorem State.setCache_leaves (s : State) (l : Nat) (x : Cache) : (s.setCache l x).leaves = s.leaves := rfl
@[simp] theorem State.setCache_engines (s : State) (l : Nat) (x : Cache) : (s.setCache l x).engines = s.engines := rfl
@[simp] theorem State.setCache_units (s : State) (l : Nat) (x : Cache) : (s.setCache l x).units = s.units := rfl
@[simp] theorem State.setCache_pulses (s : State) (l : Nat) (x : Cache) : (s.setCache l x).pulses = s.pulses := rfl
@[simp] theorem State.setCache_strands (s : State) (l : Nat) (x : Cache) : (s.setCache l x).strands = s.strands := rfl
@[simp] theorem State.setCache_mc (s : State) (l : Nat) (x : Cache) : (s.setCache l x).mc = s.mc := rfl
@[simp] theorem State.setCache_fl (s : State) (l : Nat) (x : Cache) : (s.setCache l x).fl = s.fl := rfl
@[simp] theorem State.setCache_mnt (s : State) (l : Nat) (x : Cache) : (s.setCache l x).mnt = s.mnt := rfl
@[simp] theorem State.setCache_pl (s : State) (l : Nat) (x : Cache) : (s.setCache l x).pl = s.pl := rfl
@[simp] theorem State.setCache_dram (s : State) (l : Nat) (x : Cache) : (s.setCache l x).dram = s.dram := rfl
@[simp] theorem State.setCache_sram (s : State) (l : Nat) (x : Cache) : (s.setCache l x).sram = s.sram := rfl
@[simp] theorem State.setCache_trig (s : State) (l : Nat) (x : Cache) : (s.setCache l x).trig = s.trig := rfl
@[simp] theorem State.setCache_acq (s : State) (l : Nat) (x : Cache) : (s.setCache l x).acq = s.acq := rfl
@[simp] theorem State.setCache_tmu (s : State) (l : Nat) (x : Cache) : (s.setCache l x).tmu = s.tmu := rfl
@[simp] theorem State.setCache_dc (s : State) (l : Nat) (x : Cache) : (s.setCache l x).dc = s.dc := rfl
@[simp] theorem State.setCache_ras (s : State) (l : Nat) (x : Cache) : (s.setCache l x).ras = s.ras := rfl
@[simp] theorem State.setCache_lk (s : State) (l : Nat) (x : Cache) : (s.setCache l x).lk = s.lk := rfl
@[simp] theorem State.setCache_clu (s : State) (l : Nat) (x : Cache) : (s.setCache l x).clu = s.clu := rfl
@[simp] theorem State.setCache_cal (s : State) (l : Nat) (x : Cache) : (s.setCache l x).cal = s.cal := rfl
@[simp] theorem State.setCache_env (s : State) (l : Nat) (x : Cache) : (s.setCache l x).env = s.env := rfl
@[simp] theorem State.setCache_shown (s : State) (l : Nat) (x : Cache) : (s.setCache l x).shown = s.shown := rfl
@[simp] theorem State.setCache_vis (s : State) (l : Nat) (x : Cache) : (s.setCache l x).vis = s.vis := rfl
@[simp] theorem State.setCache_hot (s : State) (l : Nat) (x : Cache) : (s.setCache l x).hot = s.hot := rfl
@[simp] theorem State.setCache_lvl (s : State) (l : Nat) (x : Cache) : (s.setCache l x).lvl = s.lvl := rfl
@[simp] theorem State.setCache_free (s : State) (l : Nat) (x : Cache) : (s.setCache l x).free = s.free := rfl

@[simp] theorem State.setEng_regs (s : State) (l : Nat) (x : Engine) : (s.setEng l x).regs = s.regs := rfl
@[simp] theorem State.setEng_sub (s : State) (l : Nat) (x : Engine) : (s.setEng l x).sub = s.sub := rfl
@[simp] theorem State.setEng_pending (s : State) (l : Nat) (x : Engine) : (s.setEng l x).pending = s.pending := rfl
@[simp] theorem State.setEng_host (s : State) (l : Nat) (x : Engine) : (s.setEng l x).host = s.host := rfl
@[simp] theorem State.setEng_evt (s : State) (l : Nat) (x : Engine) : (s.setEng l x).evt = s.evt := rfl
@[simp] theorem State.setEng_jn (s : State) (l : Nat) (x : Engine) : (s.setEng l x).jn = s.jn := rfl
@[simp] theorem State.setEng_snap (s : State) (l : Nat) (x : Engine) : (s.setEng l x).snap = s.snap := rfl
@[simp] theorem State.setEng_leaves (s : State) (l : Nat) (x : Engine) : (s.setEng l x).leaves = s.leaves := rfl
@[simp] theorem State.setEng_caches (s : State) (l : Nat) (x : Engine) : (s.setEng l x).caches = s.caches := rfl
@[simp] theorem State.setEng_units (s : State) (l : Nat) (x : Engine) : (s.setEng l x).units = s.units := rfl
@[simp] theorem State.setEng_pulses (s : State) (l : Nat) (x : Engine) : (s.setEng l x).pulses = s.pulses := rfl
@[simp] theorem State.setEng_strands (s : State) (l : Nat) (x : Engine) : (s.setEng l x).strands = s.strands := rfl
@[simp] theorem State.setEng_mc (s : State) (l : Nat) (x : Engine) : (s.setEng l x).mc = s.mc := rfl
@[simp] theorem State.setEng_fl (s : State) (l : Nat) (x : Engine) : (s.setEng l x).fl = s.fl := rfl
@[simp] theorem State.setEng_mnt (s : State) (l : Nat) (x : Engine) : (s.setEng l x).mnt = s.mnt := rfl
@[simp] theorem State.setEng_pl (s : State) (l : Nat) (x : Engine) : (s.setEng l x).pl = s.pl := rfl
@[simp] theorem State.setEng_dram (s : State) (l : Nat) (x : Engine) : (s.setEng l x).dram = s.dram := rfl
@[simp] theorem State.setEng_sram (s : State) (l : Nat) (x : Engine) : (s.setEng l x).sram = s.sram := rfl
@[simp] theorem State.setEng_trig (s : State) (l : Nat) (x : Engine) : (s.setEng l x).trig = s.trig := rfl
@[simp] theorem State.setEng_acq (s : State) (l : Nat) (x : Engine) : (s.setEng l x).acq = s.acq := rfl
@[simp] theorem State.setEng_tmu (s : State) (l : Nat) (x : Engine) : (s.setEng l x).tmu = s.tmu := rfl
@[simp] theorem State.setEng_dc (s : State) (l : Nat) (x : Engine) : (s.setEng l x).dc = s.dc := rfl
@[simp] theorem State.setEng_ras (s : State) (l : Nat) (x : Engine) : (s.setEng l x).ras = s.ras := rfl
@[simp] theorem State.setEng_lk (s : State) (l : Nat) (x : Engine) : (s.setEng l x).lk = s.lk := rfl
@[simp] theorem State.setEng_clu (s : State) (l : Nat) (x : Engine) : (s.setEng l x).clu = s.clu := rfl
@[simp] theorem State.setEng_cal (s : State) (l : Nat) (x : Engine) : (s.setEng l x).cal = s.cal := rfl
@[simp] theorem State.setEng_env (s : State) (l : Nat) (x : Engine) : (s.setEng l x).env = s.env := rfl
@[simp] theorem State.setEng_shown (s : State) (l : Nat) (x : Engine) : (s.setEng l x).shown = s.shown := rfl
@[simp] theorem State.setEng_vis (s : State) (l : Nat) (x : Engine) : (s.setEng l x).vis = s.vis := rfl
@[simp] theorem State.setEng_hot (s : State) (l : Nat) (x : Engine) : (s.setEng l x).hot = s.hot := rfl
@[simp] theorem State.setEng_lvl (s : State) (l : Nat) (x : Engine) : (s.setEng l x).lvl = s.lvl := rfl
@[simp] theorem State.setEng_free (s : State) (l : Nat) (x : Engine) : (s.setEng l x).free = s.free := rfl

@[simp] theorem State.setUnit_regs (s : State) (u : Nat) (x : UnitSt) : (s.setUnit u x).regs = s.regs := rfl
@[simp] theorem State.setUnit_sub (s : State) (u : Nat) (x : UnitSt) : (s.setUnit u x).sub = s.sub := rfl
@[simp] theorem State.setUnit_pending (s : State) (u : Nat) (x : UnitSt) : (s.setUnit u x).pending = s.pending := rfl
@[simp] theorem State.setUnit_host (s : State) (u : Nat) (x : UnitSt) : (s.setUnit u x).host = s.host := rfl
@[simp] theorem State.setUnit_evt (s : State) (u : Nat) (x : UnitSt) : (s.setUnit u x).evt = s.evt := rfl
@[simp] theorem State.setUnit_jn (s : State) (u : Nat) (x : UnitSt) : (s.setUnit u x).jn = s.jn := rfl
@[simp] theorem State.setUnit_snap (s : State) (u : Nat) (x : UnitSt) : (s.setUnit u x).snap = s.snap := rfl
@[simp] theorem State.setUnit_leaves (s : State) (u : Nat) (x : UnitSt) : (s.setUnit u x).leaves = s.leaves := rfl
@[simp] theorem State.setUnit_caches (s : State) (u : Nat) (x : UnitSt) : (s.setUnit u x).caches = s.caches := rfl
@[simp] theorem State.setUnit_engines (s : State) (u : Nat) (x : UnitSt) : (s.setUnit u x).engines = s.engines := rfl
@[simp] theorem State.setUnit_pulses (s : State) (u : Nat) (x : UnitSt) : (s.setUnit u x).pulses = s.pulses := rfl
@[simp] theorem State.setUnit_strands (s : State) (u : Nat) (x : UnitSt) : (s.setUnit u x).strands = s.strands := rfl
@[simp] theorem State.setUnit_mc (s : State) (u : Nat) (x : UnitSt) : (s.setUnit u x).mc = s.mc := rfl
@[simp] theorem State.setUnit_fl (s : State) (u : Nat) (x : UnitSt) : (s.setUnit u x).fl = s.fl := rfl
@[simp] theorem State.setUnit_mnt (s : State) (u : Nat) (x : UnitSt) : (s.setUnit u x).mnt = s.mnt := rfl
@[simp] theorem State.setUnit_pl (s : State) (u : Nat) (x : UnitSt) : (s.setUnit u x).pl = s.pl := rfl
@[simp] theorem State.setUnit_dram (s : State) (u : Nat) (x : UnitSt) : (s.setUnit u x).dram = s.dram := rfl
@[simp] theorem State.setUnit_sram (s : State) (u : Nat) (x : UnitSt) : (s.setUnit u x).sram = s.sram := rfl
@[simp] theorem State.setUnit_trig (s : State) (u : Nat) (x : UnitSt) : (s.setUnit u x).trig = s.trig := rfl
@[simp] theorem State.setUnit_acq (s : State) (u : Nat) (x : UnitSt) : (s.setUnit u x).acq = s.acq := rfl
@[simp] theorem State.setUnit_tmu (s : State) (u : Nat) (x : UnitSt) : (s.setUnit u x).tmu = s.tmu := rfl
@[simp] theorem State.setUnit_dc (s : State) (u : Nat) (x : UnitSt) : (s.setUnit u x).dc = s.dc := rfl
@[simp] theorem State.setUnit_ras (s : State) (u : Nat) (x : UnitSt) : (s.setUnit u x).ras = s.ras := rfl
@[simp] theorem State.setUnit_lk (s : State) (u : Nat) (x : UnitSt) : (s.setUnit u x).lk = s.lk := rfl
@[simp] theorem State.setUnit_clu (s : State) (u : Nat) (x : UnitSt) : (s.setUnit u x).clu = s.clu := rfl
@[simp] theorem State.setUnit_cal (s : State) (u : Nat) (x : UnitSt) : (s.setUnit u x).cal = s.cal := rfl
@[simp] theorem State.setUnit_env (s : State) (u : Nat) (x : UnitSt) : (s.setUnit u x).env = s.env := rfl
@[simp] theorem State.setUnit_shown (s : State) (u : Nat) (x : UnitSt) : (s.setUnit u x).shown = s.shown := rfl
@[simp] theorem State.setUnit_vis (s : State) (u : Nat) (x : UnitSt) : (s.setUnit u x).vis = s.vis := rfl
@[simp] theorem State.setUnit_hot (s : State) (u : Nat) (x : UnitSt) : (s.setUnit u x).hot = s.hot := rfl
@[simp] theorem State.setUnit_lvl (s : State) (u : Nat) (x : UnitSt) : (s.setUnit u x).lvl = s.lvl := rfl
@[simp] theorem State.setUnit_free (s : State) (u : Nat) (x : UnitSt) : (s.setUnit u x).free = s.free := rfl

@[simp] theorem State.setPort_regs (s : State) (p : Nat) (x : Port) : (s.setPort p x).regs = s.regs := rfl
@[simp] theorem State.setPort_sub (s : State) (p : Nat) (x : Port) : (s.setPort p x).sub = s.sub := rfl
@[simp] theorem State.setPort_pending (s : State) (p : Nat) (x : Port) : (s.setPort p x).pending = s.pending := rfl
@[simp] theorem State.setPort_host (s : State) (p : Nat) (x : Port) : (s.setPort p x).host = s.host := rfl
@[simp] theorem State.setPort_evt (s : State) (p : Nat) (x : Port) : (s.setPort p x).evt = s.evt := rfl
@[simp] theorem State.setPort_jn (s : State) (p : Nat) (x : Port) : (s.setPort p x).jn = s.jn := rfl
@[simp] theorem State.setPort_snap (s : State) (p : Nat) (x : Port) : (s.setPort p x).snap = s.snap := rfl
@[simp] theorem State.setPort_leaves (s : State) (p : Nat) (x : Port) : (s.setPort p x).leaves = s.leaves := rfl
@[simp] theorem State.setPort_caches (s : State) (p : Nat) (x : Port) : (s.setPort p x).caches = s.caches := rfl
@[simp] theorem State.setPort_engines (s : State) (p : Nat) (x : Port) : (s.setPort p x).engines = s.engines := rfl
@[simp] theorem State.setPort_units (s : State) (p : Nat) (x : Port) : (s.setPort p x).units = s.units := rfl
@[simp] theorem State.setPort_pulses (s : State) (p : Nat) (x : Port) : (s.setPort p x).pulses = s.pulses := rfl
@[simp] theorem State.setPort_strands (s : State) (p : Nat) (x : Port) : (s.setPort p x).strands = s.strands := rfl
@[simp] theorem State.setPort_mc (s : State) (p : Nat) (x : Port) : (s.setPort p x).mc = s.mc := rfl
@[simp] theorem State.setPort_fl (s : State) (p : Nat) (x : Port) : (s.setPort p x).fl = s.fl := rfl
@[simp] theorem State.setPort_mnt (s : State) (p : Nat) (x : Port) : (s.setPort p x).mnt = s.mnt := rfl
@[simp] theorem State.setPort_pl (s : State) (p : Nat) (x : Port) : (s.setPort p x).pl = s.pl := rfl
@[simp] theorem State.setPort_dram (s : State) (p : Nat) (x : Port) : (s.setPort p x).dram = s.dram := rfl
@[simp] theorem State.setPort_sram (s : State) (p : Nat) (x : Port) : (s.setPort p x).sram = s.sram := rfl
@[simp] theorem State.setPort_trig (s : State) (p : Nat) (x : Port) : (s.setPort p x).trig = s.trig := rfl
@[simp] theorem State.setPort_acq (s : State) (p : Nat) (x : Port) : (s.setPort p x).acq = s.acq := rfl
@[simp] theorem State.setPort_tmu (s : State) (p : Nat) (x : Port) : (s.setPort p x).tmu = s.tmu := rfl
@[simp] theorem State.setPort_dc (s : State) (p : Nat) (x : Port) : (s.setPort p x).dc = s.dc := rfl
@[simp] theorem State.setPort_ras (s : State) (p : Nat) (x : Port) : (s.setPort p x).ras = s.ras := rfl
@[simp] theorem State.setPort_clu (s : State) (p : Nat) (x : Port) : (s.setPort p x).clu = s.clu := rfl
@[simp] theorem State.setPort_cal (s : State) (p : Nat) (x : Port) : (s.setPort p x).cal = s.cal := rfl
@[simp] theorem State.setPort_env (s : State) (p : Nat) (x : Port) : (s.setPort p x).env = s.env := rfl
@[simp] theorem State.setPort_shown (s : State) (p : Nat) (x : Port) : (s.setPort p x).shown = s.shown := rfl
@[simp] theorem State.setPort_vis (s : State) (p : Nat) (x : Port) : (s.setPort p x).vis = s.vis := rfl
@[simp] theorem State.setPort_hot (s : State) (p : Nat) (x : Port) : (s.setPort p x).hot = s.hot := rfl
@[simp] theorem State.setPort_lvl (s : State) (p : Nat) (x : Port) : (s.setPort p x).lvl = s.lvl := rfl
@[simp] theorem State.setPort_free (s : State) (p : Nat) (x : Port) : (s.setPort p x).free = s.free := rfl

@[simp] theorem State.setDesc_regs (s : State) (id d : Nat) : (s.setDesc id d).regs = s.regs := rfl
@[simp] theorem State.setDesc_sub (s : State) (id d : Nat) : (s.setDesc id d).sub = s.sub := rfl
@[simp] theorem State.setDesc_pending (s : State) (id d : Nat) : (s.setDesc id d).pending = s.pending := rfl
@[simp] theorem State.setDesc_host (s : State) (id d : Nat) : (s.setDesc id d).host = s.host := rfl
@[simp] theorem State.setDesc_evt (s : State) (id d : Nat) : (s.setDesc id d).evt = s.evt := rfl
@[simp] theorem State.setDesc_jn (s : State) (id d : Nat) : (s.setDesc id d).jn = s.jn := rfl
@[simp] theorem State.setDesc_snap (s : State) (id d : Nat) : (s.setDesc id d).snap = s.snap := rfl
@[simp] theorem State.setDesc_leaves (s : State) (id d : Nat) : (s.setDesc id d).leaves = s.leaves := rfl
@[simp] theorem State.setDesc_caches (s : State) (id d : Nat) : (s.setDesc id d).caches = s.caches := rfl
@[simp] theorem State.setDesc_engines (s : State) (id d : Nat) : (s.setDesc id d).engines = s.engines := rfl
@[simp] theorem State.setDesc_units (s : State) (id d : Nat) : (s.setDesc id d).units = s.units := rfl
@[simp] theorem State.setDesc_pulses (s : State) (id d : Nat) : (s.setDesc id d).pulses = s.pulses := rfl
@[simp] theorem State.setDesc_mc (s : State) (id d : Nat) : (s.setDesc id d).mc = s.mc := rfl
@[simp] theorem State.setDesc_fl (s : State) (id d : Nat) : (s.setDesc id d).fl = s.fl := rfl
@[simp] theorem State.setDesc_mnt (s : State) (id d : Nat) : (s.setDesc id d).mnt = s.mnt := rfl
@[simp] theorem State.setDesc_pl (s : State) (id d : Nat) : (s.setDesc id d).pl = s.pl := rfl
@[simp] theorem State.setDesc_dram (s : State) (id d : Nat) : (s.setDesc id d).dram = s.dram := rfl
@[simp] theorem State.setDesc_sram (s : State) (id d : Nat) : (s.setDesc id d).sram = s.sram := rfl
@[simp] theorem State.setDesc_trig (s : State) (id d : Nat) : (s.setDesc id d).trig = s.trig := rfl
@[simp] theorem State.setDesc_acq (s : State) (id d : Nat) : (s.setDesc id d).acq = s.acq := rfl
@[simp] theorem State.setDesc_tmu (s : State) (id d : Nat) : (s.setDesc id d).tmu = s.tmu := rfl
@[simp] theorem State.setDesc_dc (s : State) (id d : Nat) : (s.setDesc id d).dc = s.dc := rfl
@[simp] theorem State.setDesc_ras (s : State) (id d : Nat) : (s.setDesc id d).ras = s.ras := rfl
@[simp] theorem State.setDesc_lk (s : State) (id d : Nat) : (s.setDesc id d).lk = s.lk := rfl
@[simp] theorem State.setDesc_clu (s : State) (id d : Nat) : (s.setDesc id d).clu = s.clu := rfl
@[simp] theorem State.setDesc_cal (s : State) (id d : Nat) : (s.setDesc id d).cal = s.cal := rfl
@[simp] theorem State.setDesc_env (s : State) (id d : Nat) : (s.setDesc id d).env = s.env := rfl
@[simp] theorem State.setDesc_shown (s : State) (id d : Nat) : (s.setDesc id d).shown = s.shown := rfl
@[simp] theorem State.setDesc_vis (s : State) (id d : Nat) : (s.setDesc id d).vis = s.vis := rfl
@[simp] theorem State.setDesc_hot (s : State) (id d : Nat) : (s.setDesc id d).hot = s.hot := rfl
@[simp] theorem State.setDesc_lvl (s : State) (id d : Nat) : (s.setDesc id d).lvl = s.lvl := rfl
@[simp] theorem State.setDesc_free (s : State) (id d : Nat) : (s.setDesc id d).free = s.free := rfl

@[simp] theorem State.wrs_sub (s : State) (l : List (Fld × Nat × Nat)) : (s.wrs l).sub = s.sub := by
  induction l generalizing s with
  | nil => rfl
  | cons e t ih => exact ih _

@[simp] theorem State.wrs_pending (s : State) (l : List (Fld × Nat × Nat)) : (s.wrs l).pending = s.pending := by
  induction l generalizing s with
  | nil => rfl
  | cons e t ih => exact ih _

@[simp] theorem State.wrs_host (s : State) (l : List (Fld × Nat × Nat)) : (s.wrs l).host = s.host := by
  induction l generalizing s with
  | nil => rfl
  | cons e t ih => exact ih _

@[simp] theorem State.wrs_evt (s : State) (l : List (Fld × Nat × Nat)) : (s.wrs l).evt = s.evt := by
  induction l generalizing s with
  | nil => rfl
  | cons e t ih => exact ih _

@[simp] theorem State.wrs_jn (s : State) (l : List (Fld × Nat × Nat)) : (s.wrs l).jn = s.jn := by
  induction l generalizing s with
  | nil => rfl
  | cons e t ih => exact ih _

@[simp] theorem State.wrs_snap (s : State) (l : List (Fld × Nat × Nat)) : (s.wrs l).snap = s.snap := by
  induction l generalizing s with
  | nil => rfl
  | cons e t ih => exact ih _

@[simp] theorem State.wrs_leaves (s : State) (l : List (Fld × Nat × Nat)) : (s.wrs l).leaves = s.leaves := by
  induction l generalizing s with
  | nil => rfl
  | cons e t ih => exact ih _

@[simp] theorem State.wrs_caches (s : State) (l : List (Fld × Nat × Nat)) : (s.wrs l).caches = s.caches := by
  induction l generalizing s with
  | nil => rfl
  | cons e t ih => exact ih _

@[simp] theorem State.wrs_engines (s : State) (l : List (Fld × Nat × Nat)) : (s.wrs l).engines = s.engines := by
  induction l generalizing s with
  | nil => rfl
  | cons e t ih => exact ih _

@[simp] theorem State.wrs_units (s : State) (l : List (Fld × Nat × Nat)) : (s.wrs l).units = s.units := by
  induction l generalizing s with
  | nil => rfl
  | cons e t ih => exact ih _

@[simp] theorem State.wrs_pulses (s : State) (l : List (Fld × Nat × Nat)) : (s.wrs l).pulses = s.pulses := by
  induction l generalizing s with
  | nil => rfl
  | cons e t ih => exact ih _

@[simp] theorem State.wrs_strands (s : State) (l : List (Fld × Nat × Nat)) : (s.wrs l).strands = s.strands := by
  induction l generalizing s with
  | nil => rfl
  | cons e t ih => exact ih _

@[simp] theorem State.wrs_mc (s : State) (l : List (Fld × Nat × Nat)) : (s.wrs l).mc = s.mc := by
  induction l generalizing s with
  | nil => rfl
  | cons e t ih => exact ih _

@[simp] theorem State.wrs_fl (s : State) (l : List (Fld × Nat × Nat)) : (s.wrs l).fl = s.fl := by
  induction l generalizing s with
  | nil => rfl
  | cons e t ih => exact ih _

@[simp] theorem State.wrs_mnt (s : State) (l : List (Fld × Nat × Nat)) : (s.wrs l).mnt = s.mnt := by
  induction l generalizing s with
  | nil => rfl
  | cons e t ih => exact ih _

@[simp] theorem State.wrs_pl (s : State) (l : List (Fld × Nat × Nat)) : (s.wrs l).pl = s.pl := by
  induction l generalizing s with
  | nil => rfl
  | cons e t ih => exact ih _

@[simp] theorem State.wrs_dram (s : State) (l : List (Fld × Nat × Nat)) : (s.wrs l).dram = s.dram := by
  induction l generalizing s with
  | nil => rfl
  | cons e t ih => exact ih _

@[simp] theorem State.wrs_sram (s : State) (l : List (Fld × Nat × Nat)) : (s.wrs l).sram = s.sram := by
  induction l generalizing s with
  | nil => rfl
  | cons e t ih => exact ih _

@[simp] theorem State.wrs_trig (s : State) (l : List (Fld × Nat × Nat)) : (s.wrs l).trig = s.trig := by
  induction l generalizing s with
  | nil => rfl
  | cons e t ih => exact ih _

@[simp] theorem State.wrs_acq (s : State) (l : List (Fld × Nat × Nat)) : (s.wrs l).acq = s.acq := by
  induction l generalizing s with
  | nil => rfl
  | cons e t ih => exact ih _

@[simp] theorem State.wrs_tmu (s : State) (l : List (Fld × Nat × Nat)) : (s.wrs l).tmu = s.tmu := by
  induction l generalizing s with
  | nil => rfl
  | cons e t ih => exact ih _

@[simp] theorem State.wrs_dc (s : State) (l : List (Fld × Nat × Nat)) : (s.wrs l).dc = s.dc := by
  induction l generalizing s with
  | nil => rfl
  | cons e t ih => exact ih _

@[simp] theorem State.wrs_ras (s : State) (l : List (Fld × Nat × Nat)) : (s.wrs l).ras = s.ras := by
  induction l generalizing s with
  | nil => rfl
  | cons e t ih => exact ih _

@[simp] theorem State.wrs_lk (s : State) (l : List (Fld × Nat × Nat)) : (s.wrs l).lk = s.lk := by
  induction l generalizing s with
  | nil => rfl
  | cons e t ih => exact ih _

@[simp] theorem State.wrs_clu (s : State) (l : List (Fld × Nat × Nat)) : (s.wrs l).clu = s.clu := by
  induction l generalizing s with
  | nil => rfl
  | cons e t ih => exact ih _

@[simp] theorem State.wrs_cal (s : State) (l : List (Fld × Nat × Nat)) : (s.wrs l).cal = s.cal := by
  induction l generalizing s with
  | nil => rfl
  | cons e t ih => exact ih _

@[simp] theorem State.wrs_env (s : State) (l : List (Fld × Nat × Nat)) : (s.wrs l).env = s.env := by
  induction l generalizing s with
  | nil => rfl
  | cons e t ih => exact ih _

@[simp] theorem State.wrs_shown (s : State) (l : List (Fld × Nat × Nat)) : (s.wrs l).shown = s.shown := by
  induction l generalizing s with
  | nil => rfl
  | cons e t ih => exact ih _

@[simp] theorem State.wrs_vis (s : State) (l : List (Fld × Nat × Nat)) : (s.wrs l).vis = s.vis := by
  induction l generalizing s with
  | nil => rfl
  | cons e t ih => exact ih _

@[simp] theorem State.wrs_hot (s : State) (l : List (Fld × Nat × Nat)) : (s.wrs l).hot = s.hot := by
  induction l generalizing s with
  | nil => rfl
  | cons e t ih => exact ih _

@[simp] theorem State.wrs_lvl (s : State) (l : List (Fld × Nat × Nat)) : (s.wrs l).lvl = s.lvl := by
  induction l generalizing s with
  | nil => rfl
  | cons e t ih => exact ih _

@[simp] theorem State.wrs_free (s : State) (l : List (Fld × Nat × Nat)) : (s.wrs l).free = s.free := by
  induction l generalizing s with
  | nil => rfl
  | cons e t ih => exact ih _

@[simp] theorem State.setLeaf_rd (s : State) (l : Nat) (x : Leaf) (f : Fld) (i : Nat) : (s.setLeaf l x).rd f i = s.rd f i := rfl
@[simp] theorem State.setCache_rd (s : State) (l : Nat) (x : Cache) (f : Fld) (i : Nat) : (s.setCache l x).rd f i = s.rd f i := rfl
@[simp] theorem State.setEng_rd (s : State) (l : Nat) (x : Engine) (f : Fld) (i : Nat) : (s.setEng l x).rd f i = s.rd f i := rfl
@[simp] theorem State.setUnit_rd (s : State) (u : Nat) (x : UnitSt) (f : Fld) (i : Nat) : (s.setUnit u x).rd f i = s.rd f i := rfl
@[simp] theorem State.setPort_rd (s : State) (p : Nat) (x : Port) (f : Fld) (i : Nat) : (s.setPort p x).rd f i = s.rd f i := rfl
@[simp] theorem State.setDesc_rd (s : State) (id d : Nat) (f : Fld) (i : Nat) : (s.setDesc id d).rd f i = s.rd f i := rfl

/-! ### Reading after writing -/

/-- A field reads as written, cut to its width. -/
theorem State.rd_wr_self (s : State) (f : Fld) (i v : Nat) : (s.wr f i v).rd f i = v % 2 ^ f.w :=
  RegFile.get_put_self s.regs f i v

/-- Every other cell reads as before. -/
theorem State.rd_wr_ne (s : State) (f g : Fld) (i j v : Nat) (h : cellNo g j ≠ cellNo f i) : (s.wr f i v).rd g j = s.rd g j :=
  RegFile.get_put_ne s.regs f g i j v h

/-- Two fields of different keys are different cells. -/
theorem cellNo_ne {f g : Fld} {i j : Nat} (hf : f.key < 1024) (hg : g.key < 1024) (h : g.key ≠ f.key) : cellNo g j ≠ cellNo f i :=
  fun e => h (cellNo_inj hg hf e).1

/-- Two copies of one field are different cells. -/
theorem cellNo_copy_ne {f : Fld} {i j : Nat} (h : j ≠ i) : cellNo f j ≠ cellNo f i := by
  unfold cellNo; omega

/-- Several writes leave a cell that is not among theirs. -/
theorem State.rd_wrs_ne (s : State) (g : Fld) (j : Nat) (l : List (Fld × Nat × Nat))
    (h : ∀ e ∈ l, cellNo g j ≠ cellNo e.1 e.2.1) : (s.wrs l).rd g j = s.rd g j := by
  induction l generalizing s with
  | nil => rfl
  | cons e t ih =>
    obtain ⟨f, i, v⟩ := e
    rw [State.wrs, ih _ (fun e he => h e (List.mem_cons_of_mem _ he))]
    exact State.rd_wr_ne s f g i j v (h (f, i, v) (List.mem_cons_self ..))

theorem State.leaf_setLeaf_self (s : State) (l : Nat) (x : Leaf) : (s.setLeaf l x).leaf l = x := by
  simp [State.leaf, State.setLeaf, Table.get?_set_self]

theorem State.leaf_setLeaf_ne (s : State) (l k : Nat) (x : Leaf) (h : k ≠ l) : (s.setLeaf l x).leaf k = s.leaf k := by
  simp [State.leaf, State.setLeaf, Table.get?_set_ne _ _ _ _ h]

theorem State.eng_setEng_self (s : State) (l : Nat) (x : Engine) : (s.setEng l x).eng l = x := by
  simp [State.eng, State.setEng, Table.get?_set_self]

theorem State.eng_setEng_ne (s : State) (l k : Nat) (x : Engine) (h : k ≠ l) : (s.setEng l x).eng k = s.eng k := by
  simp [State.eng, State.setEng, Table.get?_set_ne _ _ _ _ h]

theorem State.cache_setCache_self (s : State) (l : Nat) (x : Cache) : (s.setCache l x).cache l = x := by
  simp [State.cache, State.setCache, Table.get?_set_self]

theorem State.cache_setCache_ne (s : State) (l k : Nat) (x : Cache) (h : k ≠ l) : (s.setCache l x).cache k = s.cache k := by
  simp [State.cache, State.setCache, Table.get?_set_ne _ _ _ _ h]

theorem State.unit_setUnit_self (s : State) (u : Nat) (x : UnitSt) : (s.setUnit u x).unit u = x := by
  simp [State.unit, State.setUnit, Table.get?_set_self]

theorem State.unit_setUnit_ne (s : State) (u k : Nat) (x : UnitSt) (h : k ≠ u) : (s.setUnit u x).unit k = s.unit k := by
  simp [State.unit, State.setUnit, Table.get?_set_ne _ _ _ _ h]

theorem State.port_setPort_self (s : State) (p : Nat) (x : Port) : (s.setPort p x).port p = x := by
  simp [State.port, State.setPort, Table.get?_set_self]

theorem State.desc_setDesc_self (s : State) (id d : Nat) : (s.setDesc id d).desc id = d := by
  unfold State.desc State.setDesc
  split
  · rename_i h; simp [Table.get?_erase_self, h]
  · simp [Table.get?_set_self]

theorem State.desc_setDesc_ne (s : State) (id k d : Nat) (h : k ≠ id) : (s.setDesc id d).desc k = s.desc k := by
  unfold State.desc State.setDesc
  split
  · simp [Table.get?_erase_ne _ _ _ h]
  · simp [Table.get?_set_ne _ _ _ _ h]

/-! ### The canonical forms -/

theorem State.wr_regsOk {s : State} (h : s.regsOk) (f : Fld) (i v : Nat) : (s.wr f i v).regsOk := RegFile.wf_put s.regs f i v h

theorem State.wrs_regsOk {s : State} (h : s.regsOk) (l : List (Fld × Nat × Nat)) : (s.wrs l).regsOk := by
  induction l generalizing s with
  | nil => exact h
  | cons e t ih => exact ih (State.wr_regsOk h _ _ _)

theorem State.setDesc_strOk {s : State} (h : s.strOk) (id d : Nat) : (s.setDesc id d).strOk := by
  unfold State.strOk State.setDesc at *
  dsimp only
  split
  · exact Table.wf_erase _ _ h
  · exact Table.wf_set _ _ _ h

end Sys2Proof.Machine
end

