-- ==== Sys2Proof/Laws/Ops.lean ====
section
/-! SUPPORT. What each shared operation of Machine/Ops.lean can do: which parts of the state it leaves as they were (by an equation that
names the parts it may change), which register cells it may change, and that the register file stays canonical. -/

namespace Sys2Proof.Machine

/-! ### Parts -/

/-- Nothing but register cells, the event ring and the marks of the base cycle (R8) is in `t` other than in `s`. -/
def State.onlyEvt (s t : State) : Prop := ∃ (r : RegFile) (e : EvtSt) (m : HotSt), t = { s with regs := r, evt := e, hot := m }

/-- Nothing but register cells, the event ring, the marks of the base cycle and the journal is in `t` other than in `s`. -/
def State.onlyJn (s t : State) : Prop :=
  ∃ (r : RegFile) (e : EvtSt) (m : HotSt) (j : JnSt), t = { s with regs := r, evt := e, hot := m, jn := j }

theorem State.onlyEvt_refl (s : State) : s.onlyEvt s := ⟨s.regs, s.evt, s.hot, rfl⟩

theorem State.onlyEvt_trans {s t u : State} : s.onlyEvt t → t.onlyEvt u → s.onlyEvt u := by
  rintro ⟨r, e, m, rfl⟩ ⟨r', e', m', rfl⟩; exact ⟨r', e', m', rfl⟩

theorem State.onlyEvt_wr (s : State) (f : Fld) (i v : Nat) : s.onlyEvt (s.wr f i v) := ⟨_, s.evt, s.hot, rfl⟩

theorem State.onlyEvt_hot (s : State) (m : HotSt) : s.onlyEvt { s with hot := m } := ⟨s.regs, s.evt, m, rfl⟩

theorem State.onlyEvt_wrs (s : State) (l : List (Fld × Nat × Nat)) : s.onlyEvt (s.wrs l) := by
  induction l generalizing s with
  | nil => exact s.onlyEvt_refl
  | cons e t ih => exact State.onlyEvt_trans (s.onlyEvt_wr e.1 e.2.1 e.2.2) (ih _)

theorem State.onlyJn_trans {s t u : State} : s.onlyJn t → t.onlyJn u → s.onlyJn u := by
  rintro ⟨r, e, m, j, rfl⟩ ⟨r', e', m', j', rfl⟩; exact ⟨r', e', m', j', rfl⟩

theorem State.onlyEvt.jn {s t : State} : s.onlyEvt t → s.onlyJn t := by
  rintro ⟨r, e, m, rfl⟩; exact ⟨r, e, m, s.jn, rfl⟩

/-! ### Cells -/

theorem State.keepsCells_refl (s : State) (ks : List Nat) : s.keepsCells ks s := fun _ _ _ _ => rfl

theorem State.keepsCells_trans {s t u : State} {ks js : List Nat} (h : s.keepsCells ks t) (h' : t.keepsCells js u) :
    s.keepsCells (ks ++ js) u := fun g j hg hn =>
  (h' g j hg (fun hm => hn (List.mem_append_right _ hm))).trans (h g j hg (fun hm => hn (List.mem_append_left _ hm)))

theorem State.keepsCells_mono {s t : State} {ks js : List Nat} (h : s.keepsCells ks t) (hs : ks ⊆ js) : s.keepsCells js t :=
  fun g j hg hn => h g j hg (fun hm => hn (hs hm))

theorem State.wr_keepsCells (s : State) (f : Fld) (i v : Nat) (hf : f.key < 1024) : s.keepsCells [f.key] (s.wr f i v) :=
  fun g j hg hn => s.rd_wr_ne f g i j v (fun he => hn (by simp [(cellNo_inj hg hf he).1]))

theorem State.wrs_keepsCells (s : State) (l : List (Fld × Nat × Nat)) (h : ∀ e ∈ l, e.1.key < 1024) :
    s.keepsCells (l.map (fun e => e.1.key)) (s.wrs l) := by
  induction l generalizing s with
  | nil => exact s.keepsCells_refl _
  | cons e t ih =>
    exact State.keepsCells_trans (s.wr_keepsCells e.1 e.2.1 e.2.2 (h e (by simp))) (ih _ (fun x hx => h x (by simp [hx])))

/-! ### The marks of the base cycle (R8) -/

theorem State.mark_onlyEvt (s : State) (f : Fld) (i v : Nat) : s.onlyEvt (s.mark f i v) := s.onlyEvt_hot _

theorem State.mark_rd (s : State) (f g : Fld) (i j v : Nat) : (s.mark f i v).rd g j = s.rd g j := rfl

theorem State.mark_regsOk {s : State} (h : s.regsOk) (f : Fld) (i v : Nat) : (s.mark f i v).regsOk := h

theorem State.hot_regsOk {s : State} (h : s.regsOk) (m : HotSt) : State.regsOk { s with hot := m } := h

theorem State.mark_keepsCells (s : State) (f : Fld) (i v : Nat) : s.keepsCells [] (s.mark f i v) := fun _ _ _ _ => rfl

/-- Setting bits of a W1C field: the cell written, and marked. -/
theorem State.flagBits_eq (s : State) (f : Fld) (i m : Nat) :
    ∃ k : HotSt, s.flagBits f i m = { s.wr f i (s.rd f i ||| m) with hot := k } := ⟨_, rfl⟩

theorem State.flagBits_onlyEvt (s : State) (f : Fld) (i m : Nat) : s.onlyEvt (s.flagBits f i m) :=
  State.onlyEvt_trans (s.onlyEvt_wr _ _ _) (State.mark_onlyEvt _ _ _ _)

theorem State.flag_onlyEvt (s : State) (f : Fld) (i : Nat) : s.onlyEvt (s.flag f i) := s.flagBits_onlyEvt f i 1

theorem State.flagBits_keepsCells (s : State) (f : Fld) (i m : Nat) (hf : f.key < 1024) : s.keepsCells [f.key] (s.flagBits f i m) :=
  State.keepsCells_mono (State.keepsCells_trans (s.wr_keepsCells f i (s.rd f i ||| m) hf) (State.mark_keepsCells _ _ _ _)) (by simp)

theorem State.flag_keepsCells (s : State) (f : Fld) (i : Nat) (hf : f.key < 1024) : s.keepsCells [f.key] (s.flag f i) :=
  s.flagBits_keepsCells f i 1 hf

theorem State.flagBits_regsOk {s : State} (h : s.regsOk) (f : Fld) (i m : Nat) : (s.flagBits f i m).regsOk :=
  State.mark_regsOk (State.wr_regsOk h _ _ _) _ _ _

theorem State.flag_regsOk {s : State} (h : s.regsOk) (f : Fld) (i : Nat) : (s.flag f i).regsOk := State.flagBits_regsOk h f i 1

/-- A counter's step: the cell written, and marked. -/
theorem State.count_eq (s : State) (f : Fld) (i n : Nat) :
    ∃ k : HotSt, (s.count f i n).1 = { s.wr f i (satAdd 32 (s.rd f i) n) with hot := k } := ⟨_, rfl⟩

theorem State.count_onlyEvt (s : State) (f : Fld) (i n : Nat) : s.onlyEvt (s.count f i n).1 :=
  State.onlyEvt_trans (s.onlyEvt_wr _ _ _) (State.mark_onlyEvt _ _ _ _)

theorem State.count_keepsCells (s : State) (f : Fld) (i n : Nat) (hf : f.key < 1024) : s.keepsCells [f.key] (s.count f i n).1 :=
  State.keepsCells_mono (State.keepsCells_trans (s.wr_keepsCells f i (satAdd 32 (s.rd f i) n) hf) (State.mark_keepsCells _ _ _ _))
    (by simp)

theorem State.count_regsOk {s : State} (h : s.regsOk) (f : Fld) (i n : Nat) : (s.count f i n).1.regsOk :=
  State.mark_regsOk (State.wr_regsOk h _ _ _) _ _ _

/-! ### Counters and event messages (R406, R410) -/

theorem State.raiseCore_onlyEvt (s : State) (c i d h : Nat) : s.onlyEvt (s.raiseCore c i d h).1 := by
  unfold State.raiseCore
  split
  · dsimp only
    split
    · exact ⟨_, _, _, rfl⟩
    · exact ⟨_, _, _, rfl⟩
  · exact s.onlyEvt_refl

theorem State.raiseCore_keepsCells (s : State) (c i d h : Nat) : s.keepsCells eventKeys (s.raiseCore c i d h).1 := by
  have h0 (e : EvtSt) : s.keepsCells [] { s with evt := e } := fun _ _ _ _ => rfl
  have hw (e : EvtSt) (v : Nat) := State.keepsCells_trans (h0 e) (State.wr_keepsCells _ F.EVT_SEQ_NEXT 0 v (by decide))
  unfold State.raiseCore
  split
  · generalize s.rd F.EVT_SEQ_NEXT 0 + 1 = v
    dsimp only
    split
    · exact State.keepsCells_mono (State.keepsCells_trans (hw _ _) (State.wr_keepsCells _ F.EVT_SEQ_SENT 0 _ (by decide))) (by decide)
    · exact State.keepsCells_mono (hw _ _) (by decide)
  · exact s.keepsCells_refl _

theorem State.raiseCore_regsOk {s : State} (hs : s.regsOk) (c i d h : Nat) : (s.raiseCore c i d h).1.regsOk := by
  have hring (e : EvtSt) : State.regsOk { s with evt := e } := hs
  unfold State.raiseCore
  split
  · dsimp only
    split
    · exact State.wr_regsOk (State.wr_regsOk (hring _) _ _ _) _ _ _
    · exact State.wr_regsOk (hring _) _ _ _
  · exact hs

/-- What a raised message can do: form one; count one it overwrites unsent; and then raise COUNTER_SAT. -/
theorem State.raise_cases (s : State) (c i d h : Nat) :
    let s1 := (s.raiseCore c i d h).1
    let s2 := (s1.count F.EVT_LOST_COUNT 0 1).1
    s.raise c i d h = s1 ∨ s.raise c i d h = s2 ∨ s.raise c i d h = ((s2.flag F.EVT_STATUS_SAT 0).raiseCore 0x01 0 0x10 0).1 := by
  unfold State.raise
  generalize s.raiseCore c i d h = p
  obtain ⟨s1, lost⟩ := p
  cases lost with
  | false => exact .inl rfl
  | true =>
    dsimp only
    generalize s1.count F.EVT_LOST_COUNT 0 1 = q
    obtain ⟨s2, full⟩ := q
    simp only [if_true]
    split
    · exact .inr (.inr rfl)
    · exact .inr (.inl rfl)

/-- A message changes register cells, the ring and the marks, and nothing else. -/
theorem State.raise_onlyEvt (s : State) (c i d h : Nat) : s.onlyEvt (s.raise c i d h) := by
  have h1 := s.raiseCore_onlyEvt c i d h
  have h2 := State.onlyEvt_trans h1 (State.count_onlyEvt _ F.EVT_LOST_COUNT 0 1)
  obtain he | he | he := s.raise_cases c i d h <;> rw [he]
  · exact h1
  · exact h2
  · exact State.onlyEvt_trans (State.onlyEvt_trans h2 (State.flag_onlyEvt _ _ _)) (State.raiseCore_onlyEvt _ _ _ _ _)

theorem State.raise_keepsCells (s : State) (c i d h : Nat) : s.keepsCells eventKeys (s.raise c i d h) := by
  have h1 := s.raiseCore_keepsCells c i d h
  have h2 := State.keepsCells_trans h1 (State.count_keepsCells _ F.EVT_LOST_COUNT 0 1 (by decide))
  obtain he | he | he := s.raise_cases c i d h <;> rw [he]
  · exact h1
  · exact State.keepsCells_mono h2 (by decide)
  · exact State.keepsCells_mono (State.keepsCells_trans h2 (State.keepsCells_trans
      (State.flag_keepsCells _ F.EVT_STATUS_SAT 0 (by decide)) (State.raiseCore_keepsCells _ _ _ _ _))) (by decide)

theorem State.raise_regsOk {s : State} (hs : s.regsOk) (c i d h : Nat) : (s.raise c i d h).regsOk := by
  have h1 := State.raiseCore_regsOk hs c i d h
  have h2 := State.count_regsOk h1 F.EVT_LOST_COUNT 0 1
  obtain he | he | he := s.raise_cases c i d h <;> rw [he]
  · exact h1
  · exact h2
  · exact State.raiseCore_regsOk (State.flag_regsOk h2 _ _) _ _ _ _

/-- What a counter's step can do: step it, and at its greatest value set its block's flag and raise COUNTER_SAT. -/
theorem State.bump_cases (s : State) (f : Fld) (i n : Nat) (sat : Fld) (si row off : Nat) :
    let s1 := (s.count f i n).1
    s.bump f i n sat si row off = s1 ∨ s.bump f i n sat si row off = (s1.flag sat si).raise 0x01 row off 0 := by
  unfold State.bump
  generalize s.count f i n = q
  obtain ⟨s1, full⟩ := q
  dsimp only
  split
  · exact .inr rfl
  · exact .inl rfl

theorem State.bump_onlyEvt (s : State) (f : Fld) (i n : Nat) (sat : Fld) (si row off : Nat) :
    s.onlyEvt (s.bump f i n sat si row off) := by
  obtain he | he := s.bump_cases f i n sat si row off <;> rw [he]
  · exact s.count_onlyEvt _ _ _
  · exact State.onlyEvt_trans (State.onlyEvt_trans (s.count_onlyEvt _ _ _) (State.flag_onlyEvt _ _ _)) (State.raise_onlyEvt _ _ _ _ _)

theorem State.bump_keepsCells (s : State) (f : Fld) (i n : Nat) (sat : Fld) (si row off : Nat) (hf : f.key < 1024)
    (hsat : sat.key < 1024) : s.keepsCells (f.key :: sat.key :: eventKeys) (s.bump f i n sat si row off) := by
  have h1 := s.count_keepsCells f i n hf
  obtain he | he := s.bump_cases f i n sat si row off <;> rw [he]
  · exact State.keepsCells_mono h1 (by simp)
  · exact State.keepsCells_trans h1 (State.keepsCells_trans (State.flag_keepsCells _ sat si hsat) (State.raise_keepsCells _ _ _ _ _))

theorem State.bump_regsOk {s : State} (hs : s.regsOk) (f : Fld) (i n : Nat) (sat : Fld) (si row off : Nat) :
    (s.bump f i n sat si row off).regsOk := by
  obtain he | he := s.bump_cases f i n sat si row off <;> rw [he]
  · exact State.count_regsOk hs _ _ _
  · exact State.raise_regsOk (State.flag_regsOk (State.count_regsOk hs _ _ _) _ _) _ _ _ _

/-! ### The journal (R367) -/

theorem State.journal_staged (s : State) (typ leaf : Nat) (rep : Bool) (body : Nat) (h : s.jn.queue.length < 2048) :
    s.journal typ leaf rep body = { s with jn := { s.jn with
      queue := s.jn.queue ++ [{ tick := s.tick, typ := typ, leaf := leaf, module := s.module, replay := rep, seq := s.jn.seq, body := body }]
      seq := (s.jn.seq + 1) % 2 ^ 32 } } := by
  simp [State.journal, h]

/-- A record staged or lost changes register cells, the ring and the journal, and nothing else. -/
theorem State.journal_onlyJn (s : State) (typ leaf : Nat) (rep : Bool) (body : Nat) : s.onlyJn (s.journal typ leaf rep body) := by
  unfold State.journal
  split
  · exact ⟨_, _, _, _, rfl⟩
  · have hj (t : State) (j : JnSt) : t.onlyJn { t with jn := j } := ⟨t.regs, t.evt, t.hot, j, rfl⟩
    by_cases h0 : s.jn.lost = 0
    · simp only [h0, if_true]
      exact State.onlyJn_trans (State.onlyJn_trans (State.onlyJn_trans (s.flag_onlyEvt F.JN_STATUS_LOSS_SEEN 0).jn (hj _ _))
        (State.bump_onlyEvt _ _ _ _ _ _ _ _).jn) (State.raise_onlyEvt _ _ _ _ _).jn
    · simp only [h0, if_false]
      exact State.onlyJn_trans (hj _ _) (State.bump_onlyEvt _ _ _ _ _ _ _ _).jn

/-! ### Rejections and answers (R400, R404, R408) -/

theorem State.fillReject_onlyEvt (s : State) (addr src reason detail : Nat) : s.onlyEvt (s.fillReject addr src reason detail) :=
  State.onlyEvt_trans (State.onlyEvt_trans (s.onlyEvt_wrs _) (State.flag_onlyEvt _ _ _)) (State.raise_onlyEvt _ _ _ _ _)

theorem State.moreReject_onlyEvt (s : State) (addr src reason detail : Nat) : s.onlyEvt (s.moreReject addr src reason detail) :=
  State.onlyEvt_trans (s.flag_onlyEvt _ _) (State.onlyEvt_hot _ _)

/-- A recorded rejection changes register cells, the ring and the marks, and nothing else. -/
theorem State.recordReject_onlyEvt (s : State) (addr src reason detail : Nat) :
    s.onlyEvt (s.recordReject addr src reason detail) := by
  unfold State.recordReject
  refine State.onlyEvt_trans ?_ (State.bump_onlyEvt _ _ _ _ _ _ _ _)
  split
  · exact s.moreReject_onlyEvt _ _ _ _
  · exact s.fillReject_onlyEvt _ _ _ _

theorem State.fillReject_keepsCells (s : State) (addr src reason detail : Nat) :
    s.keepsCells rejectKeys (s.fillReject addr src reason detail) := by
  unfold State.fillReject
  refine State.keepsCells_mono (State.keepsCells_trans (State.keepsCells_trans (State.wrs_keepsCells s _ ?_)
    (State.flag_keepsCells _ F.GLB_ERR_INFO_VALID 0 (by decide))) (State.raise_keepsCells _ _ _ _ _)) ?_
  · simp [F.GLB_ERR_ADDR_ADDR, F.GLB_ERR_ADDR_SRC, F.GLB_ERR_INFO_REASON, F.GLB_ERR_INFO_DETAIL, F.GLB_ERR_INFO_TICK]
  · simp [List.subset_def, rejectKeys, eventKeys]

theorem State.moreReject_keepsCells (s : State) (addr src reason detail : Nat) :
    s.keepsCells [F.GLB_ERR_INFO_MORE.key] (s.moreReject addr src reason detail) :=
  s.flag_keepsCells F.GLB_ERR_INFO_MORE 0 (by decide)

theorem State.recordReject_keepsCells (s : State) (addr src reason detail : Nat) :
    s.keepsCells rejectKeys (s.recordReject addr src reason detail) := by
  unfold State.recordReject
  have hb (t : State) := State.bump_keepsCells t F.GLB_ERR_COUNT_COUNT 0 1 F.GLB_ERR_INFO_SAT 0 0 0x58 (by decide) (by decide)
  split
  · exact State.keepsCells_mono (State.keepsCells_trans (s.moreReject_keepsCells _ _ _ _) (hb _)) (by decide)
  · exact State.keepsCells_mono (State.keepsCells_trans (s.fillReject_keepsCells _ _ _ _) (hb _)) (by decide)

theorem State.recordReject_regsOk {s : State} (hs : s.regsOk) (addr src reason detail : Nat) :
    (s.recordReject addr src reason detail).regsOk := by
  unfold State.recordReject
  refine State.bump_regsOk ?_ _ _ _ _ _ _ _
  split
  · exact State.hot_regsOk (State.flag_regsOk hs _ _) _
  · exact State.raise_regsOk (State.flag_regsOk (State.wrs_regsOk hs _) _ _) _ _ _ _

theorem State.respond_only (s : State) (h : Hdr) (a : Ans) : s.respond h a = { s with host := (s.respond h a).host } := rfl

theorem State.respond_rd (s : State) (h : Hdr) (a : Ans) (f : Fld) (i : Nat) : (s.respond h a).rd f i = s.rd f i := rfl

theorem State.respond_told (s : State) (h : Hdr) (a : Ans) : (s.respond h a).told h a := rfl

/-- A request whose effect is not refused: the effect, then the response. -/
theorem State.execute_ok (s : State) (h : Hdr) (addr : Nat) (f : State → State × Ans) (s1 : State) (a : Ans) (hf : f s = (s1, a))
    (ha : ∀ r d, a ≠ .rejected r d) : s.execute h addr f = { s1 with hot := s.hot }.respond h a := by
  simp only [State.execute, hf]
  cases a <;> first | rfl | exact absurd rfl (ha _ _)

/-- A refused request: the rejection recorded, then the response. -/
theorem State.execute_rejected (s : State) (h : Hdr) (addr : Nat) (f : State → State × Ans) (s1 : State) (r d : Nat)
    (hf : f s = (s1, .rejected r d)) :
    s.execute h addr f = { s1.recordReject addr h.src.val r d with hot := s.hot }.respond h (.rejected r d) := by
  simp only [State.execute, hf]
  rfl

/-- A request that the module serves is executed here. -/
theorem State.request_serves (s : State) (h : Hdr) (addr : Nat) (q : Req) (f : State → State × Ans) (hs : s.serves h addr q) :
    s.request h addr q f = s.execute h addr f := by
  obtain ⟨h1, h2, h3, h4, h5, h6⟩ := hs
  unfold State.request
  rw [if_neg (by simp [h1]), h2]
  dsimp only
  rw [if_neg (fun hh => by simp [h4 hh.1] at hh), if_neg h6, if_pos h3, if_neg (by simp [h5])]

/-! ### The clock -/

/-- Nothing but register cells, the place in the tick, the snapshot's banks and the engines' visible values is in `t` other than in
`s`. -/
def State.onlyClock (s t : State) : Prop :=
  ∃ (r : RegFile) (n : Nat) (b : SnapSt) (sh : Table Ctx) (v : List (Nat × Nat × Ctx)),
    t = { s with regs := r, sub := n, snap := b, shown := sh, vis := v }

theorem State.onlyClock_trans {s t u : State} : s.onlyClock t → t.onlyClock u → s.onlyClock u := by
  rintro ⟨r, n, b, sh, v, rfl⟩ ⟨r', n', b', sh', v', rfl⟩; exact ⟨r', n', b', sh', v', rfl⟩

theorem State.wrs_regs (s : State) (l : List (Fld × Nat × Nat)) : ∃ r : RegFile, s.wrs l = { s with regs := r } := by
  induction l generalizing s with
  | nil => exact ⟨_, rfl⟩
  | cons e t ih => obtain ⟨r, h⟩ := ih (s.wr e.1 e.2.1 e.2.2); exact ⟨r, h⟩

theorem State.reveal_onlyClock (s : State) (l : Nat) (c : Ctx) : s.onlyClock (s.reveal l c) := by
  obtain ⟨r, h⟩ := State.wrs_regs { s with shown := Table.set s.shown l { c with u := [] } }
    (c.u.map (fun (e : Nat × Nat) => (F.MC_UREG_VALUE, l * 16 + e.1, e.2)))
  exact ⟨r, _, _, _, _, h⟩

theorem State.reveals_onlyClock (es : List (Nat × Nat × Ctx)) (s : State) :
    s.onlyClock (es.foldl (fun (s : State) (e : Nat × Nat × Ctx) => s.reveal e.2.1 e.2.2) s) := by
  induction es generalizing s with
  | nil => exact ⟨_, _, _, _, _, rfl⟩
  | cons e t ih => exact State.onlyClock_trans (s.reveal_onlyClock e.2.1 e.2.2) (ih _)

theorem State.showDue_onlyClock (s : State) (t : Nat) : s.onlyClock (s.showDue t) := by
  unfold State.showDue
  split
  · exact ⟨_, _, _, _, _, rfl⟩
  · exact State.onlyClock_trans ⟨_, _, _, _, _, rfl⟩ (State.reveals_onlyClock _ _)

theorem State.goto_past (s : State) (t : Nat) (h : s.due t = false) : s.goto t = s := by simp [State.goto, h]

/-- Moving the clock changes register cells, the place in the tick, the snapshot and the visible values, and nothing else. -/
theorem State.goto_onlyClock (s : State) (t : Nat) : s.onlyClock (s.goto t) := by
  unfold State.goto State.subTo
  split
  · refine State.onlyClock_trans ?_ (State.showDue_onlyClock _ _)
    split <;> exact ⟨_, _, _, _, _, rfl⟩
  · exact ⟨_, _, _, _, _, rfl⟩

theorem State.reveals_regsOk (es : List (Nat × Nat × Ctx)) {s : State} (h : s.regsOk) :
    (es.foldl (fun (s : State) (e : Nat × Nat × Ctx) => s.reveal e.2.1 e.2.2) s).regsOk := by
  induction es generalizing s with
  | nil => exact h
  | cons e t ih => exact ih (State.wrs_regsOk (s := { s with shown := Table.set s.shown e.2.1 { e.2.2 with u := [] } }) h _)

theorem State.showDue_regsOk {s : State} (h : s.regsOk) (t : Nat) : (s.showDue t).regsOk := by
  have hv (v : List (Nat × Nat × Ctx)) : State.regsOk { s with vis := v } := h
  unfold State.showDue
  split
  · exact h
  · exact State.reveals_regsOk _ (hv _)

theorem State.goto_regsOk {s : State} (h : s.regsOk) (t : Nat) : (s.goto t).regsOk := by
  unfold State.goto State.subTo
  split
  · refine State.showDue_regsOk ?_ _
    split <;> exact h
  · exact h

end Sys2Proof.Machine
end

