-- ==== Sys2Proof/WellFormed.lean ====
section
/-! DEFINITION. The commands as a sender can form them (19_registers.md R399, R402; the lengths and ranges of what an event carries). -/

namespace Sys2Proof

/-- R399: SRC is a module, port U's host or the service port's host. -/
def Hdr.wf (h : Hdr) : Bool := decide (h.src.val < 16) || h.src.val == 0x80 || h.src.val == 0x81

/-- R402: a burst carries 1 to 256 bytes. -/
def burstOk (data : List Byte) : Bool := decide (1 ≤ data.length) && decide (data.length ≤ 256)

/-- Every byte of a burst lies in a window. -/
def inWindow (addr : BitVec 40) (data : List Byte) (lo hi : Nat) : Bool := decide (lo ≤ addr.toNat) && decide (addr.toNat + data.length ≤ hi)

/-- R399: a request that LENM1 can express. -/
def HostOp.wf : HostOp → Bool
  | .writeb _ data => burstOk data
  | .read64 _ | .write64 _ _ | .readb _ _ => true

/-- R161, R284, R285: a message as another module forms it: the 16 words of R407, a chain of at most 2 048 bytes, a signature of 64,
16 modules in a map and a roster. -/
def CluMsg.wf : CluMsg → Bool
  | .part _ _ _ ws => ws.length == 16
  | .hello h | .report _ h => decide (h.chain.length ≤ 2048)
  | .answer sig => sig.length == 64
  | .firstAbort _ _ _ _ | .strand _ _ _ | .xtrig _ _ _ | .roster _ _ _ | .nonce _ _ | .bead _ _ _ | .faulty _ _ _ | .expiry _
  | .verdict _ _ | .group _ _ | .takeover _ | .partition _ => true
  | .map i => i.map.length == 16
  | .adopt _ a => a.roster.length == 16 && a.map.length == 16

/-- R269: a flit brings the values of all four lanes, or of none. -/
def FlitIn.wf (x : FlitIn) : Bool := (x.eq.length == 0 || x.eq.length == 4) && (x.msg.map (fun m => m.2.wf)).getD true

/-- A command is well formed: its header names a sender, its bursts have a length that exists and lie in the window the row names, and
the lists that an event carries have the length the spec gives them. -/
def Instr.wf : Instr → Bool
  | .writeb h _ data => h.wf && burstOk data
  | .serviceRequest _ _ op => op.wf
  | .beadLanding _ _ link => (link.map (fun b => b.length == 272)).getD true
  | .strandDescriptorWrite h addr data => h.wf && burstOk data && inWindow addr data 0x400000 0x600000
  | .tmuCdtDone low mid high => (low ++ mid ++ high).length == 1024 && ((low ++ mid ++ high).map (·.toNat)).foldl (· + ·) 0 == 1048576
  | .laneTrainDone _ _ skew eq _ => skew.length == 4 && eq.length == 4
  | .capsReceived _ _ _ peer _ => decide (peer.val < 5)
  | .rateStepDone _ _ skew eq => skew.length == 4 && eq.length == 4
  | .flitReceive _ x => x.wf
  | .helloReceived _ _ h => decide (h.chain.length ≤ 2048)
  | .tickAdoption _ a => (a.map (fun x => x.roster.length == 16 && x.map.length == 16)).getD true
  | .mapChange i => i.map.length == 16
  | .dramTempRead ts => ts.length == 12
  | .hostDramWrite h addr data => h.wf && burstOk data && inWindow addr data 0x100000000 0x500000000
  | .calComplete c => (c.trims.length == 0 || c.trims.length == 4241) && c.temps.length == 16
  | .faultEntry cause _ _ _ => decide (1 ≤ cause.val)
  | .pfeFault _ cause => decide (1 ≤ cause.val)
  | .read64 h _ | .readb h _ _ | .write64 h _ _ | .ping h | .start h _ | .abort h _ | .jump h _ | .clear h _ | .load h | .otpKeyOpen h _
  | .programSlot h _ | .revokeSlot h _ | .advanceSvn h | .stackFaultClear h | .swap h _ | .cancel h _ | .flReset h | .flCfgWrite h _
  | .flRdWrite h _ | .armChannel h _ | .acqStop h _ | .acqForce h _ | .clearChannel h _ | .pairEnable h _ _ | .fcModeWrite h _ _
  | .cdtStart h _ | .dsaGo h _ | .dsaDiag h _ | .rsStop h | .rsCommit h | .mount h | .unmount h | .retrain h _ | .testEnter h _
  | .testExit h _ | .rosterWrite h _ _ | .plan h _ | .planCommit h | .planCancel h | .dmRetrain h _ | .calStartFull h | .calStartDrift h
  | .calCancel h | .calDelete h _ | .calRescan h _ | .jnExport h | .safeEnter h | .safeExit h | .moduleReset h | .fwBegin h
  | .fwDataWrite h _ | .fwCommit h => h.wf
  | .tickBoundary | .snapshotExchange | .groupDecisionReady _ | .tickFlitLaunch _ | .clusterFlagDeadline | .forwardTimeout _ _
  | .tickAlarm | .eventMessageSend | .queueEntry _ | .routineStart _ | .vectorIssue _ | .edgePlace _ _ _ _ _ | .compareResult _ _
  | .beadBoundary _ | .vectorActionDeadline _ | .streamFetch _ | .holdResume _ | .holdTimeout _ | .runCompletion _ | .runStart _
  | .abortTakeEffect _ | .hostJumpLatch _ | .seqNext _ | .seqJump _ | .branchT _ | .branchF _ | .call _ | .ret _ | .done _ | .wait _
  | .tickwait _ | .interruptTaken _ | .mcLoadComplete | .otpKeyExpire | .tsExchange _ | .dllLockChange _ | .failLogWrite | .acqSample _ _
  | .triggerOccurrence _ | .acqDrain _ | .refinLoss | .refGateEnd _ _ | .refinQualified | .refRestored | .tsWrap | .tmuEdge _ _ _
  | .pairEdgeProcess _ | .pairPendingExpire _ | .fcGateEnd _ | .dcClamp _ | .dsaOutput _ _ | .dsaRefReady _ | .dsaStartTimeout _
  | .dsaDiagDone _ | .frontPorchStart | .teEdge _ | .teTimeout | .mountComplete _ | .unmountComplete | .clusterGroupForm _ _ _
  | .linkSignalDetect _ | .trainTimeout _ _ | .capsTimeout _ | .linkWaitExpire _ | .nakReceived _ _ | .laneLoss _ _ | .lkWidth _
  | .rxSilentTimeout _ | .laneWiden _ _ | .helloResend _ | .challengeResponse _ _ | .challengeTimeout _ | .leaseGrant | .leaseRenew
  | .renewalConfirm _ | .leaseExpiry | .phaseMarkerSend | .phaseMarkerReceive _ _ _ _ | .routeChangeApply | .idDeparted _ | .idAnchorLost
  | .tickHoldoverLimit | .leaseClaim | .idAnchorTakeover _ | .claimRefused _ | .idPartitioned | .plPlanned _ | .plLoaded
  | .replicaCopyDone _ | .scrubPass _ _ | .caAlert _ _ | .dmRetrainDone _ | .dramRefresh _ | .selfRefreshEntry | .calAutoStart
  | .journalDrain | .jnExported | .powerUp _ | .bootComplete _ _ _ _ | .powerDown | .inputProtection | .thermalTrip | .sensorSample _ _ _
  | .safeEntry | .safePark _ | .clearOkReached | .dewStaleTimeout | .triginEdge _ _ _ | .clampReturned _ | .fwVerifyDone _
  | .secondaryRegistration _ | .prbsCheckerLock _ _ _ | .widthRequest _ _ | .alertNDeassert _ => true

/-- A well-formed command. -/
abbrev WellFormed (i : Instr) : Prop := i.wf = true

end Sys2Proof
end

