-- ==== Sys2Proof/Tests/Slice0.lean ====
section
/-! SUPPORT. The tests of this slice: what a sender cannot form is refused, examples the spec works out, and for every statement a
state and operands that meet its hypotheses (`witness_…`, one clause after the other), with a field or two of what then happens. -/

namespace Sys2Proof.Tests

set_option Elab.async false

open Sys2Proof Sys2Proof.Machine

/-! ### Small states -/

/-- A request of port U's host, and one of the service port's. -/
abbrev hd : Hdr := ⟨0x80, 7, 0⟩
abbrev hdS : Hdr := ⟨0x81, 7, 0⟩

/-- The state that a command leaves. -/
def after (i : Instr) (s : State) : State := match exec i s with | .next t => t | _ => s

/-- A step answers a next state. -/
def steps (s : State) : Bool := match step s with | .next _ => true | _ => false

/-- In STANDBY, with some register cells set. -/
def st (l : List (Fld × Nat × Nat)) : State := State.reset.wrs ((F.ENV_STATUS_MSTATE, 0, 2) :: l)

/-- MOUNTED: every leaf a unit of its own, units 16 and 17 groups (leaves 0 and 1; leaves 2 and 3). -/
def mt (l : List (Fld × Nat × Nat)) : State :=
  { st ((F.ENV_STATUS_MSTATE, 0, 3) :: (F.MNT_STATUS_STATE, 0, 2) :: (F.MC_STATUS_STATE, 0, 2) :: l) with
    mnt := { img := some { leaves := List.range 16, groups := [(16, [0, 1]), (17, [2, 3])] } } }

/-- ADMITTED as module 1 of a line of two, links usable; module 0 is the anchor. -/
def member (l : List (Fld × Nat × Nat)) : State :=
  let s := st ([(F.ID_STAT_STATE, 0, 3), (F.ID_STAT_MODULE, 0, 1), (F.ID_STAT_ANCHOR, 0, 0), (F.ID_TOPO_KIND, 0, 1), (F.ID_TOPO_N, 0, 2),
    (F.ID_MAP_MSTATE, 0, 3), (F.ID_MAP_MSTATE, 1, 3), (F.ID_MAP_LINKS, 0, 2), (F.ID_MAP_LINKS, 1, 8), (F.LK_STAT_STATE, 3, 6)] ++ l)
  { s with clu := { s.clu with routes := [(0, 2), (1, 8)] } }

/-- The anchor of that line: module 0, which holds the lease. -/
def anchorSt (l : List (Fld × Nat × Nat)) : State :=
  let s := st ([(F.ID_STAT_STATE, 0, 3), (F.ID_STAT_MODULE, 0, 0), (F.ID_STAT_ANCHOR, 0, 0), (F.ID_STAT_ROLE, 0, 1), (F.ID_LEASE_HELD, 0, 1),
    (F.ID_TOPO_KIND, 0, 1), (F.ID_TOPO_N, 0, 2), (F.ID_MAP_MSTATE, 0, 3), (F.ID_MAP_MSTATE, 1, 3), (F.ID_MAP_LINKS, 0, 2),
    (F.ID_MAP_LINKS, 1, 8), (F.LK_STAT_STATE, 1, 6)] ++ l)
  { s with clu := { s.clu with routes := [(0, 2), (1, 8)] } }

/-- A bead of vectors that drive 0 (its bytes past the first word read 0 too), and its header. -/
def bead0 : List Byte := [0, 0, 0, 0]
def head0 (last : Bool) : List Byte := toBytes 16 (16 * bit last + 65536 * crc16 bead0)

/-- Leaf 5, unit 5, with strand 1 of four beads, which ends, planned PINNED and in the cache. -/
def playing (x : Leaf) (l : List (Fld × Nat × Nat)) : State :=
  let slot (b : Nat) : Nat × CSlot := (b, { strand := 1, bead := b, payload := bead0, header := head0 (b == 3), landed := some 0 })
  let s := ((mt l).setLeaf 5 { x with unit := 5, strand := 1 }).setDesc 1 (4 * 2 ^ 32 + 2 ^ 80 + 2 ^ 153)
  { s.setCache 5 { slots := [slot 0, slot 1, slot 2, slot 3], pinned := [(1, 0, 0), (1, 1, 1), (1, 2, 2), (1, 3, 3)] } with
    pl := { cur := { runset := [{ unit := 5, strand := 1, pmin := 1280, entry := true }] } }
    units := [(5, { strand := 1 })] }

/-! ### The queue, the clock, the host (chapters 1 and 19) -/

theorem witness_StepRunsFront :
    ({ State.reset with pending := [.refinLoss, .tickBoundary] } : State).pending = [.refinLoss, .tickBoundary] := by decide +kernel

theorem witness_IdleStep :
    (State.reset.pending = [] ∧ State.reset.sub + 1024 < 327680) ∧
    (let s : State := { State.reset with sub := 326656 }
     s.pending = [] ∧ 327680 ≤ s.sub + 1024) ∧
    (let s : State := { State.reset with sub := 325632 }
     s.pending = [] ∧ s.sub + 1024 < 327680) := by decide +kernel

theorem witness_StepKeepsClock :
    let s : State := { st [] with sub := 327679, pending := [.tickBoundary] }
    s.subOk ∧ steps s = true := by decide +kernel

theorem witness_StepKeepsRegs :
    let s : State := { st [] with pending := [.refinLoss] }
    s.regsOk ∧ steps s = true := by decide +kernel

theorem witness_StepKeepsMemory :
    let s : State := { st [] with pending := [.hostDramWrite hd 0x100000000 [1, 2]] }
    (s.memOk ∧ s.strOk) ∧ steps s = true := by decide +kernel

theorem witness_StepTakesOne :
    let s : State := { st [] with pending := [.tickBoundary, .refinLoss] }
    s.pending = .tickBoundary :: [.refinLoss] ∧ steps s = true := by decide +kernel

theorem witness_TickBoundary :
    let s := st [(F.GLB_TICK_TICK, 0, 2 ^ 64 - 1)]
    s.env.off = false ∧ s.mstate ≠ 1 ∧ (after .tickBoundary s).tick = 0 := by decide +kernel

theorem witness_SnapshotExchange :
    (let s : State := { st [] with snap := { fresh := true, back := { tick := 9 } } }
     s.env.off = false ∧ s.mstate ≠ 1 ∧ s.snap.fresh = true ∧ s.rd F.GLB_SNAP_CTL_FREEZE 0 = 0 ∧
       (after .snapshotExchange s).snap.fresh = false) ∧
    (let s : State := { st [(F.GLB_SNAP_CTL_FREEZE, 0, 1)] with snap := { fresh := true } }
     s.env.off = false ∧ s.mstate ≠ 1 ∧ s.snap.fresh = true ∧ s.rd F.GLB_SNAP_CTL_FREEZE 0 ≠ 0) := by decide +kernel

/-- Leaf 5 in play alone at tick 10, with one arm bound to tick 9 (condition 1: always true). -/
def decided : State :=
  { (mt [(F.GLB_TICK_TICK, 0, 10), (F.UNIT_STATUS_STATE, 5, 1)]).setLeaf 5 { phase := .play, unit := 5 } with
    engines := [(5, { arms := [{ cond := 1, target := 3, tick := some 9 }] })] }

theorem witness_LeafDecision :
    decided.inPlay 5 = [5] ∧ 1 ≤ decided.tick ∧ (decided.unit 5).decided < decided.tick ∧ decided.jn.replay.active = false ∧
      (decided.eng 5).arms.filter (fun b => b.tick == some (decided.tick - 1)) = [{ cond := 1, target := 3, tick := some 9 }] ∧
      (decided.leaf 5).phase = .play ∧ (decided.leaf 5).raster = false ∧
      ((after (.groupDecisionReady (.loc 5)) decided).eng 5).armedAt 9 = false := by decide +kernel

theorem witness_ClusterFlags :
    (let s := member [(F.GLB_TICK_TICK, 0, 1)]
     s.admitted = true ∧ s.tick ≠ 0 ∧ s.launchPorts = [3] ∧ (after (.tickFlitLaunch false) s).port 3 ≠ s.port 3) ∧
    (st []).admitted = false ∧
    (let s : State := { member [(F.GLB_TICK_TICK, 0, 2)] with clu := { groups := [{ cunit := 7, modmask := 3 }] } }
     s.admitted = true ∧ 2 ≤ s.tick ∧ (∃ g ∈ s.clu.groups, g.modmask.testBit s.module = true) ∧
       s.flagsGone 0 = [0] ∧ (after .clusterFlagDeadline s).clu.folds.length = 1) := by decide +kernel

theorem witness_RegisterRead :
    (let s := st []
     s.serves hd 0x20 .read64 ∧ s.absentAt 0x20 = false ∧ byteWin 0x20 = false ∧ 0x20 % 8 = 0) ∧
    (let s := st []
     s.serves hd 0xF8 (.readb 8) ∧ s.absentAt 0xF8 = false ∧ byteWin 0xF8 = false ∧ 0xF8 % 8 = 0 ∧ (7 + 1) % 8 = 0 ∧ crosses 0xF8 8 = false) ∧
    (let s := st []
     s.serves hd 0x100 (.readb 256) ∧ s.absentAt 0x100 = false ∧ byteWin 0x100 = false ∧ (255 + 1) % 8 = 0 ∧ crosses 0x100 256 = false) := by
  decide +kernel

theorem witness_WindowRead :
    let s := st []
    s.serves hd 0x400000 (.readb 256) ∧ s.absentAt 0x400000 = false ∧ byteWin 0x400000 = true ∧ inDram 0x400000 = false ∧
      crosses 0x400000 256 = false ∧ inStr 0x4000FF = true := by decide +kernel

theorem witness_CounterWrite :
    (∀ a ∈ [0x300020, 0x380020, 0x58, 0x310160, 0x310860, 0x350120, 0x350520], ∀ d ∈ [0, 1, 2 ^ 32 - 1], (st []).serves hd a (.write64 d)) ∧
    (let s := { st [] with sub := 1024 }
     s.hot.cycle ≠ s.now / 1024) ∧
    ((after (.write64 hd 0x58 0) (st [(F.GLB_ERR_COUNT_COUNT, 0, 5)])).rd F.GLB_ERR_COUNT_COUNT 0 = 0) := by decide +kernel

theorem witness_RejectionRecorded :
    (∀ a ∈ [0x20, 0x300010], (st []).serves hd a (.write64 0)) ∧ (st []).rd F.GLB_ERR_INFO_VALID 0 = 0 ∧
    (st [(F.GLB_ERR_INFO_VALID, 0, 1)]).serves hd 0x20 (.write64 0) ∧ (st [(F.GLB_ERR_INFO_VALID, 0, 1)]).rd F.GLB_ERR_INFO_VALID 0 ≠ 0 := by
  decide +kernel

theorem witness_RepeatedRequest :
    let s := after (.write64 hd 0x58 0) (st [])
    s.deaf hd = false ∧ (s.keptFor hd).isSome = true := by decide +kernel

theorem witness_EventsAndAlarm :
    (let s := st []
     s.serves hd 0x18 (.write64 1) ∧ (s.rd F.EVT_ENABLE_EN 0).testBit 3 = true ∧ (after (.ping hd) s).evt.ring.length = 1) ∧
    (let s := st [(F.GLB_TICK_TICK, 0, 5), (F.GLB_ALARM_TICK, 0, 5)]
     s.env.off = false ∧ s.mstate ≠ 1 ∧ s.rd F.GLB_ALARM_TICK 0 ≠ 0 ∧ s.rd F.GLB_ALARM_TICK 0 ≤ s.tick ∧
       (s.rd F.EVT_ENABLE_EN 0).testBit 4 = true ∧ (after .tickAlarm s).evt.ring.length = 1) ∧
    (let s : State := { st [(F.EVT_CFG_UPLINK, 0, 1), (F.LK_STAT_STATE, 4, 6), (F.EVT_SEQ_NEXT, 0, 1)] with evt := { ring := [{ seq := 0, code := 3 }] } }
     s.env.off = false ∧ s.rd F.EVT_CFG_UPLINK 0 = 1 ∧ s.rd F.LK_STAT_STATE 4 = 6 ∧ s.evt.lostNow = 0 ∧
       s.rd F.EVT_SEQ_SENT 0 ≠ s.rd F.EVT_SEQ_NEXT 0 ∧ (s.evt.ring.find? (fun x => x.seq == s.rd F.EVT_SEQ_SENT 0)).isSome = true ∧
       (after .eventMessageSend s).rd F.EVT_SEQ_SENT 0 = 1) := by decide +kernel

theorem witness_ServiceAndForward :
    (let s := st []
     s.env.off = false ∧ s.keptFor hdS = none ∧
       (after (.serviceRequest 7 0 (.read64 0x50010)) s).host.tx.isSome = true ∧ s.errAddr 0x20 (toBytes 8 0) < 0x50000 ∧
       0x60000 ≤ s.errAddr 0x60000 (toBytes 8 0) ∧ (∀ n ∈ [1, 8, 256], s.serviceOpen 0x20 n false = false) ∧
       (∀ n ∈ [1, 256], s.errAddr 0x20 (List.replicate n 0) < 0x50000)) ∧
    (∀ p ∈ [none, some 2],
     let f : Fwd := { src := 0x80, tag := 7, dst := 1, port := 1, inPort := p }
     let s : State := { st [(F.GLB_TICK_TICK, 0, 7813)] with host := { fwd := [f] } }
     s.host.fwd.find? (fun f => f.src == 0x80 && f.tag == 7 && !f.answered) = some f ∧ f.inPort = p ∧
       f.at_ + 2560000000 < tickAt (s.tick + 1) ∧ (after (.forwardTimeout 0x80 7) s).host.fwd = []) := by decide +kernel


/-! ### What a sender cannot form -/

def bytes (n : Nat) : List Byte := List.replicate n 0

theorem test_wf_hdr : (Instr.ping ⟨0x7F, 0, 0⟩).wf = false ∧ (Instr.ping hd).wf = true := by decide
theorem test_wf_burst : (Instr.writeb hd 0x400000 []).wf = false ∧ (Instr.writeb hd 0x400000 (bytes 257)).wf = false
    ∧ (Instr.serviceRequest 0 0 (.writeb 0 [])).wf = false ∧ (Instr.writeb hd 0x400000 (bytes 256)).wf = true := by decide +kernel
theorem test_wf_window : (Instr.strandDescriptorWrite hd 0x5FFFF8 (bytes 16)).wf = false
    ∧ (Instr.strandDescriptorWrite hd 0x400000 (bytes 32)).wf = true ∧ (Instr.hostDramWrite hd 0xFFFFFFF8 (bytes 16)).wf = false
    ∧ (Instr.hostDramWrite hd 0x1F09C4000 (bytes 32)).wf = true := by decide
theorem test_wf_bead : (Instr.beadLanding 5 0 (some (bytes 16))).wf = false ∧ (Instr.beadLanding 5 0 none).wf = true := by decide
theorem test_wf_cdt : (Instr.tmuCdtDone [1] [2] []).wf = false := by decide
theorem test_wf_lanes : (Instr.laneTrainDone 0 3 [] [] 0).wf = false ∧ (Instr.rateStepDone 0 true [0, 0, 0, 0] [0]).wf = false := by decide
theorem test_wf_flit : (Instr.flitReceive 0 { eq := [0] }).wf = false ∧ (Instr.flitReceive 0 { msg := some (0, .answer []) }).wf = false
    ∧ (Instr.flitReceive 0 { msg := some (0, .part 0 0 0 []) }).wf = false ∧ (Instr.flitReceive 0 { msg := some (0, .map { map := [] }) }).wf = false
    ∧ (Instr.flitReceive 0 { msg := some (0, .adopt 0 ⟨0, 0, 0, 0, [], []⟩) }).wf = false
    ∧ (Instr.flitReceive 0 { msg := some (0, .expiry 5), eq := [0, 0, 0, 0] }).wf = true := by decide +kernel
theorem test_wf_hello : (Instr.helloReceived 0 none { serial := 1, port := 0, role := 0, anchor := 0, state := 0, chain := List.replicate 2049 0 }).wf
    = false ∧ (Instr.helloReceived 0 none { serial := 1, port := 0, role := 0, anchor := 0, state := 0 }).wf = true := by decide +kernel
theorem test_wf_peer : (Instr.capsReceived 0 3 15 5 1).wf = false ∧ (Instr.capsReceived 0 3 15 3 1).wf = true := by decide
theorem test_wf_map : (Instr.mapChange { map := [{}] }).wf = false
    ∧ (Instr.tickAdoption 1 (some { tick := 100, anchor := 0, kind := 1, n := 2 })).wf = false ∧ (Instr.tickAdoption 1 none).wf = true := by
  decide
theorem test_wf_dram_temp : (Instr.dramTempRead [40]).wf = false := by decide
theorem test_wf_cal : (Instr.calComplete { trims := [0] }).wf = false
    ∧ (Instr.calComplete { temps := List.replicate 16 0 }).wf = true := by decide
theorem test_wf_causes : (Instr.faultEntry 0 0 false false).wf = false ∧ (Instr.pfeFault 2 0).wf = false
    ∧ (Instr.pfeFault 2 1).wf = true := by decide

/-- The table gives no row bits. -/
theorem test_no_table_words : decodeTableWord 0 0 = none ∧ decodeTableWord 64 1 = none
    ∧ State.reset.withFetchWord 64 1 = State.reset := by decide

/-! ### Examples the spec works out -/

/-- R56 and R259: the check values of the two CRCs over "123456789". -/
theorem test_crc16 : crc16 [0x31, 0x32, 0x33, 0x34, 0x35, 0x36, 0x37, 0x38, 0x39] = 0x29B1 := by decide +kernel
theorem test_crc32 : crc32 [0x31, 0x32, 0x33, 0x34, 0x35, 0x36, 0x37, 0x38, 0x39] = 0xCBF43926 := by decide +kernel

/-- 02_vectors.md, the bytes 0xB5 and 0x37. -/
theorem test_byte_states : byteStates 0xB5 = [.d1, .d0, .x] ∧ byteStates 0x37 = [.d1, .cl, .d1] := by decide

/-- 02_vectors.md, the vector word 0x03D8C991 and the vectors across a jump: a ditto repeats the vector played before. -/
theorem test_vector_word : vecTsel 0x03D8C991 = 3 ∧ vecOp 0x03D8C991 = 0
    ∧ vecStates [.d0, .d0, .d0, .d0, .d0, .d0, .cl, .ch, .dz] 0x03D8C991 = [.d1, .d0, .ch, .cl, .cl, .x, .cl, .ch, .dz] := by decide
theorem test_ditto : vecStates (vecStates [] 0x01003791) 0x020000D8 = [.d1, .d0, .ch, .d0, .d0, .d0, .d0, .d0, .d0] := by decide

/-- 02_vectors.md, the header of a bead. -/
abbrev h0 : Nat := 0x0000000A3F0003E85A3C0052
theorem test_header : hPage h0 = 2 ∧ hLast h0 = true ∧ hSafept h0 = false ∧ hSeamtrig h0 = true ∧ hReserved h0 = 0
    ∧ hCrc h0 = 0x5A3C ∧ hArg h0 0 = 1000 ∧ hArg h0 1 = 0x0A3F ∧ hArg h0 2 = 0 := by decide

/-- 04_microcode.md, the microwords of JFAIL. -/
theorem test_jfail_words : (uSeq 0x10000000000000037, uCond 0x10000000000000037, uCommit 0x10000000000000037) = (7, 6, true)
    ∧ (uSeq 0x8613, uCond 0x8613, uAddr 0x8613, uCommit 0x8613) = (3, 2, 0x043, false)
    ∧ (uSeq 0x50000000001000006, uUsrc 0x50000000001000006, uSact 0x50000000001000006, uTsrc 0x50000000001000006) = (6, 1, 1, 0) := by decide

/-- 05_timing.md, the clock set written into the shadow bank of leaf 4. -/
def tsWrites : List (Nat × Nat) :=
  [(0x211200, 0xC80), (0x211208, 0x00420008C0000280), (0x211218, 0x0089000000000000), (0x211220, 0xA00)]
def tsState : State := tsWrites.foldl (fun s e => after (.write64 ⟨0x80, Fin.ofNat _ e.1, 0⟩ (BitVec.ofNat 40 e.1) (BitVec.ofNat 64 e.2)) s) (st [])
theorem test_timing_set : ∀ e ∈ tsWrites, tsState.wordRead e.1 = e.2 := by decide
theorem test_timing_pin : (tsState.pinSet 1 4 2 0).e1 = 0x280 ∧ (tsState.pinSet 1 4 2 0).e2 = 0x8C0 ∧ (tsState.pinSet 1 4 2 0).fmt = 2
    ∧ (tsState.pinSet 1 4 2 1).cmode = 1 ∧ (tsState.pinSet 1 4 2 1).e3 = 0xA00 := by decide

/-- 06_compare.md, the fail record of vector 40. -/
theorem test_fail_record : failWord 10 false { strand := 0x0A3F, vindex := 40, fails := 0x044, obs := 0x3020, recAt := tickTu * 2000 } =
    0x0007D0000050604044000000_00280A3F := by decide

/-- 11_mount.md, the records of the two-level tree at 0x28 of the image; group 17 as {16, m}. -/
def treeImage (m : Byte) : List Byte :=
  bytes 0x28 ++ [0, 0, 0, 0, 1, 0, 0, 0, 2, 0, 0, 0, 3, 0, 0, 0, 8, 0, 0, 0, 16, 1, 2, 0, 0, 1, 0, 0, 17, 1, 2, 0, 16, m, 0, 0]
def treeOf (m : Byte) : MFault := match unitRecs (treeImage m) 0x4C 64 0x28 [] with
  | .inl f => some f
  | .inr recs => treeFault (treeImage m) recs
theorem test_tree : treeOf 2 = none ∧ treeOf 0 = some (0x0E, 0x49, 1) := by decide

/-- 12_links.md, LK_STAT of port E after the narrowing. -/
theorem test_lk_stat : (st [(F.LK_STAT_STATE, 1, 6), (F.LK_STAT_RATE, 1, 3), (F.LK_STAT_WIDTH, 1, 2), (F.LK_STAT_LANES_USED, 1, 3),
    (F.LK_STAT_LANES_GOOD, 1, 0xB), (F.LK_STAT_HOP_NS, 1, 59), (F.LK_STAT_PEER_PORT, 1, 3)]).lkStat 1 = 0x000000033B00B3B6 := by decide

/-- 15_dram.md, bead 40 000 of leaf 5 under MAP_C: R323. -/
theorem test_bead_address : (mt []).payloadAt 5 40000 = 0xF09C4000 ∧ (mt []).headerAt 5 40000 = 0x30F09C400 := by decide

/-- 16_calibration.md, the target at 45.00 °C. -/
theorem test_interpolate : interpolate 412 508 4500 3000 7000 = 448 := by decide

/-- 19_registers.md, a start written too late (here of unit 4). -/
def tooLate : State :=
  after (.start ⟨0x80, 0x42, 0⟩ (.loc 4)) ((mt [(F.GLB_TICK_TICK, 0, 1000000), (F.UNIT_START_TICK_START_TICK, 4, 1000002)]))
theorem test_start_too_soon : tooLate.wordRead 0x48 = 0x0008000000104000 ∧ tooLate.wordRead 0x50 = 0x00000F4240010013 := by decide
/-! ### Pattern flow (chapters 2, 3, 5 and 6) -/

theorem witness_StartAccepted :
    (let s := playing {} [(F.UNIT_START_TICK_START_TICK, 5, 4), (F.UNIT_START_STRAND_STRAND, 5, 1)]
     s.serves hd (unitAddr (.loc 5)) (.write64 1) ∧ s.unitExists 5 = true ∧ s.rasterStarts 5 = false ∧
       s.startRefused 5 (s.startLanded 5) 0x14 = none ∧ ((after (.start hd (.loc 5)) s).unit 5).pending = some 4) ∧
    (let s := playing {} [(F.UNIT_START_TICK_START_TICK, 5, 4)]
     s.serves hd (unitAddr (.loc 5)) (.write64 1) ∧ s.unitExists 5 = true ∧ s.rasterStarts 5 = false ∧
       s.startRefused 5 (s.startLanded 5) 0x14 = some 0x14) ∧
    (let s := st []
     s.serves hd (unitAddr (.loc 5)) (.write64 1) ∧ s.unitExists 5 = false ∧ s.rasterStarts 5 = false ∧ s.mstate ≠ 3 ∧
       (after (.start hd (.loc 5)) s).rd F.GLB_ERR_INFO_REASON 0 = 0x10) := by decide +kernel

theorem witness_StartTooSoon :
    let s := playing {} [(F.GLB_TICK_TICK, 0, 100), (F.UNIT_START_TICK_START_TICK, 5, 103), (F.UNIT_START_STRAND_STRAND, 5, 1)]
    s.serves hd 0x105000 (.write64 1) ∧ s.unitExists 5 = true ∧ s.rasterStarts 5 = false ∧ s.mstate = 3 ∧ s.safeDue = false ∧
      s.rd F.MC_STATUS_STATE 0 ≠ 1 ∧ s.isMember 5 = false ∧ s.unitState 5 ≠ 1 ∧ s.startPending 5 = false ∧ (∀ k ∈ s.leavesOf 5, s.rd F.PL_LEAF_OOS k = 0) ∧
      s.rd F.UNIT_START_TICK_START_TICK 5 < s.tick + 4 := by decide +kernel

theorem witness_RunStart :
    let s := { playing { phase := .armed, startTick := 9 } [(F.GLB_TICK_TICK, 0, 9)] with units := [(5, { pending := some 9, strand := 1 })] }
    (s.unit 5).pending = some 9 ∧ 9 ≤ s.tick ∧
      (∀ l ∈ s.leavesOf 5, (s.leaf l).phase = .armed ∧
        (s.leaf l).aborts.all (fun a => a.vec.isSome || decide (tickAt 9 ≤ a.notBefore)) = true) ∧
      (after (.runStart ⟨(.loc 5), none⟩) s).rd F.UNIT_STATUS_STATE 5 = 1 ∧
      ((after (.runStart ⟨(.loc 5), none⟩) (s.wrs [(F.ID_STAT_STATE, 0, 5)])).leaf 5).aborts.map (·.cause) = [0x0F] := by decide +kernel

theorem witness_AbortJumpClear :
    (let s := playing { phase := .play } [(F.UNIT_STATUS_STATE, 5, 1)]
     s.unitExists 5 = true ∧ s.isMember 5 = false ∧ s.serves hd (unitAddr (.loc 5)) (.write64 2) ∧ (∃ l ∈ s.leavesOf 5, (s.leaf l).phase ≠ .off) ∧
       s.serves hd (unitAddr (.loc 5)) (.write64 4) ∧ s.unitState 5 = 1 ∧
       ¬ (s.jn.replay.active = true ∧ s.jn.replay.unit = 5) ∧ s.rd F.UNIT_JUMP_TICK_JUMP_TICK 5 = 0 ∧ ((after (.jump hd (.loc 5)) s).unit 5).hostJump = some (0, 4)) ∧
    (let s := playing {} [(F.UNIT_STATUS_STATE, 5, 3)]
     s.unitExists 5 = true ∧ s.isMember 5 = false ∧ s.serves hd (unitAddr (.loc 5)) (.write64 8) ∧ s.unitState 5 = 3 ∧
       (after (.clear hd (.loc 5)) s).rd F.UNIT_STATUS_STATE 5 = 0) := by decide +kernel

theorem witness_MemberRefused :
    let s := mt []
    s.unitExists 1 = true ∧ s.isMember 1 = true ∧ s.rasterStarts 1 = false ∧ s.mstate = 3 ∧ s.rd F.MC_STATUS_STATE 0 ≠ 1 ∧ s.safeDue = false ∧
      s.serves hd (unitAddr (.loc 1)) (.write64 1) ∧ s.serves hd (unitAddr (.loc 1)) (.write64 2) := by decide +kernel

/-- Cluster group 7 with leaf 5 on this module, which is the anchor. -/
def cluPlay (x : Leaf) (l : List (Fld × Nat × Nat)) : State :=
  let s := anchorSt ((F.ENV_STATUS_MSTATE, 0, 3) :: (F.MNT_STATUS_STATE, 0, 2) :: (F.MC_STATUS_STATE, 0, 2) :: (F.ID_CG_FORMED, 7, 1) :: l)
  { (s.setLeaf 5 { x with unit := 263 }).setDesc 1 (4 * 2 ^ 32 + 2 ^ 80 + 2 ^ 153) with
    mnt := { img := some { leaves := List.range 16, cgs := [{ cunit := 7, modmask := 3, locals := [5] }] } }
    pl := { cur := { runset := [{ unit := 7, cluster := true, strand := 1, pmin := 1280, entry := true }] } } }

theorem witness_RunStart_late :
    let s := { cluPlay { phase := .armed, startTick := 9 } [(F.GLB_TICK_TICK, 0, 9)] with units := [(263, { pending := some 9, strand := 1 })] }
    (s.unit 263).pending = some 9 ∧ 9 ≤ s.tick ∧ 256 ≤ uix (.clu 7) ∧ s.leavesOf (uix (.clu 7)) = [5] ∧
      (∀ l ∈ s.leavesOf 263, (s.leaf l).phase = .armed ∧
        (s.leaf l).aborts.all (fun a => a.vec.isSome || decide (tickAt 9 ≤ a.notBefore)) = true) ∧
      (after (.runStart ⟨(.clu 7), (some (2, 1))⟩) s).rd F.UNIT_STATUS_CAUSE 5 = 0x10 ∧
      ((after (.runStart ⟨(.clu 7), none⟩) s).leaf 5).phase = .play := by decide +kernel

theorem witness_ClusterWindow :
    (∀ n ∈ [0, 4],
      let s := cluPlay { phase := .play } [(F.UNIT_STATUS_STATE, 5, 1), (F.UNIT_JUMP_TICK_JUMP_TICK, 263, n)]
      s.deaf hd = false ∧ s.keptFor hd = none ∧ s.isOwn hd = true ∧ s.admitted = true ∧ hd.src.val ≠ 0x81 ∧ s.rd F.ID_LEASE_HELD 0 = 1 ∧
        s.rd F.ID_CG_FORMED 7 = 1 ∧ s.isMember 263 = false ∧ (∃ l ∈ s.leavesOf 263, (s.leaf l).phase ≠ .off) ∧ s.unitState 263 = 1 ∧
        ¬ (s.jn.replay.active = true ∧ s.jn.replay.unit = 263) ∧ (n ≠ 0 → s.tick + 4 ≤ s.rd F.UNIT_JUMP_TICK_JUMP_TICK 263) ∧
        (after (.jump hd (.clu 7)) s).unit 263 = { s.unit 263 with hostJump := some (0, 4) }) ∧
    (let s := cluPlay {} [(F.UNIT_STATUS_STATE, 5, 2)]
     s.deaf hd = false ∧ s.keptFor hd = none ∧ s.isOwn hd = true ∧ s.unitState 263 = 2 ∧
       (after (.clear hd (.clu 7)) s).rd F.UNIT_STATUS_STATE 5 = 0) ∧
    (let s := cluPlay { phase := .play } [(F.UNIT_STATUS_STATE, 5, 1), (F.ID_STAT_MODULE, 0, 1), (F.ID_LEASE_HELD, 0, 0), (F.ID_STAT_ROLE, 0, 0)]
     let h : Hdr := ⟨0, 7, 1⟩
     s.deaf h = false ∧ s.keptFor h = none ∧ s.isOwn h = true ∧ s.admitted = true ∧ s.rd F.ID_LEASE_HELD 0 = 0 ∧ h.src.val < 16 ∧
       s.rd F.ID_CG_FORMED 7 = 1 ∧ s.isMember 263 = false ∧ ((after (.abort h (.clu 7)) s).leaf 5).aborts.length = 1) ∧
    (let s := cluPlay {} [(F.UNIT_START_TICK_START_TICK, 263, 4), (F.UNIT_START_STRAND_STRAND, 263, 1)]
     s.deaf hd = false ∧ s.keptFor hd = none ∧ s.isOwn hd = true ∧ s.rasterStarts 263 = false ∧
       s.startRefused 263 (s.startLanded 263) 0x14 = none ∧ s.startsLate 263 = false ∧
       ((after (.start hd (.clu 7)) s).unit 263).pending = some 4) := by decide +kernel

theorem witness_HostJumpLatch :
    let s := { playing { phase := .play } [(F.GLB_TICK_TICK, 0, 9)] with units := [(5, { strand := 1, hostJump := some (2, 9) })] }
    (s.unit 5).hostJump = some (2, 9) ∧ 9 ≤ s.tick ∧ (∃ l ∈ s.leavesOf 5, (s.leaf l).phase = .play ∧ (s.leaf l).raster = false) ∧
      ((after (.hostJumpLatch (.loc 5)) s).leaf 5).jumps.length = 1 := by decide +kernel

theorem witness_QueueAndFetch :
    (∀ ph ∈ [Phase.play, Phase.armed],
     let s := playing { phase := ph, beadSeq := if ph = .play then 1 else 0, startTick := 1 } []
     (s.leaf 5).raster = false ∧ (s.leaf 5).phase = ph ∧ s.due (fillFrom (s.leaf 5).startTick) = true ∧ (s.leaf 5).queue.length < 16 ∧
       (s.leaf 5).queueMoves = true ∧ (s.leaf 5).queue.all (fun q => q.fault.isNone) = true ∧ s.entryPos 5 = some (1, 1, 0, 0) ∧ s.slotAt 5 1 1 0 = some 0 ∧
       ((s.cache 5).slot 0).landed ≠ none ∧ ((s.cache 5).slot 0).bad = false ∧ ((after (.queueEntry 5) s).leaf 5).queue.length = 1) ∧
    (let s := (playing {} []).setCache 5 { cur := some { strand := 1, bead := 2 } }
     (s.cache 5).freeSlot = some 4096 ∧ (s.cache 5).cur.bind (s.nextStreamed 5 41000) = some { strand := 1, bead := 2 } ∧
       ((after (.streamFetch 5) s).cache 5).ring = [4096]) := by
  decide +kernel

/-- A landed bead of 256 zeros and its header, whose CRC-16 is computed 32 bytes at a time. -/
def landed0 : List Byte := List.replicate 256 0 ++ toBytes 16 (65536 * 0x41e8)

/-- 32 zeros, over which the CRC runs at one go. -/
def zeros32 : List Byte := List.replicate 32 0

theorem crc16_zeros32 :
    zeros32.foldl crc16Byte 0xffff = 0xf14c ∧ zeros32.foldl crc16Byte 0xf14c = 0xd6da ∧ zeros32.foldl crc16Byte 0xd6da = 0x8a2c
    ∧ zeros32.foldl crc16Byte 0x8a2c = 0xf00a ∧ zeros32.foldl crc16Byte 0xf00a = 0x548 ∧ zeros32.foldl crc16Byte 0x548 = 0x83f2
    ∧ zeros32.foldl crc16Byte 0x83f2 = 0xb71d ∧ zeros32.foldl crc16Byte 0xb71d = 0x41e8 := by
  decide +kernel

theorem landed0_ok : landingOk (landed0.take 256) ((landed0.drop 256).take 16) = true := by
  have h : landed0.take 256 = zeros32 ++ zeros32 ++ zeros32 ++ zeros32 ++ zeros32 ++ zeros32 ++ zeros32 ++ zeros32 := by decide +kernel
  have k : hCrc (ofBytes ((landed0.drop 256).take 16)) = 0x41e8 := by decide +kernel
  obtain ⟨h1, h2, h3, h4, h5, h6, h7, h8⟩ := crc16_zeros32
  simp only [landingOk, crc16, h, k, List.foldl_append, h1, h2, h3, h4, h5, h6, h7, h8, beq_self_eq_true]

/-- The bead of strand 1 in this module's DRAM, whose payload is as memory reads before a write. -/
def landingSt : State :=
  let s := (playing {} []).setCache 5 { fetches := [{ slot := 8191, strand := 1, bead := 0 }] }
  let s := s.setDesc 1 (s.desc 1)
  let m := memWrite [] (s.payloadAt 5 (dStart (s.desc 1))) (landed0.take 256)
  { s with dram := { mem := memWrite m (s.headerAt 5 (dStart (s.desc 1))) (landed0.drop 256) } }

theorem landing_reads :
    landingSt.dram.read (landingSt.payloadAt 5 (dStart (landingSt.desc 1))) 256 = landed0.take 256 ∧
    landingSt.dram.read (landingSt.headerAt 5 (dStart (landingSt.desc 1))) 16 = (landed0.drop 256).take 16 := by decide +kernel

theorem witness_QueueAndFetch_landing :
    (landingSt.cache 5).fetches.find? (fun f => f.slot == 8191) = some { slot := 8191, strand := 1, bead := 0 } ∧
    landingSt.fetchFrom 5 { slot := 8191, strand := 1, bead := 0 } = landingSt.module ∧
    (let pa := landingSt.payloadAt 5 (dStart (landingSt.desc 1) + 0)
     let ha := landingSt.headerAt 5 (dStart (landingSt.desc 1) + 0)
     landingSt.stalledAt pa 256 = false ∧ landingSt.stalledAt ha 16 = false ∧ landingSt.rangeUe pa 256 = false ∧ landingSt.rangeUe ha 16 = false ∧
       landingOk (landingSt.dram.read pa 256) (landingSt.dram.read ha 16) = true) := by
  refine ⟨by decide +kernel, by decide +kernel, by decide +kernel, by decide +kernel, by decide +kernel, by decide +kernel, ?_⟩
  have h := landing_reads
  rw [Nat.add_zero, h.1, h.2]
  exact landed0_ok

theorem witness_QueueAndFetch_link :
    let f : Fetch := { slot := 8191, strand := 1, bead := 0, replica := true }
    let s := (playing {} []).setCache 5 { fetches := [f] }
    let s := s.setDesc 1 (dPlanned (s.desc 1) 2 0 1 true)
    (s.cache 5).fetches.find? (fun f => f.slot == 8191) = some f ∧ s.fetchFrom 5 f = 1 ∧ s.fetchFrom 5 f ≠ s.module ∧ landed0.length = 272 ∧
      landingOk (landed0.take 256) ((landed0.drop 256).take 16) = true :=
  ⟨by decide +kernel, by decide +kernel, by decide +kernel, by decide +kernel, landed0_ok⟩

theorem witness_VectorIssue :
    let q : QEnt := { qid := 0, beadSeq := 1, strand := 1 }
    (let s := playing { phase := .play, beadSeq := 1, queue := [q] } []
     (s.leaf 5).raster = false ∧ (s.leaf 5).phase = .play ∧ (s.leaf 5).bdue = false ∧ (s.leaf 5).hold = none ∧ (s.leaf 5).rptLeft = 0 ∧
       (s.leaf 5).vhold = false ∧ (s.leaf 5).abortNow false = [] ∧ s.holdExpired 5 = false ∧ s.swapDue 5 = false ∧ s.jn.replay.active = false ∧
       (s.leaf 5).loops.length + (s.eng 5).c.loops.length ≤ 4 ∧ (s.leaf 5).queue = q :: [] ∧ q.fault = none ∧ vecOp q.word = 0 ∧ q.act = {} ∧
       (s.leaf 5).nextStart < tickAt (s.tick + 1) ∧ (after (.vectorIssue 5) s).rd F.UNIT_VCOUNT_VCOUNT 5 = 1) ∧
    (let s := playing { phase := .play, beadSeq := 1, cur := some q, rptLeft := 1, last := [.d0] } []
     (s.leaf 5).vhold = false ∧ (s.leaf 5).abortNow false = [] ∧ s.holdExpired 5 = false ∧ s.swapDue 5 = false ∧ (s.leaf 5).bdue = false ∧
       (s.leaf 5).hold = none ∧ (s.leaf 5).rptLeft ≠ 0 ∧ (s.leaf 5).cur = some q ∧ (s.leaf 5).nextStart < tickAt (s.tick + 1) ∧
       ((after (.vectorIssue 5) s).leaf 5).rptLeft = 0) ∧
    (∀ b ∈ [true, false],
      let h : Hold := { len := 3, ready := some 0 }
      let s := playing { phase := .play, beadSeq := 1, bdue := b, hold := some h, nextStart := 16383 } [(F.UNIT_HOLD_LIMIT_LIMIT, 5, 4)]
      (s.leaf 5).vhold = false ∧ (s.leaf 5).abortNow false = [] ∧ s.holdExpired 5 = false ∧ s.swapDue 5 = false ∧ (s.leaf 5).hold = some h ∧
        (s.leaf 5).holdOver = false ∧ (s.leaf 5).nextStart < tickAt (s.tick + 1) ∧
        ((after (.vectorIssue 5) s).leaf 5).hold.map (·.len) = some 4) := by decide +kernel

theorem witness_EdgePlace :
    let e : Edge := { slot := 2, placed := 500, state := .d0, role := 0 }
    let c : Edge := { slot := 2, placed := 327679, state := .cl, role := 1 }
    (let s := playing { phase := .play, edges := [e] } []
     nextEdge (s.leaf 5).edges 2 = some e ∧ e.placed < tickAt (s.tick + 1) ∧ e.role = 0 ∧
       ((after (.edgePlace 5 2 false false false) s).leaf 5).edges = []) ∧
    (let s := playing { phase := .play, edges := [c] } []
     nextEdge (s.leaf 5).edges 2 = some c ∧ c.placed < tickAt (s.tick + 1) ∧ c.role ≠ 0) := by decide +kernel

theorem witness_CompareResult :
    (∀ a ∈ [true, false], ∀ p ∈ [true, false],
      let c : Cmp := { slot := 8, state := .ch, inst := 327679, supp := p, sample := some (a, a) }
      let v : VRec := { vindex := 3, strand := 1, cmps := [c] }
      let s := playing { phase := .play, vrecs := [v] } []
      nextCmp (s.leaf 5).vrecs 8 = some (v, c) ∧ c.inst < tickAt (s.tick + 1) ∧ c.counts = true ∧ c.ready = true ∧
        c.sample.getD (false, false) = (a, a) ∧ (c.supp || (c.window && c.exc.isSome) || !cmpPass c.state a a) = (p || !a) ∧
        s.rd F.UNIT_FF_POS_VALID 5 = 0 ∧ (after (.compareResult 5 8) s).rd F.UNIT_PFAIL_COUNT 53 = bit (p || !a)) ∧
    (let c : Cmp := { slot := 8, state := .ch, inst := 327679, counts := false }
     let v : VRec := { vindex := 3, strand := 1, cmps := [c] }
     let s := playing { phase := .play, vrecs := [v] } []
     nextCmp (s.leaf 5).vrecs 8 = some (v, c) ∧ c.inst < tickAt (s.tick + 1) ∧ c.counts = false ∧
       (after (.compareResult 5 8) s).rd F.UNIT_PFAIL_COUNT 53 = 0) := by
  decide +kernel

/-- What stands at a boundary: the leaf's place, the state moved on, and the slot's check. -/
def atBoundary (s : State) (flow : Bool) : Prop :=
  (s.leaf 5).raster = false ∧ (s.leaf 5).phase = .play ∧ (s.leaf 5).bdue = true ∧ (s.leaf 5).hold = none ∧ (s.leaf 5).vhold = false ∧
    (s.leaf 5).abortNow (s.atEnd 5) = [] ∧ s.jn.replay.active = false ∧ (s.missedFlow 5).isSome = flow ∧
    edgeOf (s.leaf 5).nextStart < tickAt (s.tick + 1)

/-- The state moved on to what plays next. -/
def movedOn (s : State) : State := s.moveTo 5 (edgeOf (s.leaf 5).nextStart) (s.nextB 5 (edgeOf (s.leaf 5).nextStart))

/-- Leaf 5 at the boundary after bead b. -/
def bound (b : Nat) (l : List (Fld × Nat × Nat)) : State :=
  playing { phase := .play, bdue := true, beadSeq := b + 1, bead := b, off := 64, nextStart := 20480 } l

/-- A routine that may change the flow runs. -/
def lateRun (s : State) : State := s.setEng 5 { run := some { d := { entry := 0x1000, beadSeq := 1 } } }

theorem witness_BeadBoundary :
    (let s := bound 3 []
     atBoundary s false ∧ (s.nextB 5 (edgeOf 20480)).stop = true ∧ ((after (.beadBoundary ⟨5, 0⟩) s).leaf 5).phase = .ended) ∧
    (let s := bound 0 []
     atBoundary s false ∧ (s.nextB 5 (edgeOf 20480)).stop = false ∧ (movedOn s).beadCheck 5 (edgeOf 20480) true 0 = .ok 1 ∧
       (after (.beadBoundary ⟨5, 0⟩) s).rd F.UNIT_STATUS_CUR_BEAD 5 = 1) := by
  unfold atBoundary; decide +kernel

theorem witness_BeadBoundary_starved :
    (∀ b ∈ [true, false],
      let s := (bound 0 []).setDesc 1 (4 * 2 ^ 32 + 2 ^ 80 + bit b * 2 ^ 152 + 2 ^ 153)
      let s := s.setCache 5 {}
      atBoundary s false ∧ (s.nextB 5 (edgeOf 20480)).stop = false ∧ (movedOn s).beadCheck 5 (edgeOf 20480) true 0 = .fault 2 ∧
        (movedOn s).holds 5 (s.nextB 5 (edgeOf 20480)).strand = b) ∧
    (let s := (bound 0 []).setLeaf 5 { (bound 0 []).leaf 5 with jumps := [{ cls := 0, target := 9, at_ := 0 }] }
     atBoundary s false ∧ (s.nextB 5 (edgeOf 20480)).stop = false ∧ (movedOn s).beadCheck 5 (edgeOf 20480) true 0 = .unused ∧
       (after (.beadBoundary ⟨5, 0⟩) s).rd F.UNIT_STATUS_UNDERRUN 5 = 1) ∧
    (let s := lateRun (bound 0 [])
     atBoundary s true ∧ (movedOn s).willHold 5 ((movedOn s).beadCheck 5 (edgeOf 20480) true 0) = false ∧
       ((after (.beadBoundary ⟨5, 0⟩) s).leaf 5).aborts.map (·.cause) = [7]) := by
  unfold atBoundary; decide +kernel

theorem witness_HoldEnds :
    (let h : Hold := { vindex := 64, start := 0, tick := 0, len := 3, ready := some 0 }
     let s := playing { phase := .play, beadSeq := 2, bead := 1, hold := some h, nextStart := 16384, last := List.replicate 9 .d0 } []
     (s.leaf 5).phase = .play ∧ (s.leaf 5).hold = some h ∧ h.forced = none ∧ h.ready = some 0 ∧ 0 + 16 * 1024 ≤ (s.leaf 5).nextStart ∧
       (s.leaf 5).nextStart < tickAt (s.tick + 1) ∧ (s.leaf 5).abortNow false = [] ∧ s.jn.replay.active = false ∧ (s.leaf 5).bdue = false ∧
       s.slotAt 5 (s.leaf 5).beadSeq (s.leaf 5).strand (s.leaf 5).bead = some 1 ∧ ((s.cache 5).slot 1).landed ≠ none ∧
       s.beadFault ((s.cache 5).slot 1) (s.leaf 5).strand (s.leaf 5).bead = none ∧
       vecFault (beadWord ((s.cache 5).slot 1).payload (s.leaf 5).off) (s.leaf 5).last.isEmpty = none ∧
       (after (.holdResume ⟨5, 0⟩) s).rd F.UNIT_HOLD_GAP_GAP 5 = 3) ∧
    (let h : Hold := { vindex := 64, start := 0, tick := 0, len := 3, ready := some 0, cause := 2 }
     let s := playing { phase := .play, bdue := true, beadSeq := 1, bead := 1, moved := true, hold := some h, nextStart := 16384 } []
     (s.leaf 5).hold = some h ∧ h.forced = none ∧ (s.leaf 5).abortNow false = [] ∧ (s.leaf 5).bdue = true ∧
       jumpWinner (s.leaf 5).jumps (edgeOf (s.leaf 5).nextStart) = none ∧ s.missedFlow 5 = none ∧
       s.beadCheck 5 (edgeOf (s.leaf 5).nextStart) false 0 = .ok 1 ∧ ((after (.holdResume ⟨5, 0⟩) s).leaf 5).beadSeq = 2) ∧
    (let s := playing { phase := .play, hold := some { tick := 5 }, nextStart := tickAt 6 } [(F.GLB_TICK_TICK, 0, 6), (F.UNIT_HOLD_LIMIT_LIMIT, 5, 1)]
     (s.leaf 5).phase = .play ∧ s.holdLimit 5 = some 6 ∧ s.holdExpired 5 = true ∧ 6 ≤ s.tick ∧
       ((after (.holdTimeout 5) s).leaf 5).aborts.length = 1) := by decide +kernel

theorem witness_RunEnds :
    (let s := playing { phase := .ended, lastRes := 327679 } []
     (s.leaf 5).phase = .ended ∧ (s.leaf 5).lastRes < tickAt (s.tick + 1) ∧ (s.leaf 5).vrecs.all (fun v => v.done) = true ∧
       (after (.runCompletion 5) s).rd F.UNIT_STATUS_STATE 5 = 2) ∧
    (∀ r ∈ [true, false],
     let a : AbortReq := { notBefore := 0, cause := 0x0E, srcUnit := 5 }
     let s := (playing { phase := .play, beadSeq := 1, raster := r, aborts := [a] } []).setDesc 1 (4 * 2 ^ 32 + 2 ^ 80 + 2 ^ 128)
     (s.leaf 5).phase = .play ∧ (s.leaf 5).vhold = false ∧
       chooseAbort ((s.leaf 5).abortNow (s.atEnd 5)) = some a ∧ (s.leaf 5).nextStart < tickAt (s.tick + 1) ∧
       (r = false → bits (dSafe (s.desc (s.safeStrand 5 a.cause))) 0 8 = 1) ∧ (after (.abortTakeEffect 5) s).rd F.UNIT_STATUS_CAUSE 5 = 0x0E) ∧
    (let a : AbortReq := { notBefore := 327679, cause := 1, srcUnit := 5 }
     let s := playing { phase := .armed, startTick := 1, aborts := [a] } []
     (s.leaf 5).phase = .armed ∧ (s.leaf 5).vhold = false ∧
       chooseAbort ((s.leaf 5).aborts.filter (fun a => a.vec.isNone && decide (a.notBefore < tickAt (s.leaf 5).startTick))) = some a ∧
       a.notBefore < tickAt (s.tick + 1) ∧ (after (.abortTakeEffect 5) s).rd F.UNIT_STATUS_STATE 5 = 3) := by
  decide +kernel

theorem witness_DescriptorWrite :
    let good : List Byte := toBytes 32 (4 * 2 ^ 32 + 2 ^ 80 + 215 * 2 ^ 128 + 215 * 2 ^ 136 + 215 * 2 ^ 144)
    let bad : List Byte := toBytes 32 (3 * 2 ^ 32 + 2 ^ 80)
    let s := st []
    s.serves hd 0x400020 (.writeb good) ∧ good.length = 32 ∧
      s.descRefused 1 (submitDesc (s.desc 1) ((Table.get? s.strands.staged 1).getD []) (bytesFor 32 1 good)) = none ∧
      (after (.strandDescriptorWrite hd 0x400020 good) s).desc 1 ≠ 0 ∧
      (s.descRefused 1 (submitDesc (s.desc 1) ((Table.get? s.strands.staged 1).getD []) (bytesFor 32 1 bad))).isSome = true := by
  decide +kernel

/-! ### Microcode (chapter 4) -/

theorem witness_AluOperations :
    ∀ b ∈ [0, 1, 31, 2 ^ 32 - 1], ∀ u ∈ [0, 1, 2 ^ 31, 2 ^ 32 - 1],
      let c : Ctx := { u := [(3, u)] }
      c.ureg 3 < 2 ^ 32 ∧ b < 2 ^ 32 ∧ (aluExec c 2 3 b).ureg 3 = (u + b) % 2 ^ 32 ∧ (aluExec c 3 3 b).c = decide (b ≤ u) := by
  decide +kernel

/-- R107: a carry out of ADD, a borrow of SUB, the last bit that SHL and SHR shift out, and DEC of 0. -/
theorem test_alu :
    ((aluExec { u := [(3, 0xFFFFFFFF)] } 2 3 1).z = true ∧ (aluExec { u := [(3, 0xFFFFFFFF)] } 2 3 1).c = true) ∧
    ((aluExec { u := [(3, 1)] } 3 3 2).ureg 3 = 0xFFFFFFFF ∧ (aluExec { u := [(3, 1)] } 3 3 2).c = false) ∧
    ((aluExec { u := [(3, 0x80000001)] } 7 3 1).ureg 3 = 2 ∧ (aluExec { u := [(3, 0x80000001)] } 7 3 1).c = true) ∧
    ((aluExec { u := [(3, 0x80000001)] } 8 3 1).ureg 3 = 0x40000000 ∧ (aluExec { u := [(3, 0x80000001)] } 8 3 1).c = true) ∧
    ((aluExec {} 12 3 0).ureg 3 = 0xFFFFFFFF ∧ (aluExec {} 12 3 0).n = true) := by decide +kernel

/-- A microword: SEQ, COND, ADDR and COMMIT. -/
def mw (q cond addr commit : Nat) : Nat := q + 8 * cond + 512 * addr + 2 ^ 64 * commit

/-- Leaf 5's engine at microword 0 of a store that holds just that word. -/
def micro (w : Nat) (x : Leaf) (g : Engine) : State :=
  let s := (playing { x with phase := .play } []).setEng 5 { g with run := some {} }
  { s with mc := { words := [w] } }

theorem witness_Microwords :
    ∀ k ∈ [0, 1], ∀ q ∈ [0, 1, 2, 3, 4, 5],
      let w := mw q 1 9 k
      let s := micro w {} { c := { calls := [7] } }
      (s.eng 5).run = some {} ∧ s.uword 0 = w ∧ uCommit w = decide (k = 1) ∧ uTickwait w = false ∧ uLoopop w = 0 ∧ (s.eng 5).intFirst {} w = false ∧
        (loopOp (aluExec (s.eng 5).c (uAlu w) (uUdst w) (uOperand (s.eng 5).c 0 (s.vindexOf 5 0) w)) (s.leaf 5).loops.length (uLoopop w)
          (uOperand (s.eng 5).c 0 (s.vindexOf 5 0) w)).isSome = true ∧ uVact w = 0 ∧ uSact w = 0 ∧ uEvent w = 0 ∧ armStall (s.eng 5) [] = false ∧
        (s.eng 5).t < tickAt (s.tick + 1) ∧ uSeq w = q ∧ isJournalled (uCond w) = false ∧
        ((after ([.seqNext 5, .seqJump 5, .branchT 5, .branchF 5, .call 5, .ret 5].getD q .refinLoss) s).eng 5).run.map (·.pc) =
          some ([1, 9, if s.liveCond 5 {} {} 0 1 then 9 else 1, if s.liveCond 5 {} {} 0 1 then 1 else 9, 9, 7].getD q 0) := by decide +kernel

/-- R106, at the ends: after word 4095 comes word 0; and a RETURN with an empty call stack goes to word 0. -/
theorem test_next_word :
    (let s := (micro 0 {} {}).setEng 5 { run := some { pc := 4095 } }
     ((after (.seqNext 5) s).eng 5).run.map (·.pc) = some 0) ∧
    ((after (.ret 5) (micro 5 {} {})).eng 5).run.map (·.pc) = some 0 := by decide +kernel

theorem witness_WaitDoneTickwait :
    (∀ cond ∈ [0, 1],
      let w := mw 7 cond 0 1
      let s := micro w {} {}
      (s.eng 5).run = some {} ∧ s.uword 0 = w ∧ uLoopop w = 0 ∧ uVact w = 0 ∧ uSact w = 0 ∧ uEvent w = 0 ∧ (s.eng 5).intFirst {} w = false ∧
        armStall (s.eng 5) [] = false ∧ (s.eng 5).t < tickAt (s.tick + 1) ∧ uSeq w = 7 ∧ uTickwait w = false ∧ uCommit w = true ∧
        isJournalled (uCond w) = false ∧
        ((after (.wait 5) s).eng 5).run.map (·.waiting) = some (!s.liveCond 5 {} {} 0 cond)) ∧
    (let w := mw 6 0 0 1
     let s := micro w {} {}
     s.uword 0 = w ∧ uSeq w = 6 ∧ uTickwait w = false ∧ uLoopop w = 0 ∧ uVact w = 0 ∧ uSact w = 0 ∧ uEvent w = 0 ∧
       ((after (.done 5) s).eng 5).run = none) ∧
    (let w := mw 0 0 0 3
     let s := micro w {} {}
     s.uword 0 = w ∧ uTickwait w = true ∧ uLoopop w = 0 ∧ uVact w = 0 ∧ uSact w = 0 ∧ uEvent w = 0 ∧
       ((after (.tickwait 5) s).eng 5).run.map (·.tickTo) = some (some 1)) := by decide +kernel

theorem witness_RoutinesAndInterrupts :
    (let s := (playing {} []).setEng 5 { fifo := [{ entry := 0x2007 }] }
     (s.eng 5).run = none ∧ (s.eng 5).fifo = { entry := 0x2007 } :: [] ∧ (s.eng 5).ints = [] ∧ (s.eng 5).later = [] ∧
       ((after (.routineStart 5) s).eng 5).run.map (·.pc) = some 7) ∧
    (∀ p ∈ [1, 2, 3, 6],
      let s := (playing {} []).setEng 5 { ints := [p], run := if p = 2 then none else some { saved := 3 } }
      (s.eng 5).nextInt.map (·.1) = some p ∧ intDiscards p = decide (p = 1 ∨ p = 6) ∧
        ((s.eng 5).run = none ↔ p = 2) ∧ ((after (.interruptTaken 5) s).eng 5).ints = (if p = 3 then [3] else [])) ∧
    (∀ k ∈ [0, 1, 2],
      let w := mw 0 0 0 (if k = 2 then 1 else 0)
      let s := micro w {} {}
      let s := s.setEng 5 { run := some { waiting := decide (k = 1), saved := 3 }, ints := if k = 0 then [] else [3], later := if k = 0 then [4] else [] }
      (s.eng 5).nextInt = some (if k = 0 then (4, true) else (3, false)) ∧ (k = 1 → ((s.eng 5).run.map (·.waiting)) = some true) ∧
        (k = 2 → isCommit (s.uword 0) = true) ∧ ((after (.interruptTaken 5) s).eng 5).run.map (·.pc) = some 3) ∧
    (∀ ph ∈ [Phase.play, Phase.armed],
     let q : QEnt := { qid := 0, word := 2 ^ 28 }
     let s := playing { phase := ph, queue := [q], nextStart := 8192 } []
     let s := { s with mc := { dispatch := [0, 0x2000] } }
     findIx? (fun q => !q.act.fixed) (s.leaf 5).queue = some 0 ∧ s.startOf 5 0 = some 8192 ∧ (s.leaf 5).queue[0]? = some q ∧
       (s.leaf 5).phase = ph ∧ edgeOf 8192 - 8 * 1024 < tickAt (s.tick + 1) ∧ vecOp q.word ≠ 0 ∧
       eVreq (s.mc.dispatch.getD (hPage q.hdr * 16 + vecOp q.word) 0) = true ∧ q.act.resolved = false ∧ q.fault = none ∧
       (((after (.vectorActionDeadline 5) s).leaf 5).aborts.map (·.cause)) = [0x07]) := by decide +kernel

/-- A control-store image of one microword, DONE, with no dispatch entry, of security version 3. -/
def mcImage : List Byte :=
  toBytes 8 0x53434D43 ++ toBytes 4 3 ++ toBytes 4 0x2B0 ++ toBytes 16 1 ++ List.replicate 576 (0 : Byte) ++ toBytes 16 6 ++ List.replicate 64 (1 : Byte)

/-- Its key's slot 2, programmed. -/
def mcState : State :=
  { st [(F.MC_OTP_PROG, 0, 4), (F.MC_STATUS_STATE, 0, 1)] with mc := { otpHash := [(2, Config.sha256 (imgPubkey mcImage))], loading := some mcImage } }

/-- Every check but those of the opaque hash and signature, which the image passes when the key's signature verifies (R122). -/
theorem mcImage_passes (h : Config.ecdsaVerify (imgPubkey mcImage) (imgDigest mcImage) (mcImage.drop (mcImage.length - 64)) = true) :
    mcState.mc.loading = some mcImage ∧ mcState.imageFault mcImage = none := by
  have h1 : field mcImage 0 4 = 0x53434D43 ∧ field mcImage 0x00C 4 = 0x260 + 16 * imgWordCount mcImage + 64 ∧
      field mcImage 0x00C 4 = mcImage.length ∧ imgWordCount mcImage = 1 ∧ mcState.rd F.MC_OTP_MIN_SVN 0 ≤ imgSvn mcImage ∧
      (List.range 256).find? (entryBad mcImage) = none ∧ imgDistance mcImage = none ∧
      (List.range 14).find? (fun i => field mcImage (0x012 + i) 1 != 0) = none ∧
      (List.range 1).find? (fun a => wordBad 1 (imgWord mcImage a)) = none ∧ imgCallGraph mcImage = none := by decide +kernel
  have hp : mcState.rd F.MC_OTP_PROG 0 = 4 ∧ mcState.rd F.MC_OTP_REVOKED 0 = 0 := by decide +kernel
  have hk : mcState.keySlot mcImage ≠ none := by
    have hr : List.range 4 = [0, 1, 2, 3] := by decide
    have hg : Table.get? mcState.mc.otpHash 2 = some (Config.sha256 (imgPubkey mcImage)) := rfl
    have b0 : Nat.testBit 4 0 = false ∧ Nat.testBit 4 1 = false ∧ Nat.testBit 4 2 = true := by decide
    simp [State.keySlot, hp.1, hp.2, hr, hg, b0.1, b0.2.1, b0.2.2]
  obtain ⟨a1, a2, a3, a4, a5, a6, a7, a8, a9, a10⟩ := h1
  refine ⟨rfl, ?_⟩
  rw [State.imageFault]
  simp only [a4] at a2
  simp only [a1, a2, a4, hk, h, a6, a7, a8, a9, a10, Nat.not_lt.mpr a5]
  simp [← a3, a2]

theorem witness_ControlStoreLoad :
    (let s := st [(F.MC_SRC_ADDR_ADDR, 0, 0x4B0000000), (F.MC_SRC_LEN_LEN, 0, 0x2B0)]
     s.serves hd 0x20000 (.write64 1) ∧ s.loadOpen = true ∧ s.inCapture (s.rd F.MC_SRC_ADDR_ADDR 0) (s.rd F.MC_SRC_LEN_LEN 0) = true ∧
       (after (.load hd) s).rd F.MC_STATUS_STATE 0 = 1) ∧
    (let s := st [(F.MC_STATUS_STATE, 0, 1)]
     s.serves hd 0x20000 (.write64 1) ∧ s.loadOpen = false) ∧
    (let s := st [(F.MC_SRC_ADDR_ADDR, 0, 0x4AFFFFFF8), (F.MC_SRC_LEN_LEN, 0, 0x2B0)]
     s.serves hd 0x20000 (.write64 1) ∧ s.loadOpen = true ∧ s.inCapture (s.rd F.MC_SRC_ADDR_ADDR 0) (s.rd F.MC_SRC_LEN_LEN 0) = false) ∧
    (let s := { st [(F.MC_STATUS_STATE, 0, 1)] with mc := { loading := some [] } }
     s.mc.loading = some [] ∧ s.imageFault [] = some (1, 0) ∧ (after .mcLoadComplete s).rd F.MC_REJECT_CODE 0 = 1) := by decide +kernel

theorem witness_OtpCommands :
    (∀ k ∈ [0x4F545021, 0],
      (st []).serves hd 0x20040 (.write64 k) ∧ (after (.otpKeyOpen hd (BitVec.ofNat 64 k)) (st [])).mc.keyOpen.isSome = decide (k ≠ 0)) ∧
    (let s := { st [] with mc := { keyOpen := some 5 } }
     s.mc.keyOpen = some 5 ∧ 5 < tickAt (s.tick + 1) ∧ (after .otpKeyExpire s).mc.keyOpen = none) := by decide +kernel

theorem witness_OtpCommands_commands :
    (let s := { st [(F.MC_OTP_PROG, 0, 3), (F.MC_OTP_MIN_SVN, 0, 0), (F.MC_VER_SVN, 0, 70)] with mc := { keyOpen := some 5 } }
     s.otpOpen = true ∧ (∀ d ∈ [12, 2, 5], s.serves hd 0x20048 (.write64 d)) ∧ (s.rd F.MC_OTP_PROG 0).testBit 3 = false ∧
       s.liveSlots.filter (· != 1) ≠ [] ∧ s.rd F.MC_OTP_MIN_SVN 0 < s.rd F.MC_VER_SVN 0 ∧ (after (.advanceSvn hd) s).rd F.MC_OTP_MIN_SVN 0 = 63) ∧
    (let s := { st [(F.MC_OTP_PROG, 0, 2)] with mc := { keyOpen := some 5 } }
     s.otpOpen = true ∧ s.serves hd 0x20048 (.write64 5) ∧ s.liveSlots.filter (· != 1) = []) ∧
    ((st []).otpOpen = false ∧ (∀ d ∈ [12, 2], (st []).serves hd 0x20048 (.write64 d)) ∧ (st []).serves hd 0x20008 (.write64 8)) := by
  decide +kernel

/-! ### Timing sets, the fail log, acquisition (chapters 5 to 7) -/

theorem witness_BankExchange :
    (let s := mt [(F.TS_SWAP_TICK_TICK, 5, 9)]
     s.serves hd (0x202000 + 5 * 0x4000) (.write64 1) ∧ s.swapFault 5 = none ∧ s.exchangeAt 5 = none ∧
       (after (.swap hd 5) s).rd F.TS_STATUS_SWAP_PENDING 5 = 1) ∧
    (let s := mt [(F.GLB_TICK_TICK, 0, 9), (F.TS_SWAP_TICK_TICK, 5, 9)]
     s.serves hd (0x202000 + 5 * 0x4000) (.write64 1) ∧ s.swapFault 5 = some (4, 0, 0, 0) ∧ (after (.swap hd 5) s).rd F.TS_STATUS_REJECT 5 = 4) ∧
    (let s := mt [(F.TS_SWAP_TICK_TICK, 5, 9), (F.TS_STATUS_SWAP_PENDING, 5, 1)]
     s.serves hd (0x202000 + 5 * 0x4000) (.write64 2) ∧ s.exchangeAt 5 = some (tickAt 9, 1) ∧ s.now < edgeOf (tickAt 9) ∧
       (after (.cancel hd 5) s).rd F.TS_STATUS_SWAP_PENDING 5 = 0) := by decide +kernel

theorem witness_BankExchange_came :
    (let s := mt [(F.TS_SWAP_TICK_TICK, 5, 9)]
     s.serves hd (0x202000 + 5 * 0x4000) (.write64 2) ∧ s.exchangeAt 5 = none ∧ s.exchangeComes 5 = false) ∧
    (let s := mt [(F.GLB_TICK_TICK, 0, 9), (F.TS_SWAP_TICK_TICK, 5, 9), (F.TS_STATUS_SWAP_PENDING, 5, 1)]
     s.serves hd (0x202000 + 5 * 0x4000) (.write64 2) ∧ s.exchangeAt 5 = some (tickAt 9, 1) ∧ edgeOf (tickAt 9) ≤ s.now ∧
       (after (.cancel hd 5) s).rd F.TS_STATUS_SWAP_PENDING 5 = 1) ∧
    (let s := mt [(F.GLB_TICK_TICK, 0, 9), (F.TS_SWAP_TICK_TICK, 5, 9), (F.TS_STATUS_SWAP_PENDING, 5, 1)]
     s.exchangeAt 5 = some (tickAt 9, 1) ∧ tickAt 9 < tickAt (s.tick + 1) ∧ ((after (.tsExchange 5) s).leaf 5).bank = 1) := by decide +kernel

/-- R140: an edge at 4 periods, an edge pair in the wrong order, and SBC with a window are refused with codes 1, 2 and 3. -/
theorem test_swap_codes :
    let on (l : List (Fld × Nat)) := ((mt [(F.TS_SWAP_TICK_TICK, 5, 9)]).wrs (l.map (fun e => (e.1, pinIdx 1 5 3 2, e.2)))).wrs [(F.TS_PERIOD_PERIOD, tsIdx 1 5 3, 10240)]
    (on [(F.TS_PIN_A_FMT, 1), (F.TS_PIN_A_E1, 40960)]).swapFault 5 = some (1, 3, 2, 1) ∧
    (on [(F.TS_PIN_A_FMT, 1), (F.TS_PIN_A_E1, 40959)]).swapFault 5 = none ∧
    (on [(F.TS_PIN_A_FMT, 2), (F.TS_PIN_A_E1, 1000), (F.TS_PIN_A_E2, 1511)]).swapFault 5 = some (2, 3, 2, 2) ∧
    (on [(F.TS_PIN_A_FMT, 2), (F.TS_PIN_A_E1, 1000), (F.TS_PIN_A_E2, 1512)]).swapFault 5 = none ∧
    (on [(F.TS_PIN_A_FMT, 4), (F.TS_PIN_A_CMODE, 2), (F.TS_PIN_B_E3, 0), (F.TS_PIN_B_E4, 600), (F.TS_PIN_A_E1, 2000),
      (F.TS_PIN_A_E2, 3000)]).swapFault 5 = some (3, 3, 2, 4) := by decide +kernel

theorem witness_FailLogRing :
    (let s := st [(F.FL_WR_WR, 0, 9), (F.FL_RD_RD, 0, 4)]
     s.serves hd 0x300000 (.write64 1) ∧ s.anyBusy = false ∧ 0 < s.flCap ∧ (after (.flReset hd) s).rd F.FL_WR_WR 0 = 0) ∧
    (let s := playing {} [(F.UNIT_STATUS_STATE, 5, 1)]
     s.serves hd 0x300000 (.write64 1) ∧ s.anyBusy = true ∧ s.serves hd 0x300008 (.write64 0x10001)) ∧
    (∀ d ∈ [0x10001, 0xFFFF0040],
      let s := st [(F.FL_WR_WR, 0, 9), (F.FL_RD_RD, 0, 4)]
      s.serves hd 0x300008 (.write64 d) ∧ d < 2 ^ 32 ∧ bits d 7 9 = 0 ∧ 1 ≤ bits d 0 7 ∧ bits d 0 7 ≤ 64 ∧ s.anyBusy = false ∧
        s.acqOverlap 0 (16 * bits d 0 7) = false ∧ (after (.flCfgWrite hd (BitVec.ofNat 64 d)) s).rd F.FL_CFG_RING_64K 0 = bits d 0 7) ∧
    (steps { playing {} [] with pending := [.runStart ⟨(.loc 5), none⟩] } = true) := by decide +kernel

theorem witness_FailLogRecords :
    (let s := { st [(F.FL_CFG_RING_64K, 0, 1), (F.FL_WR_WR, 0, 4095)] with fl := { queue := [(5, 77)] } }
     s.fl.queue = (5, 77) :: [] ∧ s.flReady 5 = true ∧ s.rd F.FL_LIMIT_MAX 5 = 0 ∧ s.flOcc < s.flCap ∧ (after .failLogWrite s).sramByte 65520 = 77) ∧
    (let s := { st [(F.FL_CFG_RING_64K, 0, 1), (F.FL_WR_WR, 0, 4096)] with fl := { queue := [(5, 77)] } }
     s.fl.queue = (5, 77) :: [] ∧ s.flReady 5 = true ∧ s.rd F.FL_LIMIT_MAX 5 = 0 ∧ s.flCap ≤ s.flOcc ∧
       (after .failLogWrite s).rd F.FL_DROPPED_COUNT 0 = 1) ∧
    (let s := { (st [(F.FL_CFG_RING_64K, 0, 1), (F.FL_LIMIT_MAX, 5, 3)]).setLeaf 5 { flCount := 3 } with fl := { queue := [(5, 77)] } }
     s.fl.queue = (5, 77) :: [] ∧ s.flReady 5 = true ∧ s.rd F.FL_LIMIT_MAX 5 ≠ 0 ∧ s.rd F.FL_LIMIT_MAX 5 ≤ (s.leaf 5).flCount ∧
       (after .failLogWrite s).rd F.FL_LIMITED_COUNT 0 = 1) ∧
    (let s := st [(F.FL_WR_WR, 0, 2), (F.FL_RD_RD, 0, 0xFFFFFFFF)]
     (∀ d ∈ [0xFFFFFFFF, 0, 2], s.serves hd 0x300018 (.write64 d) ∧ (d + 2 ^ 32 - s.rd F.FL_RD_RD 0) % 2 ^ 32 ≤ s.flOcc) ∧
     s.serves hd 0x300018 (.write64 3) ∧ s.flOcc < (3 + 2 ^ 32 - s.rd F.FL_RD_RD 0) % 2 ^ 32) := by decide +kernel

/-- MOUNTED with channel 2 set up for the pin states of leaf 5 in 64 SRAM pages. -/
def acqSt (l : List (Fld × Nat × Nat)) : State :=
  mt ([(F.ACQ_CFG_SOURCE, 2, 1), (F.ACQ_CFG_LEAFMASK, 2, 0x20), (F.ACQ_SRAM_BASE, 2, 1024), (F.ACQ_SRAM_PAGES, 2, 64), (F.ACQ_TRIG_COUNT, 2, 1)] ++ l)

theorem witness_ChannelCommands :
    (∀ l ∈ [[(F.ACQ_CFG_SOURCE, 2, 0)], [(F.ACQ_POST_COUNT, 2, 5)], [(F.ACQ_PRE_COUNT, 2, 100000), (F.ACQ_POST_COUNT, 2, 2 ^ 32 - 1)]],
      let s := acqSt l
      s.serves hd 0x310300 (.write64 1) ∧ s.acqArmFault 2 = none ∧ (after (.armChannel hd 2) s).acqCh 2 = { armAt := some 1 }) ∧
    ((acqSt [(F.ACQ_SRAM_BASE, 2, 2000)]).acqArmFault 2 = some 3 ∧ (acqSt [(F.ACQ_SRAM_BASE, 2, 2000)]).serves hd 0x310300 (.write64 1)) ∧
    (∀ a ∈ [0, 1, 2, 3, 4, 5],
      let s := acqSt [(F.ACQ_STAT_STATE, 2, a)]
      (∀ d ∈ [2, 4, 8], s.serves hd 0x310300 (.write64 d)) ∧ s.acqState 2 = a ∧ s.acqLive 2 = decide (a ≠ 0 ∧ a < 4) ∧
        (s.acqCh 2).trigEdge = none ∧ (s.acqCh 2).armAt = none ∧
        (after (.acqStop hd 2) s).acqState 2 = (if a ≠ 0 ∧ a < 4 then 5 else a) ∧ (after (.clearChannel hd 2) s).acqState 2 = (if a = 5 then 0 else if a = 4 then 0 else a)) ∧
    (let s := (acqSt [(F.ACQ_STAT_STATE, 2, 4)]).setAcq 2 { trigEdge := some (0, 9), armAt := none }
     s.acqState 2 = 4 ∧ (s.acqCh 2).trigEdge = some (edgeUp s.now, 9) ∧ (after (.acqStop hd 2) s).acqState 2 = 5) ∧
    (let s := (acqSt [(F.ACQ_STAT_STATE, 2, 4)]).setAcq 2 { armAt := some 1 }
     s.acqState 2 = 4 ∧ (s.acqCh 2).armAt ≠ none) := by decide +kernel

theorem witness_ChannelSamples :
    (∀ a ∈ [1, 2],
      let s := (acqSt [(F.ACQ_STAT_STATE, 2, a), (F.ACQ_PRE_COUNT, 2, 2)]).setAcq 2 { feed := [{ leaf := 5, inst := 7 }] }
      (s.acqCh 2).feed = { leaf := 5, inst := 7 } :: [] ∧ ({} : AcqItem).gap = none ∧ ({} : AcqItem).opens = false ∧ s.acqState 2 = a ∧ s.acqRed 2 = false ∧ 7 < tickAt (s.tick + 1) ∧ s.acqPin 2 = true ∧
        (s.goto 7).portUsed + (s.goto 7).portKept 2 + s.acqCost 2 ≤ 4032 ∧ (s.acqCh 2).gaps = [] ∧ ((s.acqCh 2).page 5 0).items.length + 2 ≤ 252 ∧
        ((after (.acqSample 2 0) s).acqCh 2).pages.length = 1) ∧
    (let s := (acqSt [(F.ACQ_STAT_STATE, 2, 1)]).setAcq 2 { occ := [{ inst := 7 }] }
     s.firstOcc 2 = some { inst := 7 } ∧ s.acqState 2 = 1 ∧
       (after (.triggerOccurrence 2) s).rd F.ACQ_IGN_TRIG_COUNT 2 = 1) ∧
    (let s := (acqSt [(F.GLB_TICK_TICK, 0, 9), (F.ACQ_STAT_STATE, 2, 2)]).setAcq 2 { occ := [{ inst := tickAt 5 - 1 }] }
     s.firstOcc 2 = some { inst := tickAt 5 - 1 } ∧ s.acqState 2 = 2 ∧ tickAt 5 - 1 + 4 * 327680 < s.now ∧
       (after (.triggerOccurrence 2) s).rd F.ACQ_LATE_TRIG_COUNT 2 = 1) ∧
    (let s := (acqSt [(F.GLB_TICK_TICK, 0, 9), (F.ACQ_STAT_STATE, 2, 2), (F.ACQ_PRE_COUNT, 2, 1)]).setAcq 2 { occ := [{ inst := tickAt 5 }] }
     s.firstOcc 2 = some { inst := tickAt 5 } ∧ s.acqState 2 = 2 ∧ s.now ≤ tickAt 5 + 4 * 327680 ∧ s.acqSource 2 ≠ 0 ∧ (∃ k ∈ s.acqKeys 2, (s.acqCh 2).ordAt k (tickAt 5) < s.rd F.ACQ_PRE_COUNT 2) ∧
       (after (.triggerOccurrence 2) s).rd F.ACQ_IGN_TRIG_COUNT 2 = 1) := by decide +kernel

theorem witness_ChannelSamples_counting :
    ∀ f ∈ [true, false], ∀ e ∈ [(1, []), (2, []), (2, [[0]])],
      let c := e.1
      let h := e.2
      let s := (acqSt [(F.GLB_TICK_TICK, 0, 9), (F.ACQ_STAT_STATE, 2, 2), (F.ACQ_TRIG_COUNT, 2, c), (F.ACQ_POST_COUNT, 2, 3), (F.ACQ_POST_EFF_COUNT, 2, 3)]).setAcq 2
        { occ := [{ inst := tickAt 9, force := f }], hits := h }
      let ords := (s.acqKeys 2).map (fun k => (s.acqCh 2).ordAt k (tickAt 9))
      s.firstOcc 2 = some { inst := tickAt 9, force := f } ∧ s.acqState 2 = 2 ∧ s.now ≤ tickAt 9 + 4 * 327680 ∧ s.acqSource 2 ≠ 0 ∧
        (∀ k ∈ ords, s.rd F.ACQ_PRE_COUNT 2 ≤ k) ∧ (ords ∈ (s.acqCh 2).hits ↔ h = [[0]]) ∧ (s.acqCh 2).hits.length < s.rd F.ACQ_TRIG_COUNT 2 ∧
        ((s.acqCh 2).hits.length + 1 < s.rd F.ACQ_TRIG_COUNT 2 ↔ c = 2 ∧ h = []) ∧
        (after (.triggerOccurrence 2) s).acqState 2 = (if f = true ∨ (c = 1 ∧ h = []) then 3 else 2) := by decide +kernel

theorem witness_ChannelSamples_drain :
    (let s := (acqSt [(F.ACQ_CFG_MEM, 2, 1), (F.ACQ_DRAM_PAGES, 2, 8), (F.ACQ_STAT_STATE, 2, 1)]).setAcq 2 { fifo := [({ seq := 9 }, [7, 8])] }
     (s.acqCh 2).fifo = ({ seq := 9 }, [7, 8]) :: [] ∧ (s.acqCh 2).drainAt < tickAt (s.tick + 1) ∧ s.acqDram 2 = true ∧
       s.stalledAt (s.acqDramAt 2 9) 4096 = false ∧ s.acqState 2 ≠ 3 ∧ s.rangeFaulty (s.acqDramAt 2 9) 4096 = false ∧ (after (.acqDrain 2) s).dram.byte (s.captureBase + 4097) = 8) ∧
    (let s := (acqSt [(F.ACQ_CFG_MEM, 2, 1), (F.ACQ_DRAM_PAGES, 2, 8), (F.ACQ_STAT_STATE, 2, 3), (F.DM_SC_STAT_FAULTY, 0, 1)]).setAcq 2
       { fifo := [({ seq := 9 }, [7, 8])] }
     (s.acqCh 2).fifo = ({ seq := 9 }, [7, 8]) :: [] ∧ s.stalledAt (s.acqDramAt 2 9) 4096 = false ∧ (∀ p ∈ (s.acqCh 2).pages, p.closed = false) ∧
       s.rangeFaulty (s.acqDramAt 2 9) 4096 = true ∧ (after (.acqDrain 2) s).rd F.ACQ_GAPS_COUNT 2 = 1) := by decide +kernel

/-! ### Time measurement, DC and the raster unit (chapters 8 to 10) -/

/-- In STANDBY with the reference's state given. -/
def refSt (l : List (Fld × Nat × Nat)) (x : TmuSt) : State := { st l with tmu := x }

theorem witness_TimingReference :
    (State.reset.mstate = 1 ∧ (st [(F.ENV_STATUS_MSTATE, 0, 0)]).mstate = 0) ∧
    (∀ a ∈ [0, 1], let s := st [(F.TMU_REF_LOST, 0, a)]; s.mstate ≠ 0 ∧ s.mstate ≠ 1 ∧ s.rd F.TMU_REF_LOST 0 = a ∧
      (after .refinLoss s).rd F.TMU_REF_LOST 0 = 1) ∧
    (∀ a ∈ [0, 1], ∀ o ∈ [500, 3596],
      let s := refSt [(F.TMU_REF_LOST, 0, a), (F.TMU_REF_FREQ, 0, 1)] { known := true }
      let off := BitVec.ofNat 12 o
      s.tmu.known = true ∧ (some (1 : Fin 2)).map (·.val) = some (s.rd F.TMU_REF_FREQ 0) ∧ -500 ≤ off.toInt ∧ off.toInt ≤ 500 ∧
        s.rd F.TMU_REF_LOST 0 = a ∧ (after (.refGateEnd (some 1) off) s).rd F.TMU_REF_QUAL_MS 0 = a) ∧
    (∀ o ∈ [501, 3595],
      let s := refSt [(F.TMU_REF_FREQ, 0, 1)] { known := true }
      let off := BitVec.ofNat 12 o
      s.tmu.known = true ∧ (off.toInt < -500 ∨ 500 < off.toInt) ∧ (after (.refGateEnd (some 1) off) s).rd F.TMU_REF_LOST 0 = 1) ∧
    (let s := refSt [(F.TMU_REF_QUAL_MS, 0, 7)] { known := false, cand := some 0 }
     s.tmu.known = false ∧ s.mstate ≠ 1 ∧ s.tmu.cand = some 0 ∧ (after (.refGateEnd (some 0) 0) s).rd F.TMU_REF_QUAL_MS 0 = 8 ∧
       (after (.refGateEnd none 0) s).rd F.TMU_REF_QUAL_MS 0 = 0) ∧
    (∀ k ∈ [true, false],
      let s := refSt [(F.TMU_REF_LOST, 0, 1), (F.TMU_REF_QUAL_MS, 0, 1000), (F.TMU_REF_FREQ, 0, 1)] { known := k, cand := some 0 }
      s.rd F.TMU_REF_LOST 0 ≠ 0 ∧ s.rd F.TMU_REF_QUAL_MS 0 = 1000 ∧ s.tmu.pullIn = none ∧ s.tmu.known = k ∧ s.tmu.cand = some (0 : Fin 2).val ∧
        (after .refinQualified s).rd F.TMU_REF_FREQ 0 = bit k) ∧
    (let s := refSt [(F.TMU_REF_LOST, 0, 1), (F.TMU_REF_SRC, 0, 1)] { pullIn := some 3 }
     s.tmu.pullIn = some 3 ∧ (after .refRestored s).rd F.TMU_REF_SRC 0 = 0) ∧
    (let s := st [(F.GLB_TICK_TICK, 0, 56294995342131)]
     s.now / 2 ^ 64 + 1 = 1 ∧ s.now % 2 ^ 64 ≠ 0 ∧ 1 * 2 ^ 64 < tickAt (s.tick + 1) ∧ (after .tsWrap s).rd F.TMU_EPOCH_EPOCH 0 = 1) ∧
    (∀ k ∈ [true, false], let s := st [(F.TMU_DLL_LOCK, 0, bit (!k))]; s.on F.TMU_DLL_LOCK 0 ≠ k ∧
      (after (.dllLockChange k) s).rd F.TS_STATUS_DLL_UNLOCK 15 = bit (!k)) ∧
    (st [(F.TMU_DLL_LOCK, 0, 1)]).on F.TMU_DLL_LOCK 0 = true := by decide +kernel

/-- Pin 100 with rising edges recorded, its last edge at 5 000 tu, and 16 of its records not yet drained where `full`. -/
def edgeSt (at_ : Nat) : State :=
  { st [(F.TMU_PIN_CFG_RISE, 100, 1), (F.TMU_LAST_TIME, 100, 5000)] with sub := at_, tmu := { pins := [(100, { cfg := 5, last := some 5000 })] } }

/-- Pair engine 3 with window W and these pending edges. -/
def pairSt (w : Nat) (x : PairEng) : State := (st [(F.TMU_PAIR_CFG_EN, 3, 1), (F.TMU_PAIR_W_W, 3, w)]).setPair 3 x

theorem witness_EdgesAndPairs :
    (let s := edgeSt 0
     s.mstate = 2 ∧ max s.now (tickAt s.tick + 8072) = 8072 ∧ (s.tmuPin 100).cfg.testBit 0 = true ∧ s.rd F.TMU_CDT_RES_BUSY 0 = 0 ∧
       (s.tmuPin 100).last = some 5000 ∧ 5000 + 3072 ≤ 8072 ∧
       ((drainTo 8072 ((Table.get? s.tmu.queues 11).getD []) ((Table.get? s.tmu.drained 11).getD 0)).1.filter (fun e => e.1 == 1)).length < 16 ∧
       (after (.tmuEdge 100 true 8072) s).rd F.TMU_LAST_TIME 100 = 8072) ∧
    (let s := edgeSt 0
     max s.now (tickAt s.tick + 8071) = 8071 ∧ 8071 < 5000 + 3072 ∧ (after (.tmuEdge 100 true 8071) s).rd F.TMU_MISSED_COUNT 100 = 1 ∧
       (s.tmuPin 100).cfg.testBit 1 = false) ∧
    (let s := edgeSt 0
     let s := { s.wrs [(F.TMU_CDT_RES_BUSY, 0, 1)] with tmu := { s.tmu with cdtPin := 100 } }
     s.rd F.TMU_CDT_RES_BUSY 0 ≠ 0 ∧ s.tmu.cdtPin = 100) := by decide +kernel

theorem witness_EdgesAndPairs_pairs :
    (∀ c ∈ [true, false],
      let a : TmuEdge := { time := 90, start := c }
      let b : TmuEdge := { time := 50, start := !c }
      let s := pairSt 40 { queue := [a], pStop := if c then some b else none, pStart := if c then none else some b }
      (s.pair 3).queue = a :: [] ∧ a.time + 160 * 1024 < tickAt (s.tick + 1) ∧ (if c then (s.pair 3).pStop else (s.pair 3).pStart) = some b ∧
        a.time ≤ b.time + s.rd F.TMU_PAIR_W_W 3 ∧ (after (.pairEdgeProcess 3) s).rd F.TMU_PAIR_LAST_DELTA 3 = (if c then 2 ^ 40 - 40 else 40) ∧
        (after (.pairEdgeProcess 3) s).rd F.TMU_PAIR_LAST_ORDER 3 = bit c) ∧
    (∀ c ∈ [true, false],
      let a : TmuEdge := { time := 90, start := c }
      let s := pairSt 40 { queue := [a] }
      (s.pair 3).queue = a :: [] ∧ a.time + 160 * 1024 < tickAt (s.tick + 1) ∧ (s.pair 3).pStart = none ∧ (s.pair 3).pStop = none) ∧
    (let a : TmuEdge := { time := 90, start := true }
     let s := pairSt 40 { queue := [a], pStart := some { time := 80, start := true } }
     (s.pair 3).queue = a :: [] ∧ a.start = true ∧ (s.pair 3).pStart = some { time := 80, start := true } ∧ (s.pair 3).pStop = none ∧
       (after (.pairEdgeProcess 3) s).rd F.TMU_UNPAIRED_COUNT 3 = 1) ∧
    (let s := pairSt 40 { pStart := some { time := 80, start := true }, queue := [{ time := 121 }] }
     (s.pair 3).pStart = some { time := 80, start := true } ∧ (s.pair 3).pStop = none ∧ 80 + s.rd F.TMU_PAIR_W_W 3 < tickAt (s.tick + 1) ∧
       (∀ q ∈ (s.pair 3).queue, 80 + s.rd F.TMU_PAIR_W_W 3 < q.time) ∧ ((after (.pairPendingExpire 3) s).pair 3).pStart = none) := by decide +kernel

theorem witness_EdgesAndPairs_enable :
    (∀ d ∈ [143 + 142 * 256 + 2 ^ 16 + 2 ^ 17, 144, 255],
      let s := st [(F.TMU_PIN_CFG_RISE, 143, 1), (F.TMU_PIN_CFG_RISE, 142, 1), (F.TMU_PAIR_LO_LO, 3, 2 ^ 40 - 5), (F.TMU_PAIR_HI_HI, 3, 5)]
      s.serves hd (0x323000 + 0x40 * 3) (.write64 d) ∧ d < 2 ^ 21 ∧ s.calBusy = false ∧ bits d 18 2 ≠ 3 ∧
        (if d < 256 then 143 < bits d 0 8
         else bits d 0 8 ≤ 143 ∧ bits d 8 8 ≤ 143 ∧ s.records (bits d 0 8) (bits d 16 1) = true ∧ s.records (bits d 8 8) (bits d 17 1) = true ∧
           s.records (bits d 0 8) 0 = false ∧ sx 40 (s.rd F.TMU_PAIR_LO_LO 3) ≤ sx 40 (s.rd F.TMU_PAIR_HI_HI 3) ∧
           (after (.pairEnable hd 3 (BitVec.ofNat 64 d)) s).rd F.TMU_PAIR_CFG_EN 3 = 1)) ∧
    (let s := st [(F.TMU_PIN_CFG_RISE, 143, 1)]
     (s.records 143 1 = true ∧ s.records 143 0 = false) ∧ (after (.pairEnable hd 3 (143 + 143 * 256)) s).rd F.GLB_ERR_INFO_REASON 0 = 9) := by
  decide +kernel

/-- The example of chapter 8: coincident edges, then a stop 40 tu before its start: TMU_PAIR_LAST reads 0x000022FF_FFFFFFD8. -/
theorem test_pair_last :
    let s := after (.pairEdgeProcess 3) (pairSt 1000 { queue := [{ time := 90, start := true }], pStop := some { time := 50 } })
    let r := after (.pairEdgeProcess 3) (pairSt 1000 { queue := [{ time := 90, start := true }], pStop := some { time := 87 } })
    s.wordRead (pairAddr 3 + 0x20) = 0x000022FFFFFFFFD8 ∧ r.wordRead (pairAddr 3 + 0x20) = 0x0000210000000000 := by decide +kernel

theorem witness_CountersAndDensityTest :
    (∀ m ∈ [1, 2], ∀ n ∈ [4, 3],
      let s := st [(F.GLB_TICK_TICK, 0, 3), (F.TMU_PIN_CFG_RISE, 143, 1), (F.TMU_FC_TICK_TICK, 2, n)]
      let d := 143 + 256 + 65536 + m * 2 ^ 32
      s.serves hd (0x323400 + 0x20 * 2) (.write64 d) ∧ s.calBusy = false ∧ bits d 9 7 = 0 ∧ bits d 34 30 = 0 ∧ bits d 0 8 ≤ 143 ∧ bits d 16 16 ≠ 0 ∧
        bits d 32 2 = m ∧ (s.tick + 1 ≤ s.rd F.TMU_FC_TICK_TICK 2 ↔ n = 4) ∧ s.records (bits d 0 8) (bits d 8 1) = true ∧
        ((after (.fcModeWrite hd 2 (BitVec.ofNat 64 d)) s).fc 2).cur = (if n = 4 then some { tick := 4 } else none)) := by decide +kernel

theorem witness_CountersAndDensityTest_results :
    (let s := (st [(F.TMU_FC_CFG_MODE, 2, 2)]).setFc 2 { cur := some { tick := 0 } }
     s.serves hd (0x323400 + 0x20 * 2) (.write64 65536) ∧ bits 65536 32 2 = 0 ∧ bits 65536 16 16 ≠ 0 ∧
       ((after (.fcModeWrite hd 2 65536) s).fc 2).cur = none) ∧
    (let g : FcGate := { tick := 0, first := some 100, last := 700, count := 3 }
     let s := (st [(F.GLB_TICK_TICK, 0, 1), (F.TMU_FC_CFG_GATE, 2, 1), (F.TMU_FC_CFG_MODE, 2, 1)]).setFc 2 { ended := some g }
     (s.fc 2).ended = some g ∧ g.first = some 100 ∧ s.fcEnd 2 g + 160 * 1024 < tickAt (s.tick + 1) ∧
       (after (.fcGateEnd 2) s).rd F.TMU_FC_SPAN_SPAN 2 = 600) ∧
    (∀ m ∈ [1, 2],
     let g : FcGate := { tick := 0, first := some 100, last := 700, count := 3 }
     let s := (st [(F.GLB_TICK_TICK, 0, 1), (F.TMU_FC_CFG_GATE, 2, 1), (F.TMU_FC_CFG_MODE, 2, m), (F.TMU_DLL_LOCK, 0, 1)]).setFc 2 { cur := some g }
     (s.fc 2).ended = none ∧ (s.fc 2).cur = some g ∧ g = g.mark s.holdover (!(s.on F.TMU_DLL_LOCK 0)) ∧
       s.fcEnd 2 g + 160 * 1024 < tickAt (s.tick + 1) ∧ ((after (.fcGateEnd 2) s).fc 2).cur.map (·.tick) = (if m = 2 then some 1 else none)) ∧
    (∀ p ∈ [0, 143],
      let s := st []
      s.serves hd 0x320028 (.write64 (p + 256)) ∧ s.calBusy = false ∧ s.rd F.TMU_CDT_RES_BUSY 0 = 0 ∧ s.rd F.TMU_PIN_CFG_RISE p = 0 ∧
        s.rd F.TMU_PIN_CFG_FALL p = 0 ∧ s.tmuUsed p = false) ∧
    (let s := st [(F.TMU_CDT_RES_BUSY, 0, 1)]
     s.serves hd 0x320028 (.write64 (5 + 256)) ∧ s.rd F.TMU_CDT_RES_BUSY 0 ≠ 0 ∧ (List.replicate 1024 (7 : BitVec 32)).length = 1024) := by
  decide +kernel

theorem witness_ConverterAndClamps :
    (∀ m ∈ [1, 2], ∀ a ∈ [0, 1],
      let s := (st [(F.DC_PIN_STAT_CLAMP, 100, a)]).setPmu 100 { mode := m }
      (s.pmu 100).mode = m ∧ s.rd F.DC_PIN_STAT_CLAMP 100 = a ∧ (after (.dcClamp 100) s).rd F.DC_PIN_STAT_CLAMP_SEEN 100 = 1 - a) ∧
    (∀ sup ∈ [0, 1], ∀ raw ∈ [8388607, 8388608], ∀ inv ∈ [2, 3],
      let x : Dsa := { phase := 2, mode := 2, ratio := 160, tf := 0, n := 2, inval := inv, node := 4, suppress := decide (sup = 1) }
      let s := (st [(F.GLB_TICK_TICK, 0, 188), (F.DSA_CTL_SUPPRESS, 11, sup), (F.DSA_STAT_BUSY, 11, 1)]).setDsa 11 x
      let r := BitVec.ofNat 32 raw
      s.dsa 11 = x ∧ x.tail = none ∧ x.phase = 2 ∧ x.scanAt = none ∧ x.tf + 3 * (x.ratio * 128000) + 160 * 1024 < tickAt (s.tick + 1) ∧
        Table.get? s.dc.diags 11 = none ∧ (max (-8388608) (min 8388607 r.toInt) ≠ r.toInt ↔ raw = 8388608) ∧
        ((after (.dsaOutput 11 r) s).dsa 11).phase = (if inv = 2 ∧ raw = 8388607 then 0 else 2) ∧
        (after (.dsaOutput 11 r) s).rd F.DSA_RES_GEN 11 = (if sup = 1 ∧ (inv = 3 ∨ raw = 8388608) then 0 else 1)) := by decide +kernel

theorem witness_ConverterAndClamps_tail :
    ∀ late ∈ [true, false], ∀ sup ∈ [true, false],
      let a : DsaTail := { at_ := 0, node := 4, late := late, settle := 0, suppress := sup }
      let s := (st [(F.GLB_TICK_TICK, 0, 1)]).setDsa 11 { tail := some a }
      (s.dsa 11).tail = some a ∧ a.at_ + 160 * 1024 < tickAt (s.tick + 1) ∧
        (after (.dsaOutput 11 5) s).rd F.DSA_RES_GEN 11 = bit (late || !sup) := by decide +kernel

/-- R221: with 7 invalid outputs SETTLE counts 6, 5, 4, 3, 2, 1, 0, each without VALID, and the eighth is VALID. -/
theorem test_settle_counts_down :
    ∀ n < 8,
      let x : Dsa := { phase := 2, mode := 1, ratio := 160, tf := 0, n := n, inval := 7 }
      let s := after (.dsaOutput 11 5) ((st [(F.GLB_TICK_TICK, 0, 62 * (n + 1) + 62)]).setDsa 11 x)
      bits (s.rd F.DSA_RES_RESULT 11) 24 4 = (if n < 7 then 2 * (6 - n) else 1) := by decide +kernel

theorem witness_ConverterAndClamps_start :
    (∀ m ∈ [0, 1, 2, 3], ∀ b ∈ [0, 1],
      let s := st [(F.DSA_CTL_MODE, 11, m), (F.DSA_STAT_BUSY, 11, b)]
      s.serves hd (0x332040 + 0x100 * 11) (.write64 1) ∧ s.calBusy = false ∧ s.rd F.DSA_CTL_MODE 11 = m ∧ s.rd F.DSA_STAT_BUSY 11 = b ∧
        ((after (.dsaGo hd 11) s).dsa 11).go = (if m = 2 ∧ b = 0 then some 1 else none)) ∧
    (∀ k ∈ [0, 200, 389],
      let x : Dsa := { phase := 1, ratio := 160, t0 := tickAt 1, tc := tickAt 1, ts := 10 * 1280000 }
      let s := { (st [(F.GLB_TICK_TICK, 0, 1 + k)]).setDsa 11 x with sub := if k = 389 then 204799 else 0 }
      let tf := max s.now (tickAt 1 + 40 * 1280000)
      s.dsa 11 = x ∧ x.phase = 1 ∧ tf < tickAt 1 + 100 * 1280000 ∧ (tf < tickAt (s.tick + 1) ↔ k ≠ 0)) ∧
    (let s := (st [(F.GLB_TICK_TICK, 0, 391)]).setDsa 11 { phase := 1, t0 := tickAt 1 }
     (s.dsa 11).phase = 1 ∧ (s.dsa 11).t0 + 100 * 1280000 < tickAt (s.tick + 1) ∧
       (after (.dsaStartTimeout 11) s).rd F.DSA_STAT_START_FAIL 11 = 1) := by decide +kernel

theorem witness_PathDiagnosis :
    (∀ g ∈ [0, 1, 9],
      let s := st [(F.DC_DIAG_CFG_TARGET, 11, g), (F.DC_DIAG_CFG_CODE, 11, 1000)]
      s.serves hd (0x332040 + 0x100 * 11) (.write64 2) ∧ s.calBusy = false ∧ s.rd F.DSA_CTL_MODE 11 = 0 ∧ Table.get? s.dc.diags 11 = none ∧
        (g ≠ 0 → (s.pmu (9 * 11 + (g - 1))).mode = 0 ∧ s.rd F.DC_PIN_CFG_MODE (9 * 11 + (g - 1)) = 0) ∧
        ((Table.get? (after (.dsaDiag hd 11) s).dc.diags 11).map (·.node)) = some (if g = 0 then 9 else g - 1)) ∧
    ((st [(F.DSA_CTL_MODE, 11, 1)]).serves hd (0x332040 + 0x100 * 11) (.write64 2) ∧ (st [(F.DSA_CTL_MODE, 11, 1)]).rd F.DSA_CTL_MODE 11 ≠ 0) ∧
    (∀ m ∈ [78122, 78121, 78128, 78129],
      let d : Diag := { count := 16, sum := 16 * m, begun := true }
      let s := { st [(F.DC_DIAG_CFG_CODE, 11, 1000), (F.DC_DIAG_CFG_TOL, 11, 3)] with dc := { diags := [(11, d)] } }
      Table.get? s.dc.diags 11 = some d ∧ 16 ≤ d.count ∧
        (after (.dsaDiagDone 11) s).rd F.DC_DIAG_RES_PASS 11 = bit (decide (78122 ≤ m ∧ m ≤ 78128)) ∧
        (after (.dsaDiagDone 11) s).rd F.DSA_STAT_PATH_FAULT 11 = bit (!decide (78122 ≤ m ∧ m ≤ 78128))) := by decide +kernel

/-- MOUNTED with leaf 5 as the raster unit, which plays a raster run under this engine state. -/
def rasSt (x : Leaf) (r : RasSt) (l : List (Fld × Nat × Nat)) : State :=
  { (mt ((F.RS_CFG_RASTER, 0, 1) :: l)).setLeaf 5 { x with unit := 5, raster := true } with
    mnt := { img := some { leaves := List.range 16, raster := some (5 :: List.replicate 31 255) } }, ras := r }

theorem witness_RasterEngine :
    (∀ a ∈ [0, 1],
      let s := rasSt {} {} [(F.UNIT_STATUS_STATE, 5, a)]
      s.serves hd 0x340000 (.write64 1) ∧ s.serves hd 0x340008 (.write64 1) ∧ s.rasRunning = decide (a = 1) ∧ s.rasterUnitRuns = decide (a = 1) ∧
        s.commitFault = none ∧ (after (.rsStop hd) s).ras.stop = decide (a = 1) ∧
        (after (.rsCommit hd) s).rd F.RS_STATUS_COMMIT_PENDING 0 = a) ∧
    (let s := rasSt {} {} [(F.RS_STATUS_COMMIT_PENDING, 0, 1)]
     s.serves hd 0x340008 (.write64 1) ∧ s.commitFault = some 4) ∧
    (∀ j ∈ [true, false],
      let s := rasSt {} { sect := 1, judged := j, porch := 5000, line := 7 } [(F.UNIT_STATUS_STATE, 5, 1)]
      s.commitFault = none ∧ s.rasterUnitRuns = true ∧ s.ras.sect = 1 ∧ s.rmode.vf < s.ras.porch ∧
        (after (.rsCommit hd) s).ras.porch = (if j then max s.rmode.vf 8 else 5000)) := by decide +kernel

theorem witness_RasterEngine_porch :
    ∀ a ∈ [0, 1], ∀ d ∈ [0, 2],
      let m := (rasSt {} {} []).rmode
      let s := rasSt { phase := .play } { k := 9, line := m.va - 1, px := m.ht - 1, still := 2 }
        [(F.UNIT_STATUS_STATE, 5, 1), (F.UNIT_VCOUNT_VCOUNT, 5, 9), (F.RS_STATUS_COMMIT_PENDING, 0, a), (F.RS_STATIC_DIV, 0, d), (F.RS_STATIC_N, 0, 3)]
      s.rasterLeaves.find? (fun l => decide ((s.leaf l).phase = .play)) = some 5 ∧ s.rasPlays = true ∧ s.atPorch = true ∧ (s.leaf 5).bdue = false ∧
        (s.leaf 5).nextStart < tickAt (s.tick + 1) ∧ (s.leaf 5).abortNow false = [] ∧ s.rd F.UNIT_VCOUNT_VCOUNT 5 = s.ras.k % 2 ^ 48 ∧
        (after .frontPorchStart s).ras.still = (if a = 1 ∨ d = 0 then 0 else 3) ∧
        (after .frontPorchStart s).rd F.RS_STATUS_STATIC 0 = (if a = 1 ∨ d = 0 then 0 else 1) := by decide +kernel

theorem witness_RasterEngine_te :
    (let s := rasSt { phase := .play } { free := true } [(F.UNIT_STATUS_STATE, 5, 1), (F.RS_CFG_SYNC, 0, 1)]
     s.rasPlays = true ∧ s.rd F.RS_CFG_SYNC 0 ≠ 0 ∧ s.ras.free = true) ∧
    (let s := rasSt { phase := .play } { wait := some 7 } [(F.UNIT_STATUS_STATE, 5, 1), (F.RS_CFG_SYNC, 0, 1), (F.RS_STATUS_WAITING, 0, 1)]
     s.rasPlays = true ∧ s.ras.free = false ∧ s.ras.wait = some 7 ∧ s.ras.edge = none ∧ 7 ≤ tickAt s.tick + 7 ∧
       (after (.teEdge 7) s).ras.edge = some 7 ∧ (after (.teEdge 6) s).ras.edge = none) ∧
    (let w := 2 * ((rasSt {} {} []).rmode.ht * (rasSt {} {} []).rmode.vt * (rasSt {} {} []).rmode.period)
     let s := rasSt { phase := .play } { wait := some 7 } [(F.GLB_TICK_TICK, 0, tickOf (w + 7)), (F.UNIT_STATUS_STATE, 5, 1), (F.RS_CFG_SYNC, 0, 1)]
     s.rasPlays = true ∧ s.ras.wait = some 7 ∧ s.ras.edge = none ∧ s.ras.free = false ∧ 7 + w < tickAt (s.tick + 1) ∧
       (after .teTimeout s).ras.free = true) := by decide +kernel

/-- The raster mode's period in the set RS_CFG names, of both banks. -/
def fit (s : State) : State := s.wrs [(F.TS_PERIOD_PERIOD, tsIdx 0 5 0, s.rmode.period), (F.TS_PERIOD_PERIOD, tsIdx 1 5 0, s.rmode.period)]

theorem witness_RasterEngine_start :
    ∀ n ∈ [4, 3],
      let s := fit (rasSt {} {} [(F.UNIT_START_TICK_START_TICK, 5, n)])
      let s := (s.setLeaf 5 { unit := 5 }).wrs [(F.TS_PIN_A_FMT, pinIdx 0 5 0 0, 2)]
      let s := { s with mnt := { img := some { leaves := List.range 16, raster := some (5 :: 0 :: 0 :: 0 :: 0 :: List.replicate 27 255) } } }
      s.serves hd (unitAddr (.loc 5)) (.write64 1) ∧ s.rasterStarts 5 = true ∧ s.unitExists 5 = true ∧
        (s.startRefused 5 s.rasTiming rRS_TIMING = if n = 4 then none else some 0x13) ∧
        ((after (.start hd (.loc 5)) s).leaf 5).raster = decide (n = 4) := by decide +kernel

theorem witness_RasterEngine_play :
    (let s := rasSt { phase := .play, bdue := true, nextStart := 20480 } {} []
     (s.leaf 5).raster = true ∧ (s.leaf 5).phase = .play ∧ (s.leaf 5).bdue = true ∧ edgeOf (s.leaf 5).nextStart < tickAt (s.tick + 1) ∧
       (s.leaf 5).abortNow (s.atEnd 5) = [] ∧ ((after (.beadBoundary ⟨5, 0⟩) s).leaf 5).beadSeq = 1) ∧
    (∀ f ∈ [true, false], ∀ o ∈ [0, 63],
      let s := rasSt { phase := .play, nextStart := 20480, off := o } { px := 7 } []
      let s := if f then fit s else s
      (s.leaf 5).raster = true ∧ (s.leaf 5).bdue = false ∧ (s.leaf 5).nextStart < tickAt (s.tick + 1) ∧ (s.leaf 5).abortNow (s.atEnd 5) = [] ∧
        s.swapDue 5 = false ∧ s.rasAtEnd 5 = false ∧ s.atPorch = false ∧ (s.period 0 5 0 = s.rmode.period ↔ f = true) ∧
        ((after (.vectorIssue 5) s).leaf 5).bdue = decide (o = 63) ∧
        ((after (.vectorIssue 5) s).leaf 5).aborts.length = bit (!f && decide (o = 0))) ∧
    (let s := rasSt { phase := .play, nextStart := 20480 } { stop := true, k := 0 } []
     let m := s.rmode
     let s := { s with ras := { s.ras with sect := 3, line := m.vb - 1, px := m.ht - 1, k := 9 } }.wrs [(F.UNIT_VCOUNT_VCOUNT, 5, 9)]
     s.rasAtEnd 5 = true ∧ ((after (.vectorIssue 5) s).leaf 5).phase = .ended) := by decide +kernel
/-! ### Mounting and the links (chapters 11 and 12) -/

theorem witness_Mounting :
    (let s := st [(F.MC_STATUS_STATE, 0, 2), (F.MNT_SRC_ADDR_ADDR, 0, 0x4B0000000), (F.MNT_SRC_LEN_LEN, 0, 64)]
     s.serves hd 0x30000 (.write64 1) ∧ s.mountClosed = none ∧ (after (.mount hd) s).rd F.MNT_STATUS_STATE 0 = 1) ∧
    ((st []).serves hd 0x30000 (.write64 1) ∧ (st []).mountClosed = some 2 ∧
      (st [(F.MC_STATUS_STATE, 0, 2), (F.MNT_SRC_ADDR_ADDR, 0, 0x4AFFFFFFF)]).mountClosed = some 3) ∧
    (let s := { st [(F.MNT_STATUS_STATE, 0, 1)] with mnt := { staging := some [1] } }
     s.mnt.staging = some [1] ∧ (match imageCheck [1] 1 none with | .inl f => f == (4, 0, 0) | .inr _ => false) = true ∧ (after (.mountComplete none) s).rd F.MNT_REJECT_CODE 0 = 4) ∧
    (let s := mt []
     s.serves hd 0x30000 (.write64 2) ∧ s.mstate = 3 ∧ s.rd F.MNT_STATUS_STATE 0 = 2 ∧ s.anyBusy = false ∧ (after (.unmount hd) s).mstate = 2) ∧
    (let s := playing {} [(F.UNIT_STATUS_STATE, 5, 1)]
     s.serves hd 0x30000 (.write64 2) ∧ s.anyBusy = true) ∧
    ((st []).mstate ≠ 3 ∧ (mt [(F.MNT_STATUS_STATE, 0, 1)]).rd F.MNT_STATUS_STATE 0 ≠ 2 ∧ (st [(F.MNT_STATUS_STATE, 0, 3)]).rd F.MNT_STATUS_STATE 0 = 3) := by
  decide +kernel

/-- An image of leaf 5 alone: a UNITS and a REF section, with the CRCs of R247. -/
def image5 : List Byte :=
  toBytes 64 0x8B07211A00000000000000040000000753E474C8000000050000000400000001F76540CA0000000011223344556677880000000000000040000200014D4E5449

theorem witness_Mounting_complete :
    ∀ a ∈ [true, false],
      let s := { st [(F.MNT_STATUS_STATE, 0, 1)] with mnt := { staging := some image5, abandon := a } }
      s.mnt.staging = some image5 ∧ (match imageCheck image5 64 none with | .inr _ => true | .inl _ => false) = true ∧ image5.length = 64 ∧
        s.mnt.abandon = a ∧ s.mstate = 2 ∧ s.sub = 0 ∧ (after (.mountComplete none) s).mstate = (if a then 2 else 3) ∧
        (after (.mountComplete none) s).unitExists 5 = !a ∧ (after (.mountComplete none) s).unitExists 6 = false := by decide +kernel

/-- Port 3 in a state. -/
def lkSt (a : Nat) (x : Port) (l : List (Fld × Nat × Nat)) : State := (st ((F.LK_STAT_STATE, 3, a) :: l)).setPort 3 x

theorem witness_LinkBringUp :
    (let s := lkSt 2 {} []
     s.mstate ≠ 1 ∧ s.lkState 3 = 2) ∧
    (∀ sk ∈ [128, 129],
      let s := lkSt 3 {} []
      s.lkState 3 = 3 ∧ s.now ≤ (s.port 3).since + 2000 * 1280000 ∧ ((∃ k < 4, (4).testBit k = true ∧ (s.rd F.LK_CFG_LANE_EN 3).testBit k = true ∧ ([0, 0, sk, 0].getD k 0) ≤ 128) ↔ sk = 128) ∧
        (after (.laneTrainDone 3 4 [0, 0, BitVec.ofNat 8 sk, 0] [] 0) s).lkState 3 = (if sk = 128 then 4 else 3)) ∧
    (∀ k ∈ [true, false],
      let s := lkSt 3 {} [(F.GLB_TICK_TICK, 0, 7813)]
      s.lkState 3 = 3 ∧ (s.port 3).since + 2000 * 1280000 < tickAt (s.tick + 1) ∧
        (after (.trainTimeout 3 k) s).rd F.LK_STAT_FAIL_CODE 3 = (if k then 2 else 1)) ∧
    (let s := lkSt 4 {} [(F.GLB_TICK_TICK, 0, 3907)]
     s.lkState 3 = 4 ∧ (s.port 3).since + 1000 * 1280000 < tickAt (s.tick + 1) ∧ (after (.capsTimeout 3) s).rd F.LK_STAT_FAIL_CODE 3 = 3) ∧
    (∀ r ∈ [0, 1], ∀ v ∈ [1, 2],
      let s := lkSt 4 {} [(F.LK_STAT_LANES_GOOD, 3, 15)]
      s.lkState 3 = 4 ∧ s.now ≤ (s.port 3).since + 1000 * 1280000 ∧ useLanes (s.rd F.LK_STAT_LANES_GOOD 3 &&& 15) ≠ 0 ∧
        (after (.capsReceived 3 (if r = 0 then 0 else 1) 15 4 (if v = 1 then 1 else 2)) s).lkState 3 = (if v = 2 then 1 else if r = 0 then 6 else 5)) ∧
    (∀ k ∈ [true, false], ∀ sk ∈ [128, 129], ∀ n ∈ [0, 19532],
      let s := lkSt 5 { target := 1 } [(F.LK_STAT_LANES_USED, 3, 15), (F.GLB_TICK_TICK, 0, n)]
      s.lkState 3 = 5 ∧ (s.now ≤ (s.port 3).since + 5000 * 1280000 ↔ n = 0) ∧
        (after (.rateStepDone 3 k [0, 0, 0, BitVec.ofNat 8 sk] []) s).rd F.LK_STAT_RATE 3 = bit (k && decide (sk = 128) && decide (n = 0))) := by
  decide +kernel

theorem witness_LinkBringUp_wait :
    (∀ e ∈ [0, 1],
      let s := lkSt 1 {} [(F.GLB_TICK_TICK, 0, 39063), (F.LK_CFG_ENABLE, 3, e)]
      s.lkState 3 = 1 ∧ (s.port 3).since + 10000 * 1280000 < tickAt (s.tick + 1) ∧ (after (.linkWaitExpire 3) s).rd F.LK_STAT_STATE 3 = 2 * e) ∧
    (∀ a ∈ [6, 7], ∀ w ∈ [0, 2],
      let s := lkSt a { unacked := [{}], lastRate := 2, lastWidth := 1 } [(F.LK_STAT_WIDTH, 3, w), (F.LK_PRBS_STAT_LOCK, 3, 5)]
      (∀ d ∈ [1, 2, 4], s.serves hd (0x350100 + 0x100 * 3) (.write64 d)) ∧ s.lkState 3 = a ∧
        (after (.retrain hd 3) s).lkState 3 = (if a = 6 then 1 else 7) ∧ (after (.testEnter hd 3) s).lkState 3 = 7 ∧
        (a = 6 → (after (.testEnter hd 3) s).rd F.LK_STAT_WIDTH 3 = if w = 0 then 1 else 2) ∧
        (after (.testExit hd 3) s).lkState 3 = (if a = 6 then 6 else 1)) := by decide +kernel

theorem witness_LinkTraffic :
    (∀ raw ∈ [0xDBAD00000000000000000000000000000000000000000000000000000000003B, 0x56E6000000000000000000000000000000000000000000000000000000000043, 0xE4F000000000000000000000000000000000000000000000000000000000003C],
      let s := lkSt 6 { rxSeq := 7 } []
      let r := BitVec.ofNat 256 raw
      s.lkActive 3 = true ∧ (s.port 3).change = none ∧ crc16 (toBytes 30 r.toNat) = bits r.toNat 240 16 ∧
        (bits r.toNat 0 3 = 3 ∨ bits r.toNat 0 3 = 4) ∧ (bits r.toNat 3 6 = (s.port 3).rxSeq ↔ raw ≠ 0x56E6000000000000000000000000000000000000000000000000000000000043) ∧
        ((after (.flitReceive 3 { raw := r }) s).port 3).rxSeq = (if raw = 0x56E6000000000000000000000000000000000000000000000000000000000043 then 7 else 8)) ∧
    (∀ raw ∈ [0, 1],
      let s := lkSt 6 {} []
      let r := BitVec.ofNat 256 raw
      crc16 (toBytes 30 r.toNat) ≠ bits r.toNat 240 16 ∧ bits r.toNat 0 3 = raw ∧ (after (.flitReceive 3 { raw := r }) s).rd F.LK_TICK_LOST_COUNT 3 = raw) := by
  decide +kernel

theorem witness_LinkTraffic_replay :
    (∀ n ∈ [3, 4],
      let s := lkSt 6 { unacked := [{ seq := 62 }, { seq := 63, replays := n }] } []
      s.lkActive 3 = true ∧ (s.port 3).change = none ∧ (s.port 3).holds 63 = true ∧ ((∀ f ∈ (s.port 3).unacked, f.seq = 63 → f.replays < 4) ↔ n = 3) ∧
        ((∃ f ∈ (s.port 3).unacked, f.seq = 63 ∧ 4 ≤ f.replays) ↔ n = 4) ∧ (s.port 3).holds 0 = false ∧
        (after (.nakReceived 3 63) s).rd F.LK_STAT_FAIL_CODE 3 = (if n = 3 then 0 else 5)) ∧
    (let s := lkSt 6 {} [(F.GLB_TICK_TICK, 0, 40)]
     s.lkActive 3 = true ∧ (s.port 3).change = none ∧ (s.port 3).lastGood + 10 * 1280000 < tickAt (s.tick + 1) ∧
       (after (.rxSilentTimeout 3) s).rd F.LK_STAT_FAIL_CODE 3 = 6) ∧
    ((lkSt 7 {} []).lkActive 3 = false) := by decide +kernel

theorem witness_LinkTraffic_lanes :
    (∀ g ∈ [3, 1],
      let s := lkSt 6 { peerLanes := 15 } [(F.LK_STAT_LANES_GOOD, 3, g), (F.LK_STAT_LANES_USED, 3, g)]
      s.lkActive 3 = true ∧ (s.port 3).change = none ∧ (s.port 3).widen = true ∧ (s.port 3).laneEn.testBit 1 = true ∧
        ((s.rd F.LK_STAT_LANES_USED 3).testBit 1 = false ↔ g = 1) ∧
        ((after (.laneWiden 3 1) s).port 3).change = (if g = 1 then some (3, false) else none)) ∧
    (∀ g ∈ [15, 4], ∀ q ∈ [15, 4],
      let s := lkSt 6 { peerLanes := q } [(F.LK_STAT_LANES_GOOD, 3, g), (F.LK_STAT_LANES_USED, 3, g)]
      let good := setBit (s.rd F.LK_STAT_LANES_GOOD 3) 2 false % 2 ^ 4 &&& (s.port 3).peerLanes
      s.lkActive 3 = true ∧ (s.rd F.LK_STAT_LANES_USED 3).testBit 2 = true ∧ (2 ≤ popcount 4 (s.rd F.LK_STAT_LANES_USED 3) ↔ g = 15) ∧
        (good ≠ 0 ↔ g = 15 ∧ q = 15) ∧
        ((after (.laneLoss 3 2) s).port 3).change = (if g = 15 ∧ q = 15 then some (3, true) else none)) := by decide +kernel

theorem witness_LinkTraffic_width :
    (∀ w ∈ [true, false],
      let s := lkSt 6 { widen := w } [(F.LK_STAT_LANES_USED, 3, 3), (F.LK_STAT_LANES_GOOD, 3, 3)]
      s.lkActive 3 = true ∧ popcount 4 2 < popcount 4 3 ∧ useLanes (2 &&& s.rd F.LK_STAT_LANES_GOOD 3) = 2 ∧ popcount 4 3 ≤ popcount 4 15 ∧
        (s.port 3).widen = w ∧ useLanes (15 &&& (s.port 3).laneEn) = 15 ∧
        ((after (.widthRequest 3 2) s).port 3).change = some (2, true) ∧
        ((after (.widthRequest 3 15) s).port 3).change = (if w then some (15, false) else none)) := by decide +kernel

theorem witness_LinkTraffic_change :
    (∀ k ∈ [true, false], ∀ n ∈ [3, 4],
      let s := lkSt 6 { change := some (12, k), unacked := [{ replays := n }] } [(F.LK_STAT_RATE, 3, 3)]
      (s.port 3).change = some (12, k) ∧ replaySpent (s.port 3).unacked = decide (n = 4) ∧
        (n = 3 → (after (.lkWidth 3) s).rd F.LK_STAT_LANES_USED 3 = 12 ∧ (after (.lkWidth 3) s).rd F.LK_DOWNSHIFT_COUNT 3 = bit k) ∧
        (n = 4 → (after (.lkWidth 3) s).rd F.LK_STAT_FAIL_CODE 3 = 5)) ∧
    (let s := lkSt 7 {} [(F.LK_PRBS_CTL_CHK, 3, 8)]
     s.lkState 3 = 7 ∧ (s.rd F.LK_PRBS_CTL_CHK 3).testBit 3 = true ∧ (after (.prbsCheckerLock 3 3 5) s).rd F.LK_PRBS_ERR_COUNT 15 = 5) := by
  decide +kernel

/-! ### Clusters and placement (chapters 13 and 14) -/

/-- A HELLO that comes in on port W (3) of its neighbour's port E (1). -/
def hello1 (port : Fin 4) : HelloIn := { serial := 77, port := port, role := 1, anchor := 99, state := 3 }

theorem witness_ClusterAdmission :
    (∀ a ∈ [0, 4, 5],
      let s := st [(F.LK_STAT_STATE, 3, 6), (F.ID_STAT_STATE, 0, a)]
      s.lkActive 3 = true ∧ s.anchor = false ∧ s.rd F.ID_STAT_STATE 0 = a ∧ (hello1 1).port.val = (3 + 2) % 4 ∧ (hello1 1).anchor ≠ 0 ∧
        (hello1 2).port.val ≠ (3 + 2) % 4 ∧ (after (.helloReceived 3 none (hello1 1)) s).rd F.ID_STAT_STATE 0 = 1) ∧
    (let s := st [(F.LK_STAT_STATE, 3, 6), (F.GLB_TICK_TICK, 0, 3907)]
     (Table.get? s.clu.said 3).getD [] ≠ s.helloSays 3 ∧
       (after (.helloResend 3) s).clu.out.map (·.1) = [19] ∧ s.lkActive 3 = true) ∧
    (let s := st [(F.LK_STAT_STATE, 3, 6), (F.GLB_TICK_TICK, 0, 3907)]
     let s := { s with clu := { s.clu with said := [(3, s.helloSays 3)] } }
     s.lkActive 3 = true ∧ (Table.get? s.clu.said 3).getD [] = s.helloSays 3 ∧ Table.get? s.clu.peers 3 = none ∧
       (Table.get? s.clu.helloAt 3).getD (s.port 3).since + 1000 * 1280000 < tickAt (s.tick + 1)) := by decide +kernel

theorem witness_ClusterAdmission_challenge :
    (∀ f ∈ [1, 2],
      let c : Chal := { serial := 77, fails := f }
      let s := anchorSt [(F.GLB_TICK_TICK, 0, 39063)]
      let s := { s with clu := { s.clu with chals := [(2, c)] } }
      s.anchor = true ∧ Table.get? s.clu.chals 2 = some c ∧ (78 : BitVec 48).toNat ≠ c.serial ∧ c.sentAt + 10000 * 1280000 < tickAt (s.tick + 1) ∧
        (after (.challengeResponse 2 (.answer false 77 [] [])) s).rd F.ID_MAP_MSTATE 2 = 5 ∧
        (Table.get? (after (.challengeTimeout 2) s).clu.chals 2).isSome = decide (f = 1)) ∧
    (let s := st [(F.ID_STAT_STATE, 0, 1)]
     s.rd F.ID_STAT_STATE 0 = 1 ∧ s.anchor = false ∧ (after (.challengeResponse 0 (.verdict true 4)) s).rd F.ID_STAT_STATE 0 = 4) ∧
    (let s := st [(F.ID_STAT_STATE, 0, 1), (F.LK_STAT_STATE, 3, 6)]
     s.anchor = false ∧ s.admitted = false ∧ s.lkActive 3 = true ∧
       (after (.challengeResponse 0 (.nonce 3 9 77)) s).clu.out.map (·.1) = [19]) ∧
    (∀ d ∈ [0, 2 ^ 49 - 1], (st []).serves hd (0x60100 + 8 * 15) (.write64 d) ∧ d < 2 ^ 49) := by decide +kernel

/-- The signature of a device is the opaque function's to accept: where it does, the roster decides. -/
theorem witness_ClusterAdmission_answer :
    let c : Chal := { serial := 77 }
    ∀ v ∈ [0, 1], ∀ r ∈ [77, 78],
      let s := anchorSt [(F.ID_ROSTER_VALID, 2, v), (F.ID_ROSTER_SERIAL, 2, r)]
      let s := { s with clu := { s.clu with chals := [(2, c)] } }
      s.anchor = true ∧ Table.get? s.clu.chals 2 = some c ∧ (77 : BitVec 48).toNat = c.serial ∧ s.admittedElsewhere 2 c.serial = false ∧
        (s.on F.ID_ROSTER_VALID 2 = true ∧ s.rd F.ID_ROSTER_SERIAL 2 = c.serial ↔ v = 1 ∧ r = 77) ∧
        ((Table.get? (s.position 2 77).clu.adopt 2) = if v = 1 ∧ r = 77 then some 16 else none) := by decide +kernel

theorem witness_ClusterAdmission_adopt :
    (∀ b ∈ [0, 1],
      let s := playing {} [(F.ID_STAT_STATE, 0, 1), (F.UNIT_STATUS_STATE, 5, b)]
      s.anchor = false ∧ s.rd F.ID_STAT_STATE 0 ≠ 0 ∧ s.rd F.ID_STAT_STATE 0 ≠ 4 ∧ s.anyBusy = decide (b = 1) ∧
        (after (.tickAdoption 1 (some { tick := 5000, anchor := 0, kind := 1, n := 2 })) s).tick = 5000 * (1 - b)) ∧
    (let s := anchorSt [(F.GLB_TICK_TICK, 0, 9)]
     let s := { s with clu := { s.clu with adopt := [(1, 9)] } }
     s.anchor = true ∧ Table.get? s.clu.adopt 1 = some 9 ∧ 9 ≤ s.tick ∧ (after (.tickAdoption 1 none) s).rd F.ID_MAP_MSTATE 1 = 3) := by decide +kernel

/-- What modules 0 and 1 declare of cluster group 7; the anchor's own declaration stands in its image. -/
def decl1 : DeclIn := { module := 1, parent := none, modmask := 3, tag := 0, locals := 1 }

theorem witness_ClusterAdmission_group :
    (let s := (cluPlay {} []).wrs [(F.ID_CG_FORMED, 7, 0)]
     let i : CgIn := { decls := [decl1], depth := 255, hops := [⟨0, 1, 255, 65535⟩, ⟨1, 3, 200, 0⟩] }
     let g : CluGroup := { cunit := 7, parent := none, modmask := 3, depth := 255 }
     let ds := (i.decls.filter (fun d => d.module.val != s.module && s.mapAdmitted d.module.val)) ++ s.ownDecl 7
     s.admitted = true ∧ s.anchor = true ∧ declBad ds = none ∧ ds.head? = some decl1 ∧ i.depth.toNat ≤ 255 ∧
       (∀ m < 16, (3 : Nat).testBit m = true → ∃ e ∈ ds, e.module.val = m) ∧
       2 ≤ (ds.map (fun d => d.locals.val)).foldl (· + ·) 0 + i.children.val ∧ s.on F.ID_CG_FORMED 7 = false ∧
       boundOk (s.flagBound (s.clu.groups.filter (fun x => x.cunit != 7) ++ [g]) i.hops 0 3) 358 = true) ∧
    (let s := (cluPlay {} []).wrs [(F.ID_CG_FORMED, 7, 0)]
     let i : CgIn := { decls := [decl1], depth := 1, hops := [⟨0, 1, 255, 65535⟩, ⟨1, 3, 200, 0⟩] }
     let g : CluGroup := { cunit := 7, parent := none, modmask := 3, depth := 1 }
     boundOk (s.flagBound [g] i.hops 0 3) 358 = true ∧ (after (.clusterGroupForm 7 i none) s).on F.ID_CG_FORMED 7 = true ∧
       boundOk (({ s with clu := { s.clu with routes := [] } }.wrs [(F.ID_MAP_LINKS, 0, 0)]).flagBound [g] i.hops 0 3) 358 = false) ∧
    (let s := member []
     s.admitted = true ∧ s.anchor = false ∧
       (after (.clusterGroupForm 7 {} (some ⟨true, true, 300, 310, none, 3⟩)) s).rd F.ID_CG_BOUND0 7 = 300) := by decide +kernel

theorem witness_AnchorAndLease :
    (let s := st [(F.LK_STAT_STATE, 4, 6)]
     s.candidateU s.mnt.priCand = true ∧ s.anchor = false ∧ s.admitted = false ∧ (after .leaseGrant s).rd F.ID_LEASE_EXPIRY 0 = 768) ∧
    (let s := member [(F.LK_STAT_STATE, 4, 6), (F.ID_STAT_TICK_HOLD, 0, 1)]
     let s := { s with clu := { s.clu with lostAt := some 0 } }
     s.candidateU s.mnt.priCand = true ∧ s.anchor = false ∧ s.admitted = true ∧ s.clu.lostAt.isSome = true ∧ (after .leaseGrant s).anchor = true) ∧
    (let s := anchorSt [(F.GLB_TICK_TICK, 0, 800)]
     let s := { s with clu := { s.clu with renewAt := 512, asked := true, expiry := 800 } }
     s.anchor = true ∧ s.admitted = true ∧ s.clu.renewAt ≤ s.tick ∧ s.clu.asked = true ∧ s.clu.lostAt = none ∧ s.clu.expiry ≤ s.tick ∧
       (after (.renewalConfirm none) s).clu.expiry = 1024 ∧ (after .leaseExpiry s).anchor = false) ∧
    (let s := member [(F.GLB_TICK_TICK, 0, 256)]
     let s := { s with clu := { s.clu with beats := [(0, 249)], expiry := 5 } }
     s.admitted = true ∧ s.anchor = false ∧ s.clu.lostAt = none ∧ Table.get? s.clu.beats (s.rd F.ID_STAT_ANCHOR 0) = some 249 ∧
       tickAt (249 + 6) + 288 * 1024 < tickAt (s.tick + 1) ∧ s.tick % 256 = 0 ∧ s.lkActive 3 = true ∧ s.phasePort = some (3, 1) ∧ s.rd F.PL_STATUS_NEXT 0 ≠ 1 ∧
       (after .idAnchorLost s).rd F.ID_STAT_TICK_HOLD 0 = 1 ∧ (after (.phaseMarkerReceive 3 5 0 true) s).rd F.ID_PHASE_ERR 0 = 5 ∧
       (after .phaseMarkerSend s).clu.marker.ports = 8) ∧
    (let s := member [(F.LK_STAT_STATE, 4, 6)]
     s.admitted = true ∧ s.module = 1 ∧ s.candidateU s.mnt.secCand = true ∧ s.anchor = false ∧
       (after (.secondaryRegistration 1) s).rd F.ID_STAT_ROLE 0 = 2 ∧ (after (.secondaryRegistration 0) s).clu.secondary = some 0) ∧
    (let s := member [(F.GLB_TICK_TICK, 0, 9)]
     let s := { s with clu := { s.clu with newRoutes := some (9, [(0, 0)]) } }
     s.clu.newRoutes = some (9, [(0, 0)]) ∧ 9 ≤ s.tick ∧ (after .routeChangeApply s).clu.routes = [(0, 0)]) := by decide +kernel

theorem witness_AnchorAndLease_joining :
    (let s := member [(F.GLB_TICK_TICK, 0, 256), (F.PL_STATUS_NEXT, 0, 1)]
     let s := { s with clu := { s.clu with beats := [(0, 249)] }, pl := { next := some {} } }
     s.admitted = true ∧ s.anchor = false ∧ s.clu.lostAt = none ∧ Table.get? s.clu.beats (s.rd F.ID_STAT_ANCHOR 0) = some 249 ∧
       s.pl.next.isSome = true ∧ (after .idAnchorLost s).rd F.PL_STATUS_REJECT 0 = 0x0D) ∧
    (let s := st [(F.ID_STAT_STATE, 0, 1), (F.LK_STAT_STATE, 3, 6)]
     let s := { s with clu := { s.clu with peers := [(3, { serial := 77, anchor := 99 })] } }
     s.anchor = false ∧ s.clu.lostAt = none ∧ s.lkActive 3 = true ∧ s.phasePort = some (3, 0) ∧
       (after (.phaseMarkerReceive 3 5 0 true) s).rd F.ID_PHASE_PARENT 0 = 3) := by decide +kernel

theorem witness_AnchorAndLease_lost :
    (let s := anchorSt [(F.GLB_TICK_TICK, 0, 256), (F.ID_CG_FORMED, 7, 1)]
     let s := { s with clu := { s.clu with beats := [(1, 249)], groups := [{ cunit := 7, modmask := 3 }] } }
     s.anchor = true ∧ s.mapAdmitted 1 = true ∧ s.module ≠ 1 ∧ Table.get? s.clu.beats 1 = some 249 ∧
       tickAt (249 + 6) + 288 * 1024 < tickAt (s.tick + 1) ∧ (after (.idDeparted 1) s).rd F.ID_CG_FORMED 7 = 0) ∧
    (let s := member [(F.GLB_TICK_TICK, 0, 1024), (F.ID_STAT_ROLE, 0, 2), (F.ID_LEASE_SEC_REG, 0, 1)]
     let s := { s with clu := { s.clu with lostAt := some 0, expiry := 700 } }
     s.clu.lostAt = some 0 ∧ s.rd F.ID_STAT_ROLE 0 = 2 ∧ 0 ≤ s.clu.expiry ∧ s.clu.claimAt = none ∧ s.clu.expiry ≤ s.tick ∧ s.admitted = true ∧
       0 + 1024 ≤ s.tick ∧ (after .leaseClaim s).clu.claimAt = some 1024 ∧ (after .tickHoldoverLimit s).rd F.ID_STAT_STATE 0 = 5) ∧
    (let s := member [(F.GLB_TICK_TICK, 0, 9)]
     let s := { s with clu := { s.clu with lostAt := some 0, claimAt := some 8, partAt := some 9 } }
     s.admitted = true ∧ s.anchor = false ∧ s.module = 1 ∧ s.clu.claimAt.isSome = true ∧ s.clu.partAt = some 9 ∧ 9 ≤ s.tick ∧
       (after (.idAnchorTakeover 1) s).anchor = true ∧ (after (.idAnchorTakeover 0) s).clu.lostAt = none ∧
       (after (.claimRefused none) s).clu.partAt = some 12 ∧ (after .idPartitioned s).rd F.ID_STAT_STATE 0 = 5) := by decide +kernel

theorem witness_PlacementPlanner :
    (∀ c ∈ [true, false],
      let s := mt [(F.PL_SRC_ADDR_ADDR, 0, 0x4B0000000), (F.PL_SRC_LEN_LEN, 0, 32)]
      s.serves hd 0x40000 (.write64 (1 + 2 * bit c)) ∧ s.mstate = 3 ∧ s.rd F.ID_STAT_STATE 0 ≠ 5 ∧ s.rd F.PL_STATUS_NEXT 0 ≠ 1 ∧
        s.inCapture (s.rd F.PL_SRC_ADDR_ADDR 0) (s.rd F.PL_SRC_LEN_LEN 0) = true ∧ s.rd F.PL_SRC_LEN_LEN 0 % 16 = 0) := by decide +kernel

theorem witness_PlacementPlanner_planned :
    (let p : Plan := { raw := [2 ^ 127], runset := [{}] }
     let s := mt [(F.PL_STATUS_NEXT, 0, 1)]
     let s := { s with pl := { next := some p } }
     s.pl.next = some p ∧ s.rd F.PL_STATUS_NEXT 0 = 1 ∧ (s.planFault p {}).map (·.1) = some 3 ∧ (after (.plPlanned {}) s).rd F.PL_STATUS_REJECT 0 = 3) ∧
    (let s := mt [(F.PL_STATUS_NEXT, 0, 1)]
     let s := { s with pl := { next := some {} } }
     s.planFault {} {} = none ∧ (after (.plPlanned {}) s).rd F.PL_STATUS_NEXT 0 = 2) := by decide +kernel

theorem witness_PlacementPlanner_commit :
    (let s := mt [(F.PL_STATUS_NEXT, 0, 2)]
     let s := { s with pl := { next := some { units := [5] } } }
     s.serves hd 0x40000 (.write64 2) ∧ s.pl.next = some { units := [5] } ∧ s.rd F.PL_STATUS_NEXT 0 = 2 ∧ s.unitBusy 5 = false ∧ s.startPending 5 = false ∧
       s.serves hd 0x40000 (.write64 4) ∧ (after (.planCommit hd) s).pl.commitAt = some 0) ∧
    ((mt []).serves hd 0x40000 (.write64 2) ∧ (mt []).rd F.PL_STATUS_NEXT 0 ≠ 2) ∧
    (let s := playing {} [(F.PL_STATUS_CUR, 0, 1)]
     s.rd F.PL_STATUS_CUR 0 = 1 ∧ (∀ l < 16, s.loading l = false) ∧ (after .plLoaded s).rd F.PL_STATUS_CUR 0 = 2) ∧
    (let s := playing {} []
     let s := { s with pl := { cur := { strands := [{ strand := 1, replica := some 2 }] } } }
     (∃ x ∈ s.pl.cur.strands, x.strand = 1 ∧ x.replica.isSome = true) ∧ dRes (s.desc 1) ≠ 0 ∧
       dRepValid ((after (.replicaCopyDone 1) s).desc 1) = true) := by decide +kernel

/-! ### Pattern memory, calibration, power, journal (chapters 15 to 18) -/

theorem witness_PatternMemory :
    (let s := st [(F.DM_SCRUB_EN, 0, 1)]
     s.on F.DM_SCRUB_EN 0 = true ∧ s.dram.soft = [] ∧ s.dram.ue = [] ∧ s.scFaulty (s.scOf (3 * 64)) = false ∧ (after (.scrubPass [3] []) s).rd F.DM_CE_LAST_ADDR (s.scOf 192) = 192 ∧
       (after (.scrubPass [] [3]) s).dram.ue = [3]) ∧
    (let s := st [(F.DM_SCRUB_EN, 0, 0)]
     s.on F.DM_SCRUB_EN 0 = false ∧ (after (.scrubPass [3] []) s).dram.soft = [3]) ∧
    (∀ n ∈ [1, 2],
      let s := { st [] with dram := { alertRun := [(2, n)] } }
      s.scFaulty 2 = false ∧ (after (.caAlert 2 true) s).scFaulty 2 = decide (n = 2) ∧ (after (.caAlert 2 true) s).dram.stalled = [2]) ∧
    (let s := { st [] with dram := { stalled := [2] } }
     (after (.alertNDeassert 2) s).dram.stalled = []) ∧
    (∀ m ∈ [2, 3],
      let s := st [(F.ENV_STATUS_MSTATE, 0, m)]
      s.serves hd 0x360000 (.write64 (1 + 16 * 5)) ∧ s.mstate = m ∧ (after (.dmRetrain hd 5) s).dram.retrain = (if m = 2 then some 5 else none)) ∧
    (let s := { st [(F.DM_SC_STAT_FAULTY, 0, 1), (F.DM_SC_STAT_FAULTY, 1, 1)] with dram := { retrain := some 5, mem := [(64, 9)] } }
     s.dram.retrain = some 5 ∧ (after (.dmRetrainDone 1) s).scFaulty 0 = false ∧ (after (.dmRetrainDone 1) s).scFaulty 2 = true ∧
       (after (.dmRetrainDone 1) s).scFaulty 1 = true) ∧
    (∀ v ∈ [82, 83, 85, 86],
      let s := st [(F.DM_SC_STAT_HOT, 1, 1)]
      (after (.dramTempRead [0, 0, 0, 0, BitVec.ofNat 8 v, 0, 0, 0, 0, 0, 0, 0]) s).rd F.DM_SC_STAT_HOT 1 = bit (decide (82 < v)) ∧
        (after (.dramTempRead [0, 0, 0, BitVec.ofNat 8 v, 0, 0, 0, 0, 0, 0, 0, 0]) (st [])).rd F.DM_SC_STAT_HOT 1 = bit (decide (85 < v))) ∧
    (∀ a ∈ [0, 1],
      let s := { st [(F.GLB_TICK_TICK, 0, 15), (F.DM_SC_STAT_HOT, 3, a)] with dram := { refreshes := [(3, 0)] } }
      s.on F.DM_STATUS_SR 0 = false ∧ Table.get? s.dram.refreshes 3 = some 0 ∧
        0 + (if s.on F.DM_SC_STAT_HOT 3 then 2496000 else 4992000) < tickAt (s.tick + 1)) ∧
    (let s := { st [(F.DM_SR_IDLE_US, 0, 1), (F.GLB_TICK_TICK, 0, 4)] with dram := {} }
     s.mstate = 2 ∧ s.on F.DM_STATUS_SR 0 = false ∧ (∀ n < 8, (s.acqCh n).fifo = []) ∧
       s.dram.lastAccess + s.rd F.DM_SR_IDLE_US 0 * 1280000 < tickAt (s.tick + 1) ∧ (after .selfRefreshEntry s).rd F.DM_STATUS_SR 0 = 1) := by
  decide +kernel

theorem witness_PatternMemory_write :
    (∀ a ∈ [0x100000000, 0x4B00000F0],
      let s := st []
      let d : List Byte := List.replicate 16 7
      s.serves hd a (.writeb d) ∧ dramWin ≤ a ∧ a + d.length ≤ dramWin + dramSize ∧ d.length = 16 ∧ crosses a d.length = false ∧
        s.dramRefused (a - dramWin) d.length = none ∧ (after (.hostDramWrite hd (BitVec.ofNat 40 a) d) s).dram.byte (a - dramWin + 15) = 7) ∧
    (let s := st []
     let a := dramWin + dramSize - 1
     s.serves hd a (.writeb [7]) ∧ a + 1 ≤ dramWin + dramSize ∧ s.dramRefused (a - dramWin) 1 = some rDM_PROTECTED) ∧
    (let s := st [(F.DM_SC_STAT_FAULTY, 0, 1), (F.DM_SC_STAT_FAULTY, 1, 1), (F.DM_SC_STAT_FAULTY, 2, 1), (F.DM_SC_STAT_FAULTY, 3, 1)]
     s.serves hd dramWin (.writeb [7]) ∧ s.dramRefused 0 1 = some rDM_FAULTY) := by decide +kernel

/-- A loadboard with an ID, the reference and the DLL good. -/
def calSt (l : List (Fld × Nat × Nat)) : State := st ([(F.CAL_LBID_ID, 0, 7), (F.TMU_DLL_LOCK, 0, 1)] ++ l)

/-- And every pin's partner declared, as a FULL procedure needs. -/
def calMap : State := { State.reset with regs := (List.range 144).map (fun p => (cellNo F.CAL_PARTNER_PARTNER p, p ^^^ 1)) }.wrs
    [(F.ENV_STATUS_MSTATE, 0, 2), (F.CAL_LBID_ID, 0, 7), (F.TMU_DLL_LOCK, 0, 1)]

theorem witness_CalibrationProcedures :
    (calMap.calCheck 0 = 0 ∧ calMap.serves hd 0x370000 (.write64 1)) := by decide +kernel

theorem witness_CalibrationProcedures_refused :
    (let s := calSt []
     s.serves hd 0x370000 (.write64 1) ∧ s.calCheck 0 = 4 ∧ s.calCheck 1 ≠ 0 ∧ s.serves hd 0x370000 (.write64 0x101) ∧ s.calBusy = false ∧
       s.cal.startAt = none ∧ s.serves hd 0x370000 (.write64 2) ∧ s.serves hd 0x370000 (.write64 (4 + 31 * 65536)) ∧
       (after (.calStartFull hd) s).rd F.CAL_STATUS_REJECT 0 = 4 ∧ (after (.calDelete hd 31) s).cal.deletes = [(1, 31)]) := by decide +kernel

theorem witness_CalibrationProcedures_running :
    (let s := calSt [(F.CAL_LKT_INFO_VALID, 3, 1), (F.CAL_LKT_LBID_ID, 3, 7), (F.CAL_CFG_AUTO, 0, 1), (F.CAL_CFG_IDLE_S, 0, 1), (F.GLB_TICK_TICK, 0, 3906250)]
     let s := { s with cal := { autoSince := some 0 } }
     s.serves hd 0x370000 (.write64 0x101) ∧ s.calCheck 1 = 0 ∧ s.cal.autoSince = some 0 ∧ s.on F.CAL_CFG_AUTO 0 = true ∧ s.cal.tried = false ∧
       0 + s.rd F.CAL_CFG_IDLE_S 0 * 1280000000000 ≤ s.now ∧ (after .calAutoStart s).cal.auto = true) ∧
    (let s := calSt [(F.CAL_STATUS_STATE, 0, 1)]
     s.calBusy = true ∧ s.serves hd 0x370000 (.write64 2) ∧ s.serves hd 0x370000 (.write64 (4 + 31 * 65536)) ∧
       (after (.calCancel hd) s).rd F.CAL_RESULT_OUTCOME 0 = 4 ∧
       (after (.calComplete { opens := [5001] }) s).rd F.CAL_RESULT_REASON 0 = 0x10 ∧
       (after (.calComplete { ratio := 50001 }) s).rd F.CAL_RESULT_REASON 0 = 5) ∧
    ((st []).serves hd 0x370000 (.write64 8) ∧ (st []).anyBusy = false) := by decide +kernel

/-- A procedure that measures every trim 0, with no locket in force. -/
def calRun (w : Table (Int × Int)) : State := { calSt [(F.CAL_STATUS_STATE, 0, 1)] with cal := { windows := w } }

theorem witness_CalibrationProcedures_stages :
    (∀ k ∈ [5000, 5001],
      let s := calRun []
      let c : CalIn := { upTo := 0, opens := [0, BitVec.ofNat 24 k] }
      s.rd F.CAL_STATUS_STATE 0 = 1 ∧ (s.calPre c = if k = 5000 then none else some (0x10, 1, 5001)) ∧
        (after (.calComplete c) s).rd F.CAL_STATUS_STATE 0 = (if k = 5000 then 2 else 0)) ∧
    (∀ a ∈ [1, 2], ∀ r ∈ [50000, 50001],
      let s := { calSt [(F.CAL_STATUS_STATE, 0, a)] with cal := {} }
      let c : CalIn := { upTo := 1, ratio := BitVec.ofNat 32 r, refLost := true }
      (s.rd F.CAL_STATUS_STATE 0 = 1 ∧ s.calPre c = none ∧ c.upTo.val ≠ 0) ∨ s.rd F.CAL_STATUS_STATE 0 = 2) ∧
    (∀ f ∈ [true, false],
      let s := { calSt [(F.CAL_STATUS_STATE, 0, 3)] with cal := { staged := some ([], []) } }
      let c : CalIn := { flashBad := f }
      s.rd F.CAL_STATUS_STATE 0 = 3 ∧ s.cal.staged = some ([], []) ∧ s.sub = 0 ∧ c.flashBad = f ∧
        (after (.calComplete c) s).rd F.CAL_RESULT_OUTCOME 0 = (if f then 4 else 1)) := by decide +kernel

/-- R352: a trim that lies in no window; the statement's check over the trims meets it first. -/
theorem witness_CalibrationProcedures_rejected :
    let s := calRun [(0, (1, 2))]
    s.calBusy = true ∧ s.calPre {} = none ∧ s.replaces 0 = none ∧ s.windowBad (s.newTrims {} []) 0 = true := by decide +kernel

/-- Trims of 0 lie in the range of every KIND; without a locket in force and without a spread limit no other check can fail. -/
theorem zero_trims_pass (s : State) (ts v : List Int) (hf : s.inForce = []) (hw : s.cal.windows = []) (hs : s.cal.spread = [])
    (hv : ∀ i, v.getD i 0 = 0) : s.trimFault none ts v = none := by
  have h0 : ∀ k, (trimRange k).1 ≤ 0 ∧ 0 ≤ (trimRange k).2 := by intro k; unfold trimRange; split_ifs <;> simp
  have hk : ∀ i, s.windowBad v i = false := fun i => by
    obtain ⟨a, b⟩ := h0 (trimOf i).1
    unfold State.windowBad
    rw [hw, hv]
    generalize hg : trimRange (trimOf i).1 = r at a b
    rw [show (Table.get? ([] : Table (Int × Int)) i).getD r = r from rfl]
    obtain ⟨lo, hi⟩ := r
    simp only at a b
    show (decide (0 < lo) || decide (hi < 0)) = false
    rw [decide_eq_false (not_lt.mpr a), decide_eq_false (not_lt.mpr b)]
    rfl
  have hst : ∀ i, s.stepBad none ts v i = false := fun i => by simp [State.stepBad, State.prevTrim, State.leafSpan, State.lktBest, hf]
  have hsp : ∀ i, s.spreadBad v i = false := fun i => by simp [State.spreadBad, hs, Table.get?]
  have hn : ∀ (l : List Nat) (f : Nat → Bool), (∀ i, f i = false) → l.find? f = none := fun l f h =>
    List.find?_eq_none.mpr (fun i _ => by rw [h i]; decide)
  unfold State.trimFault
  generalize List.range trimCount = ids
  simp only [hn ids _ hk, hn ids _ hst, hn ids _ hsp, Option.map_none]

theorem no_measurement_is_zero (s : State) (c : CalIn) (ts : List Int) (hc : c.trims = []) (hp : s.cal.proc = 0) (i : Nat) :
    (s.newTrims c ts).getD i 0 = 0 := by
  by_cases h : i < trimCount + 1 <;> simp [State.newTrims, hc, hp, List.getD, h]

theorem witness_CalibrationProcedures_accepted :
    ∀ c : CalIn, c.trims = [] → c.temps = [] →
    let s := calRun []
    let ts := (List.range 16).map (fun l => (c.temps.getD l 0).toInt)
    s.calBusy = true ∧ s.sub = 0 ∧ s.rd F.CAL_STATUS_STATE 0 = 1 ∧ s.trimFault (s.replaces (meanTemp ts)) ts (s.newTrims c ts) = none := by
  intro c hc ht
  have hf : (calRun []).inForce = [] := by decide +kernel
  have hr : ∀ m, (calRun []).replaces m = none := fun m => by rw [State.replaces, hf]; rfl
  refine ⟨by decide +kernel, by decide +kernel, by decide +kernel, ?_⟩
  rw [hr]
  exact zero_trims_pass _ _ _ hf rfl rfl (no_measurement_is_zero _ _ _ hc rfl)

/-- What follows the checks that pass: a leaf that moved, a missing edge, the writing left for later, and the locket written. -/
theorem witness_CalibrationProcedures_checks :
    (∀ c ∈ [({ moves := [200, 201] } : CalIn), { moves := [200], noEdge := some 7 }, { upTo := 1 }, {}],
      c.trims = [] ∧ c.temps = [] ∧ c.upTo.val ≠ 0 ∧ c.ratio.toInt.natAbs ≤ 50000 ∧ c.refLost = false ∧ c.flashBad = false) ∧
    (calRun []).calPre {} = none ∧
    (200 < (([200, 201] : List (BitVec 16)).getD 1 0).toNat ∧ ∀ k < 1, (([200, 201] : List (BitVec 16)).getD k 0).toNat ≤ 200) ∧
    (∀ k < 16, (([200] : List (BitVec 16)).getD k 0).toNat ≤ 200) := by decide +kernel

theorem witness_PowerSafeAndFault :
    (∀ k ∈ [true, false],
      let s := { st [] with env := { off := true, locked := k, uv := k } }
      s.env.off = true ∧ (s.env.locked = false ∨ k = true) ∧ (after (.powerUp k) s).mstate = 1 ∧ (after (.powerUp k) s).on F.ENV_BOOT_LAST_UV 0 = k) ∧
    ((st []).env.off = false ∧ (after .powerDown (st [])).env.off = true ∧ (after .inputProtection (st [])).env.off = true) ∧
    (∀ v ∈ [12500, 12501],
      let s := { st [] with env := { samples := [(9, [v, v, v, v, v])] } }
      s.good 9 = some v ∧ (after .thermalTrip s).env.off = decide (12500 < v)) ∧
    (∀ n ∈ [0, 14],
      let s := st [(F.ENV_STATUS_MSTATE, 0, 1)]
      s.env.off = false ∧ s.mstate = 1 ∧ (after (.bootComplete 9 true (if n = 0 then 0 else 14) none) s).mstate = (if n = 0 then 5 else 2)) ∧
    ((st []).mstate ≠ 5 ∧ (after (.faultEntry 5 7 false false) (st [])).rd F.ENV_FAULT_CAUSE 0 = 5) := by decide +kernel

theorem witness_PowerSafeAndFault_safe :
    (∀ v ∈ [1199, 1200],
      let s := { st [] with env := { samples := [(3, [1300, 1300, v, v, 0])] } }
      let l := ((BitVec.ofNat 32 v).toInt :: (Table.get? s.env.samples 3).getD []).take 5
      s.env.off = false ∧ s.mstate = 2 ∧ s.env.safeAt = none ∧ l.length = 5 ∧ 0 ≤ median5 l ∧ (median5 l < 1200 ↔ v = 1199) ∧
        (after (.sensorSample 3 (BitVec.ofNat 32 v) false) s).env.safeAt = (if v = 1199 then some 1 else none)) ∧
    ((st []).rd F.ENV_PFE_FAULT 0 = 0 ∧ (after (.pfeFault 3 2) (st [])).rd F.ENV_PFE_CAUSE 0 = 2) ∧
    (let s := st [(F.ENV_CFG_DEW_TMO_S, 0, 1), (F.GLB_TICK_TICK, 0, 3906250), (F.ENV_STATUS_DEW_STALE, 0, 0)]
     s.on F.ENV_STATUS_DEW_STALE 0 = false ∧ s.env.dewAt + s.rd F.ENV_CFG_DEW_TMO_S 0 * 1280000000000 < tickAt (s.tick + 1) ∧
       (after .dewStaleTimeout s).rd F.ENV_STATUS_DEW_STALE 0 = 1) ∧
    (∀ m ∈ [2, 3],
      let s := { playing { phase := .play } [(F.ENV_STATUS_MSTATE, 0, m), (F.GLB_TICK_TICK, 0, 9)] with env := { safeAt := some 9, causes := 256 } }
      s.env.safeAt = some 9 ∧ 9 ≤ s.tick ∧ s.mstate = m ∧ (after .safeEntry s).rd F.ENV_STATUS_RETURN 0 = m ∧
        ((after .safeEntry s).leaf 5).aborts.map (·.cause) = [0x0E]) ∧
    (let s := { playing {} [(F.ENV_CFG_SAFE_HOLD_US, 0, 1), (F.GLB_TICK_TICK, 0, 3)] with env := { parkWait := [5] } }
     s.env.parkWait.contains 5 = true ∧ (s.leaf 5).phase = .off ∧ (s.leaf 5).nextStart + s.rd F.ENV_CFG_SAFE_HOLD_US 0 * 1280000 < tickAt (s.tick + 1) ∧
       (after (.safePark 5) s).env.parkWait = []) := by decide +kernel

theorem witness_PowerSafeAndFault_requests :
    (∀ m ∈ [2, 4],
      let s := st [(F.ENV_STATUS_MSTATE, 0, m), (F.ENV_STATUS_CLEAR_OK, 0, 1)]
      s.serves hd 0x50000 (.write64 1) ∧ s.serves hd 0x50000 (.write64 2) ∧ s.serves hd 0x50000 (.write64 4) ∧ s.serves hdS 0x50000 (.write64 4) ∧
        s.mstate = m ∧ s.env.safeAt = none ∧ s.on F.ENV_STATUS_CLEAR_OK 0 = true ∧ hd.src.val ≠ 0x81 ∧ hdS.src.val = 0x81 ∧
        (after (.safeEnter hd) s).env.safeAt = (if m = 2 then some 1 else none) ∧
        (after (.safeExit hd) s).env.exitAt = (if m = 2 then none else some 1) ∧ (after (.moduleReset hdS) s).mstate = 1 ∧
        (after (.moduleReset hd) s).mstate = m) := by decide +kernel

theorem witness_PowerSafeAndFault_exit :
    let s := st [(F.ENV_STATUS_MSTATE, 0, 4), (F.ENV_STATUS_CLEAR_OK, 0, 1)]
    s.env.causeAt ≠ some (edgeUp s.now) ∧
      (let s := { s with env := { s.env with causeAt := some 0 } }
       s.serves hd 0x50000 (.write64 2) ∧ s.env.causeAt = some (edgeUp s.now) ∧ (after (.safeExit hd) s).env.exitAt = none) := by decide +kernel

theorem witness_PowerSafeAndFault_clear :
    (let s := { st [(F.ENV_STATUS_MSTATE, 0, 4), (F.ENV_CFG_CLEAR_S, 0, 1), (F.ENV_CFG_AUTO_EXIT, 0, 1), (F.GLB_TICK_TICK, 0, 3906250)] with
       env := { clearSince := some 0 } }
     s.env.clearSince = some 0 ∧ s.mstate = 4 ∧ s.on F.ENV_STATUS_CLEAR_OK 0 = false ∧
       0 + s.rd F.ENV_CFG_CLEAR_S 0 * 1280000000000 < tickAt (s.tick + 1) ∧ s.on F.ENV_CFG_AUTO_EXIT 0 = true ∧ s.env.causes.testBit 8 = false ∧
       (after .clearOkReached s).env.exitAt = some 3906251) := by decide +kernel

theorem witness_JournalInputsAndFirmware :
    (let r : JRec := { seq := 9, typ := 7 }
     let s := { st [] with jn := { queue := [r] } }
     s.jn.queue = r :: [] ∧ s.ringStalled 9 = false ∧ s.jn.lost = 0 ∧ s.healthy = 4 ∧ (after .journalDrain s).rd F.JN_WR_COUNT 0 = 1) ∧
    (∀ n ∈ [3, 4],
      let s := { st [(F.JN_EXP_CFG_SLOT_KIB, 0, 64)] with jn := { exports := List.replicate n {} } }
      s.serves hd 0x380000 (.write64 1) ∧ s.rd F.JN_EXP_CFG_SLOT_KIB 0 ≠ 0 ∧ s.rd F.JN_EXP_FROM_TICK 0 ≤ s.rd F.JN_EXP_TO_TICK 0 ∧
        s.jn.exports.length = n ∧ (after (.jnExport hd) s).jn.exports.length = 4 ∧ (after (.jnExport hd) s).rd F.JN_EXP_DROPPED_COUNT 0 = n - 3) ∧
    ((st []).serves hd 0x380000 (.write64 1) ∧ (st []).rd F.JN_EXP_CFG_SLOT_KIB 0 = 0) ∧
    (let s := { st [(F.JN_EXP_CFG_SLOT_KIB, 0, 64), (F.GLB_TICK_TICK, 0, 9)] with jn := { exports := [{ from_ := 3, to_ := 8 }], queue := [{ tick := 9 }] } }
     s.jn.exports = { from_ := 3, to_ := 8 } :: [] ∧ 8 < s.tick ∧ (∀ r ∈ s.jn.queue, 8 < r.tick) ∧ s.rd F.JN_EXP_CFG_SLOT_KIB 0 ≠ 0) ∧
    ((st []).env.off = false ∧ (st []).mstate ≠ 1 ∧ (st []).jn.queue.length < 2048 ∧
      (after (.triginEdge 3 false 9) { st [] with trig := { level := 15 } }).trig.level = 7) := by decide +kernel

theorem witness_JournalInputsAndFirmware_firmware :
    (∀ m ∈ [1, 2, 3, 4, 5],
      let s := st [(F.ENV_STATUS_MSTATE, 0, m), (F.ENV_FW_STAT_STATE, 0, 1)]
      s.serves hdS 0x50070 (.write64 1) ∧ s.serves hdS 0x50070 (.write64 2) ∧ s.serves hdS 0x50080 (.write64 9) ∧ s.mstate = m ∧
        s.rd F.ENV_FW_STAT_STATE 0 = 1 ∧ (after (.fwDataWrite hdS 9) s).env.fw.length = (if m = 1 ∨ m = 3 then 0 else 8) ∧
        (after (.fwCommit hdS) s).rd F.ENV_FW_STAT_STATE 0 = (if m = 1 ∨ m = 3 then 1 else 2)) ∧
    (let s := st [(F.ENV_FW_STAT_STATE, 0, 2)]
     s.rd F.ENV_FW_STAT_STATE 0 = 2 ∧ (after (.fwVerifyDone 0) s).rd F.ENV_FW_STAT_STATE 0 = 3 ∧ (after (.fwVerifyDone 3) s).rd F.ENV_FW_STAT_REJECT 0 = 3) := by
  decide +kernel


end Sys2Proof.Tests
end

section
/-! PROOFS. What every step keeps: the queue but for its front, the place inside the tick inside it (R1, R19), and the canonical forms
of the register cells (R6), the memories (R5, R153, R326) and the strand table (R62).

`σ.Keeps s` relates the state σ that a command starts from to a state s on its way. Each operation of the model has one lemma
`State.Keeps.<operation> : σ.Keeps s → σ.Keeps (s.<operation> …)`, in the order of the model's own text, so that a proof about a
chain of operations is the chain of their lemmas: `h.wrs.setLeaf.raiseInt`. `exec_keeps` puts them together, command by command. -/

namespace Sys2Proof.Machine

theorem tickTu_pos : 0 < tickTu := by decide

/-- What no operation of a command may break on its way from σ to s. -/
structure State.Keeps (σ s : State) : Prop where
  pending : s.pending = σ.pending
  subOk : σ.subOk → s.subOk
  regsOk : σ.regsOk → s.regsOk
  memOk : σ.memOk → s.memOk
  strOk : σ.strOk → s.strOk

section
variable {σ s t : State}

/-! ### Rules for the parts of a state -/

theorem State.Keeps.rfl : s.Keeps s := ⟨Eq.refl _, id, id, id, id⟩

/-- Everything that no invariant speaks of may change. The update is written out so that a caller's record update matches it as it
stands. -/
theorem State.Keeps.parts {host : HostSt} {evt : EvtSt} {jn : JnSt} {snap : SnapSt} {leaves : Table Leaf} {caches : Table Cache}
    {engines : Table Engine} {units : Table UnitSt} {pulses : List Pulse} {mc : McSt} {fl : FlSt} {mnt : MntSt} {pl : PlSt}
    {trig : TrigSt} {acq : AcqSt} {tmu : TmuSt} {dc : DcSt} {ras : RasSt} {lk : LkSt} {clu : CluSt} {cal : CalSt} {env : EnvSt}
    {shown : Table Ctx} {vis : List (Nat × Nat × Ctx)} {hot : HotSt} {lvl : LvlSt} {free : Nat} (h : σ.Keeps s) :
    σ.Keeps { s with
      host := host, evt := evt, jn := jn, snap := snap, leaves := leaves, caches := caches, engines := engines, units := units,
      pulses := pulses, mc := mc, fl := fl, mnt := mnt, pl := pl, trig := trig, acq := acq, tmu := tmu, dc := dc, ras := ras,
      lk := lk, clu := clu, cal := cal, env := env, shown := shown, vis := vis, hot := hot, lvl := lvl, free := free } :=
  let ⟨hp, hsub, hregs, hmem, hstr⟩ := h
  ⟨hp, hsub, hregs, hmem, hstr⟩

/-- The rules for the parts that an invariant speaks of: the new part must keep its own form. -/
theorem State.Keeps.dramMem {mem : Table Byte} {epoch lastAccess : Nat} {ue soft stalled hotEp implEp : List Nat}
    {ueTick alertRun bzTick refreshes : Table Nat} {ueTimes : Table (List Nat)} {retrain : Option Nat} (h : σ.Keeps s)
    (hm : Memory.wf s.dram.mem = true → Memory.wf mem = true) :
    σ.Keeps { s with dram := ⟨mem, epoch, ue, soft, ueTick, ueTimes, stalled, alertRun, bzTick, hotEp, implEp, retrain,
      lastAccess, refreshes⟩ } :=
  let ⟨hp, hsub, hregs, hmem, hstr⟩ := h
  ⟨hp, hsub, hregs, fun h0 => ⟨hm (hmem h0).1, (hmem h0).2⟩, hstr⟩

theorem State.Keeps.dramParts {epoch lastAccess : Nat} {ue soft stalled hotEp implEp : List Nat}
    {ueTick alertRun bzTick refreshes : Table Nat} {ueTimes : Table (List Nat)} {retrain : Option Nat} (h : σ.Keeps s) :
    σ.Keeps { s with dram := ⟨s.dram.mem, epoch, ue, soft, ueTick, ueTimes, stalled, alertRun, bzTick, hotEp, implEp, retrain,
      lastAccess, refreshes⟩ } :=
  h.dramMem id

theorem State.Keeps.sramMem {mem : Table Byte} (h : σ.Keeps s) (hm : Memory.wf s.sram.mem = true → Memory.wf mem = true) :
    σ.Keeps { s with sram := { s.sram with mem := mem } } :=
  let ⟨hp, hsub, hregs, hmem, hstr⟩ := h
  ⟨hp, hsub, hregs, fun h0 => ⟨(hmem h0).1, hm (hmem h0).2⟩, hstr⟩

theorem State.Keeps.strands {table : Table Nat} {staged : Table (List (Nat × Byte))} (h : σ.Keeps s)
    (ht : Table.wf s.strands.table = true → Table.wf table = true) : σ.Keeps { s with strands := ⟨table, staged⟩ } :=
  let ⟨hp, hsub, hregs, hmem, hstr⟩ := h
  ⟨hp, hsub, hregs, hmem, fun h0 => ht (hstr h0)⟩

theorem State.Keeps.staged {staged : Table (List (Nat × Byte))} (h : σ.Keeps s) : σ.Keeps { s with strands := ⟨s.strands.table, staged⟩ } :=
  h.strands id

theorem State.Keeps.regs {r : RegFile} (h : σ.Keeps s) (hr : Table.wf s.regs = true → Table.wf r = true) : σ.Keeps { s with regs := r } :=
  let ⟨hp, hsub, hregs, hmem, hstr⟩ := h
  ⟨hp, hsub, fun h0 => hr (hregs h0), hmem, hstr⟩

theorem State.Keeps.sub {n : Nat} (h : σ.Keeps s) (hn : s.subOk → n < tickTu) : σ.Keeps { s with sub := n } :=
  let ⟨hp, hsub, hregs, hmem, hstr⟩ := h
  ⟨hp, fun h0 => hn (hsub h0), hregs, hmem, hstr⟩

theorem State.Keeps.ite {c : Prop} [Decidable c] {a b : State} (ha : σ.Keeps a) (hb : σ.Keeps b) :
    σ.Keeps (if c then a else b) := by split <;> assumption

theorem State.Keeps.ite_fst {α : Type} {c : Prop} [Decidable c] {a b : State × α} (ha : σ.Keeps a.1) (hb : σ.Keeps b.1) :
    σ.Keeps (if c then a else b).1 := by split <;> assumption

theorem State.Keeps.foldl {α : Type} {l : List α} {g : State → α → State} (h : σ.Keeps s)
    (hg : ∀ t a, σ.Keeps t → σ.Keeps (g t a)) : σ.Keeps (l.foldl g s) := by
  induction l generalizing s with
  | nil => exact h
  | cons a l ih => exact ih (hg s a h)

/-- For a result taken apart by `let (t, a) := p`. -/
theorem State.Keeps.of_eq {α : Type} {p : State × α} {a : α} (h : σ.Keeps p.1) (e : p = (t, a)) : σ.Keeps t := by
  subst e; exact h

theorem State.Keeps.wr {f : Fld} {i v : Nat} (h : σ.Keeps s) : σ.Keeps (s.wr f i v) := h.regs (RegFile.wf_put _ f i v)

theorem State.Keeps.wrs {l : List (Fld × Nat × Nat)} (h : σ.Keeps s) : σ.Keeps (s.wrs l) := by
  induction l generalizing s with
  | nil => exact h
  | cons e t ih => exact ih h.wr

/-! ### The shared operations -/

theorem State.Keeps.raiseCore {code index data dataHi : Nat} (h : σ.Keeps s) : σ.Keeps (s.raiseCore code index data dataHi).1 :=
  .ite_fst (.ite h.parts.wr.wr h.parts.wr) h

theorem State.Keeps.mark {f : Fld} {i v : Nat} (h : σ.Keeps s) : σ.Keeps (s.mark f i v) := h.parts

theorem State.Keeps.flagBits {f : Fld} {i m : Nat} (h : σ.Keeps s) : σ.Keeps (s.flagBits f i m) := h.wr.mark

theorem State.Keeps.flag {f : Fld} {i : Nat} (h : σ.Keeps s) : σ.Keeps (s.flag f i) := h.flagBits

theorem State.Keeps.unflag {f : Fld} {i m : Nat} (h : σ.Keeps s) : σ.Keeps (s.unflag f i m) := h.wr

theorem State.Keeps.uncount {f : Fld} {i : Nat} (h : σ.Keeps s) : σ.Keeps (s.uncount f i) := h.wr

theorem State.Keeps.count {f : Fld} {i n : Nat} (h : σ.Keeps s) : σ.Keeps (s.count f i n).1 := h.wr.mark

theorem State.Keeps.raise {code index data dataHi : Nat} (h : σ.Keeps s) : σ.Keeps (s.raise code index data dataHi) := by
  unfold State.raise
  split
  rename_i _ s2 _ e
  have h2 := h.raiseCore.of_eq e
  split
  · split
    rename_i _ s2' _ e
    have h2' := h2.count.of_eq e
    exact .ite h2'.flag.raiseCore h2'
  · exact h2

theorem State.Keeps.bump {f : Fld} {i n : Nat} {sat : Fld} {si row off : Nat} (h : σ.Keeps s) :
    σ.Keeps (s.bump f i n sat si row off) := by
  unfold State.bump
  split
  rename_i _ s2 _ e
  have h2 := h.count.of_eq e
  exact .ite h2.flag.raise h2

theorem State.Keeps.journal {typ leaf : Nat} {rep : Bool} {body : Nat} (h : σ.Keeps s) : σ.Keeps (s.journal typ leaf rep body) := by
  unfold State.journal
  split
  · exact h.parts
  · extract_lets s1 _ s2 s3
    have h1 : σ.Keeps s1 := .ite h.flag h
    have h2 : σ.Keeps s2 := h1.parts
    have h3 : σ.Keeps s3 := h2.bump
    exact .ite h3.raise h3

theorem State.Keeps.journalInput {kind index : Nat} {value : Bool} {leaf t : Nat} (h : σ.Keeps s) :
    σ.Keeps (s.journalInput kind index value leaf t) :=
  h.journal

theorem State.Keeps.journalTime {kind value : Nat} (h : σ.Keeps s) : σ.Keeps (s.journalTime kind value) := h.journal

theorem State.Keeps.journalPlat {kind index code value : Nat} (h : σ.Keeps s) : σ.Keeps (s.journalPlat kind index code value) :=
  h.journal

theorem State.Keeps.fillReject {addr src reason detail : Nat} (h : σ.Keeps s) : σ.Keeps (s.fillReject addr src reason detail) := by
  unfold State.fillReject
  extract_lets s0
  have h0 : σ.Keeps s0 := h.wrs.flag
  exact h0.raise

theorem State.Keeps.moreReject {addr src reason detail : Nat} (h : σ.Keeps s) : σ.Keeps (s.moreReject addr src reason detail) := by
  unfold State.moreReject
  extract_lets s1 _
  have h1 : σ.Keeps s1 := h.flag
  exact h1.parts

theorem State.Keeps.recordReject {addr src reason detail : Nat} (h : σ.Keeps s) : σ.Keeps (s.recordReject addr src reason detail) :=
  (Keeps.ite h.moreReject h.fillReject).bump

theorem State.Keeps.respond {hdr : Hdr} {a : Ans} (h : σ.Keeps s) : σ.Keeps (s.respond hdr a) := h.parts

theorem State.Keeps.reply {hdr : Hdr} {a : Ans} (h : σ.Keeps s) : σ.Keeps (s.reply hdr a) := h.parts

theorem State.Keeps.settleAns {hdr : Hdr} {addr : Nat} {a : Ans} (h : σ.Keeps s) : σ.Keeps (s.settleAns hdr addr a) := by
  unfold State.settleAns
  split
  · exact h.recordReject
  · exact h

theorem State.Keeps.execute {hdr : Hdr} {addr : Nat} {f : State → State × Ans} (h : σ.Keeps s) (hf : ∀ t, σ.Keeps t → σ.Keeps (f t).1) :
    σ.Keeps (s.execute hdr addr f) := by
  unfold State.execute
  split
  rename_i _ s1 _ e
  have h1 := (hf _ h).of_eq e
  exact h1.settleAns.parts.respond

theorem State.Keeps.setPort {p : Nat} {x : Port} (h : σ.Keeps s) : σ.Keeps (s.setPort p x) := h.parts

theorem State.Keeps.lkSend {p typ payload : Nat} (h : σ.Keeps s) : σ.Keeps (s.lkSend p typ payload) := h.setPort

theorem State.Keeps.tell {dst : Nat} {m : CluMsg} (h : σ.Keeps s) : σ.Keeps (s.tell dst m) := h.parts

theorem State.Keeps.tellAll {m : CluMsg} (h : σ.Keeps s) : σ.Keeps (s.tellAll m) := .ite (h.foldl fun _ _ h => h.tell) h

theorem State.Keeps.passOn {hdr : Hdr} {addr : Nat} {q : Req} {p : Nat} (h : σ.Keeps s) : σ.Keeps (s.passOn hdr addr q p) :=
  h.parts.foldl fun _ _ h => h.lkSend

theorem State.Keeps.cluSpread {hdr : Hdr} {addr : Nat} {q : Req} (h : σ.Keeps s) : σ.Keeps (s.cluSpread hdr addr q) := by
  unfold State.cluSpread
  split
  · exact h
  · refine h.foldl fun t d h => ?_
    split
    · exact h.foldl fun _ _ h => h.lkSend
    · exact h

theorem State.Keeps.executeClu {hdr : Hdr} {addr : Nat} {q : Req} {f : State → State × Ans} (h : σ.Keeps s)
    (hf : ∀ t, σ.Keeps t → σ.Keeps (f t).1) : σ.Keeps (s.executeClu hdr addr q f) := by
  unfold State.executeClu
  extract_lets c
  split
  · refine h.execute fun t h => ?_
    split
    next s1 a e1 =>
    have h1 := (hf t h).of_eq e1
    split
    · exact h1.cluSpread
    · exact h1
  · exact .ite (h.execute fun _ h => (hf _ h.wr).wr) (h.execute hf)

theorem State.Keeps.request {hdr : Hdr} {addr : Nat} {q : Req} {f : State → State × Ans} (h : σ.Keeps s)
    (hf : ∀ t, σ.Keeps t → σ.Keeps (f t).1) :
    σ.Keeps (s.request hdr addr q f) := by
  unfold State.request
  split
  · exact h
  · split
    · exact h.parts
    · split
      · exact h.execute (fun _ h => h)
      · split
        · exact h.reply
        · split
          · exact .ite (h.executeClu (fun _ h => hf _ h)) (h.execute (fun _ h => hf _ h))
          · split
            · exact .ite h.passOn h.reply
            · exact h.reply

theorem State.Keeps.parkPins {ls : List Nat} (h : σ.Keeps s) : σ.Keeps (s.parkPins ls) := h.foldl fun _ _ h => h.parts

theorem State.Keeps.latchTrims {l : Nat} (h : σ.Keeps s) : σ.Keeps (s.latchTrims l) := h.parts

theorem State.Keeps.calCancel {reason : Nat} (h : σ.Keeps s) : σ.Keeps (s.calCancel reason) := by
  unfold State.calCancel
  split
  · extract_lets _ s1
    have h1 : σ.Keeps s1 := h.parts.wrs
    exact h1.parkPins
  · exact h

theorem State.Keeps.lktRefresh (h : σ.Keeps s) : σ.Keeps s.lktRefresh := h.wrs

theorem State.Keeps.readLbid {e : Option Nat} (h : σ.Keeps s) : σ.Keeps (s.readLbid e) := h.parts.wr.lktRefresh

theorem State.Keeps.setLeaf {l : Nat} {x : Leaf} (h : σ.Keeps s) : σ.Keeps (s.setLeaf l x) := h.parts

theorem State.Keeps.setCache {l : Nat} {x : Cache} (h : σ.Keeps s) : σ.Keeps (s.setCache l x) := h.parts

theorem State.Keeps.setEng {l : Nat} {x : Engine} (h : σ.Keeps s) : σ.Keeps (s.setEng l x) := h.parts

theorem State.Keeps.setUnit {u : Nat} {x : UnitSt} (h : σ.Keeps s) : σ.Keeps (s.setUnit u x) := h.parts

theorem State.Keeps.addPart {c m tick : Nat} {w : List Nat} (h : σ.Keeps s) : σ.Keeps (s.addPart c m tick w) := h.parts

theorem State.Keeps.setDesc {id d : Nat} (h : σ.Keeps s) : σ.Keeps (s.setDesc id d) := by
  refine h.strands fun ht => ?_
  split
  · exact Table.wf_erase _ id ht
  · exact Table.wf_set _ id d ht

theorem State.Keeps.fresh (h : σ.Keeps s) : σ.Keeps s.fresh.1 := h.parts

theorem State.Keeps.snapCopy (h : σ.Keeps s) : σ.Keeps s.snapCopy := h.parts

theorem State.Keeps.reveal {l : Nat} {c : Ctx} (h : σ.Keeps s) : σ.Keeps (s.reveal l c) := h.parts.wrs

theorem State.Keeps.showDue {t : Nat} (h : σ.Keeps s) : σ.Keeps (s.showDue t) := .ite h (h.parts.foldl fun _ _ h => h.reveal)

theorem State.Keeps.subTo {n : Nat} (h : σ.Keeps s) (hn : s.subOk → n < tickTu) : σ.Keeps (s.subTo n) := by
  unfold State.subTo
  exact (Keeps.ite (h.snapCopy.sub hn) (h.sub hn)).showDue

theorem State.Keeps.goto {t : Nat} (h : σ.Keeps s) : σ.Keeps (s.goto t) := by
  unfold State.goto
  split
  next hd =>
    refine h.subTo fun hs => Nat.max_lt.2 ⟨hs, ?_⟩
    have hd : t < (s.tick + 1) * 327680 := of_decide_eq_true hd
    show t - s.tick * 327680 < 327680
    omega
  next => exact h

/-! ### What feeds the acquisition channels -/

theorem State.Keeps.setAcq {n : Nat} {x : AcqCh} (h : σ.Keeps s) : σ.Keeps (s.setAcq n x) := h.parts

theorem State.Keeps.usePort {n : Nat} (h : σ.Keeps s) : σ.Keeps (s.usePort n) := h.parts

theorem State.Keeps.pushItem {n : Nat} {i : AcqItem} (h : σ.Keeps s) : σ.Keeps (s.pushItem n i) := h.setAcq

theorem State.Keeps.feedPin {l vindex start : Nat} (h : σ.Keeps s) : σ.Keeps (s.feedPin l vindex start) :=
  h.foldl fun _ _ h => h.pushItem

theorem State.Keeps.feedFail {l start word fails : Nat} (h : σ.Keeps s) : σ.Keeps (s.feedFail l start word fails) :=
  h.foldl fun _ _ h => h.pushItem

theorem State.Keeps.feedDsa {l inst result : Nat} {val : Option Int} (h : σ.Keeps s) : σ.Keeps (s.feedDsa l inst result val) :=
  h.foldl fun _ _ h => h.pushItem

theorem State.Keeps.feedTmu {l slot inst word : Nat} {edge : Bool} (h : σ.Keeps s) : σ.Keeps (s.feedTmu l slot inst word edge) :=
  .ite h (h.foldl fun _ _ h => h.pushItem)

theorem State.Keeps.feedHoldStart {l start : Nat} (h : σ.Keeps s) : σ.Keeps (s.feedHoldStart l start) := h.foldl fun _ _ h => h.pushItem

theorem State.Keeps.feedHold {l start len : Nat} (h : σ.Keeps s) : σ.Keeps (s.feedHold l start len) := h.foldl fun _ _ h => h.pushItem

theorem State.Keeps.occurs {src t : Nat} {ok : Nat → Bool} (h : σ.Keeps s) : σ.Keeps (s.occurs src t ok) :=
  h.foldl fun _ _ h => h.setAcq

theorem State.Keeps.occursEvent {l code t : Nat} (h : σ.Keeps s) : σ.Keeps (s.occursEvent l code t) := h.occurs

theorem State.Keeps.occursFail {l slot t : Nat} (h : σ.Keeps s) : σ.Keeps (s.occursFail l slot t) := h.occurs

theorem State.Keeps.occursThr {l t : Nat} (h : σ.Keeps s) : σ.Keeps (s.occursThr l t) := h.occurs

theorem State.Keeps.occursWin {l slot t : Nat} (h : σ.Keeps s) : σ.Keeps (s.occursWin l slot t) := h.occurs

theorem State.Keeps.occursTrigin {j t : Nat} (h : σ.Keeps s) : σ.Keeps (s.occursTrigin j t) := h.occurs

theorem State.Keeps.occursStrand {strand t : Nat} (h : σ.Keeps s) : σ.Keeps (s.occursStrand strand t) := h.occurs

theorem State.Keeps.occursXtrig {module chan t : Nat} (h : σ.Keeps s) : σ.Keeps (s.occursXtrig module chan t) := h.occurs

theorem State.Keeps.occursStart {u t : Nat} (h : σ.Keeps s) : σ.Keeps (s.occursStart u t) := .ite h.occurs h

theorem State.Keeps.opEvent {l qid code : Nat} (h : σ.Keeps s) : σ.Keeps (s.opEvent l qid code) := by
  unfold State.opEvent
  split
  · exact h.occursEvent
  · split
    · exact .ite h.occursEvent h.parts
    · exact h.parts

theorem State.Keeps.flushEvents {l qid t : Nat} (h : σ.Keeps s) : σ.Keeps (s.flushEvents l qid t) :=
  h.parts.foldl fun _ _ h => h.occursEvent

/-! ### Compare results and the fail log -/

theorem State.Keeps.countFailVec {l t : Nat} (h : σ.Keeps s) : σ.Keeps (s.countFailVec l t) := by
  unfold State.countFailVec
  extract_lets s1 x n x1 mode
  have h1 : σ.Keeps s1 := h.bump
  exact .ite (.ite h1.setLeaf h1.setLeaf) h1.setLeaf

theorem State.Keeps.firstFail {l : Nat} {v : VRec} (h : σ.Keeps s) : σ.Keeps (s.firstFail l v) := .ite h h.wrs

theorem State.Keeps.formRecord {l : Nat} {v : VRec} (h : σ.Keeps s) : σ.Keeps (s.formRecord l v) := by
  unfold State.formRecord
  split
  · extract_lets s' _ s1 _
    have h' : σ.Keeps s' := h.feedFail
    have h1 : σ.Keeps s1 := h'.bump
    exact .ite h'.parts h1.setLeaf.wr
  · exact h

theorem State.Keeps.finishVec {l : Nat} {v : VRec} (h : σ.Keeps s) : σ.Keeps (s.finishVec l v) :=
  .ite h (.ite h.setLeaf.formRecord (.ite h.setLeaf h.setLeaf))

theorem State.Keeps.formCmp {l : Nat} {v : VRec} {c : Cmp} (h : σ.Keeps s) : σ.Keeps (s.formCmp l v c) := by
  unfold State.formCmp
  split
  extract_lets v1 x put s1 x1 s2 s3 s4
  have hput : ∀ {t a1}, σ.Keeps t → σ.Keeps (put t a1) := fun h => h.setLeaf
  have h1 : σ.Keeps s1 := hput h
  have h2 : σ.Keeps s2 := h1.setLeaf
  have h3 : σ.Keeps s3 := h2.bump
  have h4 : σ.Keeps s4 := (Keeps.ite h3.countFailVec h3).occursFail
  exact .ite ((hput h).finishVec) h4.firstFail.finishVec

theorem State.Keeps.passCmp {l : Nat} {v : VRec} {c : Cmp} (h : σ.Keeps s) : σ.Keeps (s.passCmp l v c) := h.setLeaf.finishVec

theorem State.Keeps.compareResult {l slot : Nat} (h : σ.Keeps s) : σ.Keeps (compareResult l slot s) := by
  unfold Machine.compareResult
  split
  · exact h
  · exact .ite (.ite h.goto.passCmp (.ite h.goto.formCmp h)) h

theorem State.Keeps.flMark (h : σ.Keeps s) : σ.Keeps s.flMark := .ite h.parts.raise h.parts

theorem State.Keeps.failLogWrite (h : σ.Keeps s) : σ.Keeps (failLogWrite s) := by
  unfold Machine.failLogWrite
  split
  · exact h
  · split
    · extract_lets l _ s0 x lim lose s1 _ first w' n _ s1' s2 _
      have h0 : σ.Keeps s0 := h.parts
      have hlose : ∀ {t}, σ.Keeps t → σ.Keeps (lose t) := fun h => h.setLeaf.wr
      have h1 : σ.Keeps s1 := (hlose h0).bump
      have h1' : σ.Keeps s1' := (h0.sramMem (memWrite_wf _ _ _)).usePort
      have h2 : σ.Keeps s2 := h1'.wr
      exact .ite (hlose h0).bump (.ite (.ite h1 h1.parts.raise) h2.setLeaf.flMark)
    · exact h

theorem State.Keeps.flReset (h : σ.Keeps s) : σ.Keeps s.flReset := by
  unfold State.flReset
  extract_lets u _
  have hu : σ.Keeps u := h.wr.wr
  exact hu.parts

theorem State.Keeps.wrFlCtl {data : Nat} (h : σ.Keeps s) : σ.Keeps (wrFlCtl s data).1 := .ite_fst (.ite_fst h h.flReset) h

theorem State.Keeps.wrFlCfg {data : Nat} (h : σ.Keeps s) : σ.Keeps (wrFlCfg s data).1 :=
  .ite_fst h (.ite_fst h (.ite_fst h (.ite_fst h (.ite h.wrs.flReset h.wrs))))

theorem State.Keeps.wrFlRd {data : Nat} (h : σ.Keeps s) : σ.Keeps (wrFlRd s data).1 := by
  unfold Machine.wrFlRd
  split
  · exact h
  · split
    · exact h
    · extract_lets s1 _ s2
      have h1 : σ.Keeps s1 := h.wr
      have h2 : σ.Keeps s2 := .ite h1.parts h1
      exact h2.flMark

/-! ### The DRAM as a memory -/

theorem State.Keeps.dramWrite {a : Nat} {l : List Byte} (h : σ.Keeps s) : σ.Keeps (s.dramWrite a l) := h.dramMem (memWrite_wf _ a l)

theorem State.Keeps.undefine {lo hi : Nat} (h : σ.Keeps s) : σ.Keeps (s.undefine lo hi) := h.dramMem (Memory.wf_eraseRange _ lo hi)

theorem State.Keeps.wake (h : σ.Keeps s) : σ.Keeps s.wake := h.dramParts.wr

/-! ### Failover to replicas -/

theorem State.Keeps.pathLatch (h : σ.Keeps s) : σ.Keeps s.pathLatch := by
  unfold State.pathLatch
  split
  · split
    exact h.parts
  · exact h

theorem State.Keeps.askFar {l : Nat} {f : Fetch} (h : σ.Keeps s) : σ.Keeps (s.askFar l f) := .ite h.tell h

theorem State.Keeps.askFetch {l : Nat} {f : Fetch} (h : σ.Keeps s) : σ.Keeps (s.askFetch l f) := h.setCache.askFar

theorem State.Keeps.reask {was : State} (h : σ.Keeps s) : σ.Keeps (s.reask was) := h.foldl fun _ _ h => h.foldl fun _ _ h => h.askFar

theorem State.Keeps.reaskMoved {was : State} (h : σ.Keeps s) : σ.Keeps (s.reaskMoved was) :=
  h.foldl fun _ _ h => h.foldl fun _ _ h => h.askFar

theorem State.Keeps.promote {moved : List Nat} {index code : Nat} (h : σ.Keeps s) : σ.Keeps (s.promote moved index code) := by
  unfold State.promote
  extract_lets s1 s2
  have h1 : σ.Keeps s1 := h.bump.flag
  have h2 : σ.Keeps s2 := h1.raise
  exact h2.foldl fun _ _ h => h.journalPlat

theorem State.Keeps.failover {moved : List Nat} {fault : Nat × Option Nat} {index code : Nat} (h : σ.Keeps s) :
    σ.Keeps (s.failover moved fault index code) :=
  .ite h.parts h.parts.promote

theorem State.Keeps.markFaulty {k cause : Nat} (h : σ.Keeps s) : σ.Keeps (s.markFaulty k cause) := by
  unfold State.markFaulty
  split
  · exact h
  · extract_lets s1 s2 moved
    have h1 : σ.Keeps s1 := h.wrs
    have h2 : σ.Keeps s2 := h1.raise.journalPlat.tellAll
    exact .ite h2 h2.wr.failover.reask

theorem State.Keeps.farFault {m k : Nat} (h : σ.Keeps s) : σ.Keeps (s.farFault m k) := by
  unfold State.farFault
  split
  · exact h
  · extract_lets hit moved lost _ s1 s2
    have h1 : σ.Keeps s1 := h.parts
    have h2 : σ.Keeps s2 := h1.foldl fun _ _ h => h.setDesc
    exact (Keeps.ite h2 h2.failover).reask

theorem State.Keeps.farMended {m k : Nat} (h : σ.Keeps s) : σ.Keeps (s.farMended m k) := h.parts

theorem State.Keeps.recordCe {burst : Nat} (h : σ.Keeps s) : σ.Keeps (s.recordCe burst) := h.bump.wr

theorem State.Keeps.recordUe {a : Nat} (h : σ.Keeps s) : σ.Keeps (s.recordUe a) := by
  unfold State.recordUe
  extract_lets k addr s1 s2 _ s3 times _ s4
  have h1 : σ.Keeps s1 := h.bump.wr
  have h2 : σ.Keeps s2 := h1.journalPlat
  have h3 : σ.Keeps s3 := .ite h2 h2.dramParts.raise
  have h4 : σ.Keeps s4 := h3.dramParts
  exact .ite h4.markFaulty h4

theorem State.Keeps.readerUe {a n : Nat} (h : σ.Keeps s) : σ.Keeps (s.readerUe a n) := by
  unfold State.readerUe
  extract_lets s1
  have h1 : σ.Keeps s1 := h.foldl fun _ _ h => h.recordCe
  split
  · exact .ite h1 h1.recordUe
  · exact h1

/-! ### The acquisition engine -/

theorem State.Keeps.acqBump {f : Fld} {n k off : Nat} (h : σ.Keeps s) : σ.Keeps (s.acqBump f n k off) := h.bump

theorem State.Keeps.acqArm {n : Nat} (h : σ.Keeps s) : σ.Keeps (acqArm n s).1 := by
  unfold Machine.acqArm
  split
  · extract_lets s1
    have h1 : σ.Keeps s1 := h.wr
    exact h1.raise
  · exact h.wrs.setAcq

theorem State.Keeps.acqBegin {n : Nat} (h : σ.Keeps s) : σ.Keeps (s.acqBegin n) := by
  unfold State.acqBegin
  extract_lets x st
  split
  · exact h
  · exact .ite h.setAcq.wr h

theorem State.Keeps.acqWrite {n : Nat} {p : AcqPage} (h : σ.Keeps s) : σ.Keeps (s.acqWrite n p) := by
  unfold State.acqWrite
  extract_lets x d b x1 lead s0 _
  have h0 : σ.Keeps s0 := .ite h.wr h
  exact .ite h0.setAcq (h0.sramMem (memWrite_wf _ _ _)).setAcq.wr

theorem State.Keeps.closePage {n key : Nat} (h : σ.Keeps s) : σ.Keeps (s.closePage n key) := .ite h h.setAcq

theorem State.Keeps.writeClosed {n fuel : Nat} (h : σ.Keeps s) : σ.Keeps (State.writeClosed n fuel s).1 := by
  induction fuel generalizing s with
  | zero => exact h
  | succ fuel ih =>
    unfold State.writeClosed
    split
    · exact h
    · exact .ite_fst h (.ite_fst h (ih h.acqWrite))

theorem State.Keeps.gapBegins {n : Nat} {lossy : Bool} (h : σ.Keeps s) : σ.Keeps (s.gapBegins n lossy) := by
  unfold State.gapBegins
  extract_lets s1 s2
  have h1 : σ.Keeps s1 := .ite h.acqBump h
  have h2 : σ.Keeps s2 := h1.wr
  exact .ite h1 h2.raise

theorem State.Keeps.gapLoses {n k : Nat} (h : σ.Keeps s) : σ.Keeps (s.gapLoses n k) := h.acqBump

theorem State.Keeps.journalGap {n : Nat} {g : AcqGap} (h : σ.Keeps s) : σ.Keeps (s.journalGap n g) := .ite h h.journal

theorem State.Keeps.acqAppend {n key pos inst : Nat} {es : List (Nat × Bool)} {samples : Nat} (h : σ.Keeps s) :
    σ.Keeps (s.acqAppend n key pos inst es samples) := by
  unfold State.acqAppend
  extract_lets s1 x1 p p0 p1
  have h1 : σ.Keeps s1 := .ite h.closePage h
  exact h1.setAcq

theorem State.Keeps.writeGap {n : Nat} {g : AcqGap} (h : σ.Keeps s) : σ.Keeps (s.writeGap n g) :=
  .ite ((Keeps.ite h.journalGap.closePage h.journalGap).setAcq) h.journalGap.acqAppend

theorem State.Keeps.flushGaps {n key : Nat} (h : σ.Keeps s) : σ.Keeps (s.flushGaps n key) := h.setAcq.foldl fun _ _ h => h.writeGap

theorem State.Keeps.setMark {n pid : Nat} {idx : Option Nat} (h : σ.Keeps s) : σ.Keeps (s.setMark n pid idx) := by
  unfold State.setMark
  extract_lets x s1 _
  have h1 : σ.Keeps s1 := h.setAcq
  split
  · exact h1
  · split
    · exact h1
    · exact .ite h1.dramWrite (h1.sramMem (memWrite_wf _ _ _))

theorem State.Keeps.markTrig {n key pid idx : Nat} (h : σ.Keeps s) : σ.Keeps (s.markTrig n key pid idx) := by
  unfold State.markTrig
  extract_lets x s1
  have h1 : σ.Keeps s1 := h.setAcq.setMark
  split
  · exact h1.wrs
  · exact h1

theorem State.Keeps.seekTrig {n key : Nat} (h : σ.Keeps s) : σ.Keeps (s.seekTrig n key) := by
  unfold State.seekTrig
  extract_lets x
  split
  · exact h
  · split
    · exact .ite h h.markTrig
    · exact h

theorem State.Keeps.unmark {n : Nat} (h : σ.Keeps s) : σ.Keeps (s.unmark n) := ((h.foldl fun _ _ h => h.setMark).setAcq).wrs

theorem State.Keeps.acqPut {n key pos inst : Nat} {es : List (Nat × Bool)} (h : σ.Keeps s) : σ.Keeps (s.acqPut n key pos inst es) :=
  h.acqAppend.setAcq

theorem State.Keeps.acqCount {n key : Nat} (h : σ.Keeps s) : σ.Keeps (s.acqCount n key) := .ite h.setAcq.seekTrig h.setAcq

theorem State.Keeps.closeRed {n : Nat} (h : σ.Keeps s) : σ.Keeps (s.closeRed n) := .ite h.setAcq.acqPut.acqCount h

theorem State.Keeps.writeLast {n fuel : Nat} (h : σ.Keeps s) : σ.Keeps (State.writeLast n fuel s) := by
  induction fuel generalizing s with
  | zero => exact h
  | succ fuel ih =>
    unfold State.writeLast
    split
    · exact h
    · exact .ite h.wr (ih h.acqWrite)

theorem State.Keeps.acqEnd {n st : Nat} (h : σ.Keeps s) : σ.Keeps (s.acqEnd n st) := by
  unfold State.acqEnd
  extract_lets s0 s1 s2 s3 x s4
  have h0 : σ.Keeps s0 := h.foldl fun _ _ h => h.flushGaps
  have h1 : σ.Keeps s1 := h0.closeRed
  have h2 : σ.Keeps s2 := h1.foldl fun _ _ h => h.closePage
  have h3 : σ.Keeps s3 := h2.writeLast
  have h4 : σ.Keeps s4 := h3.setAcq.wr
  exact .ite h4.raise h4

theorem State.Keeps.acqStop {n : Nat} (h : σ.Keeps s) : σ.Keeps (s.acqStop n) := .ite h.acqEnd h.setAcq

theorem State.Keeps.acqPump {n : Nat} (h : σ.Keeps s) : σ.Keeps (s.acqPump n) := by
  unfold State.acqPump
  split
  rename_i _ s2 _ e
  have h2 := h.writeClosed.of_eq e
  exact .ite h2.wr.acqEnd h2

theorem State.Keeps.sendXtrig {n t : Nat} (h : σ.Keeps s) : σ.Keeps (s.sendXtrig n t) :=
  .ite (.ite h.parts.occursXtrig.tellAll h.parts.occursXtrig) h

theorem State.Keeps.acqTrigger {n t : Nat} {force again : Bool} (h : σ.Keeps s) : σ.Keeps (s.acqTrigger n t force again) := by
  unfold State.acqTrigger
  extract_lets edge _ s1 keys s0 x x1 s1' s2 s3
  have h1 : σ.Keeps s1 := h.setAcq.wrs.sendXtrig
  have h0 : σ.Keeps s0 := .ite h.unmark h
  have h1' : σ.Keeps s1' := h0.setAcq.wrs
  have h2 : σ.Keeps s2 := h1'.foldl fun _ _ h => h.seekTrig
  have h3 : σ.Keeps s3 := .ite h2 h2.sendXtrig.raise
  exact .ite h1.raise.acqEnd (.ite h3.acqEnd h3)

theorem State.Keeps.acqOccur {n : Nat} {o : AcqOcc} (h : σ.Keeps s) : σ.Keeps (s.acqOccur n o) := by
  unfold State.acqOccur
  extract_lets x st keys ords early hits now_
  have hnow_ : σ.Keeps now_ := h.setAcq
  split
  · exact h.acqBump
  · split
    · exact .ite h.acqTrigger (.ite h.acqBump (.ite h.acqBump (.ite hnow_.acqTrigger hnow_)))
    · exact .ite (.ite hnow_.acqTrigger hnow_) h

theorem State.Keeps.triggerOccurrence {n : Nat} (h : σ.Keeps s) : σ.Keeps (triggerOccurrence n s) := by
  unfold Machine.triggerOccurrence
  split
  · exact h
  · exact h.setAcq.acqOccur

theorem State.Keeps.acqDrop {n key inst : Nat} (h : σ.Keeps s) : σ.Keeps (s.acqDrop n key inst) := by
  unfold State.acqDrop
  extract_lets x begins s1 s2
  have hbegins : σ.Keeps begins := h.setAcq.gapBegins
  have h1 : σ.Keeps s1 := by
    unfold s1
    split
    · exact .ite h.setAcq hbegins
    · exact hbegins
  have h2 : σ.Keeps s2 := h1.gapLoses
  exact .ite h2.closePage h2

theorem State.Keeps.acqStore {n key inst pos : Nat} {es : List (Nat × Bool)} (h : σ.Keeps s) :
    σ.Keeps (s.acqStore n key inst pos es) := by
  unfold State.acqStore
  extract_lets cost room s2 s5 s6
  have h2 : σ.Keeps s2 := .ite h.usePort.flushGaps.acqPut h.acqDrop
  have h5 : σ.Keeps s5 := h2.acqCount
  have h6 : σ.Keeps s6 := .ite h5.wr h5
  exact .ite h6.acqEnd ((Keeps.ite h6.closePage h6).acqPump)

theorem State.Keeps.acqSample {n pins : Nat} (h : σ.Keeps s) : σ.Keeps (acqSample n pins s) := by
  unfold Machine.acqSample
  extract_lets x
  split
  · exact h
  · split
    · exact h.setAcq
    · split
      · exact h
      · extract_lets s0 s1 y z key s1'
        have h0 : σ.Keeps s0 := h.goto.setAcq
        have h1 : σ.Keeps s1 := h0.flushGaps
        have h1' : σ.Keeps s1' := h0.setAcq
        split
        · exact ((Keeps.ite h0.closePage h0).gapBegins).acqPump
        · split
          · exact h1.writeGap.acqPump
          · split
            · split
              · exact h0.setAcq
              · exact .ite h0.setAcq.acqStore h0.setAcq
            · exact h1'.acqStore

theorem State.Keeps.acqDrain {n : Nat} (h : σ.Keeps s) : σ.Keeps (acqDrain n s) := by
  unfold Machine.acqDrain
  extract_lets x s0
  have h0 : σ.Keeps s0 := h.goto
  split
  · exact h
  · exact .ite (((Keeps.ite h0.setAcq.gapBegins.gapLoses h0.setAcq.wake.dramWrite).wr).acqPump) h

theorem State.Keeps.acqForce {n : Nat} (h : σ.Keeps s) : σ.Keeps (acqForce n s).1 := .ite_fst h.acqBump (.ite_fst h.setAcq h)

theorem State.Keeps.untrigger {n old : Nat} (h : σ.Keeps s) : σ.Keeps (s.untrigger n old) := by
  unfold State.untrigger
  extract_lets t drop s1 s2 _ _
  have hdrop {t : State} {c : Nat} (h : σ.Keeps t) : σ.Keeps (drop t c) := by
    unfold drop
    split
    · exact .ite h.parts.wr h
    · exact h
  have h1 : σ.Keeps s1 := h.unmark.wr
  have h2 : σ.Keeps s2 := hdrop (.ite (hdrop h1) h1)
  exact h2.parts

theorem State.Keeps.acqStopWrite {n : Nat} (h : σ.Keeps s) : σ.Keeps (acqStopWrite n s).1 := by
  unfold Machine.acqStopWrite
  extract_lets s1
  have h1 : σ.Keeps s1 := by
    unfold s1
    split
    · exact .ite h.untrigger.wr h
    · exact h
  have h2 : σ.Keeps (s1.acqEnd n aSTOPPED) := h1.acqEnd
  exact .ite_fst h2 h1

theorem State.Keeps.acqClear {n : Nat} (h : σ.Keeps s) : σ.Keeps (acqClear n s).1 := .ite_fst h.wr h

theorem State.Keeps.wrAcqCtl {n data : Nat} (h : σ.Keeps s) : σ.Keeps (wrAcqCtl n s data).1 := by
  unfold Machine.wrAcqCtl
  split
  · exact h
  · exact .ite_fst h.acqArm (.ite_fst h.acqStopWrite (.ite_fst h.acqForce (.ite_fst h.acqClear h)))

theorem State.Keeps.acqSetup {n : Nat} {ok : Nat → Bool} {put : State → Nat → State} {data : Nat} (h : σ.Keeps s)
    (hput : ∀ t a, σ.Keeps t → σ.Keeps (put t a)) :
    σ.Keeps (acqSetup n ok put s data).1 :=
  .ite_fst h (.ite_fst (hput _ _ h) h)

/-! ### DC force and measure -/

theorem State.Keeps.setPmu {p : Nat} {x : Pmu} (h : σ.Keeps s) : σ.Keeps (s.setPmu p x) := h.parts

theorem State.Keeps.setDsa {l : Nat} {x : Dsa} (h : σ.Keeps s) : σ.Keeps (s.setDsa l x) := h.parts

theorem State.Keeps.dsaChange {p us : Nat} (h : σ.Keeps s) : σ.Keeps (s.dsaChange p us) := h.setDsa

theorem State.Keeps.pmuSet {p : Nat} {y0 : Pmu} (h : σ.Keeps s) : σ.Keeps (s.pmuSet p y0) := by
  unfold State.pmuSet
  extract_lets x l y s1 s2
  have h1 : σ.Keeps s1 := h.setPmu.wr
  have h2 : σ.Keeps s2 := .ite h1.dsaChange h1
  exact .ite (.ite h2.dsaChange h2) h2.wr

theorem State.Keeps.pmuTick {p : Nat} (h : σ.Keeps s) : σ.Keeps (s.pmuTick p) := by
  unfold State.pmuTick
  split
  · exact .ite h.pmuSet h
  · exact h

theorem State.Keeps.pmuOff {p : Nat} (h : σ.Keeps s) : σ.Keeps (s.pmuOff p) := .ite h.wr.pmuSet h.wr.setPmu

theorem State.Keeps.dcStart {ls : List Nat} (h : σ.Keeps s) : σ.Keeps (s.dcStart ls) :=
  h.foldl fun _ _ h => h.foldl fun _ _ h => .ite h.pmuOff h

theorem State.Keeps.dsaOff {l : Nat} (h : σ.Keeps s) : σ.Keeps (s.dsaOff l) := h.setDsa.wrs

theorem State.Keeps.dcOff (h : σ.Keeps s) : σ.Keeps s.dcOff := by
  unfold State.dcOff
  extract_lets s1 s2 _
  have h1 : σ.Keeps s1 := h.foldl fun _ _ h => .ite h.pmuOff h
  have h2 : σ.Keeps s2 := h1.foldl fun _ _ h => h.setDsa.dsaOff
  exact h2.parts

theorem State.Keeps.wrDcPinCfg {p data : Nat} (h : σ.Keeps s) : σ.Keeps (wrDcPinCfg p s data).1 :=
  .ite_fst h (.ite_fst h (.ite_fst h h.wrs.setPmu))

theorem State.Keeps.wrDcPinForce {p data : Nat} (h : σ.Keeps s) : σ.Keeps (wrDcPinForce p s data).1 :=
  .ite_fst h (.ite_fst h.wrs.setPmu h)

theorem State.Keeps.dcClamp {p : Nat} (h : σ.Keeps s) : σ.Keeps (dcClamp p s) := by
  unfold Machine.dcClamp
  split
  · extract_lets s1
    have h1 : σ.Keeps s1 := h.wr.flag
    exact h1.raise
  · exact h

theorem State.Keeps.dsaTick {l : Nat} (h : σ.Keeps s) : σ.Keeps (s.dsaTick l) := by
  unfold State.dsaTick
  extract_lets T x0 took x1 x2 _
  split
  extract_lets changes go ts free off start stop x4 s1
  have h1 : σ.Keeps s1 := by
    unfold s1
    split
    · exact h.parts
    · exact h
  exact .ite h.setDsa.dsaOff (.ite h1.setDsa.wrs (.ite h.setDsa.wrs (.ite h.setDsa (.ite h.setDsa.wr (.ite h.setDsa h.setDsa)))))

theorem State.Keeps.dcTick (h : σ.Keeps s) : σ.Keeps s.dcTick := by
  unfold State.dcTick
  extract_lets s1
  have h1 : σ.Keeps s1 := h.foldl fun _ _ h => h.pmuTick
  exact h1.foldl fun _ _ h => .ite h h.dsaTick

theorem State.Keeps.dsaRefReady {l : Nat} (h : σ.Keeps s) : σ.Keeps (dsaRefReady l s) := .ite h.goto.setDsa h

theorem State.Keeps.dsaStartTimeout {l : Nat} (h : σ.Keeps s) : σ.Keeps (dsaStartTimeout l s) := by
  unfold Machine.dsaStartTimeout
  extract_lets x t s0 _ s1
  have h0 : σ.Keeps s0 := h.goto
  have h1 : σ.Keeps s1 := h0.parts.dsaOff.flag
  exact .ite h1.raise h

theorem State.Keeps.dsaThr {l node : Nat} {before : Option Int} {v : Int} {t : Nat} (h : σ.Keeps s) :
    σ.Keeps (s.dsaThr l node before v t) := by
  unfold State.dsaThr
  split
  · extract_lets mode hi lo hit s2 tr s3
    have h2 : σ.Keeps s2 := h.bump
    have h3 : σ.Keeps s3 := h2.parts
    exact .ite h3.journalInput.occursThr h
  · exact h

theorem State.Keeps.diagTake {l : Nat} {v : Int} (h : σ.Keeps s) : σ.Keeps (s.diagTake l v) := by
  unfold State.diagTake
  split
  · exact .ite h.parts h
  · exact h

theorem State.Keeps.dsaDeliver {l node t : Nat} {v : Int} {valid suppress : Bool} {settle : Nat} {before : Option Int} (h : σ.Keeps s) :
    σ.Keeps (s.dsaDeliver l node t v valid suppress settle before) :=
  .ite (((Keeps.ite h h.wrs.feedDsa).wrs).dsaThr) (.ite h h.wrs.feedDsa)

theorem State.Keeps.dsaRemember {l node : Nat} {v : Int} (h : σ.Keeps s) : σ.Keeps (s.dsaRemember l node v) := .ite h.setDsa h

theorem State.Keeps.dsaOutput {l : Nat} {raw : Int} (h : σ.Keeps s) : σ.Keeps (dsaOutput l raw s) := by
  unfold Machine.dsaOutput
  extract_lets x v t s0 late valid settle s1 s2 s4 _
  have h0 : σ.Keeps s0 := h.goto
  have h1 : σ.Keeps s1 := h0.setDsa.wr
  have h2 : σ.Keeps s2 := h1.dsaDeliver
  have h4 : σ.Keeps s4 := h2.dsaRemember.diagTake
  split
  · exact .ite (.ite h.goto.setDsa.dsaDeliver.dsaRemember h.goto.setDsa.dsaDeliver) h
  · exact .ite (.ite (.ite h4 (.ite h4.setDsa.wrs (.ite h4.setDsa h4))) h2) h

theorem State.Keeps.wrDsaCtl {l data : Nat} (h : σ.Keeps s) : σ.Keeps (wrDsaCtl l s data).1 := .ite_fst h (.ite_fst h h.wrs.setDsa)

theorem State.Keeps.dsaGo {l : Nat} (h : σ.Keeps s) : σ.Keeps (dsaGo l s).1 := .ite_fst h (.ite_fst h h.setDsa)

theorem State.Keeps.dsaDiag {l : Nat} (h : σ.Keeps s) : σ.Keeps (dsaDiag l s).1 := .ite_fst h (.ite_fst h h.parts)

theorem State.Keeps.wrDsaCmd {l data : Nat} (h : σ.Keeps s) : σ.Keeps (wrDsaCmd l s data).1 :=
  .ite_fst h (.ite_fst h (.ite_fst h.dsaGo (.ite_fst h.dsaDiag h)))

theorem State.Keeps.wrDcDiagCfg {l data : Nat} (h : σ.Keeps s) : σ.Keeps (wrDcDiagCfg l s data).1 := by
  unfold Machine.wrDcDiagCfg
  split
  · exact h
  · split
    · exact h
    · extract_lets s1 _
      have h1 : σ.Keeps s1 := h.wrs
      exact .ite h1 h1.parts

theorem State.Keeps.wrDsaThrCfg {l data : Nat} (h : σ.Keeps s) : σ.Keeps (wrDsaThrCfg l s data).1 := .ite_fst h h.wrs.setDsa

theorem State.Keeps.wrDsaThrLvl {l data : Nat} (h : σ.Keeps s) : σ.Keeps (wrDsaThrLvl l s data).1 := .ite_fst h h.wrs

theorem State.Keeps.dsaDiagDone {l : Nat} (h : σ.Keeps s) : σ.Keeps (dsaDiagDone l s) := by
  unfold Machine.dsaDiagDone
  split
  · exact h
  · split
    · exact h
    · split
      rename_i _ s0 _ e
      have h0 := (Keeps.ite_fst h h.fresh).of_eq e
      exact (Keeps.ite h0.parts.dsaOff.wrs h0.parts.dsaOff.wrs.flag.raise).raise

/-! ### Pattern flow of a leaf -/

theorem State.Keeps.dispatch {l : Nat} {q : QEnt} {noCmp : Bool} (h : σ.Keeps s) : σ.Keeps (s.dispatch l q noCmp) := .ite h h.setEng

theorem State.Keeps.enqueue {l : Nat} {pos : Nat × Nat × Nat × Nat} (h : σ.Keeps s) : σ.Keeps (s.enqueue l pos) := by
  unfold State.enqueue
  split
  split
  · exact h
  · exact .ite h h.setLeaf.dispatch

theorem State.Keeps.queueEntry {l : Nat} (h : σ.Keeps s) : σ.Keeps (queueEntry l s) := by
  unfold Machine.queueEntry
  extract_lets x
  split
  · split
    · split
      · exact h
      · exact h.enqueue
    · split
      · split
        · exact h
        · exact h.goto.enqueue
      · exact h
    · exact h
  · exact h

theorem State.Keeps.abandon {l b : Nat} (h : σ.Keeps s) : σ.Keeps (s.abandon l b) := h.setLeaf.setEng

theorem State.Keeps.freeAhead {l more : Nat} {cur : Option FetchCur} (h : σ.Keeps s) : σ.Keeps (s.freeAhead l more cur) := h.setCache

theorem State.Keeps.latchJump {l cls target t : Nat} (h : σ.Keeps s) : σ.Keeps (s.latchJump l cls target t) := by
  unfold State.latchJump
  extract_lets x b hold x1 s2
  have h2 : σ.Keeps s2 := h.setLeaf.abandon
  split
  · split
    · exact h2.freeAhead
    · exact h2
  · exact h

theorem State.Keeps.raiseInt {l p : Nat} (h : σ.Keeps s) : σ.Keeps (s.raiseInt l p) := .ite h.setEng (.ite h.setEng h.setEng)

theorem State.Keeps.askAbort {l : Nat} {a : AbortReq} (h : σ.Keeps s) : σ.Keeps (s.askAbort l a) := h.setLeaf

theorem State.Keeps.ownAbort {l cause t : Nat} (h : σ.Keeps s) : σ.Keeps (s.ownAbort l cause t) := h.askAbort

theorem State.Keeps.journalFault {l cause strand bead off bytePos detail : Nat} (h : σ.Keeps s) :
    σ.Keeps (s.journalFault l cause strand bead off bytePos detail) :=
  h.journal

theorem State.Keeps.vecAbort {l cause t qid : Nat} (h : σ.Keeps s) : σ.Keeps (s.vecAbort l cause t qid) := h.askAbort

theorem State.Keeps.stackFault {l t qid : Nat} (h : σ.Keeps s) : σ.Keeps (s.stackFault l t qid) := h.flag.flagBits.journalFault.vecAbort

theorem State.Keeps.flagUnderrun {l t : Nat} (h : σ.Keeps s) : σ.Keeps (s.flagUnderrun l t) := h.setLeaf

theorem State.Keeps.refetch {l strand bead : Nat} (h : σ.Keeps s) : σ.Keeps (s.refetch l strand bead) := by
  unfold State.refetch
  split
  · exact h
  · exact h.setCache.askFetch

theorem State.Keeps.beginHold {l : Nat} {hdr : Hold} (h : σ.Keeps s) : σ.Keeps (s.beginHold l hdr) := by
  unfold State.beginHold
  extract_lets s1 _
  have h1 : σ.Keeps s1 := h.wrs
  exact h1.setLeaf.raiseInt

theorem State.Keeps.starve {l cause strand bead off bytePos detail : Nat} (h : σ.Keeps s) :
    σ.Keeps (s.starve l cause strand bead off bytePos detail) := by
  unfold State.starve
  extract_lets x s0 s1 s2 s3 _
  have h0 : σ.Keeps s0 := .ite h h.journalFault
  have h1 : σ.Keeps s1 := h0.flagUnderrun
  have h2 : σ.Keeps s2 := .ite h1.wr h1
  have h3 : σ.Keeps s3 := h2.beginHold
  exact .ite (.ite h3.refetch (.ite h3.freeAhead h3)) h2.setLeaf.raiseInt.ownAbort

theorem State.Keeps.firePulse {l strand t : Nat} {entry seam : Bool} (h : σ.Keeps s) : σ.Keeps (s.firePulse l strand t entry seam) := by
  unfold State.firePulse
  extract_lets d p s0 sa s1 s2
  have h0 : σ.Keeps s0 := h.parts
  have ha : σ.Keeps sa := .ite h0.occursEvent h0
  have h1 : σ.Keeps s1 := .ite ha.occursEvent ha
  have h2 : σ.Keeps s2 := h1.occursStrand
  exact .ite (.ite h2.tellAll h2) h1

theorem State.Keeps.addArm {l t cond target qid : Nat} (h : σ.Keeps s) : σ.Keeps (s.addArm l t cond target qid) := by
  unfold State.addArm
  extract_lets x g
  split
  · exact h.setEng
  · exact .ite h.setEng (.ite (.ite h.setEng.latchJump h.setEng) h.ownAbort)

theorem State.Keeps.applyEffs {l t : Nat} {es : List Eff} (h : σ.Keeps s) : σ.Keeps (s.applyEffs l t es) := by
  induction es generalizing s with
  | nil => exact h
  | cons e es ih =>
    cases e with
    | jump target => exact ih h.latchJump
    | seamEnd => exact ih h.setLeaf
    | arm cond target qid => exact ih h.addArm
    | event code qid => exact ih h.opEvent

theorem State.Keeps.publish {l t : Nat} {c : Ctx} (h : σ.Keeps s) : σ.Keeps (s.publish l t c) := by
  unfold State.publish
  extract_lets s1
  have h1 : σ.Keeps s1 := h.reveal
  exact .ite h1.setLeaf h1

theorem State.Keeps.release {l le : Nat} (h : σ.Keeps s) : σ.Keeps (s.release l le) := h.setEng.foldl fun _ _ h => h.publish.applyEffs

theorem State.Keeps.beginBead {l k le : Nat} (h : σ.Keeps s) : σ.Keeps (s.beginBead l k le) := by
  unfold State.beginBead
  extract_lets x c pinned drop s0 x0 t x1 x2 s1 s2 s3 ring _ s4
  have h0 : σ.Keeps s0 := .ite h.abandon h
  have h1 : σ.Keeps s1 := h0.setLeaf.wrs
  have h2 : σ.Keeps s2 := .ite h1.wrs h1
  have h3 : σ.Keeps s3 := .ite h2.firePulse h2
  have h4 : σ.Keeps s4 := h3.setCache
  exact h4.latchTrims.release

theorem State.Keeps.tryBegin {l le : Nat} {checkRes : Bool} {par : Nat} (h : σ.Keeps s) : σ.Keeps (s.tryBegin l le checkRes par) := by
  unfold State.tryBegin
  extract_lets x
  split
  · exact h.journalFault.wr.flagUnderrun.ownAbort
  · exact h.starve
  · exact h.beginBead

theorem State.Keeps.journalJump {l from_ : Nat} {j : Jump} {superseded : Bool} (h : σ.Keeps s) :
    σ.Keeps (s.journalJump l from_ j superseded) :=
  h.journal

theorem State.Keeps.mapLoops {l : Nat} {f : List (Nat × Nat) → List (Nat × Nat)} (h : σ.Keeps s) : σ.Keeps (s.mapLoops l f) :=
  h.setEng.parts

theorem State.Keeps.lowerLoops {l : Nat} (h : σ.Keeps s) : σ.Keeps (s.lowerLoops l) := h.mapLoops

theorem State.Keeps.moveTo {l le : Nat} {n : NextB} (h : σ.Keeps s) : σ.Keeps (s.moveTo l le n) := by
  unfold State.moveTo
  extract_lets x gone keep s1 x1
  have h1 : σ.Keeps s1 := by
    unfold s1
    split
    · exact h
    · extract_lets s0
      have h0 : σ.Keeps s0 := h.foldl fun _ _ h => h.journalJump
      exact h0.journalJump.mapLoops
  exact h1.setLeaf.lowerLoops

theorem State.Keeps.restPins {l : Nat} (h : σ.Keeps s) : σ.Keeps (s.restPins l) := h.setLeaf

theorem State.Keeps.endRun {l : Nat} (h : σ.Keeps s) : σ.Keeps (s.endRun l) := by
  unfold State.endRun
  extract_lets s' x x1
  have h' : σ.Keeps s' := h.restPins
  exact h'.setLeaf

theorem State.Keeps.forceAbort {l : Nat} (h : σ.Keeps s) : σ.Keeps (s.forceAbort l) := by
  unfold State.forceAbort
  split
  · exact h
  · exact h.ownAbort

theorem State.Keeps.diverge {l cond : Nat} {flow : Bool} {vindex : Nat} (h : σ.Keeps s) : σ.Keeps (s.diverge l cond flow vindex) := by
  unfold State.diverge
  split
  · exact h
  · extract_lets _ _ s1 w
    have h1 : σ.Keeps s1 := h.parts.wrs
    exact h1.journal.raise

theorem State.Keeps.checkFlow {l : Nat} {same : Bool} (h : σ.Keeps s) : σ.Keeps (s.checkFlow l same) := .ite h.diverge h

theorem State.Keeps.forceHold {l n : Nat} (h : σ.Keeps s) : σ.Keeps (s.forceHold l n) := by
  unfold State.forceHold
  extract_lets x hd s1
  have h1 : σ.Keeps s1 := h.wrs
  exact h1.setLeaf.raiseInt

theorem State.Keeps.afterPeriod {l : Nat} (h : σ.Keeps s) : σ.Keeps (s.afterPeriod l) := by
  unfold State.afterPeriod
  extract_lets x x1 s0 s1 _
  have h0 : σ.Keeps s0 := h.setLeaf.lowerLoops
  have h1 : σ.Keeps s1 := h0.setLeaf
  exact .ite h (.ite (.ite h1.setCache h1) h0)

theorem State.Keeps.settle {l : Nat} (h : σ.Keeps s) : σ.Keeps (s.settle l) := .ite h.setLeaf.afterPeriod h

theorem State.Keeps.flowLate {l : Nat} {d : Disp} {pc t : Nat} (h : σ.Keeps s) : σ.Keeps (s.flowLate l d pc t) := by
  unfold State.flowLate
  extract_lets s1 s2
  have h1 : σ.Keeps s1 := h.wrs
  have h2 : σ.Keeps s2 := h1.raise
  exact h2.journalFault.ownAbort

theorem State.Keeps.beadBoundary {l par : Nat} (h : σ.Keeps s) : σ.Keeps (beadBoundary l par s) := by
  unfold Machine.beadBoundary
  extract_lets s' x le sj s0 n s1 forced
  have h' : σ.Keeps s' := h.settle
  have hj : σ.Keeps sj := h'.goto
  have h0 : σ.Keeps s0 := by
    unfold s0
    split
    · exact hj.latchJump
    · exact hj
  have h1 : σ.Keeps s1 := h0.checkFlow.moveTo
  clear_value forced
  refine .ite ?_ h'
  split
  · exact h0.flowLate
  · split
    · exact h0.endRun
    · split
      · exact h1.forceHold
      · exact h1.tryBegin

theorem State.Keeps.collide {l vindex slot edge reason : Nat} (h : σ.Keeps s) : σ.Keeps (s.collide l vindex slot edge reason) := by
  unfold State.collide
  extract_lets s1 s2
  have h1 : σ.Keeps s1 := h.bump.wr
  have h2 : σ.Keeps s2 := h1.wrs
  exact .ite h1 h2.raise

theorem State.Keeps.launchEdge {a : Launch} {chain k : Nat} (h : σ.Keeps s) : σ.Keeps (s.launchEdge a chain k).1 := by
  unfold State.launchEdge
  extract_lets x prog d e
  split
  · exact h.collide
  · exact h.setLeaf

theorem State.Keeps.launchChain {a : Launch} {chain : Nat} {ks : List Nat} (h : σ.Keeps s) : σ.Keeps (s.launchChain a chain ks).1 := by
  induction ks generalizing s with
  | nil => exact h
  | cons k ks ih => exact ih h.launchEdge

theorem State.Keeps.launchPin {a : Launch} {masked : Bool} (h : σ.Keeps s) : σ.Keeps (s.launchPin a masked).1 := by
  unfold State.launchPin
  split
  rename_i _ s2 _ e
  have h2 := h.launchChain.of_eq e
  split
  rename_i _ s2' _ e
  have h2' := h2.launchChain.of_eq e
  exact .ite h2'.setLeaf h2'

theorem State.Keeps.launchPins {l vindex start bank set mask : Nat} {ps : List (Nat × PS)} (h : σ.Keeps s) :
    σ.Keeps (s.launchPins l vindex start bank set mask ps).1 := by
  induction ps generalizing s with
  | nil => exact h
  | cons p ps ih => exact ih (h.launchPin (masked := mask.testBit p.1))

theorem State.Keeps.samePeriod {l vindex p start : Nat} (h : σ.Keeps s) : σ.Keeps (s.samePeriod l vindex p start) := by
  unfold State.samePeriod
  extract_lets u mem us got given s1
  have h1 : σ.Keeps s1 := h.setUnit
  split
  · exact h
  · split
    · exact h.setUnit
    · split
      · exact h1
      · extract_lets s2
        have h2 : σ.Keeps s2 := h.setUnit.raise
        exact h2.foldl fun _ _ h => h.askAbort

theorem State.Keeps.stepVcount {l : Nat} (h : σ.Keeps s) : σ.Keeps (s.stepVcount l) := by
  unfold State.stepVcount
  extract_lets v u s1 s2
  have h1 : σ.Keeps s1 := h.wr
  have h2 : σ.Keeps s2 := h1.wr
  exact .ite (.ite h2.raise h2) h1

theorem State.Keeps.playPeriod {l : Nat} {states : List PS} {bank set mask qid : Nat} {pos : Nat × Nat × Nat × Nat} (h : σ.Keeps s) :
    σ.Keeps (s.playPeriod l states bank set mask qid pos) := by
  unfold State.playPeriod
  extract_lets s' x t vindex p
  have h' : σ.Keeps s' := h.checkFlow
  split
  rename_i _ s2 _ e
  have h2 := h'.launchPins.of_eq e
  exact h2.samePeriod.setLeaf.stepVcount.forceAbort

theorem State.Keeps.pushLoopb {l strand a e n : Nat} (h : σ.Keeps s) : σ.Keeps (s.pushLoopb l strand a e n) :=
  .ite h (.ite h.setLeaf.abandon.freeAhead h.setLeaf)

theorem State.Keeps.issueHead {l : Nat} {q : QEnt} (h : σ.Keeps s) : σ.Keeps (s.issueHead l q) := by
  unfold State.issueHead
  extract_lets x n pushes bad s0 x states set vindex q' loops s1 s2 tick s3
  have h0 : σ.Keeps s0 := by
    unfold s0
    split
    · exact h.pushLoopb
    · exact h
  have h1 : σ.Keeps s1 := h0.setLeaf
  have h2 : σ.Keeps s2 := h1.playPeriod
  have h3 : σ.Keeps s3 := h2.setEng.flushEvents.feedPin
  exact .ite h.stackFault h3.afterPeriod

theorem State.Keeps.issueRepeat {l : Nat} {q : QEnt} (h : σ.Keeps s) : σ.Keeps (s.issueRepeat l q) := by
  unfold State.issueRepeat
  exact h.setLeaf.feedPin.playPeriod.afterPeriod

theorem State.Keeps.issueHeld {l : Nat} {hdr : Hold} (h : σ.Keeps s) : σ.Keeps (s.issueHeld l hdr) := by
  unfold State.issueHeld
  exact (((Keeps.ite h.feedHoldStart h).setLeaf).flagUnderrun).playPeriod

theorem State.Keeps.vectorIssue {l : Nat} (h : σ.Keeps s) : σ.Keeps (vectorIssue l s) := by
  unfold Machine.vectorIssue
  extract_lets s' x
  have h' : σ.Keeps s' := h.settle
  split
  · split
    · exact .ite h' h'.goto.issueHeld
    · split
      · exact h'
      · split
        · split
          · exact h'
          · exact h'.goto.issueRepeat
        · split
          · exact h'
          · split
            · exact h'.goto.starve
            · extract_lets routine
              split
              · exact h'
              · split
                · exact .ite h'.goto.issueHead h'.goto.forceHold
                · exact h'.goto.issueHead
  · exact h'

theorem State.Keeps.edgePlace {l slot : Nat} {cl ch exc : Bool} (h : σ.Keeps s) : σ.Keeps (edgePlace l slot cl ch exc s) := by
  unfold Machine.edgePlace
  extract_lets x old
  split
  · exact h
  · split
    · extract_lets s0 x1 new new
      have h0 : σ.Keeps s0 := h.goto
      exact .ite h0.setLeaf h0.setLeaf
    · exact h

theorem State.Keeps.closeHold {l : Nat} {hdr : Hold} (h : σ.Keeps s) : σ.Keeps (s.closeHold l hdr) := by
  unfold State.closeHold
  extract_lets s1
  have h1 : σ.Keeps s1 := h.wrs.feedHold.flagUnderrun
  exact h1.journal

theorem State.Keeps.holdResume {l par : Nat} (h : σ.Keeps s) : σ.Keeps (holdResume l par s) := by
  unfold Machine.holdResume
  extract_lets x le jumped
  split
  · exact h
  · split
    · extract_lets s1 _ s2 _ s3 s5 s4 _ s2' s3' _
      have h1 : σ.Keeps s1 := h.goto.closeHold
      clear_value s1
      have h2 : σ.Keeps s2 := h1.setLeaf
      have h3 : σ.Keeps s3 := by
        unfold s3
        split
        · exact h2.setLeaf.moveTo
        · exact h2
      have h4 : σ.Keeps s4 := h3.tryBegin.checkFlow
      have h2' : σ.Keeps s2' := h1.setLeaf
      have h3' : σ.Keeps s3' := h2'.enqueue
      split
      · split
        · exact h1.setLeaf.flowLate
        · exact .ite h4 h4.setLeaf
      · refine .ite h1.setLeaf ?_
        split
        · exact h2'.starve
        · split
          · exact h2'.starve
          · split
            · exact h3'.starve
            · exact h3'.setLeaf
    · exact h

theorem State.Keeps.holdTimeout {l : Nat} (h : σ.Keeps s) : σ.Keeps (holdTimeout l s) := by
  unfold Machine.holdTimeout
  extract_lets x
  split
  · exact h
  · exact .ite h.goto.journalFault.ownAbort h

theorem State.Keeps.journalEnd {l vindex state : Nat} (h : σ.Keeps s) : σ.Keeps (s.journalEnd l vindex state) := h.journal

theorem State.Keeps.askExport {e : Export} (h : σ.Keeps s) : σ.Keeps (s.askExport e) := by
  unfold State.askExport
  split
  · exact h.bump
  · extract_lets _ s1
    have h1 : σ.Keeps s1 := h.parts
    exact .ite h1 h1.bump

theorem State.Keeps.endReplay {u : Nat} (h : σ.Keeps s) : σ.Keeps (s.endReplay u) := .ite h.parts.wr h

theorem State.Keeps.unitEnd {l : Nat} (h : σ.Keeps s) : σ.Keeps (s.unitEnd l) := .ite h h.setUnit.raise.endReplay

theorem State.Keeps.runCompletion {l : Nat} (h : σ.Keeps s) : σ.Keeps (runCompletion l s) := by
  unfold Machine.runCompletion
  extract_lets x s0 late s1 s2 _ s3
  have h0 : σ.Keeps s0 := h.goto
  have h1 : σ.Keeps s1 := h0.wrs
  have h2 : σ.Keeps s2 := .ite h1.wr h1
  have h3 : σ.Keeps s3 := h2.setLeaf
  exact .ite h3.journalEnd.checkFlow.unitEnd h

theorem State.Keeps.safePins {l safe : Nat} (h : σ.Keeps s) : σ.Keeps (s.safePins l safe) := h.setLeaf

theorem State.Keeps.abortOthers {l t : Nat} {a : AbortReq} (h : σ.Keeps s) : σ.Keeps (s.abortOthers l t a) :=
  h.foldl fun _ _ h => .ite h.askAbort h

theorem State.Keeps.ffFollow {l t : Nat} (h : σ.Keeps s) : σ.Keeps (s.ffFollow l t) := by
  unfold State.ffFollow
  split
  · exact h.wr
  · exact h

theorem State.Keeps.tellAbort {l : Nat} {a : AbortReq} (h : σ.Keeps s) : σ.Keeps (s.tellAbort l a) :=
  .ite (h.foldl fun _ _ h => h.tell) h

theorem State.Keeps.stopEngine {l t : Nat} (h : σ.Keeps s) : σ.Keeps (s.stopEngine l t) := by
  unfold State.stopEngine
  extract_lets s1 v _
  have h1 : σ.Keeps s1 := h.parts
  exact h1.setEng.raiseInt

theorem State.Keeps.endAborted {l t : Nat} {a : AbortReq} {safe : Option Nat} (h : σ.Keeps s) : σ.Keeps (s.endAborted l t a safe) := by
  unfold State.endAborted
  extract_lets s' x s1 sup y s2 stop
  have h' : σ.Keeps s' := by
    unfold s'
    split
    · exact .ite h h.closeHold
    · exact h
  have h1 : σ.Keeps s1 := by
    unfold s1
    split
    · exact h'.safePins
    · exact h'
  have hup : σ.Keeps sup := (Keeps.ite h1.ffFollow h1).foldl fun _ _ h => h.journalJump
  have h2 : σ.Keeps s2 := hup.setLeaf
  split
  extract_lets s3 s4 s5 s6 s7 x7 s8
  have h3 : σ.Keeps s3 := h2.wrs
  have h4 : σ.Keeps s4 := .ite h3.wr h3
  have h5 : σ.Keeps s5 := h4.parts
  have h6 : σ.Keeps s6 := h5.foldl fun _ _ h => h.finishVec
  have h7 : σ.Keeps s7 := h6.stopEngine.journalEnd.checkFlow
  have h8 : σ.Keeps s8 := .ite h7.askExport h7
  exact h8.tellAbort.abortOthers.unitEnd

theorem State.Keeps.clearState {l : Nat} (h : σ.Keeps s) : σ.Keeps (s.clearState l) := h.wrs

theorem State.Keeps.clearRun {l : Nat} {accum : Bool} (h : σ.Keeps s) : σ.Keeps (s.clearRun l accum) := by
  unfold State.clearRun
  extract_lets s1
  have h1 : σ.Keeps s1 := h.clearState.wrs
  exact .ite h1 h1.wrs.wrs

theorem State.Keeps.missedToo {l : Nat} (h : σ.Keeps s) : σ.Keeps (s.missedToo l) := by
  unfold State.missedToo
  extract_lets x le n
  split
  · split
    · exact .ite h.wr.flagUnderrun h
    · exact h.wr.flagUnderrun
    · exact h
  · exact h

theorem State.Keeps.abortTakeEffect {l : Nat} (h : σ.Keeps s) : σ.Keeps (abortTakeEffect l s) := by
  unfold Machine.abortTakeEffect
  extract_lets s' x us late
  have h' : σ.Keeps s' := h.settle
  split
  · split
    · exact .ite h'.goto.setUnit.clearState.endAborted h'
    · exact h'
  · split
    · exact .ite h'.goto.missedToo.endAborted h'
    · exact h'
  · exact h'

/-! ### The stream fetcher -/

theorem State.Keeps.streamFetch {l : Nat} (h : σ.Keeps s) : σ.Keeps (streamFetch l s) := by
  unfold Machine.streamFetch
  extract_lets c
  split
  · exact h.setCache.askFetch
  · exact h

theorem State.Keeps.wakeHold {l strand bead : Nat} (h : σ.Keeps s) : σ.Keeps (s.wakeHold l strand bead) := by
  unfold State.wakeHold
  extract_lets x
  split
  · exact .ite h.setLeaf h
  · exact h

theorem State.Keeps.land {l : Nat} {f : Fetch} {payload header : List Byte} {ok : Bool} (h : σ.Keeps s) :
    σ.Keeps (s.land l f payload header ok) :=
  .ite (((Keeps.ite h.wr h).setCache).wakeHold) (.ite h.setCache.askFetch h.setCache.wakeHold)

theorem State.Keeps.beadLanding {l slot : Nat} {link : Option (List Byte)} (h : σ.Keeps s) : σ.Keeps (beadLanding l slot link s) := by
  unfold Machine.beadLanding
  split
  · exact h
  · split
    · exact .ite h h.land
    · extract_lets b
      split
      exact .ite h h.readerUe.readerUe.wake.land

/-! ### Unit commands and the strand table -/

theorem State.Keeps.takeReplay {u : Nat} (h : σ.Keeps s) : σ.Keeps (s.takeReplay u) := by
  unfold State.takeReplay
  extract_lets recs _
  split
  · exact h
  · exact h.parts.wrs

theorem State.Keeps.armLeaf {u startTick strand : Nat} {rep : Bool} {l : Nat} (h : σ.Keeps s) :
    σ.Keeps (s.armLeaf u startTick strand rep l) :=
  h.parts.setLeaf.setEng.setCache

theorem State.Keeps.acceptStart {u : Nat} (h : σ.Keeps s) : σ.Keeps (s.acceptStart u) :=
  (((Keeps.ite h.calCancel.takeReplay h.calCancel).setUnit).foldl fun _ _ h => h.armLeaf).dcStart

theorem State.Keeps.endLate {ls : List Nat} {src m : Nat} (h : σ.Keeps s) : σ.Keeps (s.endLate ls src m) :=
  h.foldl fun _ _ h => h.clearState.endAborted

theorem State.Keeps.startLate {u : Nat} (h : σ.Keeps s) : σ.Keeps (s.startLate u) :=
  ((h.calCancel.setUnit.foldl fun _ _ h => h.armLeaf).dcStart).endLate

theorem State.Keeps.unitStart {u : Nat} (h : σ.Keeps s) : σ.Keeps (unitStart u s).1 := by
  unfold Machine.unitStart
  split
  · exact h
  · split
    · exact h
    · exact .ite_fst h.startLate h.acceptStart

theorem State.Keeps.beginRun {accum : Bool} {l : Nat} (h : σ.Keeps s) : σ.Keeps (s.beginRun accum l) := by
  unfold State.beginRun
  extract_lets s1 x
  have h1 : σ.Keeps s1 := h.clearRun.wr
  exact h1.parts.setLeaf.forceAbort

theorem State.Keeps.journalStart {u : Nat} (h : σ.Keeps s) : σ.Keeps (s.journalStart u) := .ite h h.journal

theorem State.Keeps.runStart {u : Nat} {late : Option (Fin 16 × Fin 16)} (h : σ.Keeps s) : σ.Keeps (runStart u late s) := by
  unfold Machine.runStart
  extract_lets us ls accum s1 s2
  have h1 : σ.Keeps s1 := h.setUnit
  have h2 : σ.Keeps s2 := h1.foldl fun _ _ h => h.beginRun
  split
  · exact h
  · extract_lets cancelled s3
    have h3 : σ.Keeps s3 := .ite (h2.foldl fun _ _ h => h.ownAbort) h2
    split
    · exact h
    · split
      · exact h1.endLate
      · exact h3.journalStart.occursStart

theorem State.Keeps.unitAbort {u : Nat} (h : σ.Keeps s) : σ.Keeps (unitAbort u s).1 :=
  .ite_fst h (.ite_fst h (h.foldl fun _ _ h => h.askAbort))

theorem State.Keeps.unitJump {u : Nat} (h : σ.Keeps s) : σ.Keeps (unitJump u s).1 :=
  .ite_fst h (.ite_fst h (.ite_fst h (.ite_fst h (.ite_fst h h.setUnit))))

theorem State.Keeps.unitClear {u : Nat} (h : σ.Keeps s) : σ.Keeps (unitClear u s).1 :=
  .ite_fst h (.ite_fst h (.ite_fst (h.foldl fun _ _ h => h.wr) h))

theorem State.Keeps.hostJumpLatch {u : Nat} (h : σ.Keeps s) : σ.Keeps (hostJumpLatch u s) := by
  unfold Machine.hostJumpLatch
  split
  · exact h
  · split
    · exact h
    · extract_lets _ s1
      have h1 : σ.Keeps s1 := h.setUnit
      exact h1.foldl fun _ _ h => h.latchJump.raiseInt

theorem State.Keeps.applyDesc {id d : Nat} (h : σ.Keeps s) : σ.Keeps (s.applyDesc id d) := by
  unfold State.applyDesc
  extract_lets s1 _ s2 _ s3
  have h1 : σ.Keeps s1 := h.setDesc
  have h2 : σ.Keeps s2 := h1.staged
  have h3 : σ.Keeps s3 := by
    unfold s3
    split
    · exact h2.parts
    · exact h2
  exact .ite h3.flag h3

theorem State.Keeps.strWrite {addr : Nat} {data : List Byte} (h : σ.Keeps s) : σ.Keeps (strWrite addr data s).1.1 := by
  unfold Machine.strWrite
  extract_lets off ids w st submits newDesc staged _ s1
  have h1 : σ.Keeps s1 := h.foldl fun _ _ h => h.staged
  split
  · exact h.staged
  · exact h1.foldl fun _ _ h => h.applyDesc

/-! ### The micro-engine -/

theorem State.Keeps.evalCond {l : Nat} {d : Disp} {c : Ctx} {t cond : Nat} (h : σ.Keeps s) : σ.Keeps (s.evalCond l d c t cond).1 :=
  .ite_fst h (.ite_fst ((Keeps.ite h.diverge h).setLeaf) (((Keeps.ite h.diverge h).setLeaf).journal))

theorem State.Keeps.lateAct {l : Nat} {d : Disp} {t : Nat} (h : σ.Keeps s) : σ.Keeps (s.lateAct l d t) := by
  unfold State.lateAct
  extract_lets s1
  have h1 : σ.Keeps s1 := h.bump
  exact .ite h1.journalFault.vecAbort h1

theorem State.Keeps.commitAct {l : Nat} {d : Disp} {t : Nat} {a : VEff} (h : σ.Keeps s) : σ.Keeps (s.commitAct l d t a) := by
  unfold State.commitAct
  extract_lets x
  split
  · split
    · exact h.setLeaf
    · exact h.setLeaf
    · exact .ite h.lateAct h.setLeaf
  · split
    · split
      · exact .ite h.setLeaf h
      · exact h
    · exact .ite h.stackFault h.pushLoopb
    · exact h.lateAct

theorem State.Keeps.doneAct {l : Nat} {d : Disp} {t : Nat} (h : σ.Keeps s) : σ.Keeps (s.doneAct l d t) := h.setLeaf

theorem State.Keeps.vectorActionDeadline {l : Nat} (h : σ.Keeps s) : σ.Keeps (vectorActionDeadline l s) := by
  unfold Machine.vectorActionDeadline
  extract_lets x
  split
  · exact h
  · split
    · extract_lets dl s0 s1 e
      have h0 : σ.Keeps s0 := h.goto
      have h1 : σ.Keeps s1 := h0.setLeaf
      exact .ite (.ite h1.journalFault.vecAbort h1) h
    · exact h

theorem State.Keeps.commit {l : Nat} {r : Routine} {c : Ctx} {pv : List VEff} {pe : List Eff} {t : Nat} (h : σ.Keeps s) :
    σ.Keeps (s.commit l r c pv pe t) := by
  unfold State.commit
  extract_lets _ s1 s2 _
  have h1 : σ.Keeps s1 := h.setEng
  have h2 : σ.Keeps s2 := h1.foldl fun _ _ h => h.commitAct
  exact .ite h2.setEng h2.parts.applyEffs

theorem State.Keeps.microStep {seq l : Nat} (h : σ.Keeps s) : σ.Keeps (microStep seq l s) := by
  unfold Machine.microStep
  extract_lets g
  split
  · exact h
  · extract_lets w t0 s0 te shared operand pv pe
    have h0 : σ.Keeps s0 := h.goto
    split
    · split
      rename_i _ s2 _ e
      have h2 := (Keeps.ite_fst h0.evalCond h0).of_eq e
      split
      · exact h2.setEng
      · split
        extract_lets fault pc' c2 c3 s2' x _ s3 _ s4 stay s2'' r1 _ r1 _
        have hfault : ∀ {t}, σ.Keeps t → σ.Keeps (fault t) := fun h => .ite h.stackFault h
        have h2' : σ.Keeps s2' := h2.commit.doneAct
        have h3 : σ.Keeps s3 := h2'.setEng
        have h4 : σ.Keeps s4 := h3.setLeaf
        have h2'' : σ.Keeps s2'' := h2.commit
        split
        · exact hfault (.ite h4.flowLate h4)
        · split
          · split
            · exact hfault h2''
            · exact hfault h2''.setEng
          · exact hfault h2.setEng
    · exact h

theorem State.Keeps.routineStart {l : Nat} (h : σ.Keeps s) : σ.Keeps (routineStart l s) := by
  unfold Machine.routineStart
  extract_lets g _
  split
  · exact .ite h.setEng h
  · exact h

theorem State.Keeps.tickwait {l : Nat} (h : σ.Keeps s) : σ.Keeps (tickwait l s) := by
  unfold Machine.tickwait
  extract_lets g s0
  have h0 : σ.Keeps s0 := h.goto
  split
  · exact h
  · extract_lets w s1 r1 _
    have h1 : σ.Keeps s1 := h0.commit
    split
    · split
      · exact h1
      · exact h1.setEng
    · exact h

theorem State.Keeps.interruptTaken {l : Nat} (h : σ.Keeps s) : σ.Keeps (interruptTaken l s) := by
  unfold Machine.interruptTaken
  extract_lets g now _
  split
  · exact h
  · extract_lets t
    split
    · exact h.setEng
    · split
      · exact h.setEng
      · exact .ite h.setEng h

/-! ### The control store -/

theorem State.Keeps.lateReject {addr src reason detail : Nat} (h : σ.Keeps s) : σ.Keeps (s.lateReject addr src reason detail) :=
  h.recordReject

theorem State.Keeps.mcRefuse {code off : Nat} (h : σ.Keeps s) : σ.Keeps (s.mcRefuse code off) := by
  unfold State.mcRefuse
  extract_lets s1
  have h1 : σ.Keeps s1 := h.wrs
  exact h1.raise

theorem State.Keeps.mcLoad {src : Nat} (h : σ.Keeps s) : σ.Keeps (mcLoad src s).1 := by
  unfold Machine.mcLoad
  extract_lets a n s1 _
  have h1 : σ.Keeps s1 := h.readerUe.wake
  exact .ite_fst h.mcRefuse (.ite_fst h.mcRefuse h1.parts.wr)

theorem State.Keeps.storeImage {b : List Byte} (h : σ.Keeps s) : σ.Keeps (s.storeImage b) := by
  unfold State.storeImage
  extract_lets _ s1 s2 s3 s4
  have h1 : σ.Keeps s1 := h.parts
  have h2 : σ.Keeps s2 := h1.wrs
  have h3 : σ.Keeps s3 := h2.wrs
  have h4 : σ.Keeps s4 := h3.parts
  exact h4.journal.raise

theorem State.Keeps.mcLoadComplete (h : σ.Keeps s) : σ.Keeps (mcLoadComplete s) := by
  unfold Machine.mcLoadComplete
  split
  · exact h
  · split
    · exact h.storeImage
    · extract_lets _ s1
      have h1 : σ.Keeps s1 := h.parts.wrs
      exact h1.mcRefuse.lateReject

theorem State.Keeps.wrOtpKey {data : Nat} (h : σ.Keeps s) : σ.Keeps (wrOtpKey s data).1 := h.parts

theorem State.Keeps.otpCommand {cmd slot : Nat} (h : σ.Keeps s) : σ.Keeps (s.otpCommand cmd slot).1 :=
  .ite_fst (.ite_fst h h.parts.wr) (.ite_fst (.ite_fst h h.wr) (.ite_fst (.ite_fst h h.wr) h))

theorem State.Keeps.wrOtpCmd {data : Nat} (h : σ.Keeps s) : σ.Keeps (wrOtpCmd s data).1 := .ite_fst h.parts.otpCommand h

theorem State.Keeps.otpKeyExpire (h : σ.Keeps s) : σ.Keeps (otpKeyExpire s) := by
  unfold Machine.otpKeyExpire
  split
  · exact h
  · split
    · extract_lets u _
      have hu : σ.Keeps u := h.goto
      exact hu.parts
    · exact h

theorem State.Keeps.wrMcStatus {data : Nat} (h : σ.Keeps s) : σ.Keeps (wrMcStatus s data).1 := by
  unfold Machine.wrMcStatus
  extract_lets s1
  have h1 : σ.Keeps s1 := .ite h.unflag.unflag h
  exact .ite h1.unflag h1

/-! ### The mount image -/

theorem State.Keeps.mntRefuse {code off sec : Nat} (h : σ.Keeps s) : σ.Keeps (s.mntRefuse code off sec) := by
  unfold State.mntRefuse
  extract_lets s1
  have h1 : σ.Keeps s1 := h.wrs
  exact h1.raise

theorem State.Keeps.mountWrite {src : Nat} (h : σ.Keeps s) : σ.Keeps (mountWrite src s).1 := by
  unfold Machine.mountWrite
  split
  · exact h.mntRefuse
  · exact h.calCancel.readerUe.wake.parts.wr

theorem State.Keeps.parkAll (h : σ.Keeps s) : σ.Keeps s.parkAll := h.parts

theorem Table.wf_map_value {α β : Type} (t : Table α) (g : Nat × α → β) (h : Table.wf t = true) :
    Table.wf (t.map fun e => (e.1, g e)) = true := by
  suffices H : ∀ n, Table.rising n t = true → Table.rising n (t.map fun e => (e.1, g e)) = true from H 0 h
  clear h
  induction t with
  | nil => exact fun _ h => h
  | cons e t ih =>
    intro n h
    simp only [Table.rising, List.map_cons, Bool.and_eq_true, decide_eq_true_eq] at h ⊢
    exact ⟨h.1, ih _ h.2⟩

theorem State.Keeps.unplanAll (h : σ.Keeps s) : σ.Keeps s.unplanAll :=
  h.strands fun ht => Table.wf_filter _ _ (Table.wf_map_value _ _ ht)

theorem State.Keeps.applyImage {g : MntImg} (h : σ.Keeps s) : σ.Keeps (s.applyImage g) := by
  unfold State.applyImage
  extract_lets _ _ s1 s2 s3
  have h1 : σ.Keeps s1 := Keeps.parts (h.regs (Table.wf_filter _ _))
  have h2 : σ.Keeps s2 := h1.wrs
  have h3 : σ.Keeps s3 := h2.parkAll.unplanAll
  exact h3.journal.raise

theorem State.Keeps.mountFails {code off sec : Nat} (h : σ.Keeps s) : σ.Keeps (s.mountFails code off sec) := by
  unfold State.mountFails
  extract_lets _ s1
  have h1 : σ.Keeps s1 := h.parts.wrs
  exact h1.mntRefuse.lateReject

theorem State.Keeps.mountComplete {eeprom : Option Nat} (h : σ.Keeps s) : σ.Keeps (mountComplete eeprom s) := by
  unfold Machine.mountComplete
  split
  · exact h
  · split
    · exact h.mountFails
    · exact .ite h.mountFails (.ite h.applyImage.readLbid h)

theorem State.Keeps.unmountWrite (h : σ.Keeps s) : σ.Keeps (unmountWrite s).1 := .ite_fst h h.calCancel.wrs.parts.wrs

theorem State.Keeps.wrMntCtl {src data : Nat} (h : σ.Keeps s) : σ.Keeps (wrMntCtl src s data).1 :=
  .ite_fst h (.ite_fst h.mountWrite (.ite_fst h.unmountWrite h))

theorem State.Keeps.discardPlan (h : σ.Keeps s) : σ.Keeps s.discardPlan := by
  unfold State.discardPlan
  extract_lets _ s1
  have h1 : σ.Keeps s1 := h.parts
  exact h1.unplanAll.wrs

theorem State.Keeps.unmountComplete (h : σ.Keeps s) : σ.Keeps (unmountComplete s) := by
  unfold Machine.unmountComplete
  split
  · extract_lets s1 s2 _ s3
    have h1 : σ.Keeps s1 := h.foldl fun _ _ h => h.acqStop
    have h2 : σ.Keeps s2 := h1.dcOff.parkAll.discardPlan
    have h3 : σ.Keeps s3 := h2.parts
    exact h3.wr.raise
  · exact h

theorem State.Keeps.wrAcqCfg {n data : Nat} (h : σ.Keeps s) : σ.Keeps (wrAcqCfg n s data).1 :=
  .ite_fst h (h.acqSetup (fun _ _ h => h.wrs))

theorem State.Keeps.wrAcqTrig {n data : Nat} (h : σ.Keeps s) : σ.Keeps (wrAcqTrig n s data).1 :=
  .ite_fst h (h.acqSetup (fun _ _ h => h.wrs))

/-! ### Calibration -/

theorem State.Keeps.setLive {i : Nat} {v : Int} (h : σ.Keeps s) : σ.Keeps (s.setLive i v) := by
  unfold State.setLive
  split
  exact .ite h.wr h.parts

theorem State.Keeps.slewTrims (h : σ.Keeps s) : σ.Keeps s.slewTrims := .ite h.parts ((h.foldl fun _ _ h => .ite h h.setLive).parts)

theorem State.Keeps.idleDacs (h : σ.Keeps s) : σ.Keeps s.idleDacs := h.foldl fun _ _ h => .ite h h.latchTrims

theorem State.Keeps.leafReading {l : Nat} {t : Option Int} (h : σ.Keeps s) : σ.Keeps (s.leafReading l t) := by
  unfold State.leafReading
  extract_lets fz keep _ sp mine fr
  split
  · exact h.parts.wrs
  · exact .ite h h.parts.wrs

theorem State.Keeps.followExtrap (h : σ.Keeps s) : σ.Keeps s.followExtrap := h.wr.foldl fun _ _ h => .ite h h.raise

theorem State.Keeps.followDue (h : σ.Keeps s) : σ.Keeps s.followDue := by
  unfold State.followDue
  extract_lets f due old s1 s2 _
  have h1 : σ.Keeps s1 := h.wr
  have h2 : σ.Keeps s2 := h1.flag
  exact .ite (.ite h1 h2.raise) h1.parts

theorem State.Keeps.calAccept {proc : Nat} {auto : Bool} (h : σ.Keeps s) : σ.Keeps (s.calAccept proc auto) := h.parts.wr

theorem State.Keeps.calStart {proc : Nat} (h : σ.Keeps s) : σ.Keeps (calStart proc s).1 := .ite_fst h (.ite_fst h.wr h.calAccept)

theorem State.Keeps.calDelete {slot : Nat} (h : σ.Keeps s) : σ.Keeps (calDelete slot s).1 := .ite_fst h h.parts

theorem State.Keeps.calRescan {e : Option Nat} (h : σ.Keeps s) : σ.Keeps (calRescan e s).1 := .ite_fst h h.readLbid

theorem State.Keeps.wrCalCtl {e : Option Nat} {data : Nat} (h : σ.Keeps s) : σ.Keeps (wrCalCtl e s data).1 := by
  unfold Machine.wrCalCtl
  split
  · exact h
  · exact .ite_fst h.calStart (.ite_fst h.calCancel (.ite_fst h.calDelete (.ite_fst h.calRescan h)))

theorem State.Keeps.calAutoStart (h : σ.Keeps s) : σ.Keeps (calAutoStart s) := by
  unfold Machine.calAutoStart
  split
  · exact .ite h.calAccept h
  · exact h

theorem State.Keeps.followAuto (h : σ.Keeps s) : σ.Keeps s.followAuto := by
  unfold State.followAuto
  split
  · split
    · exact h
    · exact h.parts
  · exact h.parts

theorem State.Keeps.freeLocket {k : Nat} (h : σ.Keeps s) : σ.Keeps (s.freeLocket k) := h.parts.wrs.lktRefresh

theorem State.Keeps.calPins (h : σ.Keeps s) : σ.Keeps s.calPins := h.foldl fun _ _ h => h.setLeaf

theorem State.Keeps.calBegin (h : σ.Keeps s) : σ.Keeps s.calBegin := by
  unfold State.calBegin
  split
  · exact .ite h.parts.wr.calPins h
  · exact h

theorem State.Keeps.calTick (h : σ.Keeps s) : σ.Keeps s.calTick := by
  unfold State.calTick
  extract_lets gone _ s1
  have h1 : σ.Keeps s1 := h.parts.foldl fun _ _ h => h.freeLocket
  exact h1.calBegin.slewTrims.idleDacs.followExtrap.followDue.followAuto

theorem State.Keeps.calResult {outcome reason pin kind sub value slot : Nat} (h : σ.Keeps s) :
    σ.Keeps (s.calResult outcome reason pin kind sub value slot) :=
  h.wrs

theorem State.Keeps.calEnd {failed : Bool} (h : σ.Keeps s) : σ.Keeps (s.calEnd failed) := h.parts.wr.parkPins

theorem State.Keeps.calPrecond {reason pin value : Nat} (h : σ.Keeps s) : σ.Keeps (s.calPrecond reason pin value) := by
  unfold State.calPrecond
  extract_lets s1
  have h1 : σ.Keeps s1 := h.calEnd.calResult
  exact h1.bump.raise

theorem State.Keeps.calRejected {reason pin kind sub : Nat} {value : Int} (h : σ.Keeps s) :
    σ.Keeps (s.calRejected reason pin kind sub value) := by
  unfold State.calRejected
  extract_lets s1
  have h1 : σ.Keeps s1 := h.calEnd.calResult
  exact h1.bump.raise

theorem State.Keeps.writeLocket {rep : Option Nat} {ts v : List Int} (h : σ.Keeps s) : σ.Keeps (s.writeLocket rep ts v) := by
  unfold State.writeLocket
  extract_lets k s1 t _ s2 s3 s4
  have h1 : σ.Keeps s1 := h.freeLocket
  have h2 : σ.Keeps s2 := h1.parts.wrs
  have h3 : σ.Keeps s3 := by
    unfold s3
    split
    · exact h2.freeLocket
    · exact h2.lktRefresh
  have h4 : σ.Keeps s4 := h3.calEnd.calResult
  exact h4.raise

theorem State.Keeps.calWrite {c : CalIn} {ts v : List Int} (h : σ.Keeps s) : σ.Keeps (s.calWrite c ts v) :=
  .ite h.calCancel (.ite h.writeLocket h)

theorem State.Keeps.calSteps {c : CalIn} (h : σ.Keeps s) : σ.Keeps (s.calSteps c) := by
  unfold State.calSteps
  split
  · extract_lets s1
    have h1 : σ.Keeps s1 := h.flag
    exact h1.raise.calRejected
  · split
    · exact h.calCancel
    · extract_lets ts v _
      split
      · exact h.calRejected
      · split
        · exact h.calRejected
        · exact h.calRejected
        · exact .ite h.parts.wr h.calWrite

theorem State.Keeps.calComplete {c : CalIn} (h : σ.Keeps s) : σ.Keeps (calComplete c s) := by
  unfold Machine.calComplete
  split
  · exact h
  · split
    · exact h.calPrecond
    · extract_lets s1
      have h1 : σ.Keeps s1 := h.wr
      exact .ite h1 h1.calSteps
  · exact h.calWrite
  · exact h.calSteps

theorem State.Keeps.wrCalCfg {data : Nat} (h : σ.Keeps s) : σ.Keeps (wrCalCfg s data).1 := .ite_fst h h.wrs

theorem State.Keeps.wrCalPartner {p data : Nat} (h : σ.Keeps s) : σ.Keeps (wrCalPartner p s data).1 := .ite_fst h (.ite_fst h h.wr)

/-! ### The placement planner -/

theorem State.Keeps.planRefuse {code entry strand : Nat} (h : σ.Keeps s) : σ.Keeps (s.planRefuse code entry strand) := by
  unfold State.planRefuse
  extract_lets s1
  have h1 : σ.Keeps s1 := h.wrs
  exact h1.raise

theorem State.Keeps.stopPrefetch (h : σ.Keeps s) : σ.Keeps s.stopPrefetch := h.parts

theorem State.Keeps.planWrite {src : Nat} {thenCommit : Bool} (h : σ.Keeps s) : σ.Keeps (planWrite src thenCommit s).1 := by
  unfold Machine.planWrite
  split
  · exact h.planRefuse
  · exact h.stopPrefetch.readerUe.wake.parts.wrs

theorem State.Keeps.dropNext (h : σ.Keeps s) : σ.Keeps s.dropNext := h.stopPrefetch.parts.wr

theorem State.Keeps.planCommit (h : σ.Keeps s) : σ.Keeps (planCommit s).1 := by
  unfold Machine.planCommit
  split
  · exact h
  · split
    · exact h
    · split
      · exact .ite h.dropNext h
      · exact h.parts

theorem State.Keeps.planCancel (h : σ.Keeps s) : σ.Keeps (planCancel s).1 := h.dropNext

theorem State.Keeps.wrPlCtl {src data : Nat} (h : σ.Keeps s) : σ.Keeps (wrPlCtl src s data).1 :=
  .ite_fst h (.ite_fst h.planCancel (.ite_fst h.planWrite (.ite_fst h.planCommit h)))

theorem State.Keeps.prefetch {p : Plan} (h : σ.Keeps s) : σ.Keeps (s.prefetch p) :=
  h.foldl fun _ _ h => h.foldl fun _ _ h => h.setCache.askFetch

theorem State.Keeps.planFails {p : Plan} {code entry strand : Nat} (h : σ.Keeps s) : σ.Keeps (s.planFails p code entry strand) :=
  h.dropNext.planRefuse.lateReject

theorem State.Keeps.planReady {p : Plan} (h : σ.Keeps s) : σ.Keeps (s.planReady p) := by
  unfold State.planReady
  extract_lets _ s1 s2 s3
  have h1 : σ.Keeps s1 := h.parts.wr
  have h2 : σ.Keeps s2 := h1.bump
  have h3 : σ.Keeps s3 := h2.raise.prefetch
  split
  · split
    · rename_i _ s4 _ _ e
      have h4 := h3.planCommit.of_eq e
      exact h4.lateReject
    · rename_i _ s4 _ _ e
      have h4 := h3.planCommit.of_eq e
      exact h4
  · exact h3

theorem State.Keeps.plPlanned {r : PlanIn} (h : σ.Keeps s) : σ.Keeps (plPlanned r s) := by
  unfold Machine.plPlanned
  split
  · exact h
  · split
    · exact h
    · split
      · exact h.planFails
      · exact h.planReady

theorem State.Keeps.takeLayout {p : Plan} {l : Nat} {lay : List (Nat × Nat × Nat)} (h : σ.Keeps s) : σ.Keeps (s.takeLayout p l lay) :=
  h.setCache.foldl fun _ _ h => h.askFetch

theorem State.Keeps.placeStrand {x : PStrand} (h : σ.Keeps s) : σ.Keeps (s.placeStrand x) := h.setDesc

theorem State.Keeps.servedNow (h : σ.Keeps s) : σ.Keeps s.servedNow := h.wr

theorem State.Keeps.applyPlan {p : Plan} (h : σ.Keeps s) : σ.Keeps (s.applyPlan p) := by
  unfold State.applyPlan
  extract_lets s1 s2 others cur _
  have h1 : σ.Keeps s1 := h.foldl fun _ _ h => h.placeStrand
  have h2 : σ.Keeps s2 := h1.foldl fun _ _ h => h.takeLayout
  exact h2.parts.pathLatch.servedNow.wrs

theorem State.Keeps.plTick (h : σ.Keeps s) : σ.Keeps s.plTick := by
  unfold State.plTick
  split
  · exact .ite h.applyPlan h
  · exact h

theorem State.Keeps.plLoaded (h : σ.Keeps s) : σ.Keeps (plLoaded s) := by
  unfold Machine.plLoaded
  split
  · extract_lets s1
    have h1 : σ.Keeps s1 := h.wr
    exact h1.raise
  · exact h

theorem State.Keeps.replicaCopyDone {st : Nat} (h : σ.Keeps s) : σ.Keeps (replicaCopyDone st s) := .ite h.setDesc h

theorem State.Keeps.unplanHit {st : Nat} (h : σ.Keeps s) : σ.Keeps (s.unplanHit st) := h.setDesc.flag

theorem State.Keeps.staleHit {a n : Nat} (h : σ.Keeps s) : σ.Keeps (s.staleHit a n) := by
  unfold State.staleHit
  split
  · exact h
  · exact .ite h.parts h

theorem State.Keeps.homeDeparted {m : Nat} (h : σ.Keeps s) : σ.Keeps (s.homeDeparted m) :=
  (((Keeps.ite h h.failover).foldl fun _ _ h => h.setDesc).foldl fun _ _ h => h.setDesc).reask

/-! ### The raster engine -/

theorem State.Keeps.journalRaster {kind frame layer low addr : Nat} (h : σ.Keeps s) :
    σ.Keeps (s.journalRaster kind frame layer low addr) :=
  h.journal

theorem State.Keeps.fetchLate (h : σ.Keeps s) : σ.Keeps s.fetchLate := by
  unfold State.fetchLate
  extract_lets s1 _
  have h1 : σ.Keeps s1 := h.bump.flag
  exact .ite h1 h1.parts.raise

theorem State.Keeps.pixelUe {n a len : Nat} (h : σ.Keeps s) : σ.Keeps (s.pixelUe n a len) := by
  unfold State.pixelUe
  split
  · split
    · exact h
    · extract_lets s1 _
      have h1 : σ.Keeps s1 := h.readerUe
      exact h1.parts
  · exact h

theorem State.Keeps.layerPixel {n x y c : Nat} (h : σ.Keeps s) : σ.Keeps (s.layerPixel n x y c).1 := by
  unfold State.layerPixel
  split
  · extract_lets fmt a
    split
    · exact h.pixelUe.fetchLate
    · split
      · exact h.fetchLate
      · split
        exact h
  · exact h

theorem State.Keeps.composePixel {x y : Nat} (h : σ.Keeps s) : σ.Keeps (s.composePixel x y).1 := by
  unfold State.composePixel
  split
  rename_i _ s0 _ e
  have h0 := h.layerPixel.of_eq e
  split
  rename_i _ s0' _ e
  have h0' := h0.layerPixel.of_eq e
  exact h0'.layerPixel

theorem State.Keeps.retire {n : Nat} (h : σ.Keeps s) : σ.Keeps (s.retire n) := h.raise

theorem State.Keeps.commitLayer {n : Nat} (h : σ.Keeps s) : σ.Keeps (s.commitLayer n) := (Keeps.ite h.retire h).wrs

theorem State.Keeps.applyCommit (h : σ.Keeps s) : σ.Keeps s.applyCommit := h.commitLayer.commitLayer.commitLayer.wrs

theorem State.Keeps.rasEnd (h : σ.Keeps s) : σ.Keeps s.rasEnd := by
  unfold State.rasEnd
  split
  · exact h
  · extract_lets _ s1
    have h1 : σ.Keeps s1 := h.parts.wrs
    exact h1.foldl fun _ _ h => .ite h.retire h

theorem State.Keeps.rsCommit (h : σ.Keeps s) : σ.Keeps (rsCommit s).1 := by
  unfold Machine.rsCommit
  split
  · exact h.wr
  · extract_lets s1 s2 r
    have h1 : σ.Keeps s1 := h.wr
    have h2 : σ.Keeps s2 := h1.wr
    exact .ite_fst h1.applyCommit (.ite_fst h2.parts h2)

theorem State.Keeps.wrRsCommit {data : Nat} (h : σ.Keeps s) : σ.Keeps (wrRsCommit s data).1 := .ite_fst h.rsCommit h

theorem State.Keeps.rsStop (h : σ.Keeps s) : σ.Keeps (rsStop s).1 := .ite_fst h.parts h

theorem State.Keeps.wrRsCtl {data : Nat} (h : σ.Keeps s) : σ.Keeps (wrRsCtl s data).1 := .ite_fst h.rsStop h

theorem State.Keeps.wrRsCfg {data : Nat} (h : σ.Keeps s) : σ.Keeps (wrRsCfg s data).1 :=
  .ite_fst h (.ite_fst h (.ite_fst h (.ite_fst h h.wrs)))

theorem State.Keeps.wrRsStatic {data : Nat} (h : σ.Keeps s) : σ.Keeps (wrRsStatic s data).1 := .ite_fst h h.wrs

theorem State.Keeps.wrShadow {ok : Bool} {put : State → State} (h : σ.Keeps s) (hput : ∀ t, σ.Keeps t → σ.Keeps (put t)) :
    σ.Keeps (wrShadow ok put s).1 :=
  .ite_fst h (.ite_fst h (hput _ h))

theorem State.Keeps.wrRsBg {data : Nat} (h : σ.Keeps s) : σ.Keeps (wrRsBg s data).1 := h.wrShadow (fun _ h => h.wr)

theorem State.Keeps.wrRsLCfg {n data : Nat} (h : σ.Keeps s) : σ.Keeps (wrRsLCfg n s data).1 := h.wrShadow (fun _ h => h.wrs)

theorem State.Keeps.wrRsLPos {n data : Nat} (h : σ.Keeps s) : σ.Keeps (wrRsLPos n s data).1 := h.wrShadow (fun _ h => h.wrs)

theorem State.Keeps.wrRsLBase {n data : Nat} (h : σ.Keeps s) : σ.Keeps (wrRsLBase n s data).1 := h.wrShadow (fun _ h => h.wr)

theorem State.Keeps.wrRsLStride {n data : Nat} (h : σ.Keeps s) : σ.Keeps (wrRsLStride n s data).1 := h.wrShadow (fun _ h => h.wr)

theorem State.Keeps.markTorn {layer a : Nat} (h : σ.Keeps s) : σ.Keeps (s.markTorn layer a) := by
  unfold State.markTorn
  extract_lets f _ s1 s2 s3
  have h1 : σ.Keeps s1 := h.parts.flag
  have h2 : σ.Keeps s2 := h1.bump
  have h3 : σ.Keeps s3 := .ite h2 h2.wrs
  exact .ite h h3.raise.journalRaster

theorem State.Keeps.acceptRaster {u : Nat} (h : σ.Keeps s) : σ.Keeps (s.acceptRaster u) := by
  unfold State.acceptRaster
  extract_lets s1
  have h1 : σ.Keeps s1 := h.acceptStart
  exact h1.foldl fun _ _ h => h.setLeaf.setCache

theorem State.Keeps.startWrite {u : Nat} (h : σ.Keeps s) : σ.Keeps (startWrite u s).1 := by
  unfold Machine.startWrite
  split
  · split
    · exact h
    · split
      · exact h
      · exact h.acceptRaster
  · exact h.unitStart

theorem State.Keeps.rasBegin (h : σ.Keeps s) : σ.Keeps s.rasBegin := h.parts.wrs

theorem State.Keeps.unitRunStart {u : Nat} {late : Option (Fin 16 × Fin 16)} (h : σ.Keeps s) : σ.Keeps (unitRunStart u late s) := by
  unfold Machine.unitRunStart
  extract_lets s1
  have h1 : σ.Keeps s1 := h.runStart
  exact .ite h1.rasBegin h1

theorem State.Keeps.rasAddLine {t : Nat} (h : σ.Keeps s) : σ.Keeps (s.rasAddLine t) := .ite h.parts.wr h.parts

theorem State.Keeps.rasSync (h : σ.Keeps s) : σ.Keeps s.rasSync := .ite h.parts.wr.wr h.parts.wr

theorem State.Keeps.rasFrame {f : Nat} (h : σ.Keeps s) : σ.Keeps (s.rasFrame f) := by
  unfold State.rasFrame
  extract_lets s1 s2 _
  have h1 : σ.Keeps s1 := h.wr
  have h2 : σ.Keeps s2 := .ite h1.journalRaster h1
  exact h2.parts

theorem State.Keeps.rasNext {t : Nat} (h : σ.Keeps s) : σ.Keeps (s.rasNext t).1 := by
  unfold State.rasNext
  exact .ite_fst h.rasFrame (.ite_fst h (.ite_fst (.ite_fst h h) (.ite_fst (.ite_fst h (.ite_fst h.rasAddLine h.rasSync))
    (.ite_fst (.ite_fst h h) (.ite_fst h h.rasFrame)))))

theorem State.Keeps.rasAdvance {t : Nat} (h : σ.Keeps s) : σ.Keeps (s.rasAdvance t) := by
  unfold State.rasAdvance
  split
  rename_i _ s1 _ e
  have h1 := h.rasNext.of_eq e
  extract_lets m de hact hs vs
  split
  rename_i _ s0 _ e
  have h0 := (Keeps.ite_fst h1.composePixel h1).of_eq e
  exact h0.parts

theorem State.Keeps.frontPorchStart (h : σ.Keeps s) : σ.Keeps (frontPorchStart s) := by
  unfold Machine.frontPorchStart
  extract_lets l x s0 applies s1 div still ext m _
  have h0 : σ.Keeps s0 := h.goto
  have h1 : σ.Keeps s1 := .ite h0.applyCommit h0
  exact .ite h1.parts.wr h

theorem State.Keeps.teEdge {at_ : Nat} (h : σ.Keeps s) : σ.Keeps (teEdge at_ s) := by
  unfold Machine.teEdge
  extract_lets t r s0
  have h0 : σ.Keeps s0 := h.goto
  split
  · split
    · exact h0.parts.wr
    · split
      · exact .ite h0.parts.wr h
      · exact h
  · exact h

theorem State.Keeps.teTimeout (h : σ.Keeps s) : σ.Keeps (teTimeout s) := by
  unfold Machine.teTimeout
  extract_lets r m
  split
  · extract_lets t u s1
    have hu : σ.Keeps u := h.goto
    have h1 : σ.Keeps s1 := hu.parts.wrs
    exact .ite h1.raise.journalRaster h
  · exact h

theorem State.Keeps.rasterBoundary {l : Nat} (h : σ.Keeps s) : σ.Keeps (rasterBoundary l s) := by
  unfold Machine.rasterBoundary
  extract_lets x le s0
  have h0 : σ.Keeps s0 := h.goto
  exact .ite h0.setLeaf.latchTrims h

theorem State.Keeps.rasterIssue {l : Nat} (h : σ.Keeps s) : σ.Keeps (rasterIssue l s) := by
  unfold Machine.rasterIssue
  extract_lets x set mine s0 s1 x1 s2 s3
  have h0 : σ.Keeps s0 := h.goto
  have h1 : σ.Keeps s1 := .ite h0.rasAdvance h0
  have h2 : σ.Keeps s2 := h1.setLeaf
  have h3 : σ.Keeps s3 := h2.feedPin
  split
  · exact .ite h.goto.endRun.rasEnd (.ite h.goto.wr.journalFault.ownAbort (.ite h h3.playPeriod))
  · exact h

theorem State.Keeps.leafBoundary {l par : Nat} (h : σ.Keeps s) : σ.Keeps (leafBoundary l par s) := .ite h.rasterBoundary h.beadBoundary

theorem State.Keeps.leafIssue {l : Nat} (h : σ.Keeps s) : σ.Keeps (leafIssue l s) := .ite h.rasterIssue h.vectorIssue

theorem State.Keeps.leafAbort {l : Nat} (h : σ.Keeps s) : σ.Keeps (leafAbort l s) := by
  unfold Machine.leafAbort
  extract_lets s1
  have h1 : σ.Keeps s1 := h.abortTakeEffect
  exact .ite h1.rasEnd h1

/-! ### The DRAM controller -/

theorem State.Keeps.spoil {burst : Nat} (h : σ.Keeps s) : σ.Keeps (s.spoil burst) := h.dramParts.undefine

theorem State.Keeps.soften {burst : Nat} (h : σ.Keeps s) : σ.Keeps (s.soften burst) := h.dramParts

theorem State.Keeps.scrubPass {soft bad : List (Fin 268435456)} (h : σ.Keeps s) : σ.Keeps (scrubPass soft bad s) := by
  unfold Machine.scrubPass
  extract_lets s1 s2 _ s3
  have h1 : σ.Keeps s1 := (h.foldl fun _ _ h => h.soften).foldl fun _ _ h => h.spoil
  have h2 : σ.Keeps s2 := h1.foldl fun _ _ h => .ite h h.recordCe
  have h3 : σ.Keeps s3 := h2.dramParts
  exact .ite (h3.foldl fun _ _ h => .ite h h.recordUe) h1

theorem State.Keeps.caAlert {k : Nat} {again : Bool} (h : σ.Keeps s) : σ.Keeps (caAlert k again s) :=
  .ite h (.ite h.dramParts.bump.markFaulty h.dramParts.bump)

theorem State.Keeps.alertNDeassert {k : Nat} (h : σ.Keeps s) : σ.Keeps (alertNDeassert k s) := h.dramParts

theorem State.Keeps.wrDmCtl {data : Nat} (h : σ.Keeps s) : σ.Keeps (wrDmCtl s data).1 :=
  .ite_fst (.ite_fst h (.ite_fst h h.dramParts)) h

theorem State.Keeps.undefineSc {mask : Nat} (h : σ.Keeps s) : σ.Keeps (s.undefineSc mask) := h.dramMem (Table.wf_filter _ _)

theorem State.Keeps.trained {k : Nat} {pass : Bool} (h : σ.Keeps s) : σ.Keeps (s.trained k pass) := by
  unfold State.trained
  split
  · extract_lets s1
    have h1 : σ.Keeps s1 := h.wrs
    exact .ite h1.tellAll h1
  · exact .ite h.wr h.markFaulty

theorem State.Keeps.dmRetrainDone {pass : Nat} (h : σ.Keeps s) : σ.Keeps (dmRetrainDone pass s) := by
  unfold Machine.dmRetrainDone
  split
  · exact h
  · extract_lets _ s1
    have h1 : σ.Keeps s1 := h.dramParts.undefineSc
    exact h1.foldl fun _ _ h => h.trained

theorem State.Keeps.scTemp {k : Nat} {ts : List Int} (h : σ.Keeps s) : σ.Keeps (s.scTemp k ts) :=
  .ite h.wrs.dramParts.raise h.wrs.dramParts

theorem State.Keeps.dramTempRead {ts : List Int} (h : σ.Keeps s) : σ.Keeps (dramTempRead ts s) :=
  (h.dramParts.foldl fun _ _ h => h.raise).foldl fun _ _ h => h.scTemp

theorem State.Keeps.dramRefresh {k : Nat} (h : σ.Keeps s) : σ.Keeps (dramRefresh k s) := .ite h h.goto.dramParts

theorem State.Keeps.selfRefreshEntry (h : σ.Keeps s) : σ.Keeps (selfRefreshEntry s) := .ite h.goto.wr h

theorem State.Keeps.remap {old : List (Nat × Nat × Nat)} (h : σ.Keeps s) : σ.Keeps (s.remap old) :=
  h.foldl fun _ _ h => .ite h h.undefine.undefine

theorem State.Keeps.wrDmRegion {data : Nat} (h : σ.Keeps s) : σ.Keeps (wrDmRegion s data).1 :=
  .ite_fst h (.ite_fst h (.ite_fst h h.wrs.remap))

theorem State.Keeps.wrDmMap {data : Nat} (h : σ.Keeps s) : σ.Keeps (wrDmMap s data).1 := .ite_fst h (.ite_fst h h.wrs.remap)

theorem State.Keeps.wrDmSrIdle {data : Nat} (h : σ.Keeps s) : σ.Keeps (wrDmSrIdle s data).1 := .ite_fst h h.wr

theorem State.Keeps.wrDmScrub {data : Nat} (h : σ.Keeps s) : σ.Keeps (wrDmScrub s data).1 := .ite_fst h h.wrs

theorem State.Keeps.bzHit {w : Nat} (h : σ.Keeps s) : σ.Keeps (s.bzHit w) := by
  unfold State.bzHit
  extract_lets s1 _
  have h1 : σ.Keeps s1 := h.bump
  exact .ite h1 h1.dramParts.raise

theorem State.Keeps.wrDmBz {w : Nat} {ok : State → Bool} {put : State → State} (h : σ.Keeps s) (hput : ∀ t, σ.Keeps t → σ.Keeps (put t)) :
    σ.Keeps (wrDmBz w ok put s).1 :=
  .ite_fst h (.ite_fst (hput _ h) h)

theorem State.Keeps.wrDmBzBase {w data : Nat} (h : σ.Keeps s) : σ.Keeps (wrDmBzBase w s data).1 := h.wrDmBz (fun _ h => h.wr)

theorem State.Keeps.wrDmBzLimit {w data : Nat} (h : σ.Keeps s) : σ.Keeps (wrDmBzLimit w s data).1 := h.wrDmBz (fun _ h => h.wr)

theorem State.Keeps.wrDmBzCfg {w data : Nat} (h : σ.Keeps s) : σ.Keeps (wrDmBzCfg w s data).1 := h.wrDmBz (fun _ h => h.wrs)

theorem State.Keeps.hostDramWrite {a : Nat} {data : List Byte} (h : σ.Keeps s) : σ.Keeps (hostDramWrite a data s).1 := by
  unfold Machine.hostDramWrite
  extract_lets n hits touched s1 s2 s3
  have h1 : σ.Keeps s1 := h.wake.dramWrite.staleHit
  have h2 : σ.Keeps s2 := h1.foldl fun _ _ h => h.unplanHit
  have h3 : σ.Keeps s3 := by
    unfold s3
    split
    · exact h2.markTorn
    · exact h2
  split
  · exact h
  · exact h3.foldl fun _ _ h => h.bzHit

theorem State.Keeps.wrDramWin {addr : Nat} {data : List Byte} (h : σ.Keeps s) : σ.Keeps (wrDramWin addr data s).1 :=
  .ite_fst h (.ite_fst h h.hostDramWrite)

/-! ### Edge time measurement -/

theorem State.Keeps.setFc {f : Nat} {x : FcSt} (h : σ.Keeps s) : σ.Keeps (s.setFc f x) := h.parts

theorem State.Keeps.fcRoll {f t : Nat} (h : σ.Keeps s) : σ.Keeps (s.fcRoll f t) := by
  unfold State.fcRoll
  extract_lets x
  split
  · exact h
  · exact .ite h.setFc h

theorem State.Keeps.fcRollAll (h : σ.Keeps s) : σ.Keeps s.fcRollAll := h.foldl fun _ _ h => h.fcRoll

theorem State.Keeps.fcMark (h : σ.Keeps s) : σ.Keeps s.fcMark := by
  unfold State.fcMark
  refine h.fcRollAll.foldl fun t f h => ?_
  split
  · exact .ite h.setFc h
  · exact h

theorem State.Keeps.refinLoss (h : σ.Keeps s) : σ.Keeps (refinLoss s) := by
  unfold Machine.refinLoss
  extract_lets _ s1 root s2
  have h1 : σ.Keeps s1 := h.parts.wr
  have h2 : σ.Keeps s2 := h1.fcRollAll.wrs.flag.fcMark
  exact .ite h1 h2.journalTime.raise

theorem State.Keeps.gateUnknown {near : Option Nat} {off : Nat} (h : σ.Keeps s) : σ.Keeps (s.gateUnknown near off) := by
  refine .ite (.ite h.parts.wr h.parts) ?_
  split
  · exact h.parts.wr
  · exact .ite h.wr h.parts.wr

theorem State.Keeps.refGateEnd {near : Option Nat} {off : Nat} (h : σ.Keeps s) : σ.Keeps (refGateEnd near off s) := by
  unfold Machine.refGateEnd
  extract_lets s0
  have h0 : σ.Keeps s0 := h.wr
  exact .ite h0.gateUnknown (.ite (.ite h0.wr h0) h0.refinLoss)

theorem State.Keeps.refinQualified (h : σ.Keeps s) : σ.Keeps (refinQualified s) := by
  unfold Machine.refinQualified
  split
  · extract_lets s1 _
    have h1 : σ.Keeps s1 := .ite h h.wr
    exact h1.parts
  · exact h

theorem State.Keeps.refRestored (h : σ.Keeps s) : σ.Keeps (refRestored s) := by
  unfold Machine.refRestored
  split
  · exact h
  · exact h.fcRollAll.parts.wrs.journalTime.raise

theorem State.Keeps.tsWrap (h : σ.Keeps s) : σ.Keeps (tsWrap s) := by
  unfold Machine.tsWrap
  extract_lets e k s1
  have h1 : σ.Keeps s1 := h.goto.wr
  exact .ite h1.journalTime.raise h

theorem State.Keeps.dllLockChange {lock : Bool} (h : σ.Keeps s) : σ.Keeps (dllLockChange lock s) := by
  unfold Machine.dllLockChange
  split
  · exact h
  · extract_lets s1 _ s2
    have h1 : σ.Keeps s1 := h.fcRollAll.wr.wrs
    have h2 : σ.Keeps s2 := .ite h1 h1.parts.flag.fcMark
    exact h2.journalTime

theorem State.Keeps.setTmuPin {p : Nat} {x : TmuPin} (h : σ.Keeps s) : σ.Keeps (s.setTmuPin p x) := h.parts

theorem State.Keeps.setPair {e : Nat} {x : PairEng} (h : σ.Keeps s) : σ.Keeps (s.setPair e x) := h.parts

theorem State.Keeps.setDrain {l : Nat} {q : List (Nat × Nat)} {d : Nat} (h : σ.Keeps s) : σ.Keeps (s.setDrain l q d) := h.parts

theorem State.Keeps.feedPairs {p dir : Nat} {x : TmuEdge} (h : σ.Keeps s) : σ.Keeps (s.feedPairs p dir x) :=
  h.foldl fun _ _ h => h.setPair

theorem State.Keeps.feedFcs {p dir t : Nat} {recorded : Bool} (h : σ.Keeps s) : σ.Keeps (s.feedFcs p dir t recorded) := by
  unfold State.feedFcs
  refine h.foldl fun t f h => ?_
  extract_lets s1 _
  have h1 : σ.Keeps s1 := h.fcRoll
  split
  · exact .ite h1.setFc h1
  · exact h1

theorem State.Keeps.tmuEdge {p : Nat} {rising : Bool} {at_ : Nat} (h : σ.Keeps s) : σ.Keeps (tmuEdge p rising at_ s) := by
  unfold Machine.tmuEdge
  extract_lets t x dir s0 l dead
  have h0 : σ.Keeps s0 := h.goto
  split
  · exact h
  · split
    · split
      · exact h
      · split
        · exact h
        · split
          extract_lets full s1 s1' s2 s3
          have h1 : σ.Keeps s1 := h0.setDrain.setTmuPin
          have h1' : σ.Keeps s1' := h0.setDrain.setTmuPin
          have h2 : σ.Keeps s2 := h1'.wr
          have h3 : σ.Keeps s3 := h2.feedTmu
          exact .ite h1.bump.feedFcs h3.feedFcs.feedPairs
    · split
      · exact h
      · split
        · exact h
        · split
          extract_lets full s1 s1' s2 s3
          have h1 : σ.Keeps s1 := h0.setDrain.setTmuPin
          have h1' : σ.Keeps s1' := h0.setDrain.setTmuPin
          have h2 : σ.Keeps s2 := h1'.wr
          have h3 : σ.Keeps s3 := h2.feedTmu
          exact .ite h1.bump.feedFcs h3.feedFcs.feedPairs

theorem State.Keeps.winEvent {e t : Nat} {delta : Int} (h : σ.Keeps s) : σ.Keeps (s.winEvent e t delta) :=
  .ite h.bump.parts.journalInput.occursWin h

theorem State.Keeps.emitPair {e : Nat} {st sp : TmuEdge} (h : σ.Keeps s) : σ.Keeps (s.emitPair e st sp) := h.bump.wrs.feedTmu.winEvent

theorem State.Keeps.unpair {e : Nat} {l : List (Option TmuEdge)} (h : σ.Keeps s) : σ.Keeps (s.unpair e l) := .ite h h.bump

theorem State.Keeps.pairAct {e : Nat} {a : TmuEdge} (h : σ.Keeps s) : σ.Keeps (s.pairAct e a) := by
  unfold State.pairAct
  extract_lets x w
  split
  · split
    · exact .ite h.setPair.emitPair h.setPair.unpair
    · exact h.setPair.unpair
  · split
    · exact .ite h.setPair.emitPair h.setPair.unpair
    · exact h.setPair.unpair

theorem State.Keeps.pairEdgeProcess {e : Nat} (h : σ.Keeps s) : σ.Keeps (pairEdgeProcess e s) := by
  unfold Machine.pairEdgeProcess
  split
  · exact h
  · exact .ite h.goto.setPair.pairAct h

theorem State.Keeps.pairPendingExpire {e : Nat} (h : σ.Keeps s) : σ.Keeps (pairPendingExpire e s) := .ite h.goto.setPair.unpair h

theorem State.Keeps.wrPairCfg {e data : Nat} (h : σ.Keeps s) : σ.Keeps (wrPairCfg e s data).1 := by
  unfold Machine.wrPairCfg
  extract_lets a b da db en s1
  have h1 : σ.Keeps s1 := h.wrs
  exact .ite_fst h (.ite_fst h (.ite_fst h (.ite_fst h (.ite_fst h (.ite h1 h1.setPair.wr)))))

theorem State.Keeps.wrPairReg {e : Nat} {ok : Nat → Bool} {put : State → Nat → State} {data : Nat} (h : σ.Keeps s)
    (hput : ∀ t a, σ.Keeps t → σ.Keeps (put t a)) :
    σ.Keeps (wrPairReg e ok put s data).1 :=
  .ite_fst h (.ite_fst (hput _ _ h) h)

theorem State.Keeps.wrTmuPin {p data : Nat} (h : σ.Keeps s) : σ.Keeps (wrTmuPin p s data).1 := .ite_fst h (.ite_fst h h.wrs.setTmuPin)

theorem State.Keeps.wrFcCfg {f data : Nat} (h : σ.Keeps s) : σ.Keeps (wrFcCfg f s data).1 := by
  unfold Machine.wrFcCfg
  extract_lets mode p dir s1
  have h1 : σ.Keeps s1 := h.wrs
  exact .ite_fst h (.ite_fst h (.ite_fst h (.ite_fst h h1.setFc)))

theorem State.Keeps.fcGateEnd {f : Nat} (h : σ.Keeps s) : σ.Keeps (fcGateEnd f s) := by
  unfold Machine.fcGateEnd
  extract_lets s0 single _
  have h0 : σ.Keeps s0 := by
    unfold s0
    split
    · exact .ite h.fcRoll h
    · exact h
  split
  · exact h
  · extract_lets t s1 s2
    have h1 : σ.Keeps s1 := h0.goto.setFc
    have h2 : σ.Keeps s2 := h1.wrs
    exact .ite (.ite h2.wr h2) h0

theorem State.Keeps.wrCdtCtl {data : Nat} (h : σ.Keeps s) : σ.Keeps (wrCdtCtl s data).1 := by
  unfold Machine.wrCdtCtl
  extract_lets p s1 u _
  have h1 : σ.Keeps s1 := h.wrs
  have hu : σ.Keeps u := h1.wrs
  exact .ite_fst h (.ite_fst h (.ite_fst (.ite_fst h hu.parts) h.wr))

theorem State.Keeps.tmuCdtDone {hits : List Nat} (h : σ.Keeps s) : σ.Keeps (tmuCdtDone hits s) := .ite h.wrs.wrs.raise h

/-! ### Power, sensors, SAFE and FAULT -/

theorem State.Keeps.showSensor {k : Nat} (h : σ.Keeps s) : σ.Keeps (s.showSensor k) := by
  unfold State.showSensor
  extract_lets put
  have hput {f : Fld} {w : Nat} : σ.Keeps (put f w) := h.wr
  refine .ite hput (.ite hput (.ite hput (.ite hput (.ite hput (.ite hput (.ite h.wr (.ite hput (.ite h.leafReading ?_))))))))
  split
  · exact h.leafReading
  · exact h

theorem State.Keeps.followImpl {k : Nat} (h : σ.Keeps s) : σ.Keeps (s.followImpl k) := by
  unfold State.followImpl
  split
  · exact h
  · extract_lets m _ s1
    have h1 : σ.Keeps s1 := h.parts.wr
    exact .ite (.ite h h1.raise) h.parts.wr

theorem State.Keeps.warn {f : Fld} {b : Bool} (h : σ.Keeps s) : σ.Keeps (s.warn f b) := .ite h.wr.raise h.wr

theorem State.Keeps.warnings (h : σ.Keeps s) : σ.Keeps s.warnings := by
  unfold State.warnings
  extract_lets s1 s2 s3 s4 s5
  have h1 : σ.Keeps s1 := h.warn
  have h2 : σ.Keeps s2 := h1.warn
  have h3 : σ.Keeps s3 := h2.warn
  have h4 : σ.Keeps s4 := h3.warn
  have h5 : σ.Keeps s5 := h4.warn
  exact h5.wr

theorem State.Keeps.exitMeets {causes : Nat} (h : σ.Keeps s) : σ.Keeps (s.exitMeets causes) := by
  unfold State.exitMeets
  extract_lets edge _ s1 _
  have h1 : σ.Keeps s1 := h.parts
  split
  · split
    · exact .ite h1.parts.recordReject h1
    · exact h1
  · exact h

theorem State.Keeps.register {causes : Nat} (h : σ.Keeps s) : σ.Keeps (s.register causes) := by
  unfold State.register
  extract_lets s' clear _ s1 s2 _
  have h' : σ.Keeps s' := h.exitMeets
  have h1 : σ.Keeps s1 := h'.parts
  have h2 : σ.Keeps s2 := .ite h1 h1.wr
  exact .ite h2.wr.flagBits (.ite h2.parts h2)

theorem State.Keeps.watch (h : σ.Keeps s) : σ.Keeps s.watch := by
  unfold State.watch
  extract_lets s1
  have h1 : σ.Keeps s1 := h.warnings
  exact h1.register

theorem State.Keeps.sensorSample {k : Nat} {v : Int} {bad : Bool} (h : σ.Keeps s) : σ.Keeps (sensorSample k v bad s) := by
  unfold Machine.sensorSample
  split
  · exact h
  · extract_lets old rest _ s1 high _ s2 s3 s4
    have h1 : σ.Keeps s1 := h.parts
    have h2 : σ.Keeps s2 := h1.parts
    have h3 : σ.Keeps s3 := h2.showSensor.followImpl
    have h4 : σ.Keeps s4 := .ite h3.showSensor.followImpl h3
    exact h4.watch

theorem State.Keeps.mcAbandon (h : σ.Keeps s) : σ.Keeps s.mcAbandon := by
  unfold State.mcAbandon
  split
  · extract_lets _ s1
    have h1 : σ.Keeps s1 := h.parts.wrs
    exact h1.mcRefuse.lateReject
  · exact h

theorem State.Keeps.stopWork {n : Nat} (h : σ.Keeps s) : σ.Keeps (s.stopWork n) := by
  unfold State.stopWork
  extract_lets busy idle s1 s2 s3 _ _
  have h1 : σ.Keeps s1 := h.foldl fun _ _ h => h.ownAbort
  have h2 : σ.Keeps s2 := h1.parkPins.foldl fun _ _ h => h.acqStop
  have h3 : σ.Keeps s3 := h2.dcOff.calCancel.mcAbandon
  exact h3.parts

theorem State.Keeps.enterSafe {n : Nat} (h : σ.Keeps s) : σ.Keeps (s.enterSafe n) := h.stopWork.wrs.flagBits.bump.raise.journalPlat

theorem State.Keeps.safeEntry (h : σ.Keeps s) : σ.Keeps (safeEntry s) := by
  unfold Machine.safeEntry
  split
  · exact .ite h.enterSafe h
  · exact h

theorem State.Keeps.safePark {l : Nat} (h : σ.Keeps s) : σ.Keeps (safePark l s) := by
  unfold Machine.safePark
  extract_lets x t s1 _
  have h1 : σ.Keeps s1 := h.goto.parkPins
  exact .ite h1.parts h

theorem State.Keeps.envSafeEnter (h : σ.Keeps s) : σ.Keeps (envSafeEnter s).1 := h.register

theorem State.Keeps.envSafeExit {src : Nat} (h : σ.Keeps s) : σ.Keeps (envSafeExit src s).1 := .ite_fst h.parts h

theorem State.Keeps.safeLeave (h : σ.Keeps s) : σ.Keeps s.safeLeave := by
  unfold State.safeLeave
  split
  · exact .ite h.parts.wrs.raise.register h
  · exact h

theorem State.Keeps.clearOkReached (h : σ.Keeps s) : σ.Keeps (clearOkReached s) := by
  unfold Machine.clearOkReached
  split
  · split
    · extract_lets s1 _
      have h1 : σ.Keeps s1 := h.goto.wr
      exact .ite h1.parts h1
    · exact h
  · exact h

theorem State.Keeps.dewStaleTimeout (h : σ.Keeps s) : σ.Keeps (dewStaleTimeout s) := .ite h.goto.wr.watch h

theorem State.Keeps.unpowered (h : σ.Keeps s) : σ.Keeps s.unpowered := by
  obtain ⟨hp, -, hregs, -, -⟩ := h
  exact ⟨hp, fun _ => tickTu_pos, fun h0 => Table.wf_filter _ _ (hregs h0), fun _ => ⟨Table.wf_nil, Table.wf_nil⟩, fun _ => Table.wf_nil⟩

theorem State.Keeps.powerOff {uv trip : Bool} (h : σ.Keeps s) : σ.Keeps (s.powerOff uv trip) := by
  unfold State.powerOff
  extract_lets s1 _
  have h1 : σ.Keeps s1 := h.unpowered
  exact h1.parts

theorem State.Keeps.powerUp {low1s : Bool} (h : σ.Keeps s) : σ.Keeps (powerUp low1s s) := by
  unfold Machine.powerUp
  split
  · extract_lets s1
    have h1 : σ.Keeps s1 := h.unpowered
    exact h1.wrs
  · exact h

theorem State.Keeps.powerDown (h : σ.Keeps s) : σ.Keeps (powerDown s) := .ite h h.powerOff

theorem State.Keeps.inputProtection (h : σ.Keeps s) : σ.Keeps (inputProtection s) := .ite h h.powerOff

theorem State.Keeps.thermalTrip (h : σ.Keeps s) : σ.Keeps (thermalTrip s) := .ite h.powerOff h

theorem State.Keeps.enterFault {cause detail : Nat} {frontEnd dramRail : Bool} (h : σ.Keeps s) :
    σ.Keeps (s.enterFault cause detail frontEnd dramRail) := by
  unfold State.enterFault
  extract_lets s1 s2 _ s4 _
  have h1 : σ.Keeps s1 := h.stopWork.wrs
  have h2 : σ.Keeps s2 := h1.foldl fun _ _ h => h.wrs
  have h4 : σ.Keeps s4 := h2.parts
  exact .ite (.ite h4.undefine h4) h2.parts

theorem State.Keeps.faultEntry {cause detail : Nat} {frontEnd dramRail : Bool} (h : σ.Keeps s) :
    σ.Keeps (faultEntry cause detail frontEnd dramRail s) :=
  .ite h h.enterFault

theorem State.Keeps.bootClocks (h : σ.Keeps s) : σ.Keeps s.bootClocks := h.wrs

theorem State.Keeps.bootComplete {ms : Nat} {fallback : Bool} {trained : Nat} {eeprom : Option Nat} (h : σ.Keeps s) :
    σ.Keeps (bootComplete ms fallback trained eeprom s) := by
  unfold Machine.bootComplete
  split
  · exact h
  · extract_lets bank _ s1 s2 s3 s4
    have h1 : σ.Keeps s1 := (Keeps.parts (h.sub fun _ => tickTu_pos)).wrs
    have h2 : σ.Keeps s2 := h1.foldl fun _ _ h => .ite h h.markFaulty
    have h3 : σ.Keeps s3 := h2.parkPins.readLbid.bootClocks.wr
    have h4 : σ.Keeps s4 := h3.watch
    exact .ite h3.enterFault (.ite h4 h4.enterSafe)

theorem State.Keeps.envReset {src : Nat} (h : σ.Keeps s) : σ.Keeps (envReset src s).1 := .ite_fst h.unpowered h

theorem State.Keeps.wrEnvCtl {src data : Nat} (h : σ.Keeps s) : σ.Keeps (wrEnvCtl src s data).1 :=
  .ite_fst h (.ite_fst h.envSafeEnter (.ite_fst h.envSafeExit (.ite_fst h.envReset h)))

theorem State.Keeps.pfeFault {i cause : Nat} (h : σ.Keeps s) : σ.Keeps (pfeFault i cause s) := .ite h h.wrs.raise.parts

theorem State.Keeps.leavesOut (h : σ.Keeps s) : σ.Keeps s.leavesOut :=
  h.parts.foldl fun _ _ h => (((Keeps.ite h.parkPins h.ownAbort).wr).raise).journalPlat

theorem State.Keeps.parkOut (h : σ.Keeps s) : σ.Keeps s.parkOut := h.parkPins

theorem State.Keeps.triginEdge {j : Nat} {rise : Bool} {at_ : Nat} (h : σ.Keeps s) : σ.Keeps (triginEdge j rise at_ s) :=
  .ite h (.ite h.parts.journalInput.occursTrigin h.parts.journalInput)

theorem State.Keeps.fwRefuse (h : σ.Keeps s) : σ.Keeps s.fwRefuse.1 := h.wr

theorem State.Keeps.wrEnvFwCtl {data : Nat} (h : σ.Keeps s) : σ.Keeps (wrEnvFwCtl s data).1 :=
  .ite_fst h (.ite_fst (.ite_fst h.fwRefuse h.parts.wrs) (.ite_fst (.ite_fst h.fwRefuse h.wr) h))

theorem State.Keeps.wrEnvFwData {data : Nat} (h : σ.Keeps s) : σ.Keeps (wrEnvFwData s data).1 := .ite_fst h.fwRefuse h.parts.wr

theorem State.Keeps.fwVerifyDone {code : Nat} (h : σ.Keeps s) : σ.Keeps (fwVerifyDone code s) := .ite (.ite h.parts.wr h.wrs) h

theorem State.Keeps.wrEnvCfg {data : Nat} (h : σ.Keeps s) : σ.Keeps (wrEnvCfg s data).1 := by
  unfold Machine.wrEnvCfg
  exact .ite_fst h h.wrs.watch

theorem State.Keeps.wrEnvDew {data : Nat} (h : σ.Keeps s) : σ.Keeps (wrEnvDew s data).1 := by
  unfold Machine.wrEnvDew
  exact .ite_fst h.wr.watch (.ite_fst h h.parts.wrs.watch)

/-! ### Partoeth links -/

theorem State.Keeps.showHop {p : Nat} (h : σ.Keeps s) : σ.Keeps (s.showHop p) := .ite h.wr h.fresh.wr

theorem State.Keeps.lkBump {f : Fld} {p n off : Nat} (h : σ.Keeps s) : σ.Keeps (s.lkBump f p n off) := h.bump

theorem State.Keeps.lkEnter {p st : Nat} (h : σ.Keeps s) : σ.Keeps (s.lkEnter p st) := h.wr.setPort

theorem State.Keeps.lkAt {p t : Nat} (h : σ.Keeps s) : σ.Keeps (s.lkAt p t) := .ite h h.goto

theorem State.Keeps.lkKeep {p : Nat} (h : σ.Keeps s) : σ.Keeps (s.lkKeep p) := .ite h h.setPort

theorem State.Keeps.lkClear {p : Nat} (h : σ.Keeps s) : σ.Keeps (s.lkClear p) := h.lkKeep.wrs

theorem State.Keeps.lkRest {p : Nat} (h : σ.Keeps s) : σ.Keeps (s.lkRest p) := h.lkEnter

theorem State.Keeps.lkFail {p code : Nat} (h : σ.Keeps s) : σ.Keeps (s.lkFail p code) := by
  unfold State.lkFail
  extract_lets s1 s2 _
  have h1 : σ.Keeps s1 := h.lkClear.wr.lkRest
  have h2 : σ.Keeps s2 := h1.lkBump
  exact .ite h2 h2.setPort.raise

theorem State.Keeps.lkLost {p code : Nat} (h : σ.Keeps s) : σ.Keeps (s.lkLost p code) := h.setPort.lkClear.wr.lkRest.raise.journalPlat

theorem State.Keeps.sendHello {p t : Nat} (h : σ.Keeps s) : σ.Keeps (s.sendHello p t) := by
  unfold State.sendHello
  extract_lets s1 _
  have h1 : σ.Keeps s1 := h.tell
  exact h1.parts

theorem State.Keeps.lkUp {p : Nat} (h : σ.Keeps s) : σ.Keeps (s.lkUp p) :=
  (Keeps.ite h.setPort.wr.showHop.setPort.parts.sendHello h.setPort.wr.showHop.setPort.parts).raise

theorem State.Keeps.linkSignalDetect {p : Nat} (h : σ.Keeps s) : σ.Keeps (linkSignalDetect p s) := .ite h.lkEnter h

theorem State.Keeps.lkAdapt {p : Nat} {eq : List Nat} (h : σ.Keeps s) : σ.Keeps (s.lkAdapt p eq) := h.foldl fun _ _ h => h.wrs

theorem State.Keeps.lkMeasured {p : Nat} {skew eq : List Nat} (h : σ.Keeps s) : σ.Keeps (s.lkMeasured p skew eq) := h.wrs.lkAdapt

theorem State.Keeps.sendCaps {p : Nat} (h : σ.Keeps s) : σ.Keeps (s.sendCaps p) := h.setPort

theorem State.Keeps.laneTrainDone {p lanes : Nat} {skew eq : List Nat} {delay : Nat} (h : σ.Keeps s) :
    σ.Keeps (laneTrainDone p lanes skew eq delay s) := by
  unfold Machine.laneTrainDone
  extract_lets good s1 _
  have h1 : σ.Keeps s1 := h.lkMeasured.lkEnter.wr
  exact .ite h1.setPort.sendCaps h

theorem State.Keeps.trainTimeout {p : Nat} {locked : Bool} (h : σ.Keeps s) : σ.Keeps (trainTimeout p locked s) := .ite h.lkAt.lkFail h

theorem State.Keeps.capsReceived {p rate lanes peer ver : Nat} (h : σ.Keeps s) : σ.Keeps (capsReceived p rate lanes peer ver s) :=
  .ite h (.ite h.lkFail (.ite h (.ite h.wrs.setPort.lkUp h.wrs.setPort.lkEnter)))

theorem State.Keeps.capsTimeout {p : Nat} (h : σ.Keeps s) : σ.Keeps (capsTimeout p s) := .ite h.lkAt.lkFail h

theorem State.Keeps.stepFails {p : Nat} (h : σ.Keeps s) : σ.Keeps (s.stepFails p) := h.wr.lkBump.lkUp

theorem State.Keeps.rateStepDone {p : Nat} {pass : Bool} {skew eq : List Nat} (h : σ.Keeps s) :
    σ.Keeps (rateStepDone p pass skew eq s) := by
  unfold Machine.rateStepDone
  split
  · exact h
  · split
    · extract_lets s1
      have h1 : σ.Keeps s1 := h.lkMeasured.wr
      exact .ite h1.lkUp h1.lkEnter
    · exact h.lkMeasured.stepFails

theorem State.Keeps.linkWaitExpire {p : Nat} (h : σ.Keeps s) : σ.Keeps (linkWaitExpire p s) := .ite h.lkAt.lkEnter h

theorem State.Keeps.sendNak {p : Nat} (h : σ.Keeps s) : σ.Keeps (s.sendNak p) := .ite h h.setPort

theorem State.Keeps.nakReceived {p q : Nat} (h : σ.Keeps s) : σ.Keeps (nakReceived p q s) := .ite (.ite h.lkLost h.setPort.lkBump) h

theorem State.Keeps.toWidth {p lanes : Nat} {ask narrow : Bool} (h : σ.Keeps s) : σ.Keeps (s.toWidth p lanes ask narrow) := h.setPort

theorem State.Keeps.laneLoss {p k : Nat} (h : σ.Keeps s) : σ.Keeps (laneLoss p k s) := by
  unfold Machine.laneLoss
  extract_lets used s1 good adding want
  have h1 : σ.Keeps s1 := h.wr
  split
  · exact .ite h1.lkFail h1
  · split
    · exact .ite h1.lkClear.wr.lkRest h1.wrs.stepFails
    · exact .ite (.ite (.ite h1.lkLost h1.toWidth) (.ite h1.toWidth h1)) h

theorem State.Keeps.lkWidth {p : Nat} (h : σ.Keeps s) : σ.Keeps (lkWidth p s) := by
  unfold Machine.lkWidth
  extract_lets x x0 x1
  split
  · exact h
  · split
    · exact h.lkLost
    · extract_lets s1 s2 s3
      have h1 : σ.Keeps s1 := h.setPort.wrs
      have h2 : σ.Keeps s2 := .ite h1 h1.lkBump
      have h3 : σ.Keeps s3 := (Keeps.ite h2.lkBump h2).showHop
      exact h3.raise.journalPlat

theorem State.Keeps.rxSilentTimeout {p : Nat} (h : σ.Keeps s) : σ.Keeps (rxSilentTimeout p s) := .ite h.goto.lkLost h

theorem State.Keeps.laneWiden {p k : Nat} (h : σ.Keeps s) : σ.Keeps (laneWiden p k s) := by
  unfold Machine.laneWiden
  extract_lets x good used s1 both
  have h1 : σ.Keeps s1 := h.wr
  exact .ite (.ite h1.toWidth h1) h

theorem State.Keeps.widthRequest {p lanes : Nat} (h : σ.Keeps s) : σ.Keeps (widthRequest p lanes s) := .ite h.toWidth h

theorem State.Keeps.lkRetrain {p : Nat} (h : σ.Keeps s) : σ.Keeps (s.lkRetrain p) := .ite h.lkLost (.ite h h.lkClear.wr.lkRest)

theorem State.Keeps.lkTest {p : Nat} (h : σ.Keeps s) : σ.Keeps (s.lkTest p) := by
  unfold State.lkTest
  extract_lets st s0 keep s1
  have h0 : σ.Keeps s0 := h.lkKeep
  have h1 : σ.Keeps s1 := .ite h0.lkLost h0.wr
  exact .ite h h1.wrs.lkEnter

theorem State.Keeps.lkTestExit {p : Nat} (h : σ.Keeps s) : σ.Keeps (s.lkTestExit p) := .ite h.wr.lkClear.lkRest h

theorem State.Keeps.wrLkCtl {p data : Nat} (h : σ.Keeps s) : σ.Keeps (wrLkCtl p s data).1 :=
  .ite_fst h (.ite_fst h.lkRetrain (.ite_fst h.lkTest (.ite_fst h.lkTestExit h)))

theorem State.Keeps.prbsCheckerLock {p k errs : Nat} (h : σ.Keeps s) : σ.Keeps (prbsCheckerLock p k errs s) := .ite h.wr.bump h

theorem State.Keeps.wrLkCfg {p data : Nat} (h : σ.Keeps s) : σ.Keeps (wrLkCfg p s data).1 :=
  .ite_fst h (.ite h.wrs (.ite (.ite h.wrs.lkEnter h.wrs) h.wrs.lkClear.lkEnter))

theorem State.Keeps.wrLkPrbsCtl {p data : Nat} (h : σ.Keeps s) : σ.Keeps (wrLkPrbsCtl p s data).1 := .ite_fst h h.wrs

/-! ### Clusters -/

theorem State.Keeps.onClu {f : CluSt → CluSt} (h : σ.Keeps s) : σ.Keeps (s.onClu f) := h.parts

theorem State.Keeps.challenge {m serial fails : Nat} {chain : List Byte} (h : σ.Keeps s) :
    σ.Keeps (s.challenge m serial fails chain) := by
  unfold State.challenge
  split
  rename_i _ s0 _ e
  have h0 := h.fresh.of_eq e
  exact h0.onClu.tell

theorem State.Keeps.candidate {m : Nat} {hdr : HelloIn} {fresh : Bool} (h : σ.Keeps s) : σ.Keeps (s.candidate m hdr fresh) :=
  .ite h.raise (.ite h h.wrs.challenge)

theorem State.Keeps.helloDirect {p : Nat} {hdr : HelloIn} (h : σ.Keeps s) : σ.Keeps (s.helloDirect p hdr) := by
  unfold State.helloDirect
  extract_lets x fence old s1 own s2 st
  have hfence : ∀ {t}, σ.Keeps t → σ.Keeps (fence t) := fun h => h.onClu
  have h1 : σ.Keeps s1 := h.onClu
  have h2 : σ.Keeps s2 := h1.onClu
  split
  · exact (hfence h1).raise
  · split
    · exact (hfence h1).raise
    · split
      · split
        · exact h2.candidate
        · exact h2
        · exact .ite h2.raise h2
      · exact .ite (.ite h2 h2.tell) (.ite h2.wrs h2)

theorem State.Keeps.helloReceived {p : Nat} {via : Option (Nat × Bool)} {hdr : HelloIn} (h : σ.Keeps s) :
    σ.Keeps (helloReceived p via hdr s) := by
  unfold Machine.helloReceived
  split
  · exact .ite h.helloDirect h
  · split
    · split
      · exact h.candidate
      · exact h
    · exact h

theorem State.Keeps.helloResend {p : Nat} (h : σ.Keeps s) : σ.Keeps (helloResend p s) :=
  .ite (.ite h.sendHello (.ite h.goto.sendHello h)) h

theorem State.Keeps.adoptAt {m : Nat} (h : σ.Keeps s) : σ.Keeps (s.adoptAt m) := h.onClu.tell

theorem State.Keeps.turnAway {m state reason : Nat} (h : σ.Keeps s) : σ.Keeps (s.turnAway m state reason) := h.tell.onClu.wr.raise

theorem State.Keeps.position {m serial : Nat} (h : σ.Keeps s) : σ.Keeps (s.position m serial) :=
  .ite h.turnAway (.ite h.turnAway (.ite h.turnAway h.adoptAt))

theorem State.Keeps.challengeResponse {m : Nat} {r : ChalIn} (h : σ.Keeps s) : σ.Keeps (challengeResponse m r s) := by
  unfold Machine.challengeResponse
  split
  · split
    · exact .ite h.turnAway (.ite h.turnAway (.ite h.turnAway h.position))
    · exact h
  · split
    · extract_lets s1
      have h1 : σ.Keeps s1 := h.wrs
      exact h1.raise
    · exact h
  · exact .ite h h.tell

theorem State.Keeps.challengeTimeout {m : Nat} (h : σ.Keeps s) : σ.Keeps (challengeTimeout m s) := by
  unfold Machine.challengeTimeout
  split
  · exact h
  · extract_lets t s1
    have h1 : σ.Keeps s1 := h.goto
    exact .ite (.ite h1.turnAway h1.challenge) h

theorem State.Keeps.seat (h : σ.Keeps s) : σ.Keeps s.seat := by
  unfold State.seat
  split
  · split
    · extract_lets s1
      have h1 : σ.Keeps s1 := h.wrs
      exact h1.raise
    · exact h
  · exact h

theorem State.Keeps.wrIdRoster {m data : Nat} (h : σ.Keeps s) : σ.Keeps (wrIdRoster m s data).1 := by
  unfold Machine.wrIdRoster
  split
  · exact h
  · extract_lets serial valid s0 told s1
    have h0 : σ.Keeps s0 := h.wrs
    have htold : σ.Keeps told := by
      unfold told
      split
      · exact h0.tell
      · exact h0
    have h1 : σ.Keeps s1 := htold.seat
    exact .ite_fst h1.adoptAt h1

theorem State.Keeps.wrIdTopo {data : Nat} (h : σ.Keeps s) : σ.Keeps (wrIdTopo s data).1 :=
  .ite_fst h (.ite_fst h (.ite_fst h h.wrs.seat))

theorem State.Keeps.stepTick {a : Nat} (h : σ.Keeps s) : σ.Keeps (s.stepTick a) := by
  unfold State.stepTick
  exact (Keeps.parts (Keeps.dramParts (h.sub fun _ => tickTu_pos))).wr

theorem State.Keeps.takeMap {l : List MapEnt} (h : σ.Keeps s) : σ.Keeps (s.takeMap l) := h.wrs

theorem State.Keeps.takeRoster {l : List (BitVec 48 × Bool)} (h : σ.Keeps s) : σ.Keeps (s.takeRoster l) := h.wrs

theorem State.Keeps.adoptTick {m : Nat} {a : AdoptIn} (h : σ.Keeps s) : σ.Keeps (s.adoptTick m a) := by
  unfold State.adoptTick
  extract_lets old stop s1 s2 s3 s4
  have htop : ∀ {t a1}, σ.Keeps t → σ.Keeps (stop t a1) := fun h => .ite h.acqStop.wr h.acqStop
  have h1 : σ.Keeps s1 := h.foldl fun _ _ h => htop h
  have h2 : σ.Keeps s2 := h1.stepTick.journalTime
  have h3 : σ.Keeps s3 := h2.takeRoster.takeMap.wrs
  have h4 : σ.Keeps s4 := h3.onClu
  exact h4.raise

theorem State.Keeps.tickAdoption {m : Nat} {a : Option AdoptIn} (h : σ.Keeps s) : σ.Keeps (tickAdoption m a s) := by
  unfold Machine.tickAdoption
  split
  · split
    · split
      · extract_lets s1
        have h1 : σ.Keeps s1 := h.goto.onClu.wr
        exact h1.raise
      · exact h
    · exact h
  · exact .ite h (.ite h.wr h.adoptTick)

theorem State.Keeps.setExpiry {e : Nat} (h : σ.Keeps s) : σ.Keeps (s.setExpiry e) := h.onClu.wr

theorem State.Keeps.takeLease (h : σ.Keeps s) : σ.Keeps s.takeLease := h.setExpiry.onClu.wrs

theorem State.Keeps.becomeAnchor (h : σ.Keeps s) : σ.Keeps s.becomeAnchor := h.onClu.wrs.takeLease.wrs.onClu.raise.journalTime.tellAll

theorem State.Keeps.leaseGrant (h : σ.Keeps s) : σ.Keeps (leaseGrant s) := .ite (.ite h.takeLease.seat (.ite h.becomeAnchor h)) h

theorem State.Keeps.leaseRenew (h : σ.Keeps s) : σ.Keeps (leaseRenew s) := .ite h.onClu h

theorem State.Keeps.renewalConfirm {expiry : Option Nat} (h : σ.Keeps s) : σ.Keeps (renewalConfirm expiry s) := by
  unfold Machine.renewalConfirm
  split
  · exact .ite h.setExpiry.onClu.tellAll h
  · exact .ite h.setExpiry h

theorem State.Keeps.abandonPlan (h : σ.Keeps s) : σ.Keeps s.abandonPlan := by
  unfold State.abandonPlan
  split
  · exact .ite h.planFails h
  · exact h

theorem State.Keeps.loseAnchor (h : σ.Keeps s) : σ.Keeps s.loseAnchor := by
  unfold State.loseAnchor
  split
  · extract_lets s1 s2
    have h1 : σ.Keeps s1 := h.abandonPlan.wrs
    have h2 : σ.Keeps s2 := h1.onClu
    exact h2.raise.journalTime
  · exact h

theorem State.Keeps.leaseExpiry (h : σ.Keeps s) : σ.Keeps (leaseExpiry s) := .ite (.ite h h.wrs.loseAnchor) (.ite h.loseAnchor h)

theorem State.Keeps.secondaryRegistration {m : Nat} (h : σ.Keeps s) : σ.Keeps (secondaryRegistration m s) := by
  unfold Machine.secondaryRegistration
  extract_lets s1
  have h1 : σ.Keeps s1 := h.onClu.wr
  exact .ite (.ite h1.wr h) (.ite h1 h)

theorem State.Keeps.phaseMarkerSend (h : σ.Keeps s) : σ.Keeps (phaseMarkerSend s) := .ite h.onClu h

theorem State.Keeps.phaseMarkerReceive {p : Nat} {a o : Int} {rootHold : Bool} (h : σ.Keeps s) :
    σ.Keeps (phaseMarkerReceive p a o rootHold s) := by
  unfold Machine.phaseMarkerReceive
  split
  · exact .ite h.fcRollAll.wrs.fcMark h
  · exact h

theorem State.Keeps.showBounds {c : Nat} {b0 b1 : Option Nat} (h : σ.Keeps s) : σ.Keeps (s.showBounds c b0 b1) := h.wrs

theorem State.Keeps.tellGroup {c : Nat} (h : σ.Keeps s) : σ.Keeps (s.tellGroup c) := h.tellAll

theorem State.Keeps.rebound {hops : List HopIn} (h : σ.Keeps s) : σ.Keeps (s.rebound hops) :=
  h.foldl fun _ _ h => .ite h.showBounds.tellGroup.raise h.showBounds.tellGroup

theorem State.Keeps.dissolve {c : Nat} (h : σ.Keeps s) : σ.Keeps (s.dissolve c) := by
  unfold State.dissolve
  extract_lets s1
  have h1 : σ.Keeps s1 := h.onClu.wrs
  exact .ite h1.tellGroup h1

theorem State.Keeps.formGroup {c : Nat} {i : CgIn} (h : σ.Keeps s) : σ.Keeps (s.formGroup c i) := by
  unfold State.formGroup
  extract_lets ds members
  split
  · exact h.dissolve.raise
  · exact h.dissolve
  · extract_lets mask parentOk all g groups b0 s1 s1'
    have h1 : σ.Keeps s1 := h.showBounds
    have h1' : σ.Keeps s1' := h.onClu.wr
    exact .ite h.dissolve.raise (.ite (.ite h (.ite h1.raise h1'.showBounds.tellGroup)) h.dissolve)

theorem State.Keeps.toldGroup {c : Nat} {t : CgTold} (h : σ.Keeps s) : σ.Keeps (s.toldGroup c t) := .ite h.onClu.wrs h.dissolve

theorem State.Keeps.clusterGroupForm {c : Nat} {i : CgIn} {told : Option CgTold} (h : σ.Keeps s) :
    σ.Keeps (clusterGroupForm c i told s) := by
  unfold Machine.clusterGroupForm
  split
  · exact h.formGroup
  · exact h.toldGroup
  · exact h

theorem State.Keeps.mapChange {i : MapIn} (h : σ.Keeps s) : σ.Keeps (mapChange i s) := by
  unfold Machine.mapChange
  split
  · extract_lets left s0 s1 n s2 s3
    have h0 : σ.Keeps s0 := h.takeMap
    have h1 : σ.Keeps s1 := h0.foldl fun _ _ h => h.homeDeparted
    have h2 : σ.Keeps s2 := h1.onClu
    have h3 : σ.Keeps s3 := .ite h2.rebound.tellAll h2
    exact .ite h3.onClu h3
  · exact h

theorem State.Keeps.reroute {p : Nat} (h : σ.Keeps s) : σ.Keeps (s.reroute p) := by
  unfold State.reroute
  split
  · exact h
  · extract_lets x goes s1
    have h1 : σ.Keeps s1 := h.setPort
    refine h1.foldl fun t f h => ?_
    split
    · exact h.lkSend
    · exact h

theorem State.Keeps.routeChangeApply (h : σ.Keeps s) : σ.Keeps (routeChangeApply s) := by
  unfold Machine.routeChangeApply
  split
  · exact h
  · exact .ite h (((h.onClu.foldl fun _ _ h => h.reroute).pathLatch).reaskMoved)

theorem State.Keeps.cutLinks {m : Nat} (h : σ.Keeps s) : σ.Keeps (s.cutLinks m) := by
  unfold State.cutLinks
  split
  exact h.wrs

theorem State.Keeps.idDeparted {m : Nat} (h : σ.Keeps s) : σ.Keeps (idDeparted m s) := by
  unfold Machine.idDeparted
  split
  · split
    · extract_lets s1 s2 gone s3 s4 s5
      have h1 : σ.Keeps s1 := h.goto.onClu.cutLinks
      have h2 : σ.Keeps s2 := h1.raise
      have h3 : σ.Keeps s3 := h2.foldl fun _ _ h => h.dissolve
      have h4 : σ.Keeps s4 := .ite h3.onClu.wr h3
      have h5 : σ.Keeps s5 := h4.onClu
      exact h5.homeDeparted.journalPlat.tellAll
    · exact h
  · exact h

theorem State.Keeps.idAnchorLost (h : σ.Keeps s) : σ.Keeps (idAnchorLost s) := by
  unfold Machine.idAnchorLost
  split
  · exact .ite h.goto.loseAnchor h
  · exact h

theorem State.Keeps.idPartitioned (h : σ.Keeps s) : σ.Keeps (idPartitioned s) := by
  unfold Machine.idPartitioned
  split
  · exact h
  · exact .ite h (((((h.foldl fun _ _ h => h.ownAbort).onClu).wrs).raise).journalPlat)

theorem State.Keeps.tickHoldoverLimit (h : σ.Keeps s) : σ.Keeps (tickHoldoverLimit s) := by
  unfold Machine.tickHoldoverLimit
  split
  · exact .ite h.onClu.idPartitioned h
  · exact h

theorem State.Keeps.leaseClaim (h : σ.Keeps s) : σ.Keeps (leaseClaim s) := by
  unfold Machine.leaseClaim
  split
  · exact .ite h.onClu h
  · exact h

theorem State.Keeps.idAnchorTakeover {m : Nat} (h : σ.Keeps s) : σ.Keeps (idAnchorTakeover m s) := by
  unfold Machine.idAnchorTakeover
  split
  · exact h
  · split
    · exact .ite h.becomeAnchor h
    · extract_lets s1
      have h1 : σ.Keeps s1 := h.onClu.wrs
      exact h1.raise.journalTime

theorem State.Keeps.claimRefused {p : Option Nat} (h : σ.Keeps s) : σ.Keeps (claimRefused p s) := by
  unfold Machine.claimRefused
  split
  · exact .ite h.onClu.tellAll h
  · exact .ite h.onClu h

/-! ### The journal -/

theorem State.Keeps.ringWrite {p : Nat} {r : JRec} (h : σ.Keeps s) : σ.Keeps (s.ringWrite p r) := h.wake.dramWrite.parts

theorem State.Keeps.stageLost (h : σ.Keeps s) : σ.Keeps s.stageLost := .ite h.parts.journal h

theorem State.Keeps.journalDrain (h : σ.Keeps s) : σ.Keeps (journalDrain s) := by
  unfold Machine.journalDrain
  split
  · exact h
  · split
    · exact h
    · extract_lets _ s1 s2
      have h1 : σ.Keeps s1 := h.parts
      have h2 : σ.Keeps s2 := by
        unfold s2
        split
        · exact h1.ringWrite
        · exact h1
      exact h2.wr.stageLost

theorem State.Keeps.wrJnCtl {data : Nat} (h : σ.Keeps s) : σ.Keeps (wrJnCtl s data).1 :=
  .ite_fst (.ite_fst h (.ite_fst h h.askExport)) h

theorem State.Keeps.exportFile {e : Export} (h : σ.Keeps s) : σ.Keeps (s.exportFile e) := by
  unfold State.exportFile
  extract_lets k size places ue all cap recs gone trunc loss s0
  have h0 : σ.Keeps s0 := h.foldl fun _ _ h => h.readerUe
  clear_value recs
  split
  next s1 first e1 =>
  have h1 : σ.Keeps s1 := by
    split at e1
    · exact h0.of_eq e1
    · exact Keeps.of_eq (p := (s0.fresh.1, s0.fresh.2 % 2 ^ 32)) h0.fresh e1
  exact h1.wake.dramWrite.parts.wrs.raise

theorem State.Keeps.jnExported (h : σ.Keeps s) : σ.Keeps (jnExported s) := by
  unfold Machine.jnExported
  split
  · exact h
  · split
    · extract_lets _ s1
      have h1 : σ.Keeps s1 := h.parts
      exact .ite h1.bump h1.exportFile
    · exact h

theorem State.Keeps.wrJnExpCfg {data : Nat} (h : σ.Keeps s) : σ.Keeps (wrJnExpCfg s data).1 := .ite_fst h h.wrs

theorem State.Keeps.wrJnRpl {put : State → State} (h : σ.Keeps s) (hput : ∀ t, σ.Keeps t → σ.Keeps (put t)) :
    σ.Keeps (wrJnRpl put s).1 :=
  .ite_fst h (hput _ h)

theorem State.Keeps.wrJnRplCfg {data : Nat} (h : σ.Keeps s) : σ.Keeps (wrJnRplCfg s data).1 := h.wrJnRpl (fun _ h => h.wrs)

theorem State.Keeps.wrJnRplSrc {data : Nat} (h : σ.Keeps s) : σ.Keeps (wrJnRplSrc s data).1 := h.wrJnRpl (fun _ h => h.wrs)

theorem State.Keeps.wrJnRplRun {data : Nat} (h : σ.Keeps s) : σ.Keeps (wrJnRplRun s data).1 := h.wrJnRpl (fun _ h => h.wr)

/-! ### Timing sets -/

theorem State.Keeps.wrTsPeriod {l set data : Nat} (h : σ.Keeps s) : σ.Keeps (wrTsPeriod l set s data).1 := .ite_fst h (.ite_fst h h.wr)

theorem State.Keeps.wrTsPinA {l set slot data : Nat} (h : σ.Keeps s) : σ.Keeps (wrTsPinA l set slot s data).1 :=
  .ite_fst h (.ite_fst h h.wrs)

theorem State.Keeps.wrTsPinB {l set slot data : Nat} (h : σ.Keeps s) : σ.Keeps (wrTsPinB l set slot s data).1 := .ite_fst h h.wrs

theorem State.Keeps.wrTsSwapTick {l data : Nat} (h : σ.Keeps s) : σ.Keeps (wrTsSwapTick l s data).1 := .ite_fst h h.wr

theorem State.Keeps.askLevel {i half : Nat} (h : σ.Keeps s) : σ.Keeps (s.askLevel i half) := h.parts

theorem State.Keeps.levelTick (h : σ.Keeps s) : σ.Keeps s.levelTick := h.parts

theorem State.Keeps.wrTsLvlDrv {l slot data : Nat} (h : σ.Keeps s) : σ.Keeps (wrTsLvlDrv l slot s data).1 :=
  .ite_fst h (.ite_fst h.wrs.askLevel h)

theorem State.Keeps.wrTsLvlCmp {l slot data : Nat} (h : σ.Keeps s) : σ.Keeps (wrTsLvlCmp l slot s data).1 :=
  .ite_fst h (.ite_fst h.wrs.askLevel h)

theorem State.Keeps.tsSwap {l : Nat} (h : σ.Keeps s) : σ.Keeps (tsSwap l s).1 := by
  unfold Machine.tsSwap
  split
  · exact h.wr
  · extract_lets s2
    have h2 : σ.Keeps s2 := h.wrs
    exact h2.raise

theorem State.Keeps.tsCancel {l : Nat} (h : σ.Keeps s) : σ.Keeps (tsCancel l s).1 := by
  unfold Machine.tsCancel
  split
  · exact .ite_fst h h.wr
  · exact .ite_fst h h.wr

theorem State.Keeps.wrTsCtl {l data : Nat} (h : σ.Keeps s) : σ.Keeps (wrTsCtl l s data).1 :=
  .ite_fst h (.ite_fst h.tsSwap (.ite_fst h.tsCancel h))

theorem State.Keeps.tsExchange {l : Nat} (h : σ.Keeps s) : σ.Keeps (tsExchange l s) := by
  unfold Machine.tsExchange
  split
  · exact h
  · split
    · extract_lets s0 x v s1 w
      have h0 : σ.Keeps s0 := h.goto
      have h1 : σ.Keeps s1 := h0.setLeaf.wrs
      exact h1.raiseInt.journal.raise.checkFlow
    · exact h

/-! ### The site tick -/

theorem State.Keeps.closeLeaves (h : σ.Keeps s) : σ.Keeps s.closeLeaves := h.parts

theorem State.Keeps.sampleConds (h : σ.Keeps s) : σ.Keeps s.sampleConds := h.parts

theorem State.Keeps.prune (h : σ.Keeps s) : σ.Keeps s.prune := h.parts

theorem State.Keeps.tickBoundary (h : σ.Keeps s) : σ.Keeps (tickBoundary s) := by
  unfold Machine.tickBoundary
  split
  · exact h
  · extract_lets s0 _ s1 s2 s3 _ s4
    have h0 : σ.Keeps s0 := h.showDue
    have h1 : σ.Keeps s1 := (h0.closeLeaves.sub fun _ => tickTu_pos).wr
    have h2 : σ.Keeps s2 := h1.sampleConds.prune
    have h3 : σ.Keeps s3 := h2.foldl fun _ _ h => h.acqBegin
    have h4 : σ.Keeps s4 := h3.parts
    exact h4.levelTick.fcMark.dcTick.safeLeave.watch.plTick.calTick.leavesOut.parkOut.snapCopy

theorem State.Keeps.shareParts (h : σ.Keeps s) : σ.Keeps s.shareParts := .ite (h.foldl fun _ _ h => .ite h.addPart h.tell) h

theorem State.Keeps.snapshotExchange (h : σ.Keeps s) : σ.Keeps (snapshotExchange s) := by
  unfold Machine.snapshotExchange
  split
  · exact h.goto.parts.shareParts
  · exact h

theorem State.Keeps.resolveArms {l n t : Nat} {f live : Fold} (h : σ.Keeps s) : σ.Keeps (s.resolveArms l n t f live) := by
  unfold State.resolveArms
  extract_lets g mine s1
  have h1 : σ.Keeps s1 := h.setEng
  exact h1.foldl fun _ _ h => .ite ((((Keeps.ite h.diverge h).setEng).raiseInt).latchJump) (((Keeps.ite h.diverge h).setEng).raiseInt)

theorem State.Keeps.journalDecision {u n : Nat} {f : Fold} {missing : Bool} (h : σ.Keeps s) :
    σ.Keeps (s.journalDecision u n f missing) :=
  h.journal

theorem State.Keeps.askAll {ls : List Nat} {a : AbortReq} (h : σ.Keeps s) : σ.Keeps (s.askAll ls a) := h.foldl fun _ _ h => h.askAbort

theorem State.Keeps.groupStop {u n t src m : Nat} (h : σ.Keeps s) : σ.Keeps (s.groupStop u n t src m) :=
  h.foldl fun _ _ h => .ite h (.ite h.setLeaf (.ite h.setLeaf.wr h))

theorem State.Keeps.stopAt {u n t m : Nat} {o : Option Nat} (h : σ.Keeps s) :
    σ.Keeps (match o with | some l => s.groupStop u n t l m | none => s) := by
  cases o with
  | none => exact h
  | some l => exact h.groupStop

theorem State.Keeps.localDecision {u n t : Nat} (h : σ.Keeps s) : σ.Keeps (s.localDecision u n t) := by
  unfold State.localDecision
  extract_lets s0 ls live f s1 s2 s3
  have h0 : σ.Keeps s0 := h.goto
  have h1 : σ.Keeps s1 := .ite h0.journalDecision h0
  have h2 : σ.Keeps s2 := by
    unfold s2
    split
    · exact h1.askAll
    · exact h1
  have h3 : σ.Keeps s3 := h2.stopAt
  exact h3.foldl fun _ _ h => h.resolveArms

theorem State.Keeps.clusterDecision {u n t : Nat} (h : σ.Keeps s) : σ.Keeps (s.clusterDecision u n t) := by
  unfold State.clusterDecision
  split
  · exact h
  · extract_lets s0 ls live f s1
    have h0 : σ.Keeps s0 := h.goto
    have h1 : σ.Keeps s1 := h0.journalDecision
    split
    · exact .ite (h1.foldl fun _ _ h => h.setEng.askAbort) (h1.foldl fun _ _ h => h.resolveArms)
    · exact h0

theorem State.Keeps.decides {u : Nat} (h : σ.Keeps s) : σ.Keeps (s.decides u) := h.setUnit

theorem State.Keeps.groupDecisionReady {u : Nat} (h : σ.Keeps s) : σ.Keeps (groupDecisionReady u s) :=
  .ite h (.ite h.decides.localDecision (.ite h h.decides.clusterDecision))

theorem State.Keeps.sendTicks {ports payloads : List Nat} (h : σ.Keeps s) : σ.Keeps (s.sendTicks ports payloads) :=
  h.foldl fun _ _ h => h.setPort

theorem State.Keeps.tickFlitLaunch {second : Bool} (h : σ.Keeps s) : σ.Keeps (tickFlitLaunch second s) := by
  unfold Machine.tickFlitLaunch
  split
  · extract_lets s0
    have h0 : σ.Keeps s0 := h.goto
    exact h0.sendTicks
  · exact h

theorem State.Keeps.srcOn {u m : Nat} (h : σ.Keeps s) : σ.Keeps (s.srcOn u m).1 := by
  unfold State.srcOn
  split
  · exact h
  · split
    rename_i _ s0 _ e
    have h0 := h.fresh.of_eq e
    exact h0

theorem State.Keeps.clusterMismatch {u m cause : Nat} {leaf : Option Nat} (h : σ.Keeps s) : σ.Keeps (s.clusterMismatch u m cause leaf) := by
  unfold State.clusterMismatch
  split
  next s1 src e1 =>
  have h1 : σ.Keeps s1 := by
    split at e1
    · exact h.of_eq e1
    · exact h.srcOn.of_eq e1
  exact (Keeps.ite h1.raise h1).askAll

theorem State.Keeps.clusterAborted {u : Nat} (h : σ.Keeps s) : σ.Keeps (s.clusterAborted u) := by
  unfold State.clusterAborted
  split
  exact .ite h h.askAll

theorem State.Keeps.foldGroup {n : Nat} {g : CluGroup} (h : σ.Keeps s) : σ.Keeps (s.foldGroup n g) := by
  unfold State.foldGroup
  extract_lets u ms es gone f key twice s1 ls s2 sa s3 s4
  have h1 : σ.Keeps s1 := h.onClu
  have h2 : σ.Keeps s2 := .ite (h1.foldl fun _ _ h => h.ownAbort) h1
  have ha : σ.Keeps sa := by
    unfold sa
    split
    · exact h2.clusterMismatch
    · exact h2
  have h3 : σ.Keeps s3 := by
    unfold s3
    split
    · exact h2
    · split
      · exact ha.clusterMismatch
      · exact ha
  have h4 : σ.Keeps s4 := .ite h3.clusterAborted h3
  clear_value s4
  split
  · split
    next s5 src e5 =>
    have h5 : σ.Keeps s5 := by
      split at e5
      · exact h4.of_eq e5
      · exact h4.srcOn.of_eq e5
    exact h5.groupStop
  · exact h4

theorem State.Keeps.clusterFlagDeadline (h : σ.Keeps s) : σ.Keeps (clusterFlagDeadline s) :=
  .ite (h.goto.bump.foldl fun _ _ h => h.foldGroup) h

/-! ### Register writes -/

theorem State.Keeps.putSlots {l : List Slot} {c d : Nat} (h : σ.Keeps s) : σ.Keeps (s.putSlots l c d) := by
  unfold State.putSlots
  refine h.foldl fun t x h => ?_
  split
  · exact h.wr
  · exact h.unflag
  · exact h

theorem State.Keeps.uncountSlots {l : List Slot} {c : Nat} (h : σ.Keeps s) : σ.Keeps (s.uncountSlots l c) := by
  unfold State.uncountSlots
  refine h.foldl fun t x h => ?_
  split
  · exact h.uncount
  · exact h

theorem State.Keeps.putReg {r : RegN} {c d : Nat} (h : σ.Keeps s) : σ.Keeps (putReg r c s d).1 := h.putSlots

theorem State.Keeps.rangeReg {r : RegN} {c : Nat} {ok : Bool} {d : Nat} (h : σ.Keeps s) : σ.Keeps (rangeReg r c ok s d).1 :=
  .ite_fst h.putReg h

theorem State.Keeps.wrUnitCtl {u d : Nat} (h : σ.Keeps s) : σ.Keeps (wrUnitCtl u s d).1 := by
  unfold Machine.wrUnitCtl
  split
  · exact h
  · split
    · exact h
    · exact .ite_fst h.startWrite (.ite_fst h.unitAbort (.ite_fst h.unitJump (.ite_fst h.unitClear h)))

theorem State.Keeps.wrOuter {r : RegN} {u d : Nat} (h : σ.Keeps s) : σ.Keeps (wrOuter r u s d).1 := .ite_fst h h.putReg

theorem State.Keeps.wrUnitFstop {u d : Nat} (h : σ.Keeps s) : σ.Keeps (wrUnitFstop u s d).1 :=
  .ite_fst h (.ite_fst h (.ite_fst h h.putReg))

theorem State.Keeps.wrUnitCount {u : Nat} {cells : Nat → Fld × Nat} {d : Nat} (h : σ.Keeps s) : σ.Keeps (wrUnitCount u cells s d).1 :=
  .ite_fst h (h.foldl fun _ _ h => h.uncount)

theorem State.Keeps.wrUnitFstat {u d : Nat} (h : σ.Keeps s) : σ.Keeps (wrUnitFstat u s d).1 := .ite (h.foldl fun _ _ h => h.unflag) h

theorem State.Keeps.wrUnitReg {r : RegN} {u j d : Nat} (h : σ.Keeps s) : σ.Keeps (wrUnitReg r u j s d).1 := by
  unfold Machine.wrUnitReg
  split
  · exact h.wrUnitCtl
  · exact h.rangeReg
  · exact h.wrUnitCount
  · exact h.wrUnitCount
  · exact h.wrUnitFstop
  · exact h.wrUnitFstat
  · exact h.wrOuter

theorem State.Keeps.wrHostFlag {d : Nat} (h : σ.Keeps s) : σ.Keeps (wrHostFlag s d).1 := h.wr.foldl fun _ _ h => .ite h h.journalInput

theorem State.Keeps.wrUreg {l u d : Nat} (h : σ.Keeps s) : σ.Keeps (wrUreg l u s d).1 := .ite_fst h h.putReg

theorem State.Keeps.wrMcCtl {src d : Nat} (h : σ.Keeps s) : σ.Keeps (wrMcCtl src s d).1 := .ite_fst h.mcLoad h

theorem State.Keeps.wrFlWmark {d : Nat} (h : σ.Keeps s) : σ.Keeps (wrFlWmark s d).1 := by
  unfold Machine.wrFlWmark
  extract_lets s1 _
  have h1 : σ.Keeps s1 := h.wr
  exact h1.parts

theorem State.Keeps.wrErrInfo {d : Nat} (h : σ.Keeps s) : σ.Keeps (wrErrInfo s d).1 := by
  unfold Machine.wrErrInfo
  extract_lets s1 kept
  have h1 : σ.Keeps s1 := h.putSlots
  clear_value kept
  split
  · exact h1.wr.fillReject
  · exact h1

theorem State.Keeps.wrGlbCmd {tag d : Nat} (h : σ.Keeps s) : σ.Keeps (wrGlbCmd tag s d).1 := .ite h.raise h

theorem State.Keeps.wrGlbAlarm {d : Nat} (h : σ.Keeps s) : σ.Keeps (wrGlbAlarm s d).1 := h.rangeReg

theorem State.Keeps.wrSnapCtl {d : Nat} (h : σ.Keeps s) : σ.Keeps (wrSnapCtl s d).1 := by
  unfold Machine.wrSnapCtl
  extract_lets s1 _
  have h1 : σ.Keeps s1 := h.wr
  exact .ite h1.parts h1

theorem State.Keeps.wrInstr {r : RegN} {i j k d : Nat} (h : σ.Keeps s) : σ.Keeps (wrInstr r i j k s d).1 := by
  unfold Machine.wrInstr
  split
  · exact h.wrTsPeriod
  · exact h.wrTsPinA
  · exact h.wrTsPinB
  · exact h.wrTsCtl
  · exact h.wrTsSwapTick
  · exact h.wrTsLvlDrv
  · exact h.wrTsLvlCmp
  · exact h.wrFlCtl
  · exact h.wrFlCfg
  · exact h.wrFlRd
  · exact h.rangeReg
  · exact h.wrFlWmark
  · exact h.rangeReg
  · exact h.wrAcqCtl
  · exact h.wrAcqCfg
  · exact h.acqSetup (fun _ _ h => h.putSlots)
  · exact h.acqSetup (fun _ _ h => h.putSlots)
  · exact h.acqSetup (fun _ _ h => h.putSlots)
  · exact h.acqSetup (fun _ _ h => h.putSlots)
  · exact h.wrAcqTrig
  · exact h.acqSetup (fun _ _ h => h.putSlots)
  · exact h.acqSetup (fun _ _ h => h.putSlots)
  · exact h.wrCdtCtl
  · exact h.wrTmuPin
  · exact h.wrPairCfg
  · exact h.wrPairReg (fun _ _ h => h.putSlots)
  · exact h.wrPairReg (fun _ _ h => h.putSlots)
  · exact h.wrPairReg (fun _ _ h => h.putSlots)
  · exact h.wrFcCfg
  · exact h.wrDcPinCfg
  · exact h.wrDcPinForce
  · exact h.wrDsaCtl
  · exact h.wrDsaThrCfg
  · exact h.wrDsaThrLvl
  · exact h.wrDsaCmd
  · exact h.wrDcDiagCfg
  · exact h.wrRsCtl
  · exact h.wrRsCommit
  · exact h.wrRsCfg
  · exact h.wrRsStatic
  · exact h.wrRsBg
  · exact h.wrRsLCfg
  · exact h.wrRsLPos
  · exact h.wrRsLBase
  · exact h.wrRsLStride
  · exact h.putReg

theorem State.Keeps.wrModule {hdr : Hdr} {r : RegN} {i j k d : Nat} (h : σ.Keeps s) : σ.Keeps (wrModule hdr r i j k s d).1 := by
  unfold Machine.wrModule
  split
  · exact h.wrMcCtl
  · exact h.wrMcStatus
  · exact h.wrOtpKey
  · exact h.wrOtpCmd
  · exact h.wrHostFlag
  · exact h.wrUreg
  · exact h.wrMntCtl
  · exact h.rangeReg
  · exact h.wrPlCtl
  · exact h.rangeReg
  · exact h.wrEnvCtl
  · exact h.wrEnvCfg
  · exact h.wrEnvDew
  · exact h.wrEnvFwCtl
  · exact h.wrEnvFwData
  · exact h.wrIdTopo
  · exact h.wrIdRoster
  · exact h.wrLkCtl
  · exact h.wrLkCfg
  · exact h.wrLkPrbsCtl
  · exact h.wrDmCtl
  · exact h.wrDmRegion
  · exact h.wrDmMap
  · exact h.wrDmSrIdle
  · exact h.wrDmScrub
  · exact h.wrDmBzBase
  · exact h.wrDmBzLimit
  · exact h.wrDmBzCfg
  · exact h.wrCalCtl
  · exact h.wrCalCfg
  · exact h.wrCalPartner
  · exact h.wrJnCtl
  · exact h.wrJnExpCfg
  · exact h.wrJnRplCfg
  · exact h.wrJnRplSrc
  · exact h.wrJnRplRun
  · exact h.wrErrInfo
  · exact h.wrGlbCmd
  · exact h.wrGlbAlarm
  · exact h.wrSnapCtl
  · exact h.wrInstr

theorem State.Keeps.regWrite {hdr : Hdr} {r : RegN} {ix : List Nat} {d : Nat} (h : σ.Keeps s) :
    σ.Keeps (State.regWrite hdr r ix d s).1 := by
  unfold State.regWrite
  split
  · exact h
  · split
    · exact h
    · exact .ite_fst h (.ite_fst (.ite_fst h h.uncountSlots) (.ite_fst h.wrUnitReg h.wrModule))

/-! ### Host transactions -/

theorem State.Keeps.winRead {a n : Nat} {f ue : List Byte → Ans} (h : σ.Keeps s) : σ.Keeps (winRead a n f ue s).1 :=
  .ite_fst h.readerUe.wake h

theorem State.Keeps.hostRead {a : Nat} (h : σ.Keeps s) : σ.Keeps (hostRead a s).1 :=
  .ite_fst h (.ite_fst h.winRead (.ite_fst h (.ite_fst h h)))

theorem State.Keeps.hostReadB {a n : Nat} (h : σ.Keeps s) : σ.Keeps (hostReadB a n s).1 :=
  .ite_fst h (.ite_fst h (.ite_fst h.winRead (.ite_fst h (.ite_fst h h))))

theorem State.Keeps.hostWrite {hdr : Hdr} {a d : Nat} (h : σ.Keeps s) : σ.Keeps (hostWrite hdr a d s).1 := by
  unfold Machine.hostWrite
  refine .ite_fst h (.ite_fst (.ite_fst h.strWrite h) (.ite_fst (.ite_fst h.hostDramWrite h)
    (.ite_fst h (.ite_fst h (.ite_fst h (.ite_fst h ?_))))))
  split
  · exact h.regWrite
  · exact h

theorem State.Keeps.hostWriteB {a : Nat} {data : List Byte} (h : σ.Keeps s) : σ.Keeps (hostWriteB a data s).1 :=
  .ite_fst h (.ite_fst h (.ite_fst h.strWrite (.ite_fst h.hostDramWrite (.ite_fst h (.ite_fst h h)))))

theorem State.Keeps.doRead {hdr : Hdr} {a : Nat} (h : σ.Keeps s) : σ.Keeps (s.doRead hdr a) := h.request (fun _ h => h.hostRead)

theorem State.Keeps.doReadB {hdr : Hdr} {a n : Nat} (h : σ.Keeps s) : σ.Keeps (s.doReadB hdr a n) := h.request (fun _ h => h.hostReadB)

theorem State.Keeps.doWrite {hdr : Hdr} {a d : Nat} (h : σ.Keeps s) : σ.Keeps (s.doWrite hdr a d) := h.request (fun _ h => h.hostWrite)

theorem State.Keeps.doWriteB {hdr : Hdr} {a : Nat} {data : List Byte} (h : σ.Keeps s) : σ.Keeps (s.doWriteB hdr a data) :=
  .ite h (h.request (fun _ h => h.hostWriteB))

theorem State.Keeps.serviceRequest {tag : Fin 65536} {dst : Fin 16} {op : HostOp} (h : σ.Keeps s) :
    σ.Keeps (serviceRequest tag dst op s) := by
  unfold Machine.serviceRequest
  extract_lets hdr
  split
  · exact h.doRead
  · exact h.doWrite
  · exact h.doReadB
  · exact h.doWriteB

theorem State.Keeps.forwardTimeout {src tag : Nat} (h : σ.Keeps s) : σ.Keeps (forwardTimeout src tag s) := by
  unfold Machine.forwardTimeout
  split
  · exact h
  · split
    · extract_lets s0 _ s1 hdr s2
      have h0 : σ.Keeps s0 := h.goto
      have h1 : σ.Keeps s1 := h0.parts
      have h2 : σ.Keeps s2 := h1.reply
      split
      · exact h2
      · exact h2.foldl fun _ _ h => h.lkSend
    · exact h

theorem State.Keeps.tickAlarm (h : σ.Keeps s) : σ.Keeps (tickAlarm s) := .ite h.wr.raise h

theorem State.Keeps.sendEvent {p : Nat} {m : EvtMsg} (h : σ.Keeps s) : σ.Keeps (s.sendEvent p m) := h.parts.lkSend

theorem State.Keeps.eventMessageSend (h : σ.Keeps s) : σ.Keeps (eventMessageSend s) := by
  unfold Machine.eventMessageSend
  split
  · exact h
  · split
    · exact h
    · extract_lets lost _ s1
      have h1 : σ.Keeps s1 := h.parts
      split
      · exact h1.sendEvent
      · split
        · exact .ite h1 h1.wr.sendEvent
        · exact h1

/-! ### Flits -/

theorem State.Keeps.heartbeat {m n : Nat} (h : σ.Keeps s) : σ.Keeps (s.heartbeat m n) := by
  unfold State.heartbeat
  split
  · exact h.parts
  · exact .ite h.parts h

theorem State.Keeps.tickFlit {p payload : Nat} (h : σ.Keeps s) : σ.Keeps (s.tickFlit p payload) := by
  unfold State.tickFlit
  split
  · exact h
  · extract_lets n src copy part same pass _ r s1
    have hpass : ∀ {t}, σ.Keeps t → σ.Keeps (pass t) := fun h => h.sendTicks
    have h1 : σ.Keeps s1 := h.parts
    split
    · exact h
    · split
      · exact .ite h (hpass h.parts)
      · exact hpass (.ite h1.heartbeat h1)

theorem State.Keeps.fromPort {p : Nat} {hdr : Hdr} {run : State → State} (h : σ.Keeps s) (hrun : ∀ t, σ.Keeps t → σ.Keeps (run t)) :
    σ.Keeps (s.fromPort p hdr run) := by
  unfold State.fromPort
  extract_lets _ s1 _
  have h1 : σ.Keeps s1 := hrun _ h.parts
  split
  · exact h1.foldl fun _ _ h => h.lkSend
  · exact h1.parts

theorem State.Keeps.runPort {p : Nat} {hdr : Hdr} {at_ : Option (BitVec 64)} {run : State → State} (h : σ.Keeps s)
    (hrun : ∀ t, σ.Keeps t → σ.Keeps (run t)) :
    σ.Keeps (s.runPort p hdr at_ run) :=
  .ite h (h.fromPort (fun _ h => hrun _ h))

theorem State.Keeps.reqFlit {p w : Nat} {at_ : Option (BitVec 64)} (h : σ.Keeps s) : σ.Keeps (s.reqFlit p w at_) := by
  unfold State.reqFlit
  extract_lets hdr a op _
  split
  · exact h.runPort (fun _ h => h.doRead)
  · exact .ite (h.runPort (fun _ h => h.doWrite)) (.ite (h.runPort (fun _ h => h.doReadB)) h.parts)

theorem State.Keeps.relay {d w : Nat} (h : σ.Keeps s) : σ.Keeps (s.relay d w) := by
  unfold State.relay
  split
  · exact h.lkSend
  · exact h

theorem State.Keeps.toAnchor {w : Nat} (h : σ.Keeps s) : σ.Keeps (s.toAnchor w) := .ite h.relay h

theorem State.Keeps.dataFlit {p w : Nat} {at_ : Option (BitVec 64)} (h : σ.Keeps s) : σ.Keeps (s.dataFlit p w at_) := by
  unfold State.dataFlit
  extract_lets src tag b back _ s1
  have hback : σ.Keeps (back s) := by
    unfold back
    split
    · exact h.toAnchor
    · split
      · exact h.lkSend
      · exact h.parts
  split
  · exact hback
  · exact .ite (.ite h.parts (h.parts.runPort fun _ h => h.doWriteB)) hback

theorem State.Keeps.respFlit {p w : Nat} (h : σ.Keeps s) : σ.Keeps (s.respFlit p w) := by
  unfold State.respFlit
  split
  · exact h.toAnchor
  · extract_lets _ s1 r _
    have h1 : σ.Keeps s1 := h.parts
    split
    · exact h1.lkSend
    · exact h1.parts

theorem State.Keeps.eventFlit {w : Nat} (h : σ.Keeps s) : σ.Keeps (s.eventFlit w) := by
  unfold State.eventFlit
  split
  · split
    · exact h.lkSend
    · split
      · exact h.lkSend
      · exact h
  · exact h

theorem State.Keeps.tookAbort {u su sm sc : Nat} (h : σ.Keeps s) : σ.Keeps (s.tookAbort u su sm sc) := by
  unfold State.tookAbort
  split
  · exact h
  · extract_lets cause fill _
    exact h.setUnit.foldl fun _ _ h => .ite h (.ite h.setLeaf.wrs h.setLeaf)

theorem State.Keeps.sendBead {d l b : Nat} (h : σ.Keeps s) : σ.Keeps (s.sendBead d l b) := by
  unfold State.sendBead
  extract_lets bytes
  split
  · exact h.foldl fun _ _ h => h.lkSend
  · exact h

theorem State.Keeps.cluMsg {m : CluMsg} (h : σ.Keeps s) : σ.Keeps (s.cluMsg m) := by
  unfold State.cluMsg
  split
  · exact h.tookAbort
  · exact .ite h.occursStrand h
  · exact .ite h.occursXtrig h
  · exact .ite h.addPart h
  · exact .ite h.wrs h
  · exact h.sendBead
  · exact .ite h.farFault h.farMended
  · exact h.renewalConfirm
  · exact h.mapChange
  · exact .ite h h.toldGroup
  · exact .ite h h.idAnchorTakeover
  · exact h.claimRefused
  · exact h
  · exact h
  · exact h
  · exact h
  · exact h
  · exact h

theorem State.Keeps.controlFlit {p w : Nat} {x : FlitIn} (h : σ.Keeps s) : σ.Keeps (s.controlFlit p w x) := by
  unfold State.controlFlit
  extract_lets op
  split
  · exact h.reqFlit
  · split
    · exact h.dataFlit
    · split
      · exact h.respFlit
      · split
        · exact h.eventFlit
        · split
          · exact .ite h.cluMsg h.relay
          · exact h

theorem State.Keeps.seqFlit {p typ seq w : Nat} {b : FlitIn} (h : σ.Keeps s) : σ.Keeps (s.seqFlit p typ seq w b) := by
  unfold State.seqFlit
  extract_lets x s1
  have h1 : σ.Keeps s1 := h.setPort
  exact .ite (.ite h1.controlFlit h1) h.sendNak

theorem State.Keeps.flitReceive {p : Nat} {x : FlitIn} (h : σ.Keeps s) : σ.Keeps (flitReceive p x s) := by
  unfold Machine.flitReceive
  extract_lets raw s typ w s1 s2 _ s1' s2'
  have h : σ.Keeps s := .ite h h.lkAdapt
  have h1 : σ.Keeps s1 := h.lkBump
  have h2 : σ.Keeps s2 := .ite h1.lkBump h1
  have h1' : σ.Keeps s1' := h.setPort
  have h2' : σ.Keeps s2' := .ite h1'.setPort h1'
  split
  · exact .ite h2.sendNak (.ite h1'.lkBump (.ite (.ite h2' h2'.tickFlit) (.ite h2'.seqFlit h2')))
  · exact h

/-! ### An idle base cycle -/

theorem State.Keeps.idle (h : σ.Keeps s) : σ.Keeps s.idle := by
  unfold State.idle
  split
  next hn => exact h.subTo fun _ => hn
  next => exact h

/-! ### Commands and steps -/

/-- Every command answers a next state, and keeps what every command keeps. -/
theorem exec_keeps (i : Instr) (h : σ.Keeps s) : ∃ t, exec i s = .next t ∧ σ.Keeps t := by
  cases i with
  | tickBoundary => exact ⟨_, rfl, h.tickBoundary⟩
  | snapshotExchange => exact ⟨_, rfl, h.snapshotExchange⟩
  | groupDecisionReady => exact ⟨_, rfl, h.groupDecisionReady⟩
  | tickFlitLaunch => exact ⟨_, rfl, h.tickFlitLaunch⟩
  | clusterFlagDeadline => exact ⟨_, rfl, h.clusterFlagDeadline⟩
  | read64 => exact ⟨_, rfl, h.doRead⟩
  | readb => exact ⟨_, rfl, h.doReadB⟩
  | writeb => exact ⟨_, rfl, h.doWriteB⟩
  | write64 => exact ⟨_, rfl, h.doWrite⟩
  | forwardTimeout => exact ⟨_, rfl, h.forwardTimeout⟩
  | serviceRequest => exact ⟨_, rfl, h.serviceRequest⟩
  | ping => exact ⟨_, rfl, h.request fun _ h => h.wrGlbCmd⟩
  | tickAlarm => exact ⟨_, rfl, h.tickAlarm⟩
  | eventMessageSend => exact ⟨_, rfl, h.eventMessageSend⟩
  | queueEntry => exact ⟨_, rfl, h.queueEntry⟩
  | routineStart => exact ⟨_, rfl, h.routineStart⟩
  | vectorIssue => exact ⟨_, rfl, h.leafIssue⟩
  | edgePlace => exact ⟨_, rfl, h.edgePlace⟩
  | compareResult => exact ⟨_, rfl, h.compareResult⟩
  | beadBoundary => exact ⟨_, rfl, h.leafBoundary⟩
  | vectorActionDeadline => exact ⟨_, rfl, h.vectorActionDeadline⟩
  | beadLanding => exact ⟨_, rfl, h.beadLanding⟩
  | streamFetch => exact ⟨_, rfl, h.streamFetch⟩
  | holdResume => exact ⟨_, rfl, h.holdResume⟩
  | holdTimeout => exact ⟨_, rfl, h.holdTimeout⟩
  | runCompletion => exact ⟨_, rfl, h.runCompletion⟩
  | start => exact ⟨_, rfl, h.request fun _ h => h.startWrite⟩
  | runStart => exact ⟨_, rfl, h.unitRunStart⟩
  | abort => exact ⟨_, rfl, h.request fun _ h => h.unitAbort⟩
  | abortTakeEffect => exact ⟨_, rfl, h.leafAbort⟩
  | jump => exact ⟨_, rfl, h.request fun _ h => h.unitJump⟩
  | hostJumpLatch => exact ⟨_, rfl, h.hostJumpLatch⟩
  | clear => exact ⟨_, rfl, h.request fun _ h => h.unitClear⟩
  | strandDescriptorWrite => exact ⟨_, rfl, h.request fun _ h => .ite_fst h (.ite_fst h h.strWrite)⟩
  | seqNext => exact ⟨_, rfl, h.microStep⟩
  | seqJump => exact ⟨_, rfl, h.microStep⟩
  | branchT => exact ⟨_, rfl, h.microStep⟩
  | branchF => exact ⟨_, rfl, h.microStep⟩
  | call => exact ⟨_, rfl, h.microStep⟩
  | ret => exact ⟨_, rfl, h.microStep⟩
  | done => exact ⟨_, rfl, h.microStep⟩
  | wait => exact ⟨_, rfl, h.microStep⟩
  | tickwait => exact ⟨_, rfl, h.tickwait⟩
  | interruptTaken => exact ⟨_, rfl, h.interruptTaken⟩
  | load => exact ⟨_, rfl, h.request fun _ h => h.mcLoad⟩
  | mcLoadComplete => exact ⟨_, rfl, h.mcLoadComplete⟩
  | otpKeyOpen => exact ⟨_, rfl, h.request fun _ h => h.wrOtpKey⟩
  | otpKeyExpire => exact ⟨_, rfl, h.otpKeyExpire⟩
  | programSlot => exact ⟨_, rfl, h.request fun _ h => h.wrOtpCmd⟩
  | revokeSlot => exact ⟨_, rfl, h.request fun _ h => h.wrOtpCmd⟩
  | advanceSvn => exact ⟨_, rfl, h.request fun _ h => h.wrOtpCmd⟩
  | stackFaultClear => exact ⟨_, rfl, h.request fun _ h => h.wrMcStatus⟩
  | swap => exact ⟨_, rfl, h.request fun _ h => h.tsSwap⟩
  | cancel => exact ⟨_, rfl, h.request fun _ h => h.tsCancel⟩
  | tsExchange => exact ⟨_, rfl, h.tsExchange⟩
  | dllLockChange => exact ⟨_, rfl, h.dllLockChange⟩
  | failLogWrite => exact ⟨_, rfl, h.failLogWrite⟩
  | flReset => exact ⟨_, rfl, h.request fun _ h => h.wrFlCtl⟩
  | flCfgWrite => exact ⟨_, rfl, h.request fun _ h => h.wrFlCfg⟩
  | flRdWrite => exact ⟨_, rfl, h.request fun _ h => h.wrFlRd⟩
  | armChannel => exact ⟨_, rfl, h.request fun _ h => h.acqArm⟩
  | acqStop => exact ⟨_, rfl, h.request fun _ h => h.acqStopWrite⟩
  | acqForce => exact ⟨_, rfl, h.request fun _ h => h.acqForce⟩
  | clearChannel => exact ⟨_, rfl, h.request fun _ h => h.acqClear⟩
  | acqSample => exact ⟨_, rfl, h.acqSample⟩
  | triggerOccurrence => exact ⟨_, rfl, h.triggerOccurrence⟩
  | acqDrain => exact ⟨_, rfl, h.acqDrain⟩
  | refinLoss => exact ⟨_, rfl, .ite h h.refinLoss⟩
  | refGateEnd => exact ⟨_, rfl, h.refGateEnd⟩
  | refinQualified => exact ⟨_, rfl, h.refinQualified⟩
  | refRestored => exact ⟨_, rfl, h.refRestored⟩
  | tsWrap => exact ⟨_, rfl, h.tsWrap⟩
  | tmuEdge => exact ⟨_, rfl, h.tmuEdge⟩
  | pairEdgeProcess => exact ⟨_, rfl, h.pairEdgeProcess⟩
  | pairPendingExpire => exact ⟨_, rfl, h.pairPendingExpire⟩
  | pairEnable => exact ⟨_, rfl, h.request fun _ h => .ite_fst h h.wrPairCfg⟩
  | fcModeWrite => exact ⟨_, rfl, h.request fun _ h => .ite_fst h h.wrFcCfg⟩
  | fcGateEnd => exact ⟨_, rfl, h.fcGateEnd⟩
  | cdtStart => exact ⟨_, rfl, h.request fun _ h => h.wrCdtCtl⟩
  | tmuCdtDone => exact ⟨_, rfl, h.tmuCdtDone⟩
  | dcClamp => exact ⟨_, rfl, h.dcClamp⟩
  | dsaOutput => exact ⟨_, rfl, h.dsaOutput⟩
  | dsaGo => exact ⟨_, rfl, h.request fun _ h => h.dsaGo⟩
  | dsaRefReady => exact ⟨_, rfl, h.dsaRefReady⟩
  | dsaStartTimeout => exact ⟨_, rfl, h.dsaStartTimeout⟩
  | dsaDiag => exact ⟨_, rfl, h.request fun _ h => h.dsaDiag⟩
  | dsaDiagDone => exact ⟨_, rfl, h.dsaDiagDone⟩
  | rsStop => exact ⟨_, rfl, h.request fun _ h => h.rsStop⟩
  | rsCommit => exact ⟨_, rfl, h.request fun _ h => h.rsCommit⟩
  | frontPorchStart => exact ⟨_, rfl, h.frontPorchStart⟩
  | teEdge => exact ⟨_, rfl, h.teEdge⟩
  | teTimeout => exact ⟨_, rfl, h.teTimeout⟩
  | mount => exact ⟨_, rfl, h.request fun _ h => h.mountWrite⟩
  | mountComplete => exact ⟨_, rfl, h.mountComplete⟩
  | unmount => exact ⟨_, rfl, h.request fun _ h => h.unmountWrite⟩
  | unmountComplete => exact ⟨_, rfl, h.unmountComplete⟩
  | clusterGroupForm => exact ⟨_, rfl, h.clusterGroupForm⟩
  | linkSignalDetect => exact ⟨_, rfl, h.linkSignalDetect⟩
  | laneTrainDone => exact ⟨_, rfl, h.laneTrainDone⟩
  | trainTimeout => exact ⟨_, rfl, h.trainTimeout⟩
  | capsReceived => exact ⟨_, rfl, h.capsReceived⟩
  | capsTimeout => exact ⟨_, rfl, h.capsTimeout⟩
  | rateStepDone => exact ⟨_, rfl, h.rateStepDone⟩
  | linkWaitExpire => exact ⟨_, rfl, h.linkWaitExpire⟩
  | flitReceive => exact ⟨_, rfl, h.flitReceive⟩
  | nakReceived => exact ⟨_, rfl, h.nakReceived⟩
  | laneLoss => exact ⟨_, rfl, h.laneLoss⟩
  | lkWidth => exact ⟨_, rfl, h.lkWidth⟩
  | rxSilentTimeout => exact ⟨_, rfl, h.rxSilentTimeout⟩
  | laneWiden => exact ⟨_, rfl, h.laneWiden⟩
  | retrain => exact ⟨_, rfl, h.request fun _ h => h.wrLkCtl⟩
  | testEnter => exact ⟨_, rfl, h.request fun _ h => h.wrLkCtl⟩
  | testExit => exact ⟨_, rfl, h.request fun _ h => h.wrLkCtl⟩
  | helloReceived => exact ⟨_, rfl, h.helloReceived⟩
  | helloResend => exact ⟨_, rfl, h.helloResend⟩
  | challengeResponse => exact ⟨_, rfl, h.challengeResponse⟩
  | challengeTimeout => exact ⟨_, rfl, h.challengeTimeout⟩
  | rosterWrite => exact ⟨_, rfl, h.request fun _ h => h.wrIdRoster⟩
  | tickAdoption => exact ⟨_, rfl, h.tickAdoption⟩
  | leaseGrant => exact ⟨_, rfl, h.leaseGrant⟩
  | leaseRenew => exact ⟨_, rfl, h.leaseRenew⟩
  | renewalConfirm => exact ⟨_, rfl, h.renewalConfirm⟩
  | leaseExpiry => exact ⟨_, rfl, h.leaseExpiry⟩
  | phaseMarkerSend => exact ⟨_, rfl, h.phaseMarkerSend⟩
  | phaseMarkerReceive => exact ⟨_, rfl, h.phaseMarkerReceive⟩
  | mapChange => exact ⟨_, rfl, h.mapChange⟩
  | routeChangeApply => exact ⟨_, rfl, h.routeChangeApply⟩
  | idDeparted => exact ⟨_, rfl, h.idDeparted⟩
  | idAnchorLost => exact ⟨_, rfl, h.idAnchorLost⟩
  | tickHoldoverLimit => exact ⟨_, rfl, h.tickHoldoverLimit⟩
  | leaseClaim => exact ⟨_, rfl, h.leaseClaim⟩
  | idAnchorTakeover => exact ⟨_, rfl, h.idAnchorTakeover⟩
  | claimRefused => exact ⟨_, rfl, h.claimRefused⟩
  | idPartitioned => exact ⟨_, rfl, h.idPartitioned⟩
  | plan => exact ⟨_, rfl, h.request fun _ h => h.planWrite⟩
  | plPlanned => exact ⟨_, rfl, h.plPlanned⟩
  | planCommit => exact ⟨_, rfl, h.request fun _ h => h.planCommit⟩
  | planCancel => exact ⟨_, rfl, h.request fun _ h => h.planCancel⟩
  | plLoaded => exact ⟨_, rfl, h.plLoaded⟩
  | replicaCopyDone => exact ⟨_, rfl, h.replicaCopyDone⟩
  | scrubPass => exact ⟨_, rfl, h.scrubPass⟩
  | caAlert => exact ⟨_, rfl, h.caAlert⟩
  | dmRetrain => exact ⟨_, rfl, h.request fun _ h => h.wrDmCtl⟩
  | dmRetrainDone => exact ⟨_, rfl, h.dmRetrainDone⟩
  | dramTempRead => exact ⟨_, rfl, h.dramTempRead⟩
  | dramRefresh => exact ⟨_, rfl, h.dramRefresh⟩
  | selfRefreshEntry => exact ⟨_, rfl, h.selfRefreshEntry⟩
  | hostDramWrite => exact ⟨_, rfl, h.request fun _ h => h.wrDramWin⟩
  | calStartFull => exact ⟨_, rfl, h.request fun _ h => h.wrCalCtl⟩
  | calStartDrift => exact ⟨_, rfl, h.request fun _ h => h.wrCalCtl⟩
  | calAutoStart => exact ⟨_, rfl, h.calAutoStart⟩
  | calComplete => exact ⟨_, rfl, h.calComplete⟩
  | calCancel => exact ⟨_, rfl, h.request fun _ h => h.wrCalCtl⟩
  | calDelete => exact ⟨_, rfl, h.request fun _ h => h.wrCalCtl⟩
  | calRescan => exact ⟨_, rfl, h.request fun _ h => h.wrCalCtl⟩
  | journalDrain => exact ⟨_, rfl, h.journalDrain⟩
  | jnExport => exact ⟨_, rfl, h.request fun _ h => h.wrJnCtl⟩
  | jnExported => exact ⟨_, rfl, h.jnExported⟩
  | powerUp => exact ⟨_, rfl, h.powerUp⟩
  | bootComplete => exact ⟨_, rfl, h.bootComplete⟩
  | powerDown => exact ⟨_, rfl, h.powerDown⟩
  | inputProtection => exact ⟨_, rfl, h.inputProtection⟩
  | thermalTrip => exact ⟨_, rfl, h.thermalTrip⟩
  | sensorSample => exact ⟨_, rfl, h.sensorSample⟩
  | safeEntry => exact ⟨_, rfl, h.safeEntry⟩
  | safePark => exact ⟨_, rfl, h.safePark⟩
  | safeEnter => exact ⟨_, rfl, h.request fun _ h => h.wrEnvCtl⟩
  | safeExit => exact ⟨_, rfl, h.request fun _ h => h.wrEnvCtl⟩
  | clearOkReached => exact ⟨_, rfl, h.clearOkReached⟩
  | dewStaleTimeout => exact ⟨_, rfl, h.dewStaleTimeout⟩
  | faultEntry => exact ⟨_, rfl, h.faultEntry⟩
  | moduleReset => exact ⟨_, rfl, h.request fun _ h => h.wrEnvCtl⟩
  | pfeFault => exact ⟨_, rfl, h.pfeFault⟩
  | triginEdge => exact ⟨_, rfl, h.triginEdge⟩
  | fwBegin => exact ⟨_, rfl, h.request fun _ h => h.wrEnvFwCtl⟩
  | fwDataWrite => exact ⟨_, rfl, h.request fun _ h => h.wrEnvFwData⟩
  | fwCommit => exact ⟨_, rfl, h.request fun _ h => h.wrEnvFwCtl⟩
  | clampReturned => exact ⟨_, rfl, h.wr⟩
  | fwVerifyDone => exact ⟨_, rfl, h.fwVerifyDone⟩
  | secondaryRegistration => exact ⟨_, rfl, h.secondaryRegistration⟩
  | prbsCheckerLock => exact ⟨_, rfl, h.prbsCheckerLock⟩
  | widthRequest => exact ⟨_, rfl, h.widthRequest⟩
  | alertNDeassert => exact ⟨_, rfl, h.alertNDeassert⟩

theorem step_of_pending_nil (hp : s.pending = []) : step s = .next s.idle := by
  unfold step
  rw [hp]

theorem step_of_pending_cons {i : Instr} {rest : List Instr} (hp : s.pending = i :: rest) :
    step s = exec i { s with pending := rest } := by
  unfold step
  rw [hp]

/-- A step keeps what a command keeps, from the state without the front of the queue. -/
theorem step_keeps (e : step s = .next t) : State.Keeps { s with pending := s.pending.tail } t := by
  cases hp : s.pending with
  | nil =>
    have hs : State.Keeps { s with pending := [] } s := ⟨hp, id, id, id, id⟩
    obtain rfl : s.idle = t := Host.Outcome.next.inj ((step_of_pending_nil hp).symm.trans e)
    exact hs.idle
  | cons i rest =>
    obtain ⟨t', ht, hk⟩ := exec_keeps i (State.Keeps.rfl (s := { s with pending := rest }))
    obtain rfl : t' = t := Host.Outcome.next.inj (ht.symm.trans ((step_of_pending_cons hp).symm.trans e))
    exact hk

end

/-- Settles O3: one field of `step_keeps`. -/
theorem stepKeepsClock : Obligations.StepKeepsClock := fun _ _ h e => (step_keeps e).subOk h

/-- Settles O4: one field of `step_keeps`. -/
theorem stepKeepsRegs : Obligations.StepKeepsRegs := fun _ _ h e => (step_keeps e).regsOk h

/-- Settles O5: two fields of `step_keeps`. -/
theorem stepKeepsMemory : Obligations.StepKeepsMemory := fun _ _ ⟨hm, hs⟩ e => ⟨(step_keeps e).memOk hm, (step_keeps e).strOk hs⟩

end Sys2Proof.Machine
end

section
/-! PROOFS. The idle base cycle (R1, R19). -/

namespace Sys2Proof.Machine

/-! ### What the clock leaves: the place it was moved to, and every cell but MC_UREG -/

theorem State.reveal_sub (s : State) (l : Nat) (c : Ctx) : (s.reveal l c).sub = s.sub := State.wrs_sub _ _

theorem State.reveal_keepsCells (s : State) (l : Nat) (c : Ctx) : s.keepsCells [F.MC_UREG_VALUE.key] (s.reveal l c) := by
  intro g j hg hn
  unfold State.reveal
  rw [State.rd_wrs_ne]
  · rfl
  · intro e he
    obtain ⟨u, -, rfl⟩ := List.mem_map.1 he
    exact cellNo_ne (f := F.MC_UREG_VALUE) (by decide) hg fun hk => hn (List.mem_singleton.2 hk)

theorem State.reveals_keep (es : List (Nat × Nat × Ctx)) (s : State) :
    let t := es.foldl (fun (s : State) (e : Nat × Nat × Ctx) => s.reveal e.2.1 e.2.2) s
    t.sub = s.sub ∧ s.keepsCells [F.MC_UREG_VALUE.key] t := by
  induction es generalizing s with
  | nil => exact ⟨rfl, s.keepsCells_refl _⟩
  | cons e es ih =>
    obtain ⟨hsub, hcells⟩ := ih (s.reveal e.2.1 e.2.2)
    exact ⟨hsub.trans (s.reveal_sub _ _), State.keepsCells_mono (State.keepsCells_trans (s.reveal_keepsCells _ _) hcells) (by simp)⟩

theorem State.showDue_keep (s : State) (t : Nat) : (s.showDue t).sub = s.sub ∧ s.keepsCells [F.MC_UREG_VALUE.key] (s.showDue t) := by
  unfold State.showDue
  split
  · exact ⟨rfl, s.keepsCells_refl _⟩
  · exact State.reveals_keep _ _

/-- The clock moved to a place of the tick stands there. -/
theorem State.subTo_sub (s : State) (n : Nat) : (s.subTo n).sub = n := by
  unfold State.subTo
  rw [(State.showDue_keep _ _).1]
  split <;> rfl

theorem State.subTo_keepsCells (s : State) (n : Nat) : s.keepsCells [F.MC_UREG_VALUE.key] (s.subTo n) := by
  unfold State.subTo
  split
  · exact (State.showDue_keep { s.snapCopy with sub := n } _).2
  · exact (State.showDue_keep { s with sub := n } _).2

theorem State.subTo_tick (s : State) (n : Nat) : (s.subTo n).tick = s.tick :=
  s.subTo_keepsCells n F.GLB_TICK_TICK 0 (by decide) (by decide)

theorem State.subTo_onlyClock (s : State) (n : Nat) : s.onlyClock (s.subTo n) := by
  unfold State.subTo
  refine State.onlyClock_trans ?_ (State.showDue_onlyClock _ _)
  split
  · exact ⟨_, _, _, _, _, rfl⟩
  · exact ⟨_, _, _, _, _, rfl⟩

theorem State.onlyClock.pending {s t : State} (h : s.onlyClock t) : t.pending = s.pending := by
  obtain ⟨r, n, b, sh, v, rfl⟩ := h
  rfl

theorem State.onlyClock.keepsMem {s t : State} (h : s.onlyClock t) : s.keepsMem t := by
  obtain ⟨r, n, b, sh, v, rfl⟩ := h
  exact ⟨⟨fun _ => rfl, fun _ => rfl⟩, fun _ => rfl⟩

theorem State.idle_of_lt {s : State} (h : s.sub + 1024 < 327680) : s.idle = s.subTo (s.sub + 1024) := if_pos h

theorem State.idle_of_le {s : State} (h : 327680 ≤ s.sub + 1024) : s.idle = s := if_neg (Nat.not_lt.2 h)

/-- Settles O2: an idle step moves the clock by one base cycle, or leaves the state at the tick's last one. -/
theorem idleStep : Obligations.IdleStep := by
  intro s hp
  have hs := step_of_pending_nil hp
  constructor
  · intro h
    rw [State.idle_of_lt h] at hs
    have hc := s.subTo_onlyClock (s.sub + 1024)
    exact ⟨_, hs, s.subTo_sub _, s.subTo_tick _, hc.pending.trans hp, hc.keepsMem⟩
  · intro h
    rw [hs, State.idle_of_le h]

end Sys2Proof.Machine
end

section
/-! PROOFS. Reads of the byte windows (R5, R59, R62, R156, R189, R263, R402). -/

namespace Sys2Proof.Machine

/-- A READB inside one block of a byte window that is not the DRAM's takes the window's bytes and changes nothing. -/
theorem hostReadB_window {s : State} {a n : Nat} (ha : s.absentAt a = false) (hw : byteWin a = true) (hd : inDram a = false)
    (hc : crosses a n = false) : hostReadB a n s = (s, .bytes (s.winBytes a n)) := by
  simp [hostReadB, winRead, ha, hw, hd, hc]

/-- R62: a byte of the strand table is a byte of its descriptor. -/
theorem State.winByte_str {s : State} {a : Nat} (h : inStr a = true) :
    s.winByte a = BitVec.ofNat 8 (bits (s.desc ((a - 0x400000) / 32)) (8 * ((a - 0x400000) % 32)) 8) := if_pos h

theorem State.winBytes_getElem? (s : State) {a n i : Nat} (h : i < n) : (s.winBytes a n)[i]? = some (s.winByte (a + i)) := by
  simp [State.winBytes, h]

theorem exec_readb_serves {s : State} {h : Hdr} {addr : BitVec 40} {n : Fin 256} {a : Ans}
    (hs : s.serves h addr.toNat (.readb (n.val + 1))) (hr : hostReadB addr.toNat (n.val + 1) s = (s, a))
    (ha : ∀ r d, a ≠ .rejected r d) :
    exec (.readb h addr n) s = .next (s.respond h a) := by
  have he : exec (.readb h addr n) s = .next (s.doReadB h addr.toNat (n.val + 1)) := rfl
  rw [he, State.doReadB, State.request_serves _ _ _ _ _ hs, State.execute_ok _ _ _ _ _ _ hr ha]

/-- Settles O13: the request is served here, and the read only takes bytes. -/
theorem windowRead : Obligations.WindowRead := by
  intro s h addr n hs ha hw hd hc
  refine ⟨exec_readb_serves hs (hostReadB_window ha hw hd hc) (fun _ _ => Ans.noConfusion), fun i hi hstr => ?_⟩
  rw [s.winBytes_getElem? (Nat.lt_succ_of_le hi), State.winByte_str hstr]

end Sys2Proof.Machine
end

section
/-! PROOFS. Writes of counter registers (R8, R404, R406). -/

namespace Sys2Proof.Machine

/-! ### Where the counters are -/

/-- The address a lies outside every window and names, by the indices ix, the copy i of the counter register r, whose one field is f. -/
def CounterAt (a : Nat) (r : RegN) (ix : List Nat) (f : Fld) (i : Nat) : Prop :=
  (winUnit a = none ∧ byteWin a = false ∧ inSnap a = false ∧ mapped a = true ∧ a % 8 = 0 ∧ ¬(0x11000 ≤ a ∧ a < 0x13000) ∧ a < 2 ^ 40) ∧
    regAt a = some (r, ix) ∧ r.isCounter = true ∧ r.isPairCount = false ∧ r.desc.slots = [⟨0, 32, .rw, some f⟩] ∧ f.w = 32 ∧
    copyAt r.desc.dims ix 0 = i

theorem counterAt_FL_DROPPED : CounterAt 0x300020 .FL_DROPPED [] F.FL_DROPPED_COUNT 0 := by unfold CounterAt; decide

theorem counterAt_JN_LOST : CounterAt 0x380020 .JN_LOST [] F.JN_LOST_COUNT 0 := by unfold CounterAt; decide

theorem counterAt_GLB_ERR_COUNT : CounterAt 0x58 .GLB_ERR_COUNT [] F.GLB_ERR_COUNT_COUNT 0 := by unfold CounterAt; decide

theorem counterAt_ACQ_GAPS : ∀ n < 8, CounterAt (0x310160 + 0x100 * n) .ACQ_GAPS [n] F.ACQ_GAPS_COUNT n := by
  unfold CounterAt; decide

theorem counterAt_LK_CRC_ERR : ∀ p < 5, CounterAt (0x350120 + 0x100 * p) .LK_CRC_ERR [p] F.LK_CRC_ERR_COUNT p := by
  unfold CounterAt; decide

/-! ### What a write of one does -/

section
variable {a i : Nat} {r : RegN} {ix : List Nat} {f : Fld} {s : State}

theorem CounterAt.field_w (hc : CounterAt a r ix f i) : f.w = 32 := by
  obtain ⟨-, -, -, -, -, hw, -⟩ := hc
  exact hw

theorem CounterAt.toNat_ofNat (hc : CounterAt a r ix f i) : (BitVec.ofNat 40 a).toNat = a := by
  obtain ⟨⟨-, -, -, -, -, -, ha⟩, -⟩ := hc
  exact BitVec.toNat_ofNat _ _ ▸ Nat.mod_eq_of_lt ha

theorem windows_of_not_byteWin (h : byteWin a = false) :
    inStr a = false ∧ inDram a = false ∧ inCache a = false ∧ inNames a = false ∧ inFl a = false ∧ inAcq a = false := by
  simpa [byteWin, and_assoc] using h

/-- The address that a rejection records is the written one. -/
theorem CounterAt.errAddr_eq (hc : CounterAt a r ix f i) (l : List Byte) : s.errAddr a l = a := by
  obtain ⟨⟨-, hb, -⟩, -⟩ := hc
  simp [State.errAddr, (windows_of_not_byteWin hb).1]

theorem strayBits_low {x : Slot} {d : Nat} (hlo : x.lo = 0) (hw : x.w = 32) (hd : d < 2 ^ 32) : strayBits [x] d = false := by
  have hb : bits d 0 32 = d := by rw [bits, Nat.pow_zero, Nat.div_one, Nat.mod_eq_of_lt hd]
  simp [strayBits, hlo, hw, hb]

/-- R403: the write goes to the register. -/
theorem CounterAt.hostWrite_eq (hc : CounterAt a r ix f i) (h : Hdr) (d : Nat) : hostWrite h a d s = s.regWrite h r ix d := by
  obtain ⟨⟨hu, hb, hsn, hm, h8, hring, -⟩, hr, -⟩ := hc
  have habs : s.absentAt a = false := by rw [State.absentAt, hu]
  obtain ⟨hstr, hdram, hcache, hnames, hfl, hacq⟩ := windows_of_not_byteWin hb
  have hro : readOnlyWin a = false := by simp [readOnlyWin, hcache, hnames, hfl, hacq, hsn]
  simp [hostWrite, habs, hstr, hdram, hro, hm, h8, if_neg hring, hr]

/-- R406: a counter takes zero only. -/
theorem CounterAt.regWrite_eq (hc : CounterAt a r ix f i) (h : Hdr) {d : Nat} (hd : d < 2 ^ 32) :
    s.regWrite h r ix d = if d ≠ 0 then (s, .rejected rCOUNTER_VALUE 0) else (s.uncount f i, .ok) := by
  obtain ⟨-, -, hcnt, hpair, hslots, -, hcopy⟩ := hc
  have hro : allRo r.desc.slots = false := by rw [hslots]; rfl
  have hstray : strayBits r.desc.slots d = false := by rw [hslots]; exact strayBits_low rfl rfl hd
  have hclear : s.uncountSlots r.desc.slots (copyAt r.desc.dims ix 0) = s.uncount f i := by rw [hslots, hcopy]; rfl
  simp only [State.regWrite, hro, hstray, hpair, hcnt, hclear, Bool.false_and, if_true, Bool.false_eq_true, if_false]

theorem CounterAt.hostWrite_zero (hc : CounterAt a r ix f i) (h : Hdr) : hostWrite h a 0 s = (s.uncount f i, .ok) := by
  rw [hc.hostWrite_eq, hc.regWrite_eq h (by decide), if_neg (not_not.2 rfl)]

theorem CounterAt.hostWrite_ne_zero (hc : CounterAt a r ix f i) (h : Hdr) {d : Nat} (h0 : d ≠ 0) (hd : d < 2 ^ 32) :
    hostWrite h a d s = (s, .rejected rCOUNTER_VALUE 0) := by
  rw [hc.hostWrite_eq, hc.regWrite_eq h hd, if_pos h0]

/-- A WRITE64 that the module serves is executed here. -/
theorem CounterAt.exec_write64 (hc : CounterAt a r ix f i) {h : Hdr} {d : Word} (hs : s.serves h a (.write64 d.toNat)) :
    exec (.write64 h (BitVec.ofNat 40 a) d) s = .next (s.execute h a (hostWrite h a d.toNat)) := by
  have he : exec (.write64 h (BitVec.ofNat 40 a) d) s = .next (s.doWrite h (BitVec.ofNat 40 a).toNat d.toNat) := rfl
  rw [he, hc.toNat_ofNat, State.doWrite, hc.errAddr_eq, State.request_serves _ _ _ _ _ hs]

/-- R8: the marks of another base cycle count for nothing. -/
theorem State.hotOf_other_cycle (h : s.hot.cycle ≠ s.now / 1024) : s.hotOf f i = 0 := if_neg h

theorem State.keepsMem_of_onlyEvt {s t : State} (h : s.onlyEvt t) : s.keepsMem t := by
  obtain ⟨r, e, m, rfl⟩ := h
  exact ⟨⟨fun _ => rfl, fun _ => rfl⟩, fun _ => rfl⟩

/-- R8, R406: zero clears the counter to what the same base cycle has counted. -/
theorem CounterAt.write_zero (hc : CounterAt a r ix f i) {h : Hdr} (hs : s.serves h a (.write64 0)) :
    ∃ t, exec (.write64 h (BitVec.ofNat 40 a) 0) s = .next t ∧ t.told h .ok ∧ t.rd f i = s.hotOf f i % 2 ^ 32 ∧
      s.keepsMem t ∧ ∀ (g : Fld) (j : Nat), cellNo g j ≠ cellNo f i → t.rd g j = s.rd g j := by
  refine ⟨{ s.uncount f i with hot := s.hot }.respond h .ok, ?_, State.respond_told _ _ _, ?_,
    ⟨⟨fun _ => rfl, fun _ => rfl⟩, fun _ => rfl⟩, ?_⟩
  · rw [hc.exec_write64 (d := 0) hs]
    exact congrArg _ (State.execute_ok _ _ _ _ _ _ (hc.hostWrite_zero h) fun _ _ => Ans.noConfusion)
  · rw [← hc.field_w]
    exact s.rd_wr_self f i _
  · exact fun g j hg => s.rd_wr_ne f g i j _ hg

/-- R406: any other value is refused. -/
theorem CounterAt.write_ne_zero (hc : CounterAt a r ix f i) {h : Hdr} {d : Word} (hs : s.serves h a (.write64 d.toNat)) (h0 : d ≠ 0)
    (hd : d.toNat < 2 ^ 32) :
    ∃ t, exec (.write64 h (BitVec.ofNat 40 a) d) s = .next t ∧ t.told h (.rejected 0x0A 0) ∧ s.keepsCells rejectKeys t ∧ s.keepsMem t := by
  have h0' : d.toNat ≠ 0 := fun e => h0 (BitVec.eq_of_toNat_eq e)
  refine ⟨_, (hc.exec_write64 hs).trans (congrArg _ (State.execute_rejected _ _ _ _ _ _ _ (hc.hostWrite_ne_zero h h0' hd))),
    State.respond_told _ _ _, ?_, ?_⟩
  · exact s.recordReject_keepsCells _ _ _ _
  · have hm := State.keepsMem_of_onlyEvt (s.recordReject_onlyEvt a h.src.val rCOUNTER_VALUE 0)
    exact hm

end

/-- Settles O14: each named register is a counter alone at its address, and a write of one is answered by its value. -/
theorem counterWrite : Obligations.CounterWrite := by
  intro s h a f i d hmem hs
  obtain ⟨r, ix, hc⟩ : ∃ r ix, CounterAt a r ix f i := by
    rcases hmem with hm | ⟨n, hn, he⟩ | ⟨p, hp, he⟩
    · simp only [List.mem_cons, List.not_mem_nil, or_false] at hm
      rcases hm with he | he | he <;> cases he
      · exact ⟨_, _, counterAt_FL_DROPPED⟩
      · exact ⟨_, _, counterAt_JN_LOST⟩
      · exact ⟨_, _, counterAt_GLB_ERR_COUNT⟩
    · cases he
      exact ⟨_, _, counterAt_ACQ_GAPS _ hn⟩
    · cases he
      exact ⟨_, _, counterAt_LK_CRC_ERR _ hp⟩
  constructor
  · rintro rfl
    obtain ⟨t, ht, htold, hrd, hmem, hcells⟩ := hc.write_zero hs
    exact ⟨t, ht, htold, hrd, fun hcyc => by rw [hrd, State.hotOf_other_cycle hcyc, Nat.zero_mod], hmem, hcells⟩
  · exact fun h0 hd => hc.write_ne_zero hs h0 hd

end Sys2Proof.Machine
end

section
/-! PROOFS. The frame of what a command does at one instant: the memories, the strand table, the clock with its snapshot, the replay,
the folded flags, the places at which the leaves play, and a list of register cells that the statements about the tick, the play and
the results follow.

`σ.Frame ex s` relates the state σ to a state s on the way of a command. As with `State.Keeps`, each operation has one lemma
`State.Frame.<operation> : σ.Frame ex s → σ.Frame ex (s.<operation> …)`; `ex` lists the followed cells that the way may change.

Here and in the sections that follow, declarations are elaborated one after the other, as in the tests: all of them in flight at once would
need more threads than the memory limit allows. -/

namespace Sys2Proof.Machine

set_option Elab.async false

/-- The cells that the statements follow: GLB_TICK, ID_FLAG_MISS, UNIT_VCOUNT, UNIT_PFAIL, UNIT_FVEC, the first-fail registers
and the periods of the time sets. -/
def followed : List Nat :=
  [F.GLB_TICK_TICK.key, F.ID_FLAG_MISS_COUNT.key, F.UNIT_VCOUNT_VCOUNT.key, F.UNIT_PFAIL_COUNT.key, F.UNIT_FVEC_COUNT.key,
   F.UNIT_FF_POS_VALID.key, F.UNIT_FF_POS_VINDEX.key, F.UNIT_FF_WHERE_STRAND.key, F.UNIT_FF_WHERE_BEAD.key, F.TS_PERIOD_PERIOD.key]

/-- A field may be written where only the followed cells `ex` may change. -/
def Fld.may (f : Fld) (ex : List Nat) : Bool := decide (f.key < 1024) && (!followed.contains f.key || ex.contains f.key)

theorem Fld.lt_of_may {f : Fld} {ex : List Nat} (h : f.may ex = true) : f.key < 1024 := by
  simp only [Fld.may, Bool.and_eq_true, decide_eq_true_eq] at h
  exact h.1

theorem Fld.key_ne_of_may {f g : Fld} {ex : List Nat} (h : f.may ex = true) (hg : g.key ∈ followed) (hx : g.key ∉ ex) : g.key ≠ f.key := by
  intro he
  rw [he] at hg hx
  simp [Fld.may, hg, hx] at h

theorem lt_of_mem_followed {k : Nat} (h : k ∈ followed) : k < 1024 :=
  (by decide : ∀ k ∈ followed, k < 1024) k h

/-- Where a leaf plays: what the next period starts from. -/
structure Place where
  phase : Phase
  raster : Bool
  queue : List QEnt
  rptLeft : Nat
  hold : Option Hold
  nextStart : Nat
  off : Nat
  last : List PS

/-- Where a leaf plays. -/
def Leaf.place (x : Leaf) : Place := ⟨x.phase, x.raster, x.queue, x.rptLeft, x.hold, x.nextStart, x.off, x.last⟩

/-- What an operation at one instant leaves as it was. -/
structure Core where
  dram : DramSt
  sram : SramSt
  strands : StrandSt
  sub : Nat
  snap : SnapSt
  replay : Replay
  folds : List (Nat × Nat × Nat × Nat × Bool)

/-- The memories, the strand table, the clock with its snapshot, the replay and the folded flags. -/
def State.core (s : State) : Core := ⟨s.dram, s.sram, s.strands, s.sub, s.snap, s.jn.replay, s.clu.folds⟩

/-- What the way of a command from σ to s leaves as it was; the followed cells `ex` may change. -/
structure State.Frame (σ : State) (ex : List Nat) (s : State) : Prop where
  cells : ∀ (g : Fld) (j : Nat), g.key ∈ followed → g.key ∉ ex → s.rd g j = σ.rd g j
  core : s.core = σ.core
  place : ∀ l, (s.leaf l).place = (σ.leaf l).place

section
variable {σ s t : State} {ex : List Nat}

theorem State.Frame.rfl : s.Frame ex s := ⟨fun _ _ _ _ => Eq.refl _, Eq.refl _, fun _ => Eq.refl _⟩

theorem State.Frame.trans (h : σ.Frame ex s) (h' : s.Frame ex t) : σ.Frame ex t :=
  ⟨fun g j hg hx => (h'.cells g j hg hx).trans (h.cells g j hg hx), h'.core.trans h.core, fun l => (h'.place l).trans (h.place l)⟩

theorem State.Frame.mono {ex' : List Nat} (h : σ.Frame ex s) (hs : ex ⊆ ex') : σ.Frame ex' s :=
  ⟨fun g j hg hx => h.cells g j hg fun hm => hx (hs hm), h.core, h.place⟩

/-! ### What the frame gives -/

theorem State.Frame.dram (h : σ.Frame ex s) : s.dram = σ.dram := congrArg Core.dram h.core
theorem State.Frame.sram (h : σ.Frame ex s) : s.sram = σ.sram := congrArg Core.sram h.core
theorem State.Frame.strands (h : σ.Frame ex s) : s.strands = σ.strands := congrArg Core.strands h.core
theorem State.Frame.sub (h : σ.Frame ex s) : s.sub = σ.sub := congrArg Core.sub h.core
theorem State.Frame.snap (h : σ.Frame ex s) : s.snap = σ.snap := congrArg Core.snap h.core
theorem State.Frame.replay (h : σ.Frame ex s) : s.jn.replay = σ.jn.replay := congrArg Core.replay h.core
theorem State.Frame.folds (h : σ.Frame ex s) : s.clu.folds = σ.clu.folds := congrArg Core.folds h.core

theorem State.Frame.tick (h : σ.Frame [] s) : s.tick = σ.tick := h.cells F.GLB_TICK_TICK 0 (by decide) (by decide)

theorem State.keepsBytes_of_eq (hd : t.dram = s.dram) (hs : t.sram = s.sram) : s.keepsBytes t :=
  ⟨fun _ => by rw [hd], fun _ => by rw [State.sramByte, State.sramByte, hs]⟩

theorem State.keepsMem_of_eq (hd : t.dram = s.dram) (hs : t.sram = s.sram) (hst : t.strands = s.strands) : s.keepsMem t :=
  ⟨State.keepsBytes_of_eq hd hs, fun _ => by rw [State.desc, State.desc, hst]⟩

theorem State.Frame.keepsMem (h : σ.Frame ex s) : σ.keepsMem s := State.keepsMem_of_eq h.dram h.sram h.strands

theorem State.keepsMem_trans {u : State} (h : s.keepsMem t) (h' : t.keepsMem u) : s.keepsMem u := by
  obtain ⟨⟨hd, hs⟩, hst⟩ := h
  obtain ⟨⟨hd', hs'⟩, hst'⟩ := h'
  exact ⟨⟨fun a => (hd' a).trans (hd a), fun a => (hs' a).trans (hs a)⟩, fun id => (hst' id).trans (hst id)⟩

/-! ### Rules for the parts of a state -/

/-- The parts that the frame does not speak of may change. The update is written out so that a caller's record update matches it as it
stands. -/
theorem State.Frame.parts {pending : List Instr} {host : HostSt} {evt : EvtSt} {jn : JnSt} {caches : Table Cache}
    {engines : Table Engine} {units : Table UnitSt} {pulses : List Pulse} {mc : McSt} {fl : FlSt} {mnt : MntSt} {pl : PlSt}
    {trig : TrigSt} {acq : AcqSt} {tmu : TmuSt} {dc : DcSt} {ras : RasSt} {lk : LkSt} {clu : CluSt} {cal : CalSt} {env : EnvSt}
    {shown : Table Ctx} {vis : List (Nat × Nat × Ctx)} {hot : HotSt} {lvl : LvlSt} {free : Nat} (h : σ.Frame ex s)
    (hj : jn.replay = s.jn.replay := by rfl) (hc : clu.folds = s.clu.folds := by rfl) :
    σ.Frame ex { s with
      pending := pending, host := host, evt := evt, jn := jn, caches := caches, engines := engines, units := units, pulses := pulses,
      mc := mc, fl := fl, mnt := mnt, pl := pl, trig := trig, acq := acq, tmu := tmu, dc := dc, ras := ras, lk := lk, clu := clu,
      cal := cal, env := env, shown := shown, vis := vis, hot := hot, lvl := lvl, free := free } := by
  obtain ⟨hcells, hcore, hplace⟩ := h
  refine ⟨hcells, Eq.trans ?_ hcore, hplace⟩
  simp only [State.core, hj, hc]

theorem State.Frame.setLeaf {l : Nat} {x : Leaf} (h : σ.Frame ex s) (hp : x.place = (s.leaf l).place := by rfl) :
    σ.Frame ex (s.setLeaf l x) := by
  refine ⟨h.cells, h.core, fun k => Eq.trans ?_ (h.place k)⟩
  by_cases hk : k = l
  · rw [hk, State.leaf_setLeaf_self, hp]
  · rw [State.leaf_setLeaf_ne _ _ _ _ hk]

theorem State.Frame.wr {f : Fld} {i v : Nat} (h : σ.Frame ex s) (hf : f.may ex = true := by rfl) : σ.Frame ex (s.wr f i v) :=
  ⟨fun g j hg hx => (s.rd_wr_ne f g i j v (cellNo_ne (Fld.lt_of_may hf) (lt_of_mem_followed hg) (Fld.key_ne_of_may hf hg hx))).trans (h.cells g j hg hx),
    h.core, h.place⟩

theorem State.Frame.wrs {l : List (Fld × Nat × Nat)} (h : σ.Frame ex s) (hl : (l.all fun e => e.1.may ex) = true := by rfl) :
    σ.Frame ex (s.wrs l) := by
  induction l generalizing s with
  | nil => exact h
  | cons e l ih =>
    obtain ⟨he, hl⟩ := Bool.and_eq_true_iff.1 hl
    exact ih (h.wr he) hl

theorem State.Frame.ite {c : Prop} [Decidable c] {a b : State} (ha : σ.Frame ex a) (hb : σ.Frame ex b) :
    σ.Frame ex (if c then a else b) := by split <;> assumption

theorem State.Frame.foldl {α : Type} {l : List α} {g : State → α → State} (h : σ.Frame ex s)
    (hg : ∀ t a, σ.Frame ex t → σ.Frame ex (g t a)) : σ.Frame ex (l.foldl g s) := by
  induction l generalizing s with
  | nil => exact h
  | cons a l ih => exact ih (hg s a h)

/-- For a result taken apart by `let (t, a) := p`. -/
theorem State.Frame.of_eq {α : Type} {p : State × α} {a : α} (h : σ.Frame ex p.1) (e : p = (t, a)) : σ.Frame ex t := by
  subst e; exact h

/-- An operation that changes register cells, the event ring and the marks (R8), and of the followed cells none but `ex`. -/
theorem State.Frame.onlyEvt {ks : List Nat} (h : σ.Frame ex s) (ho : s.onlyEvt t) (hc : s.keepsCells ks t)
    (hk : ∀ k ∈ ks, k ∈ followed → k ∈ ex) : σ.Frame ex t := by
  obtain ⟨r, e, m, rfl⟩ := ho
  exact ⟨fun g j hg hx => (hc g j (lt_of_mem_followed hg) fun hm => hx (hk _ hm hg)).trans (h.cells g j hg hx), h.core, h.place⟩

theorem eventKeys_not_followed {k : Nat} (h : k ∈ eventKeys) : k ∉ followed := (by decide : ∀ k ∈ eventKeys, k ∉ followed) k h

theorem rejectKeys_not_followed {k : Nat} (h : k ∈ rejectKeys) : k ∉ followed := (by decide : ∀ k ∈ rejectKeys, k ∉ followed) k h

theorem Fld.mem_of_may {f : Fld} (h : f.may ex = true) (hf : f.key ∈ followed) : f.key ∈ ex := by
  by_contra hx
  exact Fld.key_ne_of_may h hf hx (Eq.refl _)

/-! ### The shared operations -/

theorem State.Frame.raise {code index data dataHi : Nat} (h : σ.Frame ex s) : σ.Frame ex (s.raise code index data dataHi) :=
  h.onlyEvt (s.raise_onlyEvt _ _ _ _) (s.raise_keepsCells _ _ _ _) fun _ hk hf => absurd hf (eventKeys_not_followed hk)

theorem State.Frame.flagBits {f : Fld} {i m : Nat} (h : σ.Frame ex s) (hf : f.may ex = true := by rfl) : σ.Frame ex (s.flagBits f i m) :=
  h.onlyEvt (s.flagBits_onlyEvt _ _ _) (s.flagBits_keepsCells _ _ _ (Fld.lt_of_may hf)) fun _ hk hfol =>
    (List.mem_singleton.1 hk) ▸ Fld.mem_of_may hf ((List.mem_singleton.1 hk) ▸ hfol)

theorem State.Frame.flag {f : Fld} {i : Nat} (h : σ.Frame ex s) (hf : f.may ex = true := by rfl) : σ.Frame ex (s.flag f i) :=
  h.flagBits hf

theorem State.Frame.bump {f : Fld} {i n : Nat} {sat : Fld} {si row off : Nat} (h : σ.Frame ex s) (hf : f.may ex = true := by rfl)
    (hs : sat.may ex = true := by rfl) : σ.Frame ex (s.bump f i n sat si row off) := by
  refine h.onlyEvt (s.bump_onlyEvt _ _ _ _ _ _ _) (s.bump_keepsCells _ _ _ _ _ _ _ (Fld.lt_of_may hf) (Fld.lt_of_may hs)) fun k hk hfol => ?_
  rcases List.mem_cons.1 hk with rfl | hk
  · exact Fld.mem_of_may hf hfol
  · rcases List.mem_cons.1 hk with rfl | hk
    · exact Fld.mem_of_may hs hfol
    · exact absurd hfol (eventKeys_not_followed hk)

theorem State.Frame.recordReject {addr src reason detail : Nat} (h : σ.Frame ex s) : σ.Frame ex (s.recordReject addr src reason detail) :=
  h.onlyEvt (s.recordReject_onlyEvt _ _ _ _) (s.recordReject_keepsCells _ _ _ _) fun _ hk hf => absurd hf (rejectKeys_not_followed hk)

theorem State.Frame.journal {typ leaf : Nat} {rep : Bool} {body : Nat} (h : σ.Frame ex s) : σ.Frame ex (s.journal typ leaf rep body) := by
  unfold State.journal
  split
  · exact h.parts
  · extract_lets s1 _ s2 s3
    have h1 : σ.Frame ex s1 := .ite h.flag h
    have h2 : σ.Frame ex s2 := h1.parts
    have h3 : σ.Frame ex s3 := h2.bump
    exact .ite h3.raise h3

theorem State.Frame.reveal {l : Nat} {c : Ctx} (h : σ.Frame ex s) : σ.Frame ex (s.reveal l c) :=
  State.Frame.wrs h.parts (by simp only [List.all_map, List.all_eq_true]; exact fun _ _ => Eq.refl _)

theorem State.Frame.showDue {t : Nat} (h : σ.Frame ex s) : σ.Frame ex (s.showDue t) := .ite h (h.parts.foldl fun _ _ h => h.reveal)

theorem State.Frame.askAbort {l : Nat} {a : AbortReq} (h : σ.Frame ex s) : σ.Frame ex (s.askAbort l a) := h.setLeaf

theorem State.Frame.askAll {ls : List Nat} {a : AbortReq} (h : σ.Frame ex s) : σ.Frame ex (s.askAll ls a) :=
  h.foldl fun _ _ h => h.askAbort

theorem State.Frame.parkPins {ls : List Nat} (h : σ.Frame ex s) : σ.Frame ex (s.parkPins ls) :=
  h.foldl fun t l h => State.Frame.setLeaf (l := l) (x := { t.leaf l with drv := parkedDrv }) h

theorem State.Frame.fresh (h : σ.Frame ex s) : σ.Frame ex s.fresh.1 := h.parts

/-! ### What feeds the acquisition channels -/

theorem State.Frame.pushItem {n : Nat} {i : AcqItem} (h : σ.Frame ex s) : σ.Frame ex (s.pushItem n i) := h.parts

theorem State.Frame.feedPin {l vindex start : Nat} (h : σ.Frame ex s) : σ.Frame ex (s.feedPin l vindex start) :=
  h.foldl fun _ _ h => h.pushItem

theorem State.Frame.feedFail {l start word fails : Nat} (h : σ.Frame ex s) : σ.Frame ex (s.feedFail l start word fails) :=
  h.foldl fun _ _ h => h.pushItem

theorem State.Frame.feedHoldStart {l start : Nat} (h : σ.Frame ex s) : σ.Frame ex (s.feedHoldStart l start) :=
  h.foldl fun _ _ h => h.pushItem

theorem State.Frame.occurs {src t : Nat} {ok : Nat → Bool} (h : σ.Frame ex s) : σ.Frame ex (s.occurs src t ok) :=
  h.foldl fun _ _ h => h.parts

theorem State.Frame.flushEvents {l qid t : Nat} (h : σ.Frame ex s) : σ.Frame ex (s.flushEvents l qid t) :=
  h.parts.foldl fun _ _ h => h.occurs

/-! ### Aborts of a group -/

theorem State.Frame.groupStop {u n t src m : Nat} (h : σ.Frame ex s) : σ.Frame ex (s.groupStop u n t src m) :=
  h.foldl fun _ _ h => .ite h (.ite h.setLeaf (.ite h.setLeaf.wr h))

/-! ### The engine's micro loops -/

theorem State.Frame.mapLoops {l : Nat} {f : List (Nat × Nat) → List (Nat × Nat)} (h : σ.Frame ex s) : σ.Frame ex (s.mapLoops l f) := h.parts

end

end Sys2Proof.Machine
end

section
/-! PROOFS. The clock moved inside the tick: what it leaves as it was (R19, R27, R28). -/

namespace Sys2Proof.Machine

set_option Elab.async false

section
variable {s t : State}

theorem State.goto_keepsCells (s : State) (t : Nat) : s.keepsCells [F.MC_UREG_VALUE.key] (s.goto t) := by
  unfold State.goto
  split
  · exact s.subTo_keepsCells _
  · exact s.keepsCells_refl _

/-- The clock that moves shows commits in MC_UREG; every other field reads as before. -/
theorem State.goto_rd (s : State) (t : Nat) (f : Fld) (i : Nat) (hf : f.key < 1024 := by decide)
    (hn : f.key ∉ [F.MC_UREG_VALUE.key] := by decide) : (s.goto t).rd f i = s.rd f i :=
  s.goto_keepsCells t f i hf hn

theorem State.goto_tick (s : State) (t : Nat) : (s.goto t).tick = s.tick := s.goto_rd t _ _

theorem State.goto_keepsMem (s : State) (t : Nat) : s.keepsMem (s.goto t) := (s.goto_onlyClock t).keepsMem

theorem State.goto_leaf (s : State) (t l : Nat) : (s.goto t).leaf l = s.leaf l := by
  obtain ⟨r, n, b, sh, v, h⟩ := s.goto_onlyClock t
  rw [h]; rfl

theorem State.goto_eng (s : State) (t l : Nat) : (s.goto t).eng l = s.eng l := by
  obtain ⟨r, n, b, sh, v, h⟩ := s.goto_onlyClock t
  rw [h]; rfl

theorem State.goto_port (s : State) (t p : Nat) : (s.goto t).port p = s.port p := by
  obtain ⟨r, n, b, sh, v, h⟩ := s.goto_onlyClock t
  rw [h]; rfl

theorem State.goto_clu (s : State) (t : Nat) : (s.goto t).clu = s.clu := by
  obtain ⟨r, n, b, sh, v, h⟩ := s.goto_onlyClock t
  rw [h]

theorem State.goto_jn (s : State) (t : Nat) : (s.goto t).jn = s.jn := by
  obtain ⟨r, n, b, sh, v, h⟩ := s.goto_onlyClock t
  rw [h]

theorem State.goto_mnt (s : State) (t : Nat) : (s.goto t).mnt = s.mnt := by
  obtain ⟨r, n, b, sh, v, h⟩ := s.goto_onlyClock t
  rw [h]

theorem State.goto_module (s : State) (t : Nat) : (s.goto t).module = s.module := by
  unfold State.module State.admitted
  rw [s.goto_rd t F.ID_STAT_STATE 0, s.goto_rd t F.ID_STAT_MODULE 0]

theorem State.goto_image (s : State) (t : Nat) : (s.goto t).image = s.image := by
  unfold State.image
  rw [s.goto_rd t F.MNT_STATUS_STATE 0, s.goto_mnt t]

theorem State.leavesOf_of_image (h : t.image = s.image) (u : Nat) : t.leavesOf u = s.leavesOf u := by
  unfold State.leavesOf
  rw [h]

theorem State.goto_leavesOf (s : State) (t u : Nat) : (s.goto t).leavesOf u = s.leavesOf u := State.leavesOf_of_image (s.goto_image t) u

theorem State.goto_period (s : State) (t bank l set : Nat) : (s.goto t).period bank l set = s.period bank l set := s.goto_rd t _ _

end

end Sys2Proof.Machine
end

section
/-! PROOFS. The state after reset (R377). -/

namespace Sys2Proof.Machine

set_option Elab.async false

/-- Settles O7: every part of the reset state is empty, every cell at its reset value. -/
theorem resetState : Obligations.ResetState :=
  ⟨rfl, rfl, rfl, rfl, rfl, rfl, tickTu_pos, Table.wf_nil, ⟨Table.wf_nil, Table.wf_nil⟩, Table.wf_nil⟩

end Sys2Proof.Machine
end

section
/-! PROOFS. The snapshot's exchange (R27 to R29, R161). -/

namespace Sys2Proof.Machine

set_option Elab.async false

section
variable {s t : State}

/-- R161: only what is kept and formed for other modules changes. -/
theorem State.shareParts_only (s : State) : ∃ c : CluSt, s.shareParts = { s with clu := c } := by
  have hfold (l : List (Nat × List Nat)) (g : State → Nat × List Nat → State) (hg : ∀ t e, ∃ c : CluSt, g t e = { t with clu := c })
      (s : State) : ∃ c : CluSt, l.foldl g s = { s with clu := c } := by
    induction l generalizing s with
    | nil => exact ⟨s.clu, rfl⟩
    | cons e l ih =>
      obtain ⟨c, hc⟩ := hg s e
      obtain ⟨c', hc'⟩ := ih (g s e)
      exact ⟨c', by rw [List.foldl_cons, hc', hc]⟩
  unfold State.shareParts
  split
  · refine hfold _ _ (fun t e => ?_) s
    split
    · exact ⟨_, rfl⟩
    · exact ⟨_, rfl⟩
  · exact ⟨s.clu, rfl⟩

/-- R27: the front bank of the exchange is the back bank as it stood before the clock moved. -/
theorem snapshotExchange_snap (hoff : s.env.off = false) (hboot : s.mstate ≠ mBoot) (hfresh : s.snap.fresh = true)
    (hfreeze : s.rd F.GLB_SNAP_CTL_FREEZE 0 = 0) :
    (snapshotExchange s).snap = { front := s.snap.back, back := s.snap.front, fresh := false } := by
  have hon : s.on F.GLB_SNAP_CTL_FREEZE 0 = false := by rw [State.on, hfreeze]; rfl
  rw [snapshotExchange, if_pos ⟨hfresh, hon, hoff, hboot⟩]
  obtain ⟨c, hc⟩ := State.shareParts_only
    { s.goto (tickAt s.tick + 64 * cyc) with snap := { front := s.snap.back, back := s.snap.front, fresh := false } }
  rw [hc]

/-- R28: a clock that leaves the edge of a boundary copies the state of its tick into a back bank that was not exchanged. -/
theorem State.goto_snap_back_tick {n : Nat} (h0 : s.sub = 0) (hfresh : s.snap.fresh = true) (hdue : s.due n = true)
    (hn : tickAt s.tick < n) : (s.goto n).snap.back.tick = s.tick := by
  have hpos : 0 < max s.sub (n - tickAt s.tick) := lt_of_lt_of_le (Nat.sub_pos_of_lt hn) (le_max_right _ _)
  rw [State.goto, if_pos hdue, State.subTo, if_pos ⟨h0, hpos, hfresh⟩, (State.Frame.rfl (ex := []).showDue).snap]
  rfl

end

/-- Refutes O9: on the edge of the boundary itself (place 0 in the tick) the clock that leaves the edge copies the state of tick 0 into
the back bank (R28), while the exchange gives the front bank the copy of before, here of tick 9. -/
theorem not_snapshotExchange : ¬ Obligations.SnapshotExchange := by
  intro h
  let s : State := { State.reset.wr F.ENV_STATUS_MSTATE 0 2 with snap := { fresh := true, back := { tick := 9 } } }
  have hboot : s.mstate ≠ 1 := by decide
  obtain ⟨t, he, hfront, -⟩ := (h s rfl hboot rfl).1 rfl
  have ht : snapshotExchange s = t := Host.Outcome.next.inj he
  rw [← ht, snapshotExchange_snap rfl hboot rfl rfl] at hfront
  have h0 : (s.goto (tickAt s.tick + 64 * 1024)).snap.back.tick = 0 := State.goto_snap_back_tick rfl rfl (by decide) (by decide)
  exact absurd ((congrArg Snap.tick hfront).trans h0) (by decide)

end Sys2Proof.Machine
end

section
/-! PROOFS. The tick boundary (R19, R22, R27): what takes effect there leaves the memories and the clock to the boundary itself. -/

namespace Sys2Proof.Machine

set_option Elab.async false

section
variable {σ s t : State} {ex : List Nat}

/-! ### Acquisition, counters, converters -/

theorem State.Frame.acqBegin {n : Nat} (h : σ.Frame ex s) : σ.Frame ex (s.acqBegin n) := by
  unfold State.acqBegin
  extract_lets x st
  split
  · exact h
  · exact .ite (State.Frame.parts h).wr h

theorem State.Frame.setFc {f : Nat} {x : FcSt} (h : σ.Frame ex s) : σ.Frame ex (s.setFc f x) := h.parts

theorem State.Frame.fcRoll {f t : Nat} (h : σ.Frame ex s) : σ.Frame ex (s.fcRoll f t) := by
  unfold State.fcRoll
  extract_lets x
  split
  · exact h
  · exact .ite h.setFc h

theorem State.Frame.fcRollAll (h : σ.Frame ex s) : σ.Frame ex s.fcRollAll := h.foldl fun _ _ h => h.fcRoll

theorem State.Frame.fcMark (h : σ.Frame ex s) : σ.Frame ex s.fcMark := by
  unfold State.fcMark
  refine h.fcRollAll.foldl fun t f h => ?_
  split
  · exact .ite h.setFc h
  · exact h

theorem State.Frame.setPmu {p : Nat} {x : Pmu} (h : σ.Frame ex s) : σ.Frame ex (s.setPmu p x) := h.parts

theorem State.Frame.setDsa {l : Nat} {x : Dsa} (h : σ.Frame ex s) : σ.Frame ex (s.setDsa l x) := h.parts

theorem State.Frame.dsaChange {p us : Nat} (h : σ.Frame ex s) : σ.Frame ex (s.dsaChange p us) := h.setDsa

theorem State.Frame.pmuSet {p : Nat} {y0 : Pmu} (h : σ.Frame ex s) : σ.Frame ex (s.pmuSet p y0) := by
  unfold State.pmuSet
  extract_lets x l y s1 s2
  have h1 : σ.Frame ex s1 := h.setPmu.wr
  have h2 : σ.Frame ex s2 := .ite h1.dsaChange h1
  exact .ite (.ite h2.dsaChange h2) h2.wr

theorem State.Frame.pmuTick {p : Nat} (h : σ.Frame ex s) : σ.Frame ex (s.pmuTick p) := by
  unfold State.pmuTick
  split
  · exact .ite h.pmuSet h
  · exact h

theorem State.Frame.dsaOff {l : Nat} (h : σ.Frame ex s) : σ.Frame ex (s.dsaOff l) := h.setDsa.wrs

theorem State.Frame.dsaTick {l : Nat} (h : σ.Frame ex s) : σ.Frame ex (s.dsaTick l) := by
  unfold State.dsaTick
  extract_lets T x0 took x1 x2 _
  split
  extract_lets changes go ts free off start stop x4 s1
  have h1 : σ.Frame ex s1 := by
    unfold s1
    split
    · exact h.parts
    · exact h
  exact .ite h.setDsa.dsaOff (.ite h1.setDsa.wrs (.ite h.setDsa.wrs (.ite h.setDsa (.ite h.setDsa.wr (.ite h.setDsa h.setDsa)))))

theorem State.Frame.dcTick (h : σ.Frame ex s) : σ.Frame ex s.dcTick := by
  unfold State.dcTick
  extract_lets s1
  have h1 : σ.Frame ex s1 := h.foldl fun _ _ h => h.pmuTick
  exact h1.foldl fun _ _ h => .ite h h.dsaTick

/-! ### Guards -/

theorem State.Frame.exitMeets {causes : Nat} (h : σ.Frame ex s) : σ.Frame ex (s.exitMeets causes) := by
  unfold State.exitMeets
  extract_lets edge _ s1 _
  have h1 : σ.Frame ex s1 := h.parts
  split
  · split
    · exact .ite (State.Frame.parts h1).recordReject h1
    · exact h1
  · exact h

theorem State.Frame.register {causes : Nat} (h : σ.Frame ex s) : σ.Frame ex (s.register causes) := by
  unfold State.register
  extract_lets s' clear _ s1 s2 _
  have h' : σ.Frame ex s' := h.exitMeets
  have h1 : σ.Frame ex s1 := h'.parts
  have h2 : σ.Frame ex s2 := .ite h1 h1.wr
  exact .ite h2.wr.flagBits (.ite h2.parts h2)

theorem State.Frame.safeLeave (h : σ.Frame ex s) : σ.Frame ex s.safeLeave := by
  unfold State.safeLeave
  split
  · exact .ite (State.Frame.parts h).wrs.raise.register h
  · exact h

theorem State.Frame.warn {f : Fld} {b : Bool} (h : σ.Frame ex s) (hf : f.may ex = true := by rfl) : σ.Frame ex (s.warn f b) :=
  .ite (h.wr hf).raise (h.wr hf)

theorem State.Frame.warnings (h : σ.Frame ex s) : σ.Frame ex s.warnings := by
  unfold State.warnings
  extract_lets s1 s2 s3 s4 s5
  have h1 : σ.Frame ex s1 := h.warn
  have h2 : σ.Frame ex s2 := h1.warn
  have h3 : σ.Frame ex s3 := h2.warn
  have h4 : σ.Frame ex s4 := h3.warn
  have h5 : σ.Frame ex s5 := h4.warn
  exact h5.wr

theorem State.Frame.watch (h : σ.Frame ex s) : σ.Frame ex s.watch := by
  unfold State.watch
  extract_lets s1
  have h1 : σ.Frame ex s1 := h.warnings
  exact h1.register

/-! ### The plan: of what the frame speaks of only the strand table changes -/

theorem State.Frame.askFetch {l : Nat} {f : Fetch} (h : σ.Frame ex s) : σ.Frame ex (s.askFetch l f) :=
  .ite (State.Frame.parts (State.Frame.parts h)) (State.Frame.parts h)

theorem State.Frame.takeLayout {p : Plan} {l : Nat} {lay : List (Nat × Nat × Nat)} (h : σ.Frame ex s) : σ.Frame ex (s.takeLayout p l lay) :=
  (State.Frame.parts h).foldl fun _ _ h => h.askFetch

theorem State.Frame.pathLatch (h : σ.Frame ex s) : σ.Frame ex s.pathLatch := by
  unfold State.pathLatch
  split
  · split
    exact h.parts
  · exact h

/-- t is s with another strand table. -/
def State.OtherStrands (s t : State) : Prop := ∃ st : StrandSt, t = { s with strands := st }

theorem State.OtherStrands.trans (h : σ.OtherStrands s) (h' : s.OtherStrands t) : σ.OtherStrands t := by
  obtain ⟨st, rfl⟩ := h
  obtain ⟨st', rfl⟩ := h'
  exact ⟨st', rfl⟩

theorem State.OtherStrands.parts (h : s.OtherStrands t) :
    t.tick = s.tick ∧ t.sub = s.sub ∧ t.snap = s.snap ∧ t.dram = s.dram ∧ t.sram = s.sram := by
  obtain ⟨st, rfl⟩ := h
  exact ⟨rfl, rfl, rfl, rfl, rfl⟩

theorem State.placeStrand_other (s : State) (x : PStrand) : s.OtherStrands (s.placeStrand x) := ⟨_, rfl⟩

theorem State.placeStrands_other (l : List PStrand) (s : State) :
    s.OtherStrands (l.foldl (fun (s : State) x => s.placeStrand x) s) := by
  induction l generalizing s with
  | nil => exact ⟨s.strands, rfl⟩
  | cons x l ih => exact (s.placeStrand_other x).trans (ih _)

theorem State.applyPlan_frame (p : Plan) (s : State) : ∃ u, s.OtherStrands u ∧ u.Frame ex (s.applyPlan p) := by
  refine ⟨_, State.placeStrands_other p.strands s, ?_⟩
  unfold State.applyPlan
  extract_lets u s2 others cur _
  have h2 : u.Frame ex s2 := State.Frame.rfl.foldl fun _ _ h => h.takeLayout
  exact (State.Frame.parts h2).pathLatch.wr.wrs

theorem State.plTick_frame (s : State) : ∃ u, s.OtherStrands u ∧ u.Frame ex s.plTick := by
  have hrfl : ∃ u, s.OtherStrands u ∧ u.Frame ex s := ⟨s, ⟨s.strands, rfl⟩, State.Frame.rfl⟩
  unfold State.plTick
  split
  · split
    · exact s.applyPlan_frame _
    · exact hrfl
  · exact hrfl

/-! ### Calibration -/

theorem State.Frame.lktRefresh (h : σ.Frame ex s) : σ.Frame ex s.lktRefresh := h.wrs

theorem State.Frame.freeLocket {k : Nat} (h : σ.Frame ex s) : σ.Frame ex (s.freeLocket k) :=
  ((State.Frame.parts h).wrs).lktRefresh

theorem State.Frame.calBegin (h : σ.Frame ex s) : σ.Frame ex s.calBegin := by
  unfold State.calBegin
  split
  · exact .ite ((State.Frame.parts h).wr.foldl fun _ _ h => h.setLeaf) h
  · exact h

theorem deskewFld_may (sub : Nat) : (deskewFld sub).may ex = true := by
  unfold deskewFld
  split_ifs <;> rfl

theorem State.Frame.setLive {i : Nat} {v : Int} (h : σ.Frame ex s) : σ.Frame ex (s.setLive i v) := by
  unfold State.setLive
  split
  exact .ite (h.wr (deskewFld_may _)) h.parts

theorem State.Frame.slewTrims (h : σ.Frame ex s) : σ.Frame ex s.slewTrims :=
  .ite h.parts (State.Frame.parts (h.foldl fun _ _ h => .ite h h.setLive))

theorem State.Frame.idleDacs (h : σ.Frame ex s) : σ.Frame ex s.idleDacs := h.foldl fun _ _ h => .ite h h.parts

theorem State.Frame.followExtrap (h : σ.Frame ex s) : σ.Frame ex s.followExtrap := h.wr.foldl fun _ _ h => .ite h h.raise

theorem State.Frame.followDue (h : σ.Frame ex s) : σ.Frame ex s.followDue := by
  unfold State.followDue
  extract_lets f due old s1 s2 _
  have h1 : σ.Frame ex s1 := h.wr
  have h2 : σ.Frame ex s2 := h1.flag
  exact .ite (.ite h1 h2.raise) h1.parts

theorem State.Frame.followAuto (h : σ.Frame ex s) : σ.Frame ex s.followAuto := by
  unfold State.followAuto
  split
  · split
    · exact h
    · exact h.parts
  · exact h.parts

theorem State.Frame.calTick (h : σ.Frame ex s) : σ.Frame ex s.calTick := by
  unfold State.calTick
  extract_lets gone _ s1
  have h1 : σ.Frame ex s1 := (State.Frame.parts h).foldl fun _ _ h => h.freeLocket
  exact h1.calBegin.slewTrims.idleDacs.followExtrap.followDue.followAuto

/-! ### Leaves out of service -/

theorem State.Frame.leavesOut (h : σ.Frame ex s) : σ.Frame ex s.leavesOut :=
  (State.Frame.parts h).foldl fun _ _ h => (((State.Frame.ite h.parkPins h.askAbort).wr).raise).journal

theorem State.Frame.parkOut (h : σ.Frame ex s) : σ.Frame ex s.parkOut := h.parkPins

/-! ### The boundary -/

theorem State.showDue_frame (s : State) (t : Nat) : s.Frame [] (s.showDue t) := State.Frame.rfl.showDue

/-- The leaves, the samples and what is kept of ticks past are not among these parts. -/
theorem State.sampled_parts (s : State) :
    s.sampleConds.prune.regs = s.regs ∧ s.sampleConds.prune.sub = s.sub ∧ s.sampleConds.prune.snap = s.snap ∧
      s.sampleConds.prune.dram = s.dram ∧ s.sampleConds.prune.sram = s.sram :=
  ⟨rfl, rfl, rfl, rfl, rfl⟩

/-- R19, R27: the boundary copies a state in which the new tick has begun, with the clock on its edge and the memories and the snapshot
banks as they were. -/
theorem tickBoundary_eq (hoff : s.env.off = false) (hboot : s.mstate ≠ mBoot) :
    ∃ u : State, tickBoundary s = u.snapCopy ∧ u.tick = (s.tick + 1) % 2 ^ 64 ∧ u.sub = 0 ∧ u.snap = s.snap ∧ u.dram = s.dram ∧
      u.sram = s.sram := by
  unfold tickBoundary
  rw [if_neg (by simp [hoff, hboot])]
  extract_lets s0 s' s1 s2 s3 tmu s4
  have h0 : s.Frame [] s0 := s.showDue_frame _
  have htick1 : s1.tick = (s.tick + 1) % 2 ^ 64 := State.rd_wr_self s' F.GLB_TICK_TICK 0 (s.tick + 1)
  obtain ⟨hregs, hsub, hsnap, hdram, hsram⟩ := s1.sampled_parts
  have h3 : s2.Frame [] s3 := State.Frame.rfl.foldl fun _ _ h => h.acqBegin
  have h4 : s2.Frame [] s4 := h3.parts
  have h5 : s2.Frame [] s4.levelTick := h4.parts
  have h6 := h5.fcMark.dcTick.safeLeave.watch
  obtain ⟨v, hv, h7⟩ := State.plTick_frame (ex := []) s4.levelTick.fcMark.dcTick.safeLeave.watch
  obtain ⟨vtick, vsub, vsnap, vdram, vsram⟩ := hv.parts
  have h8 := h7.calTick.leavesOut.parkOut
  have htick2 : s2.tick = s1.tick := congrArg (fun r => RegFile.get r F.GLB_TICK_TICK 0) hregs
  refine ⟨s4.levelTick.fcMark.dcTick.safeLeave.watch.plTick.calTick.leavesOut.parkOut, Eq.refl _, ?_, ?_, ?_, ?_, ?_⟩
  · exact h8.tick.trans (vtick.trans (h6.tick.trans (htick2.trans htick1)))
  · exact h8.sub.trans (vsub.trans (h6.sub.trans hsub))
  · exact h8.snap.trans (vsnap.trans (h6.snap.trans (hsnap.trans h0.snap)))
  · exact h8.dram.trans (vdram.trans (h6.dram.trans (hdram.trans h0.dram)))
  · exact h8.sram.trans (vsram.trans (h6.sram.trans (hsram.trans h0.sram)))

end

end Sys2Proof.Machine

/-! The theorems that settle a statement whose own name the model's function of that command already has. -/
namespace Sys2Proof.Settled
open Sys2Proof.Machine

set_option Elab.async false

/-- Settles O8: the boundary steps GLB_TICK and puts the clock on the edge; what takes effect there stays in the frame, a plan but for
the strand table; and the copy comes last. -/
theorem tickBoundary : Obligations.TickBoundary := by
  intro s hoff hboot
  obtain ⟨u, hu, htick, hsub, hsnap, hdram, hsram⟩ := tickBoundary_eq hoff hboot
  have he : exec .tickBoundary s = .next u.snapCopy := congrArg Host.Outcome.next hu
  exact ⟨u.snapCopy, he, htick, hsub, rfl, rfl, (congrArg SnapSt.front hsnap : u.snap.front = s.snap.front), State.keepsBytes_of_eq hdram hsram⟩

end Sys2Proof.Settled
end

section
/-! PROOFS. TICK flits and the flags of cluster groups (R23, R24, R271, R292, R296). -/

namespace Sys2Proof.Machine

set_option Elab.async false

section
variable {σ s t : State} {ex : List Nat}

/-! ### The launch of TICK flits -/

theorem State.sendTicks_only (ports payloads : List Nat) (s : State) : ∃ k : LkSt, s.sendTicks ports payloads = { s with lk := k } := by
  induction ports generalizing s with
  | nil => exact ⟨s.lk, rfl⟩
  | cons p ports ih =>
    obtain ⟨k, h⟩ := ih (s.setPort p ((s.port p).sendTicks s.now payloads))
    exact ⟨k, h⟩

theorem State.port_setPort_ne {p q : Nat} (x : Port) (h : q ≠ p) : (s.setPort p x).port q = s.port q := by
  simp [State.port, State.setPort, Table.get?_set_ne _ _ _ _ h]

/-- R271: a port that is not among those takes nothing. -/
theorem State.sendTicks_port_of_notMem {p : Nat} {ports payloads : List Nat} (hp : p ∉ ports) :
    (s.sendTicks ports payloads).port p = s.port p := by
  induction ports generalizing s with
  | nil => rfl
  | cons q ports ih =>
    rw [List.mem_cons, not_or] at hp
    exact (ih hp.2).trans (State.port_setPort_ne _ hp.1)

/-- R271: each of different ports takes the flits once. -/
theorem State.sendTicks_port_of_mem {p : Nat} {ports payloads : List Nat} (hn : ports.Nodup) (hp : p ∈ ports) :
    ((s.sendTicks ports payloads).port p).ticks = (s.port p).ticks ++ payloads := by
  induction ports generalizing s with
  | nil => exact absurd hp List.not_mem_nil
  | cons q ports ih =>
    obtain ⟨hq, hn⟩ := List.nodup_cons.1 hn
    let s1 := s.setPort q ((s.port q).sendTicks s.now payloads)
    have hs : s.sendTicks (q :: ports) payloads = s1.sendTicks ports payloads := rfl
    rw [hs]
    rcases List.mem_cons.1 hp with rfl | hp
    · rw [State.sendTicks_port_of_notMem hq, State.port_setPort_self]
      rfl
    · rw [ih hn hp, State.port_setPort_ne _ fun he : p = q => hq (he ▸ hp)]

theorem State.launchPorts_nodup (s : State) : s.launchPorts.Nodup := List.Nodup.filter _ (by decide)

theorem State.goto_launchPorts (s : State) (t : Nat) : (s.goto t).launchPorts = s.launchPorts := by
  refine List.filter_congr fun p _ => ?_
  rw [State.lkActive, s.goto_rd t F.LK_STAT_STATE p, s.goto_port, s.goto_clu]
  rfl

theorem tickFlitLaunch_of_admitted (second : Bool) (ha : s.admitted = true) (ht : s.tick ≠ 0) :
    ∃ s0, s0 = s.goto (tickAt s.tick + (if second then 192 else 160) * cyc) ∧
      tickFlitLaunch second s = s0.sendTicks s0.launchPorts (s0.tickFlits (s0.tick - 1) (bit second)) :=
  ⟨_, rfl, if_pos ⟨ha, ht⟩⟩

/-- R23, R271: the launch adds this module's flits to the ports that carry traffic, and to nothing else. -/
theorem tickFlitLaunch_spec (second : Bool) (ha : s.admitted = true) (ht : s.tick ≠ 0) :
    s.keepsMem (tickFlitLaunch second s) ∧ s.keepsCells [F.MC_UREG_VALUE.key] (tickFlitLaunch second s) ∧
      ∀ p, if p ∈ s.launchPorts
        then ((tickFlitLaunch second s).port p).ticks = (s.port p).ticks ++
          (s.goto (tickAt s.tick + (if second then 192 else 160) * 1024)).tickFlits (s.tick - 1) (if second then 1 else 0)
        else (tickFlitLaunch second s).port p = s.port p := by
  obtain ⟨s0, hs0, he⟩ := tickFlitLaunch_of_admitted second ha ht
  have htick : s0.tick = s.tick := hs0 ▸ s.goto_tick _
  have hports : s0.launchPorts = s.launchPorts := hs0 ▸ s.goto_launchPorts _
  have hport (p : Nat) : s0.port p = s.port p := hs0 ▸ s.goto_port _ p
  have hmem : s.keepsMem s0 := hs0 ▸ s.goto_keepsMem _
  have hcells : s.keepsCells [F.MC_UREG_VALUE.key] s0 := hs0 ▸ s.goto_keepsCells _
  rw [hports, htick] at he
  obtain ⟨k, hk⟩ := s0.sendTicks_only s.launchPorts (s0.tickFlits (s.tick - 1) (bit second))
  refine ⟨?_, ?_, fun p => ?_⟩
  · rw [he, hk]
    exact hmem
  · rw [he, hk]
    exact hcells
  · split
    · next hp =>
      rw [he, State.sendTicks_port_of_mem s.launchPorts_nodup hp, hport, hs0]
      rfl
    · next hp => rw [he, State.sendTicks_port_of_notMem hp, hport]

/-! ### The flags of one group -/

theorem State.Frame.srcOn {u m : Nat} (h : σ.Frame ex s) : σ.Frame ex (s.srcOn u m).1 := by
  unfold State.srcOn
  split
  · exact h
  · exact h.fresh

theorem State.Frame.clusterMismatch {u m cause : Nat} {leaf : Option Nat} (h : σ.Frame ex s) :
    σ.Frame ex (s.clusterMismatch u m cause leaf) := by
  unfold State.clusterMismatch
  split
  next s1 src e1 =>
  have h1 : σ.Frame ex s1 := by
    split at e1
    · exact h.of_eq e1
    · exact h.srcOn.of_eq e1
  exact (Frame.ite h1.raise h1).askAll

theorem State.Frame.clusterAborted {u : Nat} (h : σ.Frame ex s) : σ.Frame ex (s.clusterAborted u) := by
  unfold State.clusterAborted
  split
  exact .ite h h.askAll

/-- R24, R296: of what the frame speaks of, one group's flags add their fold and nothing else. -/
theorem State.foldGroup_frame (s : State) (n : Nat) (g : CluGroup) :
    ∃ c : CluSt, (∃ f, c.folds = s.clu.folds ++ [(256 + g.cunit, n, f)]) ∧ State.Frame { s with clu := c } [] (s.foldGroup n g) := by
  unfold State.foldGroup
  extract_lets u ms es gone f key twice s1 ls s2 sa s3 s4
  refine ⟨s1.clu, ⟨_, rfl⟩, ?_⟩
  have h1 : State.Frame { s with clu := s1.clu } [] s1 := State.Frame.rfl
  have h2 : State.Frame { s with clu := s1.clu } [] s2 := .ite (h1.foldl fun _ _ h => h.askAbort) h1
  have ha : State.Frame { s with clu := s1.clu } [] sa := by
    unfold sa
    split
    · exact h2.clusterMismatch
    · exact h2
  have h3 : State.Frame { s with clu := s1.clu } [] s3 := by
    unfold s3
    split
    · exact h2
    · split
      · exact ha.clusterMismatch
      · exact ha
  have h4 : State.Frame { s with clu := s1.clu } [] s4 := .ite h3.clusterAborted h3
  clear_value s4
  split
  · split
    next s5 src e5 =>
    have h5 : State.Frame { s with clu := s1.clu } [] s5 := by
      split at e5
      · exact h4.of_eq e5
      · exact h4.srcOn.of_eq e5
    exact h5.groupStop
  · exact h4

/-! ### The flags of all groups -/

/-- From s on the way to t only folds of tick n are added; the memories and ID_FLAG_MISS stay. -/
structure State.Folded (n : Nat) (s t : State) : Prop where
  mem : s.keepsMem t
  miss : t.rd F.ID_FLAG_MISS_COUNT 0 = s.rd F.ID_FLAG_MISS_COUNT 0
  folds : s.clu.folds ⊆ t.clu.folds

theorem State.Folded.refl (n : Nat) (s : State) : s.Folded n s :=
  ⟨⟨⟨fun _ => rfl, fun _ => rfl⟩, fun _ => rfl⟩, rfl, List.Subset.refl _⟩

theorem State.Folded.trans {n : Nat} {u : State} (h : s.Folded n t) (h' : t.Folded n u) : s.Folded n u :=
  ⟨State.keepsMem_trans h.mem h'.mem, h'.miss.trans h.miss, List.Subset.trans h.folds h'.folds⟩

theorem State.foldGroup_folded (s : State) (n : Nat) (g : CluGroup) :
    s.Folded n (s.foldGroup n g) ∧ ∃ e ∈ (s.foldGroup n g).clu.folds, e.1 = 256 + g.cunit ∧ e.2.1 = n := by
  obtain ⟨c, ⟨f, hf⟩, h⟩ := s.foldGroup_frame n g
  have hfolds : (s.foldGroup n g).clu.folds = s.clu.folds ++ [(256 + g.cunit, n, f)] := h.folds.trans hf
  refine ⟨⟨State.keepsMem_of_eq h.dram h.sram h.strands, h.cells F.ID_FLAG_MISS_COUNT 0 (by decide) (by decide), ?_⟩,
    (256 + g.cunit, n, f), ?_, rfl, rfl⟩
  · rw [hfolds]
    exact List.subset_append_left _ _
  · rw [hfolds]
    exact List.mem_append_right _ (List.mem_singleton_self _)

/-- Every group of a list has its flags of the tick folded. -/
theorem State.foldGroups_folded (n : Nat) (gs : List CluGroup) (s : State) :
    let t := gs.foldl (fun (s : State) g => s.foldGroup n g) s
    s.Folded n t ∧ ∀ g ∈ gs, ∃ e ∈ t.clu.folds, e.1 = 256 + g.cunit ∧ e.2.1 = n := by
  induction gs generalizing s with
  | nil => exact ⟨.refl n s, fun _ hg => absurd hg List.not_mem_nil⟩
  | cons g gs ih =>
    obtain ⟨h1, e, he, heq⟩ := s.foldGroup_folded n g
    obtain ⟨h2, hall⟩ := ih (s.foldGroup n g)
    refine ⟨h1.trans h2, fun g' hg' => ?_⟩
    rcases List.mem_cons.1 hg' with rfl | hg'
    · exact ⟨e, h2.folds he, heq⟩
    · exact hall g' hg'

/-! ### The deadline -/

/-- R406: the counter after a step: its sum stops at the greatest value of its 32 bits. -/
theorem State.bump_rd_self (s : State) (f : Fld) (i n : Nat) (sat : Fld) (si row off : Nat) (hw : f.w = 32) (hf : f.key < 1024)
    (hs : sat.key < 1024 ∧ sat.key ≠ f.key) (he : f.key ∉ eventKeys) :
    (s.bump f i n sat si row off).rd f i = satAdd 32 (s.rd f i) n := by
  have h1 : (s.count f i n).1.rd f i = satAdd 32 (s.rd f i) n := by
    obtain ⟨k, hk⟩ := s.count_eq f i n
    rw [hk]
    refine (s.rd_wr_self f i _).trans ?_
    rw [hw, Nat.mod_eq_of_lt]
    exact Nat.lt_of_le_of_lt (Nat.min_le_right _ _) (by decide)
  obtain hb | hb := s.bump_cases f i n sat si row off <;> rw [hb]
  · exact h1
  · rw [State.raise_keepsCells _ _ _ _ _ f i hf he,
      State.flag_keepsCells _ sat si hs.1 f i hf fun hm => hs.2 (List.mem_singleton.1 hm).symm, h1]

theorem State.goto_flagsGone (s : State) (t n : Nat) : (s.goto t).flagsGone n = s.flagsGone n := by
  unfold State.flagsGone State.rxEntry
  rw [s.goto_clu, s.goto_module]

theorem State.onlyEvt.clu (h : s.onlyEvt t) : t.clu = s.clu := by
  obtain ⟨r, e, m, rfl⟩ := h
  rfl

theorem State.module_of_cells {ks : List Nat} (h : s.keepsCells ks t) (h1 : F.ID_STAT_STATE.key ∉ ks) (h2 : F.ID_STAT_MODULE.key ∉ ks) :
    t.module = s.module := by
  unfold State.module State.admitted
  rw [h F.ID_STAT_STATE 0 (by decide) h1, h F.ID_STAT_MODULE 0 (by decide) h2]

theorem clusterFlagDeadline_of_admitted (ha : s.admitted = true) (ht : 2 ≤ s.tick) :
    ∃ s0 s1 : State, s0 = s.goto (tickAt s.tick + 288 * cyc) ∧
      s1 = s0.bump F.ID_FLAG_MISS_COUNT 0 (s0.flagsGone (s.tick - 2)).length F.ID_GSTATUS_SAT 0 5 0x28 ∧
      clusterFlagDeadline s =
        (s1.clu.groups.filter fun g => g.modmask.testBit s1.module).foldl (fun (s' : State) g => s'.foldGroup (s.tick - 2) g) s1 :=
  ⟨_, _, rfl, rfl, if_pos ⟨ha, ht⟩⟩

/-- R24, R296: what the deadline counts and folds. -/
theorem clusterFlagDeadline_spec (ha : s.admitted = true) (ht : 2 ≤ s.tick) :
    s.keepsMem (clusterFlagDeadline s) ∧
      (clusterFlagDeadline s).rd F.ID_FLAG_MISS_COUNT 0 = satAdd 32 (s.rd F.ID_FLAG_MISS_COUNT 0) (s.flagsGone (s.tick - 2)).length ∧
      ∀ g ∈ s.clu.groups, g.modmask.testBit s.module = true →
        ∃ e ∈ (clusterFlagDeadline s).clu.folds, e.1 = 256 + g.cunit ∧ e.2.1 = s.tick - 2 := by
  obtain ⟨s0, s1, hs0, hs1, he⟩ := clusterFlagDeadline_of_admitted ha ht
  have hb : s0.onlyEvt s1 := hs1 ▸ s0.bump_onlyEvt _ _ _ _ _ _ _
  have hbc : s0.keepsCells (F.ID_FLAG_MISS_COUNT.key :: F.ID_GSTATUS_SAT.key :: eventKeys) s1 :=
    hs1 ▸ s0.bump_keepsCells _ _ _ _ _ _ _ (by decide) (by decide)
  have hmem0 : s.keepsMem s0 := hs0 ▸ s.goto_keepsMem _
  have hclu : s1.clu = s.clu := hb.clu.trans (hs0 ▸ s.goto_clu _)
  have hmod0 : s0.module = s.module := hs0 ▸ s.goto_module _
  have hmod : s1.module = s.module := (State.module_of_cells hbc (by decide) (by decide)).trans hmod0
  have hgone : s0.flagsGone (s.tick - 2) = s.flagsGone (s.tick - 2) := hs0 ▸ s.goto_flagsGone _ _
  have hmiss0 : s0.rd F.ID_FLAG_MISS_COUNT 0 = s.rd F.ID_FLAG_MISS_COUNT 0 := hs0 ▸ s.goto_rd _ F.ID_FLAG_MISS_COUNT 0
  have hmiss1 : s1.rd F.ID_FLAG_MISS_COUNT 0 = satAdd 32 (s0.rd F.ID_FLAG_MISS_COUNT 0) (s0.flagsGone (s.tick - 2)).length :=
    hs1 ▸ State.bump_rd_self _ _ _ _ _ _ _ _ rfl (by decide) (by decide) (by decide)
  obtain ⟨h, hall⟩ := State.foldGroups_folded (s.tick - 2) (s1.clu.groups.filter fun g => g.modmask.testBit s1.module) s1
  rw [he]
  refine ⟨State.keepsMem_trans (State.keepsMem_trans hmem0 (State.keepsMem_of_onlyEvt hb)) h.mem, ?_, fun g hg hm => ?_⟩
  · rw [h.miss, hmiss1, hmiss0, hgone]
  · exact hall g (List.mem_filter.2 ⟨hclu ▸ hg, hmod ▸ hm⟩)

end

/-- Settles O11: the launch and the deadline of an ADMITTED module, and both guards on any other. -/
theorem clusterFlags : Obligations.ClusterFlags := by
  refine ⟨fun s second ha ht => ⟨_, rfl, tickFlitLaunch_spec second ha ht⟩, fun s ha ht => ⟨_, rfl, clusterFlagDeadline_spec ha ht⟩,
    fun s second ha => ?_⟩
  have hn {p : Prop} : ¬(s.admitted = true ∧ p) := fun h => by simp [ha] at h
  exact ⟨congrArg Host.Outcome.next (if_neg hn), congrArg Host.Outcome.next (if_neg hn)⟩

end Sys2Proof.Machine
end

section
/-! PROOFS. The decision of a leaf alone (R25, R110, R117). -/

namespace Sys2Proof.Machine

set_option Elab.async false

section
variable {s t : State}

/-! ### Interrupts and jumps: what they leave of the arms and of the memories -/

/-- The engines of one leaf in two states decide alike: the same arms and the same last decision. -/
def Engine.SameArms (g h : Engine) : Prop := h.arms = g.arms ∧ h.decLast = g.decLast

theorem Engine.SameArms.trans {g h k : Engine} (a : g.SameArms h) (b : h.SameArms k) : g.SameArms k :=
  ⟨b.1.trans a.1, b.2.trans a.2⟩

theorem State.keepsMem_refl (s : State) : s.keepsMem s := ⟨⟨fun _ => rfl, fun _ => rfl⟩, fun _ => rfl⟩

theorem State.keepsMem_setLeaf (s : State) (l : Nat) (x : Leaf) : s.keepsMem (s.setLeaf l x) := s.keepsMem_refl

/-- R115, R116: an interrupt changes only which interrupts are pending at the leaf's engine. -/
theorem State.raiseInt_eq (s : State) (l p : Nat) : ∃ g : Engine, s.raiseInt l p = s.setEng l g ∧ (s.eng l).SameArms g := by
  unfold State.raiseInt
  extract_lets g
  split
  · exact ⟨_, rfl, rfl, rfl⟩
  · split
    · exact ⟨_, rfl, rfl, rfl⟩
    · exact ⟨_, rfl, rfl, rfl⟩

/-- R118: what is abandoned leaves the jumps of the leaf, the arms of its engine and the memories. -/
theorem State.abandon_spec (s : State) (l b : Nat) :
    ((s.abandon l b).leaf l).jumps = (s.leaf l).jumps ∧ (s.eng l).SameArms ((s.abandon l b).eng l) ∧ s.keepsMem (s.abandon l b) := by
  unfold State.abandon
  extract_lets x g dropStaged stopRun v g1
  refine ⟨?_, ?_, s.keepsMem_refl⟩
  · have h : ((s.setLeaf l { x with queue := x.queue.filter fun q => decide (q.beadSeq ≤ b) }).setEng l g1).leaf l =
        (s.setLeaf l { x with queue := x.queue.filter fun q => decide (q.beadSeq ≤ b) }).leaf l := rfl
    rw [h, State.leaf_setLeaf_self]
  · rw [State.eng_setEng_self]
    exact ⟨rfl, rfl⟩

/-- R71, R72: a jump that latches is among the leaf's jumps; the arms and the memories stay. -/
theorem State.latchJump_spec (s : State) (l cls target t : Nat) :
    (s.eng l).SameArms ((s.latchJump l cls target t).eng l) ∧ s.keepsMem (s.latchJump l cls target t) ∧
      ((s.leaf l).phase = .play → (s.leaf l).raster = false →
        ∃ j ∈ ((s.latchJump l cls target t).leaf l).jumps, j.cls = cls ∧ j.target = target) := by
  unfold State.latchJump
  extract_lets x b hold x1 s2
  obtain ⟨hjumps, harms, hmem⟩ := (s.setLeaf l x1).abandon_spec l b
  rw [State.leaf_setLeaf_self] at hjumps
  have hmem2 : s.keepsMem s2 := State.keepsMem_trans (s.keepsMem_setLeaf l x1) hmem
  have hj : ∃ j ∈ (s2.leaf l).jumps, j.cls = cls ∧ j.target = target :=
    ⟨⟨cls, target, t⟩, hjumps ▸ List.mem_append_right _ (List.mem_singleton_self _), rfl, rfl⟩
  split
  · split
    · exact ⟨harms, hmem2, fun _ _ => hj⟩
    · exact ⟨harms, hmem2, fun _ _ => hj⟩
  · next hn => exact ⟨⟨rfl, rfl⟩, s.keepsMem_refl, fun hp hr => absurd ⟨hp, hr⟩ hn⟩

/-! ### The arm resolved -/

/-- R117: the only arm bound to the tick resolved on the fold itself. -/
theorem State.resolveArms_single {l n u : Nat} {f : Fold} {a : Arm} (h : (s.eng l).arms.filter (fun b => b.tick == some n) = [a]) :
    ∃ s2 : State, (s2.eng l).arms = (s.eng l).arms.filter (fun b => b.tick != some n) ∧ (s2.eng l).decLast = groupCond f a.cond ∧
      s2.leaf l = s.leaf l ∧ s.keepsMem s2 ∧
      s.resolveArms l n u f f = if groupCond f a.cond then s2.latchJump l 1 a.target u else s2 := by
  let s1 := s.setEng l { s.eng l with arms := (s.eng l).arms.filter fun b => b.tick != some n }
  obtain ⟨g, hg, harms, hdec⟩ := (s1.setEng l { s1.eng l with decLast := groupCond f a.cond }).raiseInt_eq l 4
  rw [State.eng_setEng_self] at harms hdec
  have h1 : (s1.eng l).arms = (s.eng l).arms.filter fun b => b.tick != some n := congrArg Engine.arms (State.eng_setEng_self _ _ _)
  refine ⟨(s1.setEng l { s1.eng l with decLast := groupCond f a.cond }).raiseInt l 4, ?_, ?_, ?_, ?_, ?_⟩
  · rw [hg, State.eng_setEng_self, harms, h1]
  · rw [hg, State.eng_setEng_self, hdec]
  · rw [hg]
    rfl
  · rw [hg]
    exact s.keepsMem_refl
  · unfold State.resolveArms
    dsimp only
    rw [h]
    simp only [List.foldl_cons, List.foldl_nil, bne_self_eq_false, Bool.false_and, Bool.false_eq_true, if_false]
    rfl

theorem Engine.not_armedAt_of_filter {g : Engine} {l : List Arm} {n : Nat} (h : g.arms = l.filter fun b => b.tick != some n) :
    g.armedAt n = false := by
  simp [Engine.armedAt, h]

/-! ### The decisions of a unit that is one leaf -/

theorem State.groupStop_engines (u n t src m : Nat) (s : State) : (s.groupStop u n t src m).engines = s.engines := by
  unfold State.groupStop
  generalize s.runLeaves u = ls
  induction ls generalizing s with
  | nil => rfl
  | cons l ls ih =>
    rw [List.foldl_cons, ih]
    extract_lets x
    split_ifs <;> rfl

theorem State.onlyJn.engines (h : s.onlyJn t) : t.engines = s.engines := by
  obtain ⟨r, e, m, j, rfl⟩ := h
  rfl

theorem State.goto_inPlay (s : State) (t u : Nat) : (s.goto t).inPlay u = s.inPlay u := by
  unfold State.inPlay
  rw [s.goto_leavesOf]
  exact List.filter_congr fun l _ => by rw [s.goto_leaf]

theorem State.goto_unitFold {u : Nat} (s : State) (t n : Nat) (hu : u < 256) : (s.goto t).unitFold u n = s.unitFold u n := by
  simp only [State.unitFold, if_pos hu, s.goto_leavesOf, s.goto_leaf]

theorem State.replayFold_of_inactive (h : s.jn.replay.active = false) (u n : Nat) : s.replayFold u n = none :=
  if_neg fun hh => by simp [h] at hh

theorem State.strandDiffers_single (s : State) (l n : Nat) : s.strandDiffers [l] n = none := rfl

/-- R25, R117: outside a replay the decisions of a leaf alone are those of its arms on its own flags; what comes before them leaves the
engines as they were and stays in the frame. -/
theorem State.localDecision_alone {u n r : Nat} (hu : u < 256) (hp : s.inPlay u = [u]) (hrep : s.jn.replay.active = false) :
    ∃ s3 : State, (s.goto r).Frame [] s3 ∧ s3.eng u = s.eng u ∧
      s.localDecision u n r = s3.resolveArms u n r (s.unitFold u n) (s.unitFold u n) := by
  have hrep0 : (s.goto r).replayFold u n = none := State.replayFold_of_inactive (by rw [s.goto_jn]; exact hrep) u n
  have hp0 : (s.goto r).inPlay u = [u] := (s.goto_inPlay r u).trans hp
  have hfold0 : (s.goto r).unitFold u n = s.unitFold u n := s.goto_unitFold r n hu
  have heng0 := s.goto_eng r u
  unfold State.localDecision
  generalize s.goto r = s0 at hrep0 hp0 hfold0 heng0 ⊢
  rw [← hfold0]
  extract_lets s0' ls live f s1 s2 s3
  have hls : ls = [u] := hp0
  have hf : f = live := congrArg (Option.getD · live) hrep0
  have hs2 : s2 = s1 := by
    unfold s2
    rw [hls, s1.strandDiffers_single]
  have h1 : s0.Frame [] s1 ∧ s1.engines = s0.engines := by
    unfold s1
    split
    · exact ⟨State.Frame.rfl.journal, (s0.journal_onlyJn _ _ _ _).engines⟩
    · exact ⟨State.Frame.rfl, rfl⟩
  have h3 : s1.Frame [] s3 ∧ s3.engines = s1.engines := by
    unfold s3
    rw [hs2]
    split
    · exact ⟨State.Frame.rfl.groupStop, State.groupStop_engines _ _ _ _ _ _⟩
    · exact ⟨State.Frame.rfl, rfl⟩
  refine ⟨s3, h1.1.trans h3.1, ?_, by rw [hls, hf, List.foldl_cons, List.foldl_nil]⟩
  rw [← heng0, State.eng, h3.2, h1.2, State.eng]

theorem State.mem_leavesOf_of_inPlay {u l : Nat} (h : l ∈ s.inPlay u) : l ∈ s.runLeaves u := by
  obtain ⟨hl, hu⟩ := List.mem_filter.1 h
  exact List.mem_filter.2 ⟨hl, (Bool.and_eq_true_iff.1 hu).1⟩

theorem groupDecisionReady_local {u : Nat} (hu : u < 256) (hp : s.inPlay u = [u]) (hd : (s.unit u).decided < s.tick) :
    groupDecisionReady u s = (s.decides u).localDecision u (s.tick - 1) (readyAt u (s.tick - 1)) := by
  have hmem : u ∈ s.runLeaves u := State.mem_leavesOf_of_inPlay (hp ▸ List.mem_singleton_self u)
  rw [groupDecisionReady, if_neg, if_pos hu]
  rintro (hnil | hle)
  · exact absurd (hnil ▸ hmem) List.not_mem_nil
  · exact absurd hle (Nat.not_le.2 hd)

theorem State.decides_unitFold (s : State) (u n : Nat) : (s.decides u).unitFold u n = s.unitFold u n := rfl

end

/-- Settles O10: the decision of a leaf alone is that of its one arm, on its own flags. -/
theorem leafDecision : Obligations.LeafDecision := by
  intro s u a hp htick hdec hrep harm
  have hu : u.val < 256 := by omega
  have hix : uix (.loc (Fin.ofNat 256 u.val)) = u.val := Nat.mod_eq_of_lt hu
  have hexec : exec (.groupDecisionReady (.loc (Fin.ofNat 256 u.val))) s = .next (groupDecisionReady u.val s) :=
    (congrArg (fun k => Host.Outcome.next (groupDecisionReady k s)) hix :)
  obtain ⟨s3, hframe, heng, hlocal⟩ :=
    State.localDecision_alone (s := s.decides u.val) (n := s.tick - 1) (r := readyAt u.val (s.tick - 1)) hu hp hrep
  have hplace : (s3.leaf u.val).place = (s.leaf u.val).place := (hframe.place u.val).trans (by rw [State.goto_leaf]; rfl)
  have hmem3 : s.keepsMem s3 := State.keepsMem_trans (State.goto_keepsMem (s.decides u.val) _) hframe.keepsMem
  have harm3 : (s3.eng u.val).arms.filter (fun b => b.tick == some (s.tick - 1)) = [a] := by rw [heng]; exact harm
  obtain ⟨s4, harms4, hdec4, hleaf4, hmem4, hres⟩ :=
    State.resolveArms_single (u := readyAt u.val (s.tick - 1)) (f := s.unitFold u.val (s.tick - 1)) harm3
  have hmem := State.keepsMem_trans hmem3 hmem4
  refine ⟨_, hexec, ?_⟩
  rw [groupDecisionReady_local hu hp hdec, hlocal, State.decides_unitFold, hres]
  split
  · next hout =>
    obtain ⟨⟨harms, hdecl⟩, hmemj, hjump⟩ := s4.latchJump_spec u.val 1 a.target (readyAt u.val (s.tick - 1))
    refine ⟨Engine.not_armedAt_of_filter (harms.trans harms4), hdecl.trans hdec4, fun _ hplay hras => ?_, State.keepsMem_trans hmem hmemj⟩
    refine hjump ?_ ?_
    · rw [hleaf4]
      exact (congrArg Place.phase hplace).trans hplay
    · rw [hleaf4]
      exact (congrArg Place.raster hplace).trans hras
  · next hout => exact ⟨Engine.not_armedAt_of_filter harms4, hdec4, fun h => absurd h hout, hmem⟩

end Sys2Proof.Machine
end

section
/-! PROOFS. A write refused to a member of a group, and recorded (R14, R88, R404, R408). -/

namespace Sys2Proof.Machine

set_option Elab.async false

section
variable {s t : State}

/-! ### The rejection recorded -/

theorem State.fillReject_rejects (s : State) (addr src reason detail : Nat) :
    (s.fillReject addr src reason detail).rd F.GLB_ERR_COUNT_COUNT 0 = s.rd F.GLB_ERR_COUNT_COUNT 0 := by
  unfold State.fillReject
  extract_lets s0
  have h0 : s.keepsCells ([F.GLB_ERR_ADDR_ADDR.key, F.GLB_ERR_ADDR_SRC.key, F.GLB_ERR_INFO_REASON.key, F.GLB_ERR_INFO_DETAIL.key,
      F.GLB_ERR_INFO_TICK.key] ++ [F.GLB_ERR_INFO_VALID.key]) s0 :=
    State.keepsCells_trans (s.wrs_keepsCells
      [(F.GLB_ERR_ADDR_ADDR, 0, addr), (F.GLB_ERR_ADDR_SRC, 0, src), (F.GLB_ERR_INFO_REASON, 0, reason), (F.GLB_ERR_INFO_DETAIL, 0, detail),
        (F.GLB_ERR_INFO_TICK, 0, s.tick)]
      (by simp [F.GLB_ERR_ADDR_ADDR, F.GLB_ERR_ADDR_SRC, F.GLB_ERR_INFO_REASON, F.GLB_ERR_INFO_DETAIL, F.GLB_ERR_INFO_TICK]))
      (State.flag_keepsCells _ F.GLB_ERR_INFO_VALID 0 (by decide))
  rw [s0.raise_keepsCells _ _ _ _ F.GLB_ERR_COUNT_COUNT 0 (by decide) (by decide), h0 F.GLB_ERR_COUNT_COUNT 0 (by decide) (by decide)]

/-- R408: every rejection counts once. -/
theorem State.recordReject_rejects (s : State) (addr src reason detail : Nat) :
    (s.recordReject addr src reason detail).rd F.GLB_ERR_COUNT_COUNT 0 = satAdd 32 (s.rd F.GLB_ERR_COUNT_COUNT 0) 1 := by
  unfold State.recordReject
  rw [State.bump_rd_self _ _ _ _ _ _ _ _ rfl (by decide) (by decide) (by decide)]
  split
  · rw [s.moreReject_keepsCells _ _ _ _ F.GLB_ERR_COUNT_COUNT 0 (by decide) (by decide)]
  · rw [s.fillReject_rejects]

theorem State.onlyEvt.mnt (h : s.onlyEvt t) : t.mnt = s.mnt := by
  obtain ⟨r, e, m, rfl⟩ := h
  rfl

theorem State.recordReject_image (s : State) (addr src reason detail : Nat) : (s.recordReject addr src reason detail).image = s.image := by
  unfold State.image
  rw [s.recordReject_keepsCells _ _ _ _ F.MNT_STATUS_STATE 0 (by decide) (by decide), (s.recordReject_onlyEvt _ _ _ _).mnt]

/-! ### The windows of the local units -/

theorem winUnit_unitAddr_loc (u : Fin 256) : winUnit (unitAddr (.loc u)) = some u.val := by
  obtain ⟨u, hu⟩ := u
  unfold winUnit unitAddr
  dsimp only
  rw [if_pos (by omega)]
  congr 1
  omega

theorem State.unitExists_of_image {u : Nat} (hu : u < 256) (h : t.image = s.image) : t.unitExists u = s.unitExists u := by
  unfold State.unitExists
  rw [if_pos hu, if_pos hu, h]

theorem State.absentAt_unitAddr_loc (s : State) (u : Fin 256) : s.absentAt (unitAddr (.loc u)) = !s.unitExists u.val := by
  rw [State.absentAt, winUnit_unitAddr_loc]

/-! ### The refusal -/

/-- R14, R88: a start of a local member in a MOUNTED module that can take starts. -/
theorem startWrite_member {u : Nat} (hex : s.unitExists u = true) (hmem : s.isMember u = true) (hras : s.rasterStarts u = false)
    (hm : s.mstate = mMounted) (hmc : s.rd F.MC_STATUS_STATE 0 ≠ 1) (hsafe : s.safeDue = false) :
    startWrite u s = (s, .rejected rUNIT_IS_MEMBER 0) := by
  have hr (last : Bool) (code : Nat) : s.startRefused u last code = some rUNIT_IS_MEMBER := by
    unfold State.startRefused
    simp [hm, hsafe, hmc, hmem]
  simp [startWrite, hras, unitStart, hex, hr]

theorem unitAbort_member {u : Nat} (hex : s.unitExists u = true) (hmem : s.isMember u = true) :
    unitAbort u s = (s, .rejected rUNIT_IS_MEMBER 0) := by
  simp [unitAbort, hex, hmem]

/-- R404, R408: a write that the module serves and refuses is recorded and answered; the units and the leaves stay. -/
theorem State.request_refused {h : Hdr} {addr : Nat} {q : Req} {f : State → State × Ans} {r d : Nat} (hs : s.serves h addr q)
    (hf : f s = (s, .rejected r d)) {t : State} (ht : t = s.request h addr q f) :
    t.told h (.rejected r d) ∧ t.rd F.GLB_ERR_COUNT_COUNT 0 = min (s.rd F.GLB_ERR_COUNT_COUNT 0 + 1) (2 ^ 32 - 1) ∧
      t.units = s.units ∧ t.leaves = s.leaves ∧ t.image = s.image := by
  rw [s.request_serves h addr q f hs, s.execute_rejected h addr f s r d hf] at ht
  subst ht
  have ho := s.recordReject_onlyEvt addr h.src.val r d
  have hc := s.recordReject_rejects addr h.src.val r d
  have hi := s.recordReject_image addr h.src.val r d
  generalize s.recordReject addr h.src.val r d = s1 at ho hc hi
  obtain ⟨_, _, _, rfl⟩ := ho
  exact ⟨State.respond_told _ _ _, hc, rfl, rfl, hi⟩

end

/-- Settles O23: the reason of the refusal of each write, then what recording it leaves. -/
theorem memberRefused : Obligations.MemberRefused := by
  intro s h u hex hmem hras hm hmc hsafe
  have habsent {t : State} (hi : t.image = s.image) : t.absentAt (unitAddr (.loc u)) = false := by
    rw [State.absentAt_unitAddr_loc, State.unitExists_of_image u.isLt hi, hex, Bool.not_true]
  refine ⟨fun hs => ?_, fun hs => ?_⟩
  · obtain ⟨htold, hcount, hunits, hleaves, himage⟩ := State.request_refused hs (startWrite_member hex hmem hras hm hmc hsafe) rfl
    exact ⟨_, rfl, htold, hcount, hunits, hleaves, habsent himage⟩
  · obtain ⟨htold, hcount, hunits, hleaves, himage⟩ := State.request_refused hs (unitAbort_member hex hmem) rfl
    exact ⟨_, rfl, htold, hcount, hunits, hleaves, habsent himage⟩

end Sys2Proof.Machine
end

section
/-! PROOFS. The results of compares (R21, R36, R149, R150, R158, R159). -/

namespace Sys2Proof.Machine

set_option Elab.async false

section
variable {σ s t : State} {ex : List Nat}

/-! ### The frame of a result -/

theorem State.Frame.formRecord {l : Nat} {v : VRec} (h : σ.Frame ex s) : σ.Frame ex (s.formRecord l v) := by
  unfold State.formRecord
  split
  · extract_lets s' _ s1 _
    have h' : σ.Frame ex s' := h.feedFail
    have h1 : σ.Frame ex s1 := h'.bump
    exact .ite h'.parts (h1.setLeaf (by dsimp only [Leaf.place])).wr
  · exact h

theorem State.Frame.finishVec {l : Nat} {v : VRec} (h : σ.Frame ex s) : σ.Frame ex (s.finishVec l v) :=
  .ite h (.ite h.setLeaf.formRecord (.ite h.setLeaf h.setLeaf))

theorem State.Frame.passCmp {l : Nat} {v : VRec} {c : Cmp} (h : σ.Frame ex s) : σ.Frame ex (s.passCmp l v c) := h.setLeaf.finishVec

theorem State.Frame.countFailVec {l t : Nat} (h : σ.Frame ex s) (hx : F.UNIT_FVEC_COUNT.key ∈ ex) : σ.Frame ex (s.countFailVec l t) := by
  unfold State.countFailVec
  extract_lets s1 x n x1 mode
  have h1 : σ.Frame ex s1 := h.bump (by simp [Fld.may, hx])
  have hp : x1.place = x.place := by dsimp only [Leaf.place, x1]
  exact .ite (.ite (h1.setLeaf hp) (h1.setLeaf hp)) (h1.setLeaf hp)

theorem State.Frame.occursFail {l slot t : Nat} (h : σ.Frame ex s) : σ.Frame ex (s.occursFail l slot t) := h.occurs

/-! ### The result of one compare -/

/-- R36, R149: the compare fails: it was suppressed, its window held an excursion, or its state does not pass on the comparators. -/
def Cmp.bad (c : Cmp) (a b : Bool) : Bool := c.supp || (c.window && c.exc.isSome) || !cmpPass c.state a b

/-- The result in `State.formCmp` passes when the compare does not fail. -/
theorem Cmp.result_fst {c : Cmp} {a b : Bool} (hs : c.sample.getD (false, false) = (a, b)) {p : Bool × Nat}
    (hp : p = if c.supp then (false, 0)
      else
        let (a, b) := c.sample.getD (false, false)
        match c.window, c.exc with
        | true, some (ea, eb) => (false, obsCode ea eb)
        | _, _ => (cmpPass c.state a b, obsCode a b)) : p.1 = !c.bad a b := by
  rw [hp, hs]
  cases hsupp : c.supp <;> cases hw : c.window <;> cases he : c.exc <;> simp [Cmp.bad, hsupp, hw, he]

/-- A result that passes counts nothing. -/
theorem State.formCmp_of_pass {l : Nat} {v : VRec} {c : Cmp} {a b : Bool} (hs : c.sample.getD (false, false) = (a, b))
    (hb : c.bad a b = false) : s.Frame [] (s.formCmp l v c) := by
  unfold State.formCmp
  split
  next pass obs hp =>
  have hpass : pass = true := (Cmp.result_fst hs hp.symm).trans (by rw [hb]; rfl)
  extract_lets v1 x put s1 x1 s2 s3 s4
  rw [if_pos hpass]
  exact (State.Frame.rfl.setLeaf).finishVec

/-- A result that fails steps the pin's counter, then the vector's, and then the first-fail registers take it. -/
theorem State.formCmp_of_fail {l : Nat} {v : VRec} {c : Cmp} {a b : Bool} (hs : c.sample.getD (false, false) = (a, b))
    (hb : c.bad a b = true) :
    ∃ (s2 s4 : State) (off : Nat) (w : VRec), s.Frame [] s2 ∧
      (s2.bump F.UNIT_PFAIL_COUNT (l * 9 + c.slot) 1 F.UNIT_FSTAT_SAT l 6 off).Frame [F.UNIT_FVEC_COUNT.key] s4 ∧
      w.vindex = v.vindex ∧ w.strand = v.strand ∧ w.bead = v.bead ∧ s.formCmp l v c = (s4.firstFail l w).finishVec l w := by
  unfold State.formCmp
  split
  next pass obs hp =>
  have hpass : ¬pass = true := by
    rw [show pass = !c.bad a b from Cmp.result_fst hs hp.symm, hb]
    decide
  extract_lets v1 x put s1 x1 s2 s3 s4
  have hp1 : x1.place = (s1.leaf l).place := by dsimp only [Leaf.place, x1, Leaf.setPub]
  have h1 : s.Frame [] s1 := State.Frame.rfl.setLeaf
  have h2 : s.Frame [] s2 := h1.setLeaf hp1
  have h4 : s3.Frame [F.UNIT_FVEC_COUNT.key] s4 :=
    (State.Frame.ite (State.Frame.rfl.countFailVec (List.mem_singleton_self _)) State.Frame.rfl).occursFail
  exact ⟨s2, s4, _, v1, h2, h4, rfl, rfl, rfl, if_neg hpass⟩

/-! ### The first fail -/

/-- The keys of the first-fail registers. -/
def ffKeys : List Nat :=
  [F.UNIT_FF_POS_VALID.key, F.UNIT_FF_POS_VINDEX.key, F.UNIT_FF_WHERE_STRAND.key, F.UNIT_FF_WHERE_BEAD.key]

theorem State.Frame.firstFail {l : Nat} {v : VRec} (h : σ.Frame ffKeys s) : σ.Frame ffKeys (s.firstFail l v) := .ite h h.wrs

/-- A list of writes of different fields: each reads as written. -/
theorem State.wrs_rd_of_mem {l : List (Fld × Nat × Nat)} {f : Fld} {i v : Nat} (s : State) (hk : ∀ e ∈ l, e.1.key < 1024)
    (hd : (l.map fun e => e.1.key).Nodup) (hm : (f, i, v) ∈ l) : (s.wrs l).rd f i = v % 2 ^ f.w := by
  induction l generalizing s with
  | nil => exact absurd hm List.not_mem_nil
  | cons e l ih =>
    obtain ⟨he, hl⟩ := List.forall_mem_cons.1 hk
    obtain ⟨hne, hd⟩ := List.nodup_cons.1 hd
    rcases List.mem_cons.1 hm with rfl | hm
    · exact ((s.wr f i v).wrs_keepsCells l hl f i he hne).trans (s.rd_wr_self f i v)
    · exact ih (s.wr e.1 e.2.1 e.2.2) hl hd hm

/-- R159: with no first fail recorded the registers take the vector. -/
theorem State.firstFail_rd {l : Nat} {v : VRec} (h : s.rd F.UNIT_FF_POS_VALID l = 0) :
    (s.firstFail l v).rd F.UNIT_FF_POS_VALID l = 1 ∧ (s.firstFail l v).rd F.UNIT_FF_POS_VINDEX l = v.vindex % 2 ^ 48 ∧
      (s.firstFail l v).rd F.UNIT_FF_WHERE_STRAND l = v.strand % 2 ^ 16 ∧ (s.firstFail l v).rd F.UNIT_FF_WHERE_BEAD l = v.bead % 2 ^ 24 := by
  have hon : s.on F.UNIT_FF_POS_VALID l = false := by rw [State.on, h]; rfl
  have hrd (f : Fld) (i w : Nat) := s.wrs_rd_of_mem (f := f) (i := i) (v := w)
    (l := [(F.UNIT_FF_POS_VINDEX, l, v.vindex), (F.UNIT_FF_POS_VALID, l, 1), (F.UNIT_FF_POS_LEAF, l, l),
      (F.UNIT_FF_POS_MODULE, l, s.module), (F.UNIT_FF_WHERE_STRAND, l, v.strand), (F.UNIT_FF_WHERE_BEAD, l, v.bead),
      (F.UNIT_FF_WHERE_VOFF, l, v.off), (F.UNIT_FF_WHERE_PMASK, l, v.fails), (F.UNIT_FF_TICK_TICK, l, tickOf v.recAt)])
    (by simp) (by simp)
  unfold State.firstFail
  rw [if_neg (by simp [hon])]
  exact ⟨hrd F.UNIT_FF_POS_VALID l 1 (by simp), hrd F.UNIT_FF_POS_VINDEX l v.vindex (by simp), hrd F.UNIT_FF_WHERE_STRAND l v.strand (by simp),
    hrd F.UNIT_FF_WHERE_BEAD l v.bead (by simp)⟩

/-- R158, R159: a result that fails counts once at its pin, up to the greatest value, and with no first fail recorded it is the first. -/
theorem State.formCmp_fails {l : Nat} {v : VRec} {c : Cmp} {a b : Bool} (hs : c.sample.getD (false, false) = (a, b))
    (hb : c.bad a b = true) :
    (s.formCmp l v c).rd F.UNIT_PFAIL_COUNT (l * 9 + c.slot) = satAdd 32 (s.rd F.UNIT_PFAIL_COUNT (l * 9 + c.slot)) 1 ∧
      (s.rd F.UNIT_FF_POS_VALID l = 0 → (s.formCmp l v c).rd F.UNIT_FF_POS_VALID l = 1 ∧
        (s.formCmp l v c).rd F.UNIT_FF_POS_VINDEX l = v.vindex % 2 ^ 48 ∧ (s.formCmp l v c).rd F.UNIT_FF_WHERE_STRAND l = v.strand % 2 ^ 16 ∧
        (s.formCmp l v c).rd F.UNIT_FF_WHERE_BEAD l = v.bead % 2 ^ 24) ∧ s.keepsMem (s.formCmp l v c) := by
  obtain ⟨s2, s4, off, w, h2, h4, hvindex, hstrand, hbead, he⟩ := State.formCmp_of_fail (s := s) (l := l) (v := v) hs hb
  have h3 : s2.Frame [F.UNIT_PFAIL_COUNT.key] (s2.bump F.UNIT_PFAIL_COUNT (l * 9 + c.slot) 1 F.UNIT_FSTAT_SAT l 6 off) :=
    State.Frame.rfl.bump
  have h5 : s4.Frame ffKeys (s4.firstFail l w) := State.Frame.rfl.firstFail
  have h6 : (s4.firstFail l w).Frame [] ((s4.firstFail l w).finishVec l w) := State.Frame.rfl.finishVec
  have hcell (g : Fld) (i : Nat) (hg : g.key ∈ followed) := h6.cells g i hg List.not_mem_nil
  rw [he]
  refine ⟨?_, fun h0 => ?_, ?_⟩
  · rw [hcell _ _ (by decide), h5.cells F.UNIT_PFAIL_COUNT _ (by decide) (by decide), h4.cells F.UNIT_PFAIL_COUNT _ (by decide) (by decide),
      State.bump_rd_self _ _ _ _ _ _ _ _ rfl (by decide) (by decide) (by decide), h2.cells F.UNIT_PFAIL_COUNT _ (by decide) (by decide)]
  · have h40 : s4.rd F.UNIT_FF_POS_VALID l = 0 := by
      rw [h4.cells F.UNIT_FF_POS_VALID _ (by decide) (by decide), h3.cells F.UNIT_FF_POS_VALID _ (by decide) (by decide),
        h2.cells F.UNIT_FF_POS_VALID _ (by decide) (by decide), h0]
    obtain ⟨hv, hi, hst, hbd⟩ := State.firstFail_rd (v := w) h40
    rw [hcell _ _ (by decide), hcell _ _ (by decide), hcell _ _ (by decide), hcell _ _ (by decide), hv, hi, hst, hbd, hvindex, hstrand, hbead]
    exact ⟨rfl, rfl, rfl, rfl⟩
  · exact State.keepsMem_trans h2.keepsMem (State.keepsMem_trans h3.keepsMem (State.keepsMem_trans h4.keepsMem
      (State.keepsMem_trans h5.keepsMem h6.keepsMem)))

/-! ### The next result of a pin -/

/-- The compare of `nextCmp` is one of the pin. -/
theorem nextCmp_slot {recs : List VRec} {slot : Nat} {v : VRec} {c : Cmp} (h : nextCmp recs slot = some (v, c)) : c.slot = slot := by
  suffices hall : ∀ e ∈ nextCmp recs slot, e.2.slot = slot from hall (v, c) h
  refine List.foldlRecOn (motive := fun o : Option (VRec × Cmp) => ∀ e ∈ o, e.2.slot = slot) _ _
    (fun _ he => absurd he (Option.not_mem_none _)) fun o ho e he d hd => ?_
  have hd' : d ∈ o ∨ d = e := by
    cases o with
    | none => exact .inr (Option.mem_some.1 hd).symm
    | some b => exact (ite_eq_or_eq _ (some e) (some b)).elim (fun h => .inr (Option.mem_some.1 (h ▸ hd)).symm) fun h => .inl (h ▸ hd)
  refine hd'.elim (ho d) fun hde => hde ▸ ?_
  simp only [List.mem_flatMap, List.mem_map, List.mem_filter, beq_iff_eq] at he
  obtain ⟨_, _, k, ⟨_, hk⟩, rfl⟩ := he
  exact hk

theorem compareResult_next {l slot : Nat} {v : VRec} {c : Cmp} (h : nextCmp (s.leaf l).vrecs slot = some (v, c))
    (hd : c.inst < tickAt (s.tick + 1)) :
    compareResult l slot s = if !c.counts then (s.goto c.inst).passCmp l v c else if c.ready then (s.goto c.inst).formCmp l v c else s := by
  have hdue : s.due c.inst = true := decide_eq_true hd
  rw [compareResult, h]
  exact if_pos hdue

end

end Sys2Proof.Machine

namespace Sys2Proof.Settled
open Sys2Proof.Machine

set_option Elab.async false

/-- Settles O29: a masked compare and a pass stay in the frame of the clock moved; a fail steps the pin's counter, and what follows leaves
it, while the first-fail registers take the vector when they hold none. -/
theorem compareResult : Obligations.CompareResult := by
  intro s l j v c hnext hdue
  have hexec : exec (.compareResult l j) s = .next (Machine.compareResult l.val j.val s) := rfl
  have hmem := s.goto_keepsMem c.inst
  rw [hexec, compareResult_next hnext hdue]
  refine ⟨fun hcounts => ?_, fun a b bad hcounts hready hsample hbad => ?_⟩
  · rw [if_pos (by simp [hcounts])]
    have hf : (s.goto c.inst).Frame [] ((s.goto c.inst).passCmp l.val v c) := State.Frame.rfl.passCmp
    refine ⟨_, rfl, fun i => ?_, fun i => ?_, State.keepsMem_trans hmem hf.keepsMem⟩
    · rw [hf.cells F.UNIT_PFAIL_COUNT i (by decide) (by decide), s.goto_rd c.inst F.UNIT_PFAIL_COUNT i]
    · rw [hf.cells F.UNIT_FVEC_COUNT i (by decide) (by decide), s.goto_rd c.inst F.UNIT_FVEC_COUNT i]
  · have hslot : c.slot = j.val := nextCmp_slot hnext
    have hpfail := s.goto_rd c.inst F.UNIT_PFAIL_COUNT (l.val * 9 + j.val)
    have hvalid := s.goto_rd c.inst F.UNIT_FF_POS_VALID l.val
    rw [if_neg (by simp [hcounts]), if_pos hready]
    generalize s.goto c.inst = s0 at hmem hpfail hvalid ⊢
    change bad = c.bad a b at hbad
    refine ⟨_, rfl, ?_⟩
    cases hb : c.bad a b with
    | false =>
      have hf := State.formCmp_of_pass (s := s0) (l := l.val) (v := v) hsample hb
      refine ⟨fun _ => ?_, fun h => absurd (h.symm.trans (hbad.trans hb)) Bool.noConfusion, State.keepsMem_trans hmem hf.keepsMem⟩
      rw [hf.cells F.UNIT_PFAIL_COUNT _ (by decide) (by decide), hpfail]
    | true =>
      obtain ⟨hcount, hfirst, hmem1⟩ := State.formCmp_fails (s := s0) (l := l.val) (v := v) hsample hb
      rw [hslot, hpfail] at hcount
      rw [hvalid] at hfirst
      exact ⟨fun h => absurd (h.symm.trans (hbad.trans hb)) Bool.noConfusion, fun _ => ⟨hcount, hfirst⟩, State.keepsMem_trans hmem hmem1⟩

end Sys2Proof.Settled
end

section
/-! PROOFS. The vector, the repeat or the held period that starts at a leaf's place (R78, R83, R95, R108, R134). -/

namespace Sys2Proof.Machine

set_option Elab.async false

section
variable {σ s t : State} {ex : List Nat}

/-! ### The frame of a launch -/

theorem State.Frame.setUnit {u : Nat} {x : UnitSt} (h : σ.Frame ex s) : σ.Frame ex (s.setUnit u x) := h.parts

theorem State.Frame.flagUnderrun {l t : Nat} (h : σ.Frame ex s) : σ.Frame ex (s.flagUnderrun l t) := h.setLeaf

theorem State.Frame.collide {l vindex slot edge reason : Nat} (h : σ.Frame ex s) : σ.Frame ex (s.collide l vindex slot edge reason) := by
  unfold State.collide
  extract_lets s1 s2
  have h1 : σ.Frame ex s1 := h.bump.wr
  have h2 : σ.Frame ex s2 := h1.wrs
  exact .ite h1 h2.raise

theorem State.Frame.launchEdge {a : Launch} {chain k : Nat} (h : σ.Frame ex s) : σ.Frame ex (s.launchEdge a chain k).1 := by
  unfold State.launchEdge
  extract_lets x prog d e
  split
  · exact h.collide
  · exact h.setLeaf

theorem State.Frame.launchChain {a : Launch} {chain : Nat} {ks : List Nat} (h : σ.Frame ex s) :
    σ.Frame ex (s.launchChain a chain ks).1 := by
  induction ks generalizing s with
  | nil => exact h
  | cons k ks ih => exact ih h.launchEdge

theorem State.Frame.launchPin {a : Launch} {masked : Bool} (h : σ.Frame ex s) : σ.Frame ex (s.launchPin a masked).1 := by
  unfold State.launchPin
  split
  next s1 _ e1 =>
  have h1 := h.launchChain.of_eq e1
  split
  next s2 _ e2 =>
  have h2 := h1.launchChain.of_eq e2
  exact .ite h2.setLeaf h2

theorem State.Frame.launchPins {l vindex start bank set mask : Nat} {ps : List (Nat × PS)} (h : σ.Frame ex s) :
    σ.Frame ex (s.launchPins l vindex start bank set mask ps).1 := by
  induction ps generalizing s with
  | nil => exact h
  | cons p ps ih => exact ih (h.launchPin (masked := mask.testBit p.1))

theorem State.Frame.samePeriod {l vindex p start : Nat} (h : σ.Frame ex s) : σ.Frame ex (s.samePeriod l vindex p start) := by
  unfold State.samePeriod
  extract_lets u mem us got given s1
  have h1 : σ.Frame ex s1 := h.setUnit
  split
  · exact h
  · split
    · exact h.setUnit
    · split
      · exact h1
      · extract_lets s2
        have h2 : σ.Frame ex s2 := h.setUnit.raise
        exact h2.foldl fun _ _ h => h.askAbort

theorem State.Frame.lowerLoops {l : Nat} (h : σ.Frame ex s) : σ.Frame ex (s.lowerLoops l) := h.mapLoops

theorem State.lowerLoops_leaf (s : State) (l k : Nat) : (s.lowerLoops l).leaf k = s.leaf k := rfl

theorem State.Frame.setCache {l : Nat} {x : Cache} (h : σ.Frame ex s) : σ.Frame ex (s.setCache l x) := h.parts

theorem State.Frame.afterPeriod {l : Nat} (h : σ.Frame ex s) : σ.Frame ex (s.afterPeriod l) := by
  unfold State.afterPeriod
  extract_lets x x1 s0 s1 _
  have hp : x1.place = x.place := by dsimp only [Leaf.place, x1]
  have h0 : σ.Frame ex s0 := (h.setLeaf hp).lowerLoops
  have hleaf : s0.leaf l = x1 := (State.lowerLoops_leaf _ _ _).trans (State.leaf_setLeaf_self _ _ _)
  have h1 : σ.Frame ex s1 := h0.setLeaf (by rw [hleaf]; dsimp only [Leaf.place])
  exact .ite h (.ite (.ite h1.setCache h1) h0)

/-! ### Outside a replay -/

theorem State.replayRec_of_inactive (h : s.jn.replay.active = false) (l typ : Nat) (ok : JRec → Bool) : s.replayRec l typ ok = none := by
  simp [State.replayRec, State.replayAt, State.replaySrc, h]

theorem State.checkFlow_of_inactive (h : s.jn.replay.active = false) (l : Nat) (same : Bool) : s.checkFlow l same = s := by
  simp [State.checkFlow, State.replaySrc, h]

theorem State.forceAbort_of_inactive (h : s.jn.replay.active = false) (l : Nat) : s.forceAbort l = s := by
  simp [State.forceAbort, State.replayAbort, State.replayRec_of_inactive h]

theorem State.replayHold_of_inactive (h : s.jn.replay.active = false) (l : Nat) : s.replayHold l = none := by
  simp [State.replayHold, State.replayRec_of_inactive h]

/-! ### A period played -/

/-- Where a leaf plays after a period of length `p` with these states. -/
def Place.after (q : Place) (p : Nat) (states : List PS) : Place := { q with nextStart := q.nextStart + p, last := states }

/-- R95: the vector count steps, modulo its 48 bits. -/
theorem State.stepVcount_spec (s : State) (l : Nat) :
    s.Frame [F.UNIT_VCOUNT_VCOUNT.key] (s.stepVcount l) ∧
      (s.stepVcount l).rd F.UNIT_VCOUNT_VCOUNT l = (s.rd F.UNIT_VCOUNT_VCOUNT l + 1) % 2 ^ 48 := by
  unfold State.stepVcount
  extract_lets v u s1 s2
  have h1 : s.Frame [F.UNIT_VCOUNT_VCOUNT.key] s1 := State.Frame.rfl.wr
  have hv : s1.rd F.UNIT_VCOUNT_VCOUNT l = (v + 1) % 2 ^ 48 := s.rd_wr_self F.UNIT_VCOUNT_VCOUNT l (v + 1)
  have h2 : s1.Frame [] s2 := State.Frame.rfl.wr
  have h3 : s1.Frame [] (if (s.leavesOf u).headD l = l then s2.raise 0x61 (unitIndex u) (s2.unitStatus u) 0 else s2) := .ite h2.raise h2
  split
  · exact ⟨h1.trans (h3.mono (List.nil_subset _)), (h3.cells F.UNIT_VCOUNT_VCOUNT l (by decide) List.not_mem_nil).trans hv⟩
  · exact ⟨h1, hv⟩

/-- What a period played by the leaf l at the place `p` changes: the count of vectors, and the place, which is then `q`. -/
structure State.Played (s : State) (l : Nat) (q : Place) (t : State) : Prop where
  core : t.core = s.core
  count : t.rd F.UNIT_VCOUNT_VCOUNT l = (s.rd F.UNIT_VCOUNT_VCOUNT l + 1) % 2 ^ 48
  place : (t.leaf l).place = q

theorem State.Played.frame_right {l : Nat} {q : Place} (h : s.Played l q t) {u : State} (h' : t.Frame [] u) : s.Played l q u :=
  ⟨h'.core.trans h.core, (h'.cells F.UNIT_VCOUNT_VCOUNT l (by decide) List.not_mem_nil).trans h.count, (h'.place l).trans h.place⟩

theorem State.Played.keepsMem {l : Nat} {q : Place} (h : s.Played l q t) : s.keepsMem t :=
  State.keepsMem_of_eq (congrArg Core.dram h.core) (congrArg Core.sram h.core) (congrArg Core.strands h.core)

/-- What the place after a period says of the leaf. -/
theorem State.Played.leaf {l p : Nat} {q : Place} {states : List PS} (h : s.Played l (q.after p states) t) :
    (t.leaf l).queue = q.queue ∧ (t.leaf l).rptLeft = q.rptLeft ∧ (t.leaf l).hold = q.hold ∧ (t.leaf l).nextStart = q.nextStart + p ∧
      (t.leaf l).off = q.off ∧ (t.leaf l).last = states := by
  have hp := h.place
  generalize t.leaf l = x at hp ⊢
  exact ⟨congrArg Place.queue hp, congrArg Place.rptLeft hp, congrArg Place.hold hp, congrArg Place.nextStart hp, congrArg Place.off hp,
    congrArg Place.last hp⟩

/-- R134: outside a replay a period counts one vector and moves the leaf's place on by the period of its set. -/
theorem State.playPeriod_played {l : Nat} {states : List PS} {bank set mask qid : Nat} {pos : Nat × Nat × Nat × Nat}
    (hrep : s.jn.replay.active = false) :
    s.Played l ((s.leaf l).place.after (s.period bank l set) states) (s.playPeriod l states bank set mask qid pos) := by
  unfold State.playPeriod
  rw [State.checkFlow_of_inactive hrep]
  extract_lets s' x t vindex p
  split
  next s1 cmps e =>
  extract_lets act rec_ v s2 x2 recs x3
  have h2 : s.Frame [] s2 := (State.Frame.rfl.launchPins.of_eq e).samePeriod
  have hx3 : (x3.setPub (tickOf t) fun q => { q with periods := q.periods ++ [p] }).place =
      { x2.place with nextStart := t + p, last := states } := by
    dsimp only [Leaf.place, Leaf.setPub, x3]
  generalize x3.setPub (tickOf t) (fun q => { q with periods := q.periods ++ [p] }) = x4 at hx3 ⊢
  obtain ⟨h4, hcount⟩ := (s2.setLeaf l x4).stepVcount_spec l
  have hcore : ((s2.setLeaf l x4).stepVcount l).core = s.core := h4.core.trans h2.core
  rw [State.forceAbort_of_inactive ((congrArg (fun c => c.replay.active) hcore).trans hrep)]
  refine ⟨hcore, hcount.trans ?_, ?_⟩
  · exact congrArg (fun n => (n + 1) % 2 ^ 48) (h2.cells F.UNIT_VCOUNT_VCOUNT l (by decide) List.not_mem_nil)
  · rw [h4.place l, State.leaf_setLeaf_self, hx3, h2.place l]
    rfl

/-! ### What issues -/

/-- Where a leaf plays after its queue's head `q` has issued. -/
def Leaf.headIssued (x : Leaf) (q : QEnt) : Place :=
  { x.place with queue := x.queue.drop 1, off := q.off + 1, rptLeft := q.act.rpt.getD 1 - 1 }

theorem Leaf.headIssued_queue (x : Leaf) (q : QEnt) : (x.headIssued q).queue = x.queue.drop 1 := rfl
theorem Leaf.headIssued_rptLeft (x : Leaf) (q : QEnt) : (x.headIssued q).rptLeft = q.act.rpt.getD 1 - 1 := rfl
theorem Leaf.headIssued_nextStart (x : Leaf) (q : QEnt) : (x.headIssued q).nextStart = x.nextStart := rfl
theorem Leaf.headIssued_off (x : Leaf) (q : QEnt) : (x.headIssued q).off = q.off + 1 := rfl

/-- R78, R108: with room on the loop stack a vector without LOOPB at the head of the queue leaves it and is played. -/
theorem State.issueHead_played {l : Nat} {q : QEnt} (hrep : s.jn.replay.active = false) (hl : q.act.loopb = none)
    (hroom : (s.leaf l).loops.length + (s.eng l).c.loops.length + (if 2 ≤ q.act.rpt.getD 1 then 1 else 0) + (if q.act.hold then 1 else 0) ≤ 4) :
    s.Played l (((s.leaf l).headIssued q).after (s.period (s.leaf l).bank l (q.act.altset.getD (vecTsel q.word)))
        (if q.act.repeatLast then (s.leaf l).last else vecStates (s.leaf l).last q.word)) (s.issueHead l q) := by
  unfold State.issueHead
  extract_lets x n pushes bad s0 y states set vindex q' loops s1 s2 tick s3
  have hn : n = q.act.rpt.getD 1 := by unfold n; cases q.act.rpt <;> rfl
  have hset : set = q.act.altset.getD (vecTsel q.word) := by unfold set; cases q.act.altset <;> rfl
  have hbad : ¬(bad = true ∨ 4 < x.loops.length + (s.eng l).c.loops.length + pushes) := by
    have hb : bad = false := by unfold bad; rw [hl]
    rw [← hn, Nat.add_assoc] at hroom
    rw [hb, not_or]
    exact ⟨Bool.false_ne_true, Nat.not_lt.2 hroom⟩
  have hs0 : s0 = s := by unfold s0; rw [hl]
  have hy : y = s.leaf l := congrArg (State.leaf · l) hs0
  rw [if_neg hbad]
  have h2 : s1.Played l ((s1.leaf l).place.after (s1.period y.bank l set) states) s2 :=
    State.playPeriod_played ((congrArg (fun t => t.jn.replay.active) hs0 :).trans hrep)
  have h3 : s2.Frame [] (s3.afterPeriod l) := ((State.Frame.parts .rfl).flushEvents.feedPin).afterPeriod
  have hplace : (s1.leaf l).place = (s.leaf l).headIssued q := by
    rw [show s1.leaf l = _ from State.leaf_setLeaf_self _ _ _, hy, hn]
    dsimp only [Leaf.place, Leaf.headIssued]
  have hstates : states = if q.act.repeatLast then (s.leaf l).last else vecStates (s.leaf l).last q.word := by rw [← hy]
  have hperiod : s1.period y.bank l set = s.period (s.leaf l).bank l (q.act.altset.getD (vecTsel q.word)) := by
    rw [hy, hset]
    exact (congrArg (fun t => State.period t _ _ _) hs0 :)
  rw [hplace, hperiod, hstates] at h2
  obtain ⟨hcore, hcount, hp⟩ := h2.frame_right h3
  exact ⟨hcore.trans (congrArg State.core hs0 :), hcount.trans (congrArg (fun t => (State.rd t _ _ + 1) % 2 ^ 48) hs0 :), hp⟩

/-- Where a leaf plays after one of its repeats has issued. -/
def Leaf.repeatIssued (x : Leaf) : Place := { x.place with rptLeft := x.rptLeft - 1 }

theorem Leaf.repeatIssued_queue (x : Leaf) : x.repeatIssued.queue = x.queue := rfl
theorem Leaf.repeatIssued_rptLeft (x : Leaf) : x.repeatIssued.rptLeft = x.rptLeft - 1 := rfl
theorem Leaf.repeatIssued_nextStart (x : Leaf) : x.repeatIssued.nextStart = x.nextStart := rfl

/-- Where a leaf plays after a period of its hold `h` has issued. -/
def Leaf.heldIssued (x : Leaf) (h : Hold) : Place := { x.place with hold := some { h with len := h.len + 1 } }

/-- R78, R108: the vector in play repeats with its last set, one repeat fewer left. -/
theorem State.issueRepeat_played {l : Nat} (q : QEnt) (hrep : s.jn.replay.active = false) :
    s.Played l ((s.leaf l).repeatIssued.after (s.period (s.leaf l).lastBank l (s.leaf l).lastSet) (s.leaf l).last)
      (s.issueRepeat l q) := by
  unfold State.issueRepeat
  extract_lets x s1
  have h1 : (s.setLeaf l { x with rptLeft := x.rptLeft - 1 }).Frame [] s1 := State.Frame.rfl.feedPin
  have hplace : (s1.leaf l).place = (s.leaf l).repeatIssued := by
    rw [h1.place l, State.leaf_setLeaf_self]
    dsimp only [Leaf.place, Leaf.repeatIssued, x]
  have hperiod : s1.period x.lastBank l x.lastSet = s.period x.lastBank l x.lastSet :=
    h1.cells F.TS_PERIOD_PERIOD _ (by decide) List.not_mem_nil
  have h2 : s1.Played l ((s1.leaf l).place.after (s1.period x.lastBank l x.lastSet) x.last)
      (s1.playPeriod l x.last x.lastBank x.lastSet q.act.mask 0 (q.beadSeq, q.strand, q.bead, q.off)) :=
    State.playPeriod_played ((congrArg Replay.active h1.replay).trans hrep)
  rw [hplace, hperiod] at h2
  obtain ⟨hcore, hcount, hp⟩ := h2.frame_right State.Frame.rfl.afterPeriod
  exact ⟨hcore.trans h1.core, hcount.trans (congrArg (fun n => (n + 1) % 2 ^ 48) (h1.cells F.UNIT_VCOUNT_VCOUNT l (by decide) List.not_mem_nil)), hp⟩

theorem Leaf.heldIssued_queue (x : Leaf) (h : Hold) : (x.heldIssued h).queue = x.queue := rfl
theorem Leaf.heldIssued_hold (x : Leaf) (h : Hold) : (x.heldIssued h).hold = some { h with len := h.len + 1 } := rfl
theorem Leaf.heldIssued_nextStart (x : Leaf) (h : Hold) : (x.heldIssued h).nextStart = x.nextStart := rfl

/-- R83: a held period of the last set, or of set 0 before any vector; the hold is one period longer. -/
theorem State.issueHeld_played {l : Nat} (h : Hold) (hrep : s.jn.replay.active = false) :
    s.Played l (((s.leaf l).heldIssued h).after
      (s.period (s.leaf l).bank l (if (s.leaf l).last = [] then 0 else (s.leaf l).lastSet)) (s.leaf l).last) (s.issueHeld l h) := by
  unfold State.issueHeld
  extract_lets x s0 s1 none9
  have h0 : s.Frame [] s0 := .ite State.Frame.rfl.feedHoldStart State.Frame.rfl
  have h1 : (s0.setLeaf l { x with hold := some { h with len := h.len + 1 } }).Frame [] s1 := State.Frame.rfl.flagUnderrun
  have hplace : (s1.leaf l).place = (s.leaf l).heldIssued h := by
    rw [h1.place l, State.leaf_setLeaf_self]
    dsimp only [Leaf.place, Leaf.heldIssued, x]
  have hlast : (if x.last.isEmpty then none9 else x.last) = x.last := by
    split
    · next he => exact (List.isEmpty_iff.1 he).symm
    · rfl
  have hset : (if x.last.isEmpty then 0 else x.lastSet) = if x.last = [] then 0 else x.lastSet := by
    simp only [List.isEmpty_iff]
  rw [hlast, hset]
  have hperiod (k : Nat) : s1.period x.bank l k = s.period x.bank l k :=
    (h1.cells F.TS_PERIOD_PERIOD _ (by decide) List.not_mem_nil).trans (h0.cells F.TS_PERIOD_PERIOD _ (by decide) List.not_mem_nil)
  have h2 : s1.Played l ((s1.leaf l).place.after (s1.period x.bank l (if x.last = [] then 0 else x.lastSet)) x.last)
      (s1.playPeriod l x.last x.bank (if x.last = [] then 0 else x.lastSet) 511 0 (x.beadSeq, x.strand, x.bead, x.off)) :=
    State.playPeriod_played ((congrArg Replay.active (h1.replay.trans h0.replay)).trans hrep)
  rw [hplace, hperiod] at h2
  obtain ⟨hcore, hcount, hp⟩ := h2
  refine ⟨hcore.trans (h1.core.trans h0.core), hcount.trans (congrArg (fun n => (n + 1) % 2 ^ 48) ?_), hp⟩
  exact (h1.cells F.UNIT_VCOUNT_VCOUNT l (by decide) List.not_mem_nil).trans (h0.cells F.UNIT_VCOUNT_VCOUNT l (by decide) List.not_mem_nil)

/-! ### The command -/

/-- The leaf plays a pattern, and nothing that comes before a period is due at its place, which is in this tick. -/
structure State.Plays (s : State) (l : Nat) : Prop where
  phase : (s.leaf l).phase = .play
  vhold : (s.leaf l).vhold = false
  aborts : (s.leaf l).abortNow false = []
  expired : s.holdExpired l = false
  swap : s.swapDue l = false
  due : (s.leaf l).nextStart < tickAt (s.tick + 1)

theorem State.settle_of_vhold {l : Nat} (h : (s.leaf l).vhold = false) : s.settle l = s := by
  simp [State.settle, Leaf.settles, h]

theorem leafIssue_pattern {l : Nat} (hr : (s.leaf l).raster = false) : leafIssue l s = vectorIssue l s := by
  rw [leafIssue, hr]
  rfl

theorem vectorIssue_held {l : Nat} {h : Hold} (hp : s.Plays l) (hh : (s.leaf l).hold = some h) (ho : (s.leaf l).holdOver = false) :
    vectorIssue l s = (s.goto (s.leaf l).nextStart).issueHeld l h := by
  have hdue : s.due (s.leaf l).nextStart = true := decide_eq_true hp.due
  unfold vectorIssue
  rw [State.settle_of_vhold hp.vhold]
  dsimp only
  rw [if_pos ⟨hp.phase, hdue, hp.aborts, hp.expired, hp.swap⟩, hh]
  exact if_neg (by rw [ho]; exact Bool.false_ne_true)

theorem vectorIssue_repeat {l : Nat} {q : QEnt} (hp : s.Plays l) (hb : (s.leaf l).bdue = false) (hh : (s.leaf l).hold = none)
    (hn : (s.leaf l).rptLeft ≠ 0) (hq : (s.leaf l).cur = some q) : vectorIssue l s = (s.goto (s.leaf l).nextStart).issueRepeat l q := by
  have hdue : s.due (s.leaf l).nextStart = true := decide_eq_true hp.due
  unfold vectorIssue
  rw [State.settle_of_vhold hp.vhold]
  dsimp only
  rw [if_pos ⟨hp.phase, hdue, hp.aborts, hp.expired, hp.swap⟩, hh]
  dsimp only
  rw [if_neg (by rw [hb]; exact Bool.false_ne_true), if_pos (.inl hn), hq]

theorem vectorIssue_head {l : Nat} {q : QEnt} {r : List QEnt} (hp : s.Plays l) (hrep : s.jn.replay.active = false)
    (hb : (s.leaf l).bdue = false) (hh : (s.leaf l).hold = none) (hn : (s.leaf l).rptLeft = 0) (hq : (s.leaf l).queue = q :: r)
    (hf : q.fault = none) (ha : vecOp q.word = 0 ∨ s.mc.dispatch.getD (hPage q.hdr * 16 + vecOp q.word) 0 = 0 ∨ q.act.fixed = true) :
    vectorIssue l s = (s.goto (s.leaf l).nextStart).issueHead l q := by
  have hdue : s.due (s.leaf l).nextStart = true := decide_eq_true hp.due
  have hv : ¬((s.leaf l).rptLeft ≠ 0 ∨ (s.leaf l).vhold = true) := by simp [hn, hp.vhold]
  unfold vectorIssue
  rw [State.settle_of_vhold hp.vhold]
  dsimp only
  rw [if_pos ⟨hp.phase, hdue, hp.aborts, hp.expired, hp.swap⟩, hh]
  dsimp only
  rw [if_neg (by rw [hb]; exact Bool.false_ne_true), if_neg hv, hq]
  dsimp only
  rw [hf]
  dsimp only
  rw [if_neg (by rcases ha with h | h | h <;> rw [h] <;> simp), State.replayHold_of_inactive hrep]

end

end Sys2Proof.Machine
namespace Sys2Proof.Settled
open Sys2Proof.Machine

set_option Elab.async false

/-- Settles O27: the clock moves to the leaf's place, and the period that is due there is played. -/
theorem vectorIssue : Obligations.VectorIssue := by
  intro s l hraster hphase hvhold haborts hexpired hswap hrep hdue
  have hp : s.Plays l.val := ⟨hphase, hvhold, haborts, hexpired, hswap, hdue⟩
  have hexec : exec (.vectorIssue l) s = .next (Machine.vectorIssue l.val s) := (congrArg Host.Outcome.next (leafIssue_pattern hraster) :)
  have hmem := s.goto_keepsMem (s.leaf l.val).nextStart
  have hrep0 : (s.goto (s.leaf l.val).nextStart).jn.replay.active = false := by rw [s.goto_jn, hrep]
  have hcount0 := s.goto_rd (s.leaf l.val).nextStart F.UNIT_VCOUNT_VCOUNT l.val
  have hleaf0 := s.goto_leaf (s.leaf l.val).nextStart l.val
  have heng0 := s.goto_eng (s.leaf l.val).nextStart l.val
  have hperiod0 := s.goto_period (s.leaf l.val).nextStart
  refine ⟨fun q r hb hh hn hq hf ha hl hroom => ?_, fun q hb hh hn hq => ?_, fun h hh ho => ?_⟩
  · have he := vectorIssue_head hp hrep hb hh hn hq hf ha
    rw [← hleaf0, ← heng0] at hroom
    have hplay := State.issueHead_played hrep0 hl hroom
    rw [hleaf0, hperiod0] at hplay
    generalize (s.goto (s.leaf l.val).nextStart).issueHead l.val q = t at he hplay
    obtain ⟨hqueue, hrpt, -, hnext, hoff, hlast⟩ := hplay.leaf
    rw [Leaf.headIssued_queue, hq] at hqueue
    rw [Leaf.headIssued_rptLeft] at hrpt
    rw [Leaf.headIssued_nextStart] at hnext
    rw [Leaf.headIssued_off] at hoff
    exact ⟨t, hexec.trans (congrArg Host.Outcome.next he), hqueue, hrpt, hplay.count.trans (by rw [hcount0]), hnext, hoff, hlast,
      State.keepsMem_trans hmem hplay.keepsMem⟩
  · have he := vectorIssue_repeat hp hb hh hn hq
    have hplay := State.issueRepeat_played q hrep0 (l := l.val)
    rw [hleaf0, hperiod0] at hplay
    generalize (s.goto (s.leaf l.val).nextStart).issueRepeat l.val q = t at he hplay
    obtain ⟨hqueue, hrpt, -, hnext, -, hlast⟩ := hplay.leaf
    rw [Leaf.repeatIssued_queue] at hqueue
    rw [Leaf.repeatIssued_rptLeft] at hrpt
    rw [Leaf.repeatIssued_nextStart] at hnext
    exact ⟨t, hexec.trans (congrArg Host.Outcome.next he), hqueue, hrpt, hplay.count.trans (by rw [hcount0]), hnext, hlast,
      State.keepsMem_trans hmem hplay.keepsMem⟩
  · have he := vectorIssue_held hp hh ho
    have hplay := State.issueHeld_played h hrep0 (l := l.val)
    rw [hleaf0, hperiod0] at hplay
    generalize (s.goto (s.leaf l.val).nextStart).issueHeld l.val h = t at he hplay
    obtain ⟨hqueue, -, hhold, hnext, -, hlast⟩ := hplay.leaf
    rw [Leaf.heldIssued_queue] at hqueue
    rw [Leaf.heldIssued_hold] at hhold
    rw [Leaf.heldIssued_nextStart] at hnext
    exact ⟨t, hexec.trans (congrArg Host.Outcome.next he), hqueue, hhold, hplay.count.trans (by rw [hcount0]), hnext, hlast,
      State.keepsMem_trans hmem hplay.keepsMem⟩

end Sys2Proof.Settled
end

section
/-! PROOFS. The issue queue's next entry, the stream fetcher and the landing of a bead (R46, R57, R58, R65, R99, R333). -/

namespace Sys2Proof.Machine

set_option Elab.async false

section
variable {s : State} {l : Nat}

/-! ### What enters the issue queue -/

theorem State.goto_slotAt (s : State) (t l bs strand bead : Nat) : (s.goto t).slotAt l bs strand bead = s.slotAt l bs strand bead := by
  obtain ⟨r, n, b, sh, v, h⟩ := s.goto_onlyClock t
  rw [h]; rfl

theorem State.goto_cache (s : State) (t l : Nat) : (s.goto t).cache l = s.cache l := by
  obtain ⟨r, n, b, sh, v, h⟩ := s.goto_onlyClock t
  rw [h]; rfl

theorem State.dispatch_onlyEngines (s : State) (l : Nat) (q : QEnt) (noCmp : Bool) :
    ∃ g : Table Engine, s.dispatch l q noCmp = { s with engines := g } := by
  unfold State.dispatch
  extract_lets e
  split
  · exact ⟨_, rfl⟩
  · exact ⟨_, rfl⟩

/-- R46: the vector at the place `p`, whose bead stands in the slot `c`, is the queue's new last entry in `t`; of the registers none but
MC_UREG has changed, and no memory. -/
def State.Entered (s : State) (l : Nat) (p : Nat × Nat × Nat × Nat) (c : CSlot) (t : State) : Prop :=
  ∃ q, (t.leaf l).queue = (s.leaf l).queue ++ [q] ∧ (q.beadSeq, q.strand, q.bead, q.off) = p ∧
    q.word = beadWord c.payload p.2.2.2 ∧ s.keepsCells [F.MC_UREG_VALUE.key] t ∧ s.keepsMem t

theorem State.Entered.dispatch {p : Nat × Nat × Nat × Nat} {c : CSlot} {t : State} (h : s.Entered l p c t) (q : QEnt) (noCmp : Bool) :
    s.Entered l p c (t.dispatch l q noCmp) := by
  obtain ⟨g, hg⟩ := t.dispatch_onlyEngines l q noCmp
  rw [hg]
  exact h

theorem State.enqueue_entered {p : Nat × Nat × Nat × Nat} {k : Nat} (hk : s.slotAt l p.1 p.2.1 p.2.2.1 = some k)
    (hlanded : ((s.cache l).slot k).landed ≠ none) (hbad : ((s.cache l).slot k).bad = false) :
    s.Entered l p ((s.cache l).slot k) (s.enqueue l p) := by
  obtain ⟨bs, strand, bead, off⟩ := p
  unfold State.enqueue
  dsimp only at hk ⊢
  rw [hk]
  dsimp only
  rw [if_neg (by simp [hlanded, hbad])]
  apply State.Entered.dispatch
  exact ⟨_, congrArg Leaf.queue (s.leaf_setLeaf_self l _), rfl, rfl, fun _ _ _ _ => rfl, State.keepsMem_of_eq rfl rfl rfl⟩

/-- Where the clock has moved first, the vector that enters is the same. -/
theorem State.Entered.of_goto {p : Nat × Nat × Nat × Nat} {c : CSlot} {t : State} {at_ : Nat} (h : (s.goto at_).Entered l p c t) :
    s.Entered l p c t := by
  obtain ⟨q, hqueue, hpos, hword, hcells, hmem⟩ := h
  rw [s.goto_leaf] at hqueue
  exact ⟨q, hqueue, hpos, hword, State.keepsCells_mono (State.keepsCells_trans (s.goto_keepsCells at_) hcells) (by simp),
    State.keepsMem_trans (s.goto_keepsMem at_) hmem⟩

/-- The queue takes an entry (R99): the leaf plays a pattern, or its first vectors are due; there is room, no vector at fault waits, and the
queue advances. -/
structure State.TakesEntry (s : State) (l : Nat) : Prop where
  pattern : (s.leaf l).raster = false
  phase : (s.leaf l).phase = .play ∨ ((s.leaf l).phase = .armed ∧ s.due (fillFrom (s.leaf l).startTick) = true)
  room : (s.leaf l).queue.length < 16
  sound : (s.leaf l).queue.all (fun q => q.fault.isNone) = true
  moves : (s.leaf l).queueMoves = true

theorem State.TakesEntry.queueEntry_eq {p : Nat × Nat × Nat × Nat} (h : s.TakesEntry l) (hp : s.entryPos l = some p) :
    queueEntry l s = s.enqueue l p ∨ queueEntry l s = (s.goto (fillFrom (s.leaf l).startTick)).enqueue l p := by
  unfold queueEntry
  dsimp only
  rw [if_pos ⟨h.pattern, h.room, h.sound, h.moves⟩]
  obtain hplay | ⟨harmed, hdue⟩ := h.phase
  · rw [hplay, hp]
    exact .inl rfl
  · rw [harmed, hp, if_pos hdue]
    exact .inr rfl

theorem queueEntry_entered {p : Nat × Nat × Nat × Nat} {k : Nat} (h : s.TakesEntry l) (hp : s.entryPos l = some p)
    (hk : s.slotAt l p.1 p.2.1 p.2.2.1 = some k) (hlanded : ((s.cache l).slot k).landed ≠ none)
    (hbad : ((s.cache l).slot k).bad = false) : s.Entered l p ((s.cache l).slot k) (queueEntry l s) := by
  obtain he | he := h.queueEntry_eq hp <;> rw [he]
  · exact State.enqueue_entered hk hlanded hbad
  · have hc := s.goto_cache (fillFrom (s.leaf l).startTick) l
    rw [← s.goto_slotAt (fillFrom (s.leaf l).startTick)] at hk
    rw [← hc] at hlanded hbad ⊢
    exact (State.enqueue_entered hk hlanded hbad).of_goto

/-! ### A bead asked for -/

theorem State.askFar_onlyClu (s : State) (l : Nat) (f : Fetch) : ∃ c : CluSt, s.askFar l f = { s with clu := c } := by
  unfold State.askFar
  split
  · exact ⟨_, rfl⟩
  · exact ⟨_, rfl⟩

theorem State.askFetch_spec (s : State) (l : Nat) (f : Fetch) :
    (s.askFetch l f).cache l = { s.cache l with fetches := (s.cache l).fetches ++ [f] } ∧ s.keepsCells [] (s.askFetch l f) ∧
      s.keepsMem (s.askFetch l f) := by
  unfold State.askFetch
  obtain ⟨c, hc⟩ := (s.setCache l { s.cache l with fetches := (s.cache l).fetches ++ [f] }).askFar_onlyClu l f
  rw [hc]
  exact ⟨s.cache_setCache_self l _, fun _ _ _ _ => rfl, State.keepsMem_of_eq rfl rfl rfl⟩

/-- The leaf's cache with the slot `k` added to its ring for the bead at `f`. -/
def State.ringTakes (s : State) (l k : Nat) (f : FetchCur) : Cache :=
  { s.cache l with
    slots := Table.set (s.cache l).slots k
      { (s.cache l).slot k with strand := f.strand, bead := f.bead, landed := none, bad := false, parity := 0 }
    ring := (s.cache l).ring ++ [k]
    cur := s.curAfter f }

theorem streamFetch_eq {k : Nat} {f : FetchCur} (hk : (s.cache l).freeSlot = some k)
    (hf : (s.cache l).cur.bind (s.nextStreamed l 41000) = some f) :
    streamFetch l s = (s.setCache l (s.ringTakes l k f)).askFetch l { slot := k, strand := f.strand, bead := f.bead } := by
  unfold streamFetch
  dsimp only
  rw [hk, hf]
  rfl

/-- R65: a free slot joins the ring, and the next bead in the order of play is asked for there. -/
theorem streamFetch_spec {k : Nat} {f : FetchCur} (hk : (s.cache l).freeSlot = some k)
    (hf : (s.cache l).cur.bind (s.nextStreamed l 41000) = some f) :
    ((streamFetch l s).cache l).ring = (s.cache l).ring ++ [k] ∧
      { slot := k, strand := f.strand, bead := f.bead } ∈ ((streamFetch l s).cache l).fetches ∧
      s.keepsCells [] (streamFetch l s) ∧ s.keepsMem (streamFetch l s) := by
  obtain ⟨hcache, hcells, hmem⟩ :=
    (s.setCache l (s.ringTakes l k f)).askFetch_spec l { slot := k, strand := f.strand, bead := f.bead }
  rw [streamFetch_eq hk hf, hcache]
  exact ⟨congrArg Cache.ring (s.cache_setCache_self l _), List.mem_append_right _ (List.mem_singleton_self _), hcells, hmem⟩

/-! ### A bead that lands -/

theorem State.wakeHold_onlyLeaves (s : State) (l strand bead : Nat) :
    ∃ x : Table Leaf, s.wakeHold l strand bead = { s with leaves := x } := by
  unfold State.wakeHold
  extract_lets x
  split
  · split
    · exact ⟨_, rfl⟩
    · exact ⟨_, rfl⟩
  · exact ⟨_, rfl⟩

/-- What a landing whose check passes leaves in `t`: the bead in its slot `k`, the fetch at its end, and of the registers none but
PL_PREFETCH changed. -/
structure State.Landed (s : State) (l k : Nat) (f : Fetch) (pay hd : List Byte) (t : State) : Prop where
  slot : (t.cache l).slot k =
    { strand := f.strand, bead := f.bead, payload := pay, header := hd, landed := some (edgeUp s.now), bad := false, parity := 0 }
  fetches : (t.cache l).fetches = (s.cache l).fetches.filter (fun g => g != f)
  cells : s.keepsCells [F.PL_PREFETCH_BEADS.key] t
  mem : s.keepsMem t

/-- R57, R58: the payload with the header's CRC lands. -/
theorem State.land_landed {f : Fetch} {k : Nat} {pay hd : List Byte} (hk : f.slot = k) (h : landingOk pay hd = true) :
    s.Landed l k f pay hd (s.land l f pay hd true) := by
  subst hk
  unfold State.land
  rw [h]
  extract_lets c rest old slot s1
  rw [if_pos (Bool.and_self true)]
  have h1 : s.keepsCells [F.PL_PREFETCH_BEADS.key] s1 ∧ s.keepsMem s1 := by
    unfold s1
    split
    · exact ⟨s.wr_keepsCells _ _ _ (by decide), State.keepsMem_of_eq rfl rfl rfl⟩
    · exact ⟨s.keepsCells_refl _, State.keepsMem_of_eq rfl rfl rfl⟩
  obtain ⟨hcells, hmem⟩ := h1
  obtain ⟨x, hx⟩ :=
    (s1.setCache l { c with fetches := rest, slots := Table.set c.slots f.slot slot }).wakeHold_onlyLeaves l f.strand f.bead
  rw [hx]
  have hcache := s1.cache_setCache_self l { c with fetches := rest, slots := Table.set c.slots f.slot slot }
  refine ⟨?_, congrArg Cache.fetches hcache, hcells, hmem⟩
  refine (congrArg (fun d => Cache.slot d f.slot) hcache).trans ?_
  simp only [Cache.slot, Table.get?_set_self, Option.getD_some, slot]

theorem State.Landed.not_mem {k : Nat} {f : Fetch} {pay hd : List Byte} {t : State} (h : s.Landed l k f pay hd t) :
    f ∉ (t.cache l).fetches := by
  rw [h.fetches]
  simp

/-! ### A reader of DRAM that meets no uncorrectable error -/

theorem State.Frame.recordCe {σ : State} {ex : List Nat} {burst : Nat} (h : σ.Frame ex s) : σ.Frame ex (s.recordCe burst) := h.bump.wr

/-- R333: where no burst of a range is in error, its reader counts the errors that are corrected on the way and does no more. -/
theorem State.readerUe_frame {a n : Nat} (h : s.dram.ue.any (fun b => burstHit a n b) = false) : s.Frame [] (s.readerUe a n) := by
  unfold State.readerUe
  extract_lets s1
  have h1 : s.Frame [] s1 := State.Frame.rfl.foldl fun _ _ h => h.recordCe
  have hue : s1.ueIn a n = none := by
    have hnone : s.dram.ue.find? (fun b => burstHit a n b) = none := by simpa using h
    rw [State.ueIn, h1.dram, hnone]
    rfl
  rw [hue]
  exact h1

theorem State.ue_any_of_rangeUe {a n : Nat} (h : s.rangeUe a n = false) : s.dram.ue.any (fun b => burstHit a n b) = false :=
  (Bool.or_eq_false_iff.1 h).2

/-- The state in which a bead read from DRAM lands: both ranges read, and the DRAM awake (R339). -/
def State.beadRead (s : State) (pa ha : Nat) : State := ((s.readerUe pa 256).readerUe ha 16).wake

theorem State.wake_now_keepsMem (s : State) : s.wake.now = s.now ∧ s.keepsMem s.wake := by
  have htick : s.wake.tick = s.tick := State.rd_wr_ne _ F.DM_STATUS_SR F.GLB_TICK_TICK 0 0 0 (by decide)
  exact ⟨congrArg (fun t => tickAt t + s.sub) htick, ⟨fun _ => rfl, fun _ => rfl⟩, fun _ => rfl⟩

theorem State.beadRead_now_keepsMem {pa ha : Nat} (hp : s.rangeUe pa 256 = false) (hh : s.rangeUe ha 16 = false) :
    (s.beadRead pa ha).now = s.now ∧ s.keepsMem (s.beadRead pa ha) := by
  have h1 := State.readerUe_frame (State.ue_any_of_rangeUe hp)
  have hsound : (s.readerUe pa 256).dram.ue.any (fun b => burstHit ha 16 b) = false := by
    rw [h1.dram]
    exact State.ue_any_of_rangeUe hh
  have h2 := h1.trans (State.readerUe_frame hsound)
  have hnow : ((s.readerUe pa 256).readerUe ha 16).now = s.now := by rw [State.now, State.now, h2.tick, h2.sub]
  obtain ⟨hwake, hmem⟩ := State.wake_now_keepsMem ((s.readerUe pa 256).readerUe ha 16)
  exact ⟨hwake.trans hnow, State.keepsMem_trans h2.keepsMem hmem⟩

/-! ### The commands of a landing -/

theorem Fetch.slot_eq_of_find {k : Nat} {fs : List Fetch} {f : Fetch} (h : fs.find? (fun f => f.slot == k) = some f) : f.slot = k :=
  eq_of_beq (List.find?_some h :)

/-- R57: the 272 bytes that come over a link land as they are. -/
theorem beadLanding_link {k : Nat} {f : Fetch} {b : List Byte} (hf : (s.cache l).fetches.find? (fun f => f.slot == k) = some f)
    (hm : s.fetchFrom l f ≠ s.module) (hb : b.length = 272) (hok : landingOk (b.take 256) ((b.drop 256).take 16) = true) :
    s.Landed l k f (b.take 256) ((b.drop 256).take 16) (beadLanding l k (some b) s) := by
  have he : beadLanding l k (some b) s = s.land l f (b.take 256) ((b.drop 256).take 16) true := by
    rw [beadLanding, hf]
    dsimp only
    rw [if_neg hm, hb]
    rfl
  rw [he]
  exact State.land_landed (Fetch.slot_eq_of_find hf) hok

/-- R58: a bead of this module's DRAM lands in the state that the reading of it leaves. -/
theorem beadLanding_dram {k pa ha : Nat} {f : Fetch} (hf : (s.cache l).fetches.find? (fun f => f.slot == k) = some f)
    (hpa : pa = s.payloadAt l (dStart (s.desc f.strand) + f.bead)) (hha : ha = s.headerAt l (dStart (s.desc f.strand) + f.bead))
    (hm : s.fetchFrom l f = s.module) (hsp : s.stalledAt pa 256 = false) (hsh : s.stalledAt ha 16 = false)
    (hup : s.rangeUe pa 256 = false) (huh : s.rangeUe ha 16 = false)
    (hok : landingOk (s.dram.read pa 256) (s.dram.read ha 16) = true) :
    (s.beadRead pa ha).Landed l k f (s.dram.read pa 256) (s.dram.read ha 16) (beadLanding l k none s) := by
  have he : beadLanding l k none s = (s.beadRead pa ha).land l f (s.dram.read pa 256) (s.dram.read ha 16) true := by
    subst hpa hha
    rw [beadLanding, hf]
    dsimp only
    rw [if_neg (by simp [hm, hsp, hsh]), hup, huh]
    rfl
  rw [he]
  exact State.land_landed (Fetch.slot_eq_of_find hf) hok

end

/-- Settles O26: the vector that enters, the bead asked for, and the landing over a link or out of DRAM. -/
theorem queueAndFetch : Obligations.QueueAndFetch := by
  refine ⟨fun s l p k hraster hphase hroom hsound hmoves hp hk hlanded hbad => ?_, fun s l k f hk hf => ?_,
    fun s l slot f link pay hd hfind hlink hdram hok => ?_⟩
  · obtain ⟨q, h⟩ := queueEntry_entered ⟨hraster, hphase, hroom, hsound, hmoves⟩ hp hk hlanded hbad
    exact ⟨_, q, rfl, h⟩
  · obtain ⟨hring, hmem, hkeeps⟩ := streamFetch_spec hk hf
    exact ⟨_, rfl, hring, ⟨_, hmem, rfl, rfl, rfl⟩, hkeeps⟩
  · cases link with
    | some b =>
      obtain ⟨hm, hlen, rfl, rfl⟩ := hlink b rfl
      have h := beadLanding_link hfind hm hlen hok
      refine ⟨_, rfl, ?_⟩
      rw [h.slot]
      exact ⟨rfl, rfl, rfl, rfl, h.not_mem, fun _ => h.cells, h.mem⟩
    | none =>
      obtain ⟨hm, hsp, hsh, hup, huh, rfl, rfl⟩ := hdram _ _ rfl rfl rfl
      have h := beadLanding_dram hfind rfl rfl hm hsp hsh hup huh hok
      obtain ⟨hnow, hread⟩ := State.beadRead_now_keepsMem hup huh
      refine ⟨_, rfl, ?_⟩
      rw [h.slot, hnow]
      exact ⟨rfl, rfl, rfl, rfl, h.not_mem, fun hne => absurd rfl hne, State.keepsMem_trans hread h.mem⟩

end Sys2Proof.Machine
end

section
/-! PROOFS. What the commands of a run leave as they were (R66 to R98): the memories, the strand table, the mounted image, the starts
pending, the registers UNIT_STATUS to UNIT_ABORT_SRC, and of the leaves as much as a view shows.

`σ.Stays l own V W s` relates the state σ to a state s on the way of a command of the leaf l. Each operation has one lemma
`State.Stays.<operation>`; an operation that changes the leaf more than the view allows has none, and is said by an equation. -/

namespace Sys2Proof.Machine

set_option Elab.async false

/-- A field outside the registers UNIT_STATUS to UNIT_ABORT_SRC, whose fields are numbered below 23, and not the state of the mount. -/
def Fld.aside (f : Fld) : Bool := decide (23 ≤ f.key) && decide (f.key < 1024) && f.key != F.MNT_STATUS_STATE.key

theorem Fld.of_aside {f : Fld} (h : f.aside = true) : 23 ≤ f.key ∧ f.key < 1024 ∧ f.key ≠ F.MNT_STATUS_STATE.key := by
  simpa [Fld.aside, and_assoc] using h

/-- What the way of a command of the leaf l from σ to s leaves as it was: of the leaf's own run registers all but `own`, of the leaf
itself what V shows, of the other leaves what W shows. -/
structure State.Stays {α β : Type} (σ : State) (l : Nat) (own : List Nat) (V : Leaf → α) (W : Leaf → β) (s : State) : Prop where
  cells : ∀ (g : Fld) (j : Nat), g.key < 23 → (j = l → g.key ∉ own) → s.rd g j = σ.rd g j
  mem : s.dram = σ.dram ∧ s.sram = σ.sram ∧ s.strands = σ.strands
  image : s.image = σ.image
  pending : ∀ u, (s.unit u).pending = (σ.unit u).pending
  src : ∀ u, (s.unit u).src = (σ.unit u).src
  leaf : V (s.leaf l) = V (σ.leaf l)
  others : ∀ k, k ≠ l → W (s.leaf k) = W (σ.leaf k)

/-- A leaf but for what its results and its flags of the tick are. -/
def Leaf.body (x : Leaf) : Leaf := { x with pubs := [], vrecs := [], flLost := false }

section
variable {α β : Type} {σ s t : State} {l : Nat} {own : List Nat} {V : Leaf → α} {W : Leaf → β}

theorem State.Stays.rfl : s.Stays l own V W s :=
  ⟨fun _ _ _ _ => Eq.refl _, ⟨Eq.refl _, Eq.refl _, Eq.refl _⟩, Eq.refl _, fun _ => Eq.refl _, fun _ => Eq.refl _, Eq.refl _,
    fun _ _ => Eq.refl _⟩

theorem State.Stays.trans (h : σ.Stays l own V W s) (h' : s.Stays l own V W t) : σ.Stays l own V W t where
  cells g j hg hj := (h'.cells g j hg hj).trans (h.cells g j hg hj)
  mem := ⟨h'.mem.1.trans h.mem.1, h'.mem.2.1.trans h.mem.2.1, h'.mem.2.2.trans h.mem.2.2⟩
  image := h'.image.trans h.image
  pending u := (h'.pending u).trans (h.pending u)
  src u := (h'.src u).trans (h.src u)
  leaf := h'.leaf.trans h.leaf
  others k hk := (h'.others k hk).trans (h.others k hk)

/-- Fewer registers followed, and a view of what the views show. -/
theorem State.Stays.weaken {γ δ : Type} {own' : List Nat} {V' : Leaf → γ} {W' : Leaf → δ} (h : σ.Stays l own V W s) (ho : own ⊆ own')
    (hV : ∀ x y, V x = V y → V' x = V' y) (hW : ∀ x y, W x = W y → W' x = W' y) : σ.Stays l own' V' W' s :=
  { h with cells := fun g j hg hj => h.cells g j hg fun e hm => hj e (ho hm), leaf := hV _ _ h.leaf, others := fun k hk => hW _ _ (h.others k hk) }

theorem State.Stays.keepsMem (h : σ.Stays l own V W s) : σ.keepsMem s := by
  obtain ⟨hd, hs, hst⟩ := h.mem
  exact State.keepsMem_of_eq hd hs hst

/-! ### Rules for the parts of a state -/

/-- The parts that the relation does not speak of may change. The update is written out so that a caller's record update matches it as it
stands. -/
theorem State.Stays.parts {sub : Nat} {pending : List Instr} {host : HostSt} {evt : EvtSt} {jn : JnSt} {snap : SnapSt} {caches : Table Cache}
    {engines : Table Engine} {pulses : List Pulse} {mc : McSt} {fl : FlSt} {pl : PlSt} {trig : TrigSt} {acq : AcqSt} {tmu : TmuSt}
    {dc : DcSt} {ras : RasSt} {lk : LkSt} {clu : CluSt} {cal : CalSt} {env : EnvSt} {shown : Table Ctx} {vis : List (Nat × Nat × Ctx)}
    {hot : HotSt} {lvl : LvlSt} {free : Nat} (h : σ.Stays l own V W s) :
    σ.Stays l own V W { s with
      sub := sub, pending := pending, host := host, evt := evt, jn := jn, snap := snap, caches := caches, engines := engines,
      pulses := pulses, mc := mc, fl := fl, pl := pl, trig := trig, acq := acq, tmu := tmu, dc := dc, ras := ras, lk := lk, clu := clu,
      cal := cal, env := env, shown := shown, vis := vis, hot := hot, lvl := lvl, free := free } :=
  ⟨h.cells, h.mem, h.image, h.pending, h.src, h.leaf, h.others⟩

theorem State.Stays.setLeaf {x : Leaf} (h : σ.Stays l own V W s) (hx : V x = V (s.leaf l) := by rfl) : σ.Stays l own V W (s.setLeaf l x) :=
  { h with
    leaf := by rw [State.leaf_setLeaf_self, hx, h.leaf]
    others := fun k hk => by rw [State.leaf_setLeaf_ne _ _ _ _ hk, h.others k hk] }

theorem State.Stays.setUnit {u : Nat} {x : UnitSt} (h : σ.Stays l own V W s) (hp : x.pending = (s.unit u).pending := by rfl)
    (hs : x.src = (s.unit u).src := by rfl) : σ.Stays l own V W (s.setUnit u x) := by
  refine { h with pending := fun v => Eq.trans ?_ (h.pending v), src := fun v => Eq.trans ?_ (h.src v) } <;> by_cases hv : v = u
  · rw [hv, State.unit_setUnit_self, hp]
  · rw [State.unit_setUnit_ne _ _ _ _ hv]
  · rw [hv, State.unit_setUnit_self, hs]
  · rw [State.unit_setUnit_ne _ _ _ _ hv]

/-- Cells of the fields `ks` change, and parts that the relation does not speak of. -/
theorem State.Stays.onlyJn {ks : List Nat} (h : σ.Stays l own V W s) (ho : s.onlyJn t) (hc : s.keepsCells ks t)
    (hk : ∀ k ∈ ks, 23 ≤ k ∧ k ≠ F.MNT_STATUS_STATE.key) : σ.Stays l own V W t := by
  have himage : t.rd F.MNT_STATUS_STATE 0 = s.rd F.MNT_STATUS_STATE 0 := hc _ _ (by decide) fun hm => (hk _ hm).2 (Eq.refl _)
  obtain ⟨r, e, m, j, rfl⟩ := ho
  refine { h with cells := fun g i hg hi => ?_, image := Eq.trans ?_ h.image }
  · exact (hc g i (by omega) fun hm => by have := (hk _ hm).1; omega).trans (h.cells g i hg hi)
  · rw [State.image, himage]; rfl

theorem State.Stays.wr {f : Fld} {i v : Nat} (h : σ.Stays l own V W s) (hf : f.aside = true := by rfl) : σ.Stays l own V W (s.wr f i v) := by
  obtain ⟨h23, hlt, hne⟩ := Fld.of_aside hf
  exact h.onlyJn (s.onlyEvt_wr f i v).jn (s.wr_keepsCells f i v hlt) fun k hk => List.mem_singleton.1 hk ▸ ⟨h23, hne⟩

theorem State.Stays.wrs {ws : List (Fld × Nat × Nat)} (h : σ.Stays l own V W s) (hw : (ws.all fun e => e.1.aside) = true := by rfl) :
    σ.Stays l own V W (s.wrs ws) := by
  induction ws generalizing s with
  | nil => exact h
  | cons e ws ih =>
    obtain ⟨he, hw⟩ := Bool.and_eq_true_iff.1 hw
    exact ih (h.wr he) hw

/-- A register of the leaf's own among those that may change. -/
theorem State.Stays.wrOwn {f : Fld} {v : Nat} (h : σ.Stays l own V W s) (hf : f.key < 23 := by decide) (ho : f.key ∈ own := by decide) :
    σ.Stays l own V W (s.wr f l v) := by
  refine { h with cells := fun g j hg hj => ?_, image := Eq.trans ?_ h.image }
  · refine (s.rd_wr_ne f g l j v fun he => ?_).trans (h.cells g j hg hj)
    obtain ⟨hk, rfl⟩ := cellNo_inj (by omega) (by omega) he
    exact hj (Eq.refl _) (hk ▸ ho)
  · rw [State.image, s.rd_wr_ne f F.MNT_STATUS_STATE l 0 v (cellNo_ne (by omega) (by decide) fun he => absurd hf (he ▸ by decide))]
    exact Eq.refl _

/-- Registers of the leaf's own, each among those that may change or none of the followed. -/
theorem State.Stays.wrsOwn {ws : List (Fld × Nat × Nat)} (h : σ.Stays l own V W s)
    (hw : (ws.all fun e => e.1.aside || (decide (e.1.key < 23) && own.contains e.1.key)) = true := by rfl)
    (hl : ∀ e ∈ ws, e.2.1 = l := by simp) : σ.Stays l own V W (s.wrs ws) := by
  induction ws generalizing s with
  | nil => exact h
  | cons e ws ih =>
    obtain ⟨he, hw⟩ := Bool.and_eq_true_iff.1 hw
    obtain ⟨hi, hl⟩ := List.forall_mem_cons.1 hl
    refine ih ?_ hw hl
    rcases Bool.or_eq_true_iff.1 he with ha | ho
    · exact h.wr ha
    · obtain ⟨hk, hm⟩ := Bool.and_eq_true_iff.1 ho
      rw [hi]
      exact h.wrOwn (of_decide_eq_true hk) (by simpa using hm)

theorem State.Stays.ite {c : Prop} [Decidable c] {a b : State} (ha : σ.Stays l own V W a) (hb : σ.Stays l own V W b) :
    σ.Stays l own V W (if c then a else b) := by split <;> assumption

theorem State.Stays.foldl {γ : Type} {as : List γ} {g : State → γ → State} (h : σ.Stays l own V W s)
    (hg : ∀ t a, σ.Stays l own V W t → σ.Stays l own V W (g t a)) : σ.Stays l own V W (as.foldl g s) := by
  induction as generalizing s with
  | nil => exact h
  | cons a as ih => exact ih (hg s a h)

/-! ### The shared operations -/

theorem State.Stays.goto {at_ : Nat} (h : σ.Stays l own V W s) : σ.Stays l own V W (s.goto at_) := by
  have hrd (g : Fld) (j : Nat) (hg : g.key < 1024) (hn : g.key ∉ [F.MC_UREG_VALUE.key]) := s.goto_keepsCells at_ g j hg hn
  have himage := s.goto_image at_
  obtain ⟨r, n, b, sh, v, e⟩ := s.goto_onlyClock at_
  rw [e] at hrd himage ⊢
  refine { h with cells := fun g j hg hj => ?_, image := himage.trans h.image }
  exact (hrd g j (by omega) fun hm => absurd hg (List.mem_singleton.1 hm ▸ by decide)).trans (h.cells g j hg hj)

theorem eventKeys_aside {k : Nat} (h : k ∈ eventKeys) : 23 ≤ k ∧ k ≠ F.MNT_STATUS_STATE.key :=
  (by decide : ∀ k ∈ eventKeys, 23 ≤ k ∧ k ≠ F.MNT_STATUS_STATE.key) k h

theorem State.Stays.raise {code index data dataHi : Nat} (h : σ.Stays l own V W s) : σ.Stays l own V W (s.raise code index data dataHi) :=
  h.onlyJn (s.raise_onlyEvt _ _ _ _).jn (s.raise_keepsCells _ _ _ _) fun _ => eventKeys_aside

theorem State.Stays.flag {f : Fld} {i : Nat} (h : σ.Stays l own V W s) (hf : f.aside = true := by rfl) : σ.Stays l own V W (s.flag f i) := by
  obtain ⟨h23, hlt, hne⟩ := Fld.of_aside hf
  exact h.onlyJn (s.flag_onlyEvt f i).jn (s.flag_keepsCells f i hlt) fun k hk => List.mem_singleton.1 hk ▸ ⟨h23, hne⟩

theorem State.Stays.bump {f : Fld} {i n : Nat} {sat : Fld} {si row off : Nat} (h : σ.Stays l own V W s) (hf : f.aside = true := by rfl)
    (hs : sat.aside = true := by rfl) : σ.Stays l own V W (s.bump f i n sat si row off) := by
  obtain ⟨hf1, hflt, hf2⟩ := Fld.of_aside hf
  obtain ⟨hs1, hslt, hs2⟩ := Fld.of_aside hs
  refine h.onlyJn (s.bump_onlyEvt _ _ _ _ _ _ _).jn (s.bump_keepsCells _ _ _ _ _ _ _ hflt hslt) fun k hk => ?_
  rcases List.mem_cons.1 hk with rfl | hk
  · exact ⟨hf1, hf2⟩
  · rcases List.mem_cons.1 hk with rfl | hk
    · exact ⟨hs1, hs2⟩
    · exact eventKeys_aside hk

theorem State.Stays.journal {typ leaf : Nat} {rep : Bool} {body : Nat} (h : σ.Stays l own V W s) :
    σ.Stays l own V W (s.journal typ leaf rep body) := by
  unfold State.journal
  split
  · exact h.parts
  · extract_lets s1 _ s2 s3
    have h1 : σ.Stays l own V W s1 := .ite h.flag h
    have h2 : σ.Stays l own V W s2 := h1.parts
    have h3 : σ.Stays l own V W s3 := h2.bump
    exact .ite h3.raise h3

theorem State.Stays.raiseInt {k p : Nat} (h : σ.Stays l own V W s) : σ.Stays l own V W (s.raiseInt k p) := by
  obtain ⟨g, hg, -⟩ := s.raiseInt_eq k p
  rw [hg]
  exact h.parts

theorem State.Stays.occurs {src t : Nat} {ok : Nat → Bool} (h : σ.Stays l own V W s) : σ.Stays l own V W (s.occurs src t ok) :=
  h.foldl fun _ _ h => h.parts

theorem State.Stays.flagUnderrun {t : Nat} (h : σ.Stays l own V W s) (hV : ∀ x p, V (Leaf.setPub x (tickOf t) p) = V x := by intros; rfl) :
    σ.Stays l own V W (s.flagUnderrun l t) := h.setLeaf (hV _ _)

theorem State.Stays.askExport {e : Export} (h : σ.Stays l own V W s) : σ.Stays l own V W (s.askExport e) := by
  unfold State.askExport
  exact .ite h.bump (.ite h.parts (State.Stays.parts h).bump)

/-! ### Replays: what differs is noted, and ends with the run -/

theorem State.Stays.checkFlow {k : Nat} {same : Bool} (h : σ.Stays l own V W s) : σ.Stays l own V W (s.checkFlow k same) :=
  .ite (.ite h (h.parts.wrs.journal.raise)) h

theorem State.Stays.endReplay {u : Nat} (h : σ.Stays l own V W s) : σ.Stays l own V W (s.endReplay u) := .ite h.parts.wr h

end

end Sys2Proof.Machine
end

section
/-! PROOFS. Writes of the strand table (R62, R63, R402). -/

namespace Sys2Proof.Machine

set_option Elab.async false

section
variable {s t : State}

/-! ### A request that the module serves -/

theorem State.request_congr {h : Hdr} {addr : Nat} {q : Req} {f g : State → State × Ans} (hs : s.serves h addr q) (hfg : f s = g s) :
    s.request h addr q f = s.request h addr q g := by
  rw [State.request_serves _ _ _ _ _ hs, State.request_serves _ _ _ _ _ hs, State.execute, State.execute, hfg]

theorem State.request_accepted {h : Hdr} {addr : Nat} {q : Req} {f : State → State × Ans} {s1 : State} (hs : s.serves h addr q)
    (hf : f s = (s1, .ok)) : s.request h addr q f = { s1 with hot := s.hot }.respond h .ok := by
  rw [State.request_serves _ _ _ _ _ hs, State.execute_ok _ _ _ _ _ _ hf fun _ _ => Ans.noConfusion]

/-- R404, R408: a refusal is answered and recorded, which changes no cell but those of the record. -/
theorem State.request_rejected {h : Hdr} {addr : Nat} {q : Req} {f : State → State × Ans} {s1 : State} {r d : Nat} (hs : s.serves h addr q)
    (hf : f s = (s1, .rejected r d)) (ht : t = s.request h addr q f) :
    t.told h (.rejected r d) ∧ s1.keepsCells rejectKeys t ∧ s1.keepsMem t ∧ t.units = s1.units ∧ t.leaves = s1.leaves := by
  rw [State.request_serves _ _ _ _ _ hs, State.execute_rejected _ _ _ _ _ _ _ hf] at ht
  subst ht
  have hc := s1.recordReject_keepsCells addr h.src.val r d
  obtain ⟨_, _, _, e⟩ := s1.recordReject_onlyEvt addr h.src.val r d
  rw [e] at hc ⊢
  exact ⟨State.respond_told _ _ _, hc, State.keepsMem_of_eq rfl rfl rfl, rfl, rfl⟩

theorem State.keepsBytes_trans {u : State} (h : s.keepsBytes t) (h' : t.keepsBytes u) : s.keepsBytes u :=
  ⟨fun a => (h'.1 a).trans (h.1 a), fun a => (h'.2 a).trans (h.2 a)⟩

/-! ### The whole of one descriptor written -/

theorem idsOf_descriptor (id : Nat) : idsOf (id * 32) 32 = [id] := by
  have h0 : id * 32 < id * 32 + 32 := by omega
  have h1 : ¬(1 + id) * 32 < id * 32 + 32 := by omega
  have h2 : ¬(2 + id) * 32 < id * 32 + 32 := by omega
  simp [idsOf, List.range_succ, h0, h1, h2]

/-- R63: the 32 bytes of a descriptor write its byte 31. -/
theorem bytesFor_submits {id : Nat} {data : List Byte} (hlen : data.length = 32) :
    (bytesFor (id * 32) id data).any (fun e => e.1 == 31) = true := by
  have hmem : (31, data[31]) ∈ (List.range data.length).zip data := by
    rw [List.mem_iff_getElem]
    exact ⟨31, by simp [hlen], by simp⟩
  refine List.any_eq_true.2 ⟨(31, data[31]), List.mem_filterMap.2 ⟨_, hmem, ?_⟩, rfl⟩
  rw [if_pos (by omega), show (id * 32 + 31) % 32 = 31 by omega]

/-- The staged bytes of a descriptor dropped. -/
def State.unstaged (s : State) (id : Nat) : State :=
  { s with strands := { s.strands with staged := Table.erase s.strands.staged id } }

/-- R63: the 32 bytes of one descriptor are judged as the descriptor they submit. -/
theorem strWrite_descriptor {addr id d : Nat} {data : List Byte} (haddr : addr - strBase = id * 32) (hlen : data.length = 32)
    (hd : d = submitDesc (s.desc id) ((Table.get? s.strands.staged id).getD []) (bytesFor (id * 32) id data)) :
    strWrite addr data s =
      match s.descRefused id d with
      | none => ((s.applyDesc id d, .ok), addr)
      | some r => ((s.unstaged id, .rejected r 0), addr) := by
  unfold strWrite
  extract_lets off ids bytes old submits new staged _ staging
  have hids : ids = [id] := by rw [← idsOf_descriptor id, ← haddr, ← hlen]
  have hsubmits : submits = [id] := by
    have hbytes : (bytes id).any (fun e => e.1 == 31) = true := by rw [← bytesFor_submits (id := id) hlen, ← haddr]
    rw [show submits = ids.filter fun id => (bytes id).any fun e => e.1 == 31 from rfl, hids, List.filter_cons, if_pos hbytes, List.filter_nil]
  have hnew : new id = d := by rw [hd, ← haddr]
  have hstaging : staging = s := by simp [staging, hids, hsubmits]
  rw [hstaging, show staged = submits.foldl (fun t id => Table.erase t id) s.strands.staged from rfl, hsubmits]
  cases hr : s.descRefused id d with
  | none =>
    rw [List.find?_cons_of_neg (by simp [hnew, hr]), List.find?_nil]
    simp [hnew]
  | some r =>
    rw [List.find?_cons_of_pos (by simp [hnew, hr])]
    simp [hnew, hr, State.unstaged]; rfl

theorem dRes_dPlanned_zero (d home replica : Nat) (valid : Bool) : dRes (dPlanned d 0 home replica valid) = 0 := by
  simp only [dRes, dPlanned, bits, pack]
  omega

/-- R63, R311: what follows a changed descriptor: its staged bytes dropped, the plan that holds the strand stale. -/
def State.descChanged (s : State) (id : Nat) : State :=
  let s1 := s.unstaged id
  let s2 := match s1.pl.next with
    | some n => { s1 with pl := { s1.pl with next := some { n with stale := n.stale || n.runset.any (fun e => e.strand == id) } } }
    | none => s1
  if s2.pl.cur.runset.any (fun e => e.strand == id) then s2.flag F.PL_STATUS_REPLAN 0 else s2

theorem State.applyDesc_eq (s : State) (id d : Nat) :
    s.applyDesc id d = (s.setDesc id (dPlanned d 0 (dHome d) (dReplica d) (dRepValid d))).descChanged id := rfl

theorem State.descChanged_spec (s : State) (id : Nat) :
    (∀ k, (s.descChanged id).desc k = s.desc k) ∧ s.keepsBytes (s.descChanged id) ∧
      s.keepsCells [F.PL_STATUS_REPLAN.key] (s.descChanged id) := by
  unfold State.descChanged
  extract_lets s1 _ s2
  have h2 : (∀ k, s2.desc k = s.desc k) ∧ s.keepsBytes s2 ∧ s2.regs = s.regs := by
    unfold s2
    split
    · exact ⟨fun _ => rfl, State.keepsBytes_of_eq rfl rfl, rfl⟩
    · exact ⟨fun _ => rfl, State.keepsBytes_of_eq rfl rfl, rfl⟩
  obtain ⟨hdesc, hbytes, hregs⟩ := h2
  have hcells : s.keepsCells [] s2 := fun g j _ _ => by rw [State.rd, State.rd, hregs]
  split
  · exact ⟨hdesc, hbytes, State.keepsCells_trans hcells (s2.flag_keepsCells _ 0 (by decide))⟩
  · exact ⟨hdesc, hbytes, State.keepsCells_mono hcells (List.nil_subset _)⟩

theorem State.setDesc_keeps (s : State) (id d : Nat) : s.keepsBytes (s.setDesc id d) ∧ s.keepsCells [] (s.setDesc id d) :=
  ⟨State.keepsBytes_of_eq rfl rfl, fun _ _ _ _ => rfl⟩

/-- R63, R311: what a submitted descriptor changes. -/
theorem State.applyDesc_spec (s : State) (id d : Nat) :
    (s.applyDesc id d).desc id = dPlanned d 0 (dHome d) (dReplica d) (dRepValid d) ∧
      (∀ k, k ≠ id → (s.applyDesc id d).desc k = s.desc k) ∧ s.keepsBytes (s.applyDesc id d) ∧
      s.keepsCells [F.PL_STATUS_REPLAN.key] (s.applyDesc id d) := by
  rw [State.applyDesc_eq]
  obtain ⟨hdesc, hbytes, hcells⟩ := (s.setDesc id (dPlanned d 0 (dHome d) (dReplica d) (dRepValid d))).descChanged_spec id
  obtain ⟨hbytes1, hcells1⟩ := s.setDesc_keeps id (dPlanned d 0 (dHome d) (dReplica d) (dRepValid d))
  exact ⟨(hdesc id).trans (s.desc_setDesc_self id _), fun k hk => (hdesc k).trans (s.desc_setDesc_ne id k _ hk),
    State.keepsBytes_trans hbytes1 hbytes, State.keepsCells_trans hcells1 hcells⟩

/-! ### The commands -/

section
variable {h : Hdr} {id : Fin 65536} {data : List Byte} (hlen : data.length = 32)
include hlen

theorem not_crosses_descriptor : crosses (strBase + id.val * 32) data.length = false := by
  simp only [crosses, strBase, hlen, decide_eq_false_iff_not]
  omega

theorem strWrite_descriptor_addr : (strWrite (strBase + id.val * 32) data s).2 = strBase + id.val * 32 := by
  rw [strWrite_descriptor (Nat.add_sub_cancel_left ..) hlen rfl]
  split <;> rfl

theorem exec_strandDescriptorWrite_descriptor (hs : s.serves h (strBase + id.val * 32) (.writeb data)) :
    exec (.strandDescriptorWrite h (BitVec.ofNat 40 (strBase + id.val * 32)) data) s =
      .next (s.request h (strBase + id.val * 32) (.writeb data) fun s => (strWrite (strBase + id.val * 32) data s).1) := by
  have ha : (BitVec.ofNat 40 (strBase + id.val * 32)).toNat = strBase + id.val * 32 := by
    rw [BitVec.toNat_ofNat, Nat.mod_eq_of_lt (by unfold strBase; omega)]
  have hbad : (!(decide (strBase ≤ strBase + id.val * 32) && decide (strBase + id.val * 32 + data.length ≤ 0x600000)) || data.isEmpty) = false := by
    have hin : strBase + id.val * 32 + data.length ≤ 0x600000 := by unfold strBase; omega
    have hne : data ≠ [] := by rintro rfl; simp at hlen
    simp [hin, hne]
  have he : exec (.strandDescriptorWrite h (BitVec.ofNat 40 (strBase + id.val * 32)) data) s =
      execStrandDescriptorWrite h (BitVec.ofNat 40 (strBase + id.val * 32)) data s := rfl
  rw [he, execStrandDescriptorWrite, ha, hbad, not_crosses_descriptor hlen]
  simp only [Bool.false_or, Bool.false_eq_true, if_false, strWrite_descriptor_addr hlen]

theorem exec_writeb_descriptor (hs : s.serves h (strBase + id.val * 32) (.writeb data)) :
    exec (.writeb h (BitVec.ofNat 40 (strBase + id.val * 32)) data) s =
      .next (s.request h (strBase + id.val * 32) (.writeb data) fun s => (strWrite (strBase + id.val * 32) data s).1) := by
  have ha : (BitVec.ofNat 40 (strBase + id.val * 32)).toNat = strBase + id.val * 32 := by
    rw [BitVec.toNat_ofNat, Nat.mod_eq_of_lt (by unfold strBase; omega)]
  have hsome : (data.isEmpty || decide (256 < data.length)) = false := by
    have hne : data ≠ [] := by rintro rfl; simp at hlen
    simp [hlen, hne]
  have hstr : inStr (strBase + id.val * 32) = true := by
    unfold inStr strBase
    simp
    omega
  have hin : decide (strBase + id.val * 32 + data.length ≤ 0x600000) = true := by
    simp only [strBase, hlen, decide_eq_true_eq]
    omega
  have habsent : s.absentAt (strBase + id.val * 32) = false := by
    rw [State.absentAt, winUnit, if_neg (by unfold strBase; omega), if_neg (by unfold strBase; omega)]
  have herr : s.errAddr (strBase + id.val * 32) data = strBase + id.val * 32 := by
    rw [State.errAddr, hstr, hin, not_crosses_descriptor hlen, strWrite_descriptor_addr hlen]
    simp
  have he : exec (.writeb h (BitVec.ofNat 40 (strBase + id.val * 32)) data) s =
      .next (s.doWriteB h (BitVec.ofNat 40 (strBase + id.val * 32)).toNat data) := rfl
  rw [he, ha, State.doWriteB, hsome, if_neg Bool.false_ne_true, herr]
  refine congrArg _ (State.request_congr hs ?_)
  rw [hostWriteB, habsent, not_crosses_descriptor hlen, hstr]
  simp

end

end

/-- Settles O33: both commands are the same request, whose answer is that of the descriptor submitted. -/
theorem descriptorWrite : Obligations.DescriptorWrite := by
  intro s h id data d hlen hd hs
  have hwrite := strWrite_descriptor (Nat.add_sub_cancel_left ..) hlen hd
  have hs' : s.serves h (strBase + id.val * 32) (.writeb data) := hs
  refine ⟨_, exec_strandDescriptorWrite_descriptor hlen hs', exec_writeb_descriptor hlen hs', ?_⟩
  cases hr : s.descRefused id.val d with
  | none =>
    obtain ⟨hself, hne, hbytes, hcells⟩ := s.applyDesc_spec id.val d
    rw [State.request_accepted hs' (s1 := s.applyDesc id.val d) (by rw [hwrite, hr])]
    exact ⟨hbytes, fun _ => ⟨State.respond_told _ _ _, hself, (congrArg dRes hself).trans (dRes_dPlanned_zero _ _ _ _), hne, hcells⟩,
      fun r e => absurd e (by simp)⟩
  | some r =>
    obtain ⟨htold, hcells, ⟨⟨hdram, hsram⟩, hdesc⟩, -, -⟩ :=
      State.request_rejected hs' (f := fun s => (strWrite (strBase + id.val * 32) data s).1) (s1 := s.unstaged id.val) (r := r) (d := 0)
        (by rw [hwrite, hr]) rfl
    refine ⟨⟨hdram, hsram⟩, fun e => absurd e (by simp), fun r' e => ?_⟩
    cases e
    exact ⟨htold, hdesc, hcells⟩

end Sys2Proof.Machine
end

section
/-! PROOFS. An operation done in one leaf after the other, and ABORT, JUMP and CLEAR of a unit with the host jump that latches (R71, R72,
R90, R94, R96). -/

namespace Sys2Proof.Machine

set_option Elab.async false

/-! ### One leaf after the other -/

theorem State.leavesOf_nodup (s : State) (u : Nat) : (s.leavesOf u).Nodup := by
  have hsort (l : List Nat) : (sortLeaves l).Nodup := List.nodup_range.filter _
  unfold State.leavesOf
  split
  · exact List.nodup_nil
  · split
    · split
      · exact hsort _
      · exact List.nodup_nil
    · exact hsort _

/-- What an operation makes of each leaf in its turn, from what holds of it before, where the turns of the others keep both. -/
theorem foldl_each {α : Type} {op : α → Nat → α} {before after : α → Nat → Prop} {ls : List Nat} {s : α} (hn : ls.Nodup)
    (hop : ∀ t l, before t l → after (op t l) l) (hb : ∀ t k l, l ≠ k → before t l → before (op t k) l)
    (ha : ∀ t k l, l ≠ k → after t l → after (op t k) l) (h : ∀ l ∈ ls, before s l) : ∀ l ∈ ls, after (ls.foldl op s) l := by
  induction ls generalizing s with
  | nil => exact fun l hl => absurd hl List.not_mem_nil
  | cons k ls ih =>
    obtain ⟨hk, hn⟩ := List.nodup_cons.1 hn
    obtain ⟨h0, h⟩ := List.forall_mem_cons.1 h
    have hrest : ∀ l ∈ ls, before (op s k) l := fun l hl => hb s k l (fun e => hk (e ▸ hl)) (h l hl)
    have hkept : after (ls.foldl op (op s k)) k :=
      List.foldlRecOn ls op (motive := fun t => after t k) (hop s k h0) fun t ht l hl => ha t l k (fun e => hk (e ▸ hl)) ht
    exact List.forall_mem_cons.2 ⟨hkept, ih hn hrest⟩

section
variable {s t : State}

/-! ### ABORT -/

theorem State.askAbort_leaf (s : State) (l : Nat) (a : AbortReq) :
    (s.askAbort l a).leaf l = { s.leaf l with aborts := (s.leaf l).aborts ++ [a] } := State.leaf_setLeaf_self _ _ _

theorem State.askAbort_leaf_ne (s : State) (l : Nat) (a : AbortReq) {k : Nat} (hk : k ≠ l) : (s.askAbort l a).leaf k = s.leaf k :=
  State.leaf_setLeaf_ne _ _ _ _ hk

/-- R90, R96: the abort that the host asks of a leaf. -/
def State.hostAbort (s : State) (l : Nat) : AbortReq :=
  { notBefore := tickAt s.nextBoundary, cause := 0x01, srcUnit := l, srcModule := s.module, srcCause := 0x01 }

/-- The state with the leaves of the list asked to abort. -/
def State.hostAborts (s : State) (ls : List Nat) : State := ls.foldl (fun t l => t.askAbort l (s.hostAbort l)) s

theorem State.hostAborts_keeps (s : State) (ls : List Nat) : s.keepsCells [] (s.hostAborts ls) ∧ s.keepsMem (s.hostAborts ls) :=
  List.foldlRecOn ls _ (motive := fun t : State => s.keepsCells [] t ∧ s.keepsMem t) ⟨s.keepsCells_refl _, s.keepsMem_refl⟩
    fun _ ⟨hc, hm⟩ _ _ => ⟨hc, State.keepsMem_trans hm (State.keepsMem_of_eq rfl rfl rfl)⟩

theorem State.hostAborts_leaf {ls : List Nat} (hn : ls.Nodup) {l : Nat} (hl : l ∈ ls) :
    ((s.hostAborts ls).leaf l).aborts = (s.leaf l).aborts ++ [s.hostAbort l] :=
  foldl_each (before := fun (t : State) l => t.leaf l = s.leaf l) (after := fun (t : State) l => (t.leaf l).aborts = (s.leaf l).aborts ++ [s.hostAbort l]) hn
    (fun t l h => by rw [t.askAbort_leaf, h]) (fun t k l hk h => (t.askAbort_leaf_ne k _ hk).trans h)
    (fun t k l hk h => (congrArg Leaf.aborts (t.askAbort_leaf_ne k _ hk)).trans h) (fun _ _ => rfl) l hl

theorem State.hostAborts_leaf_not {ls : List Nat} {l : Nat} (hl : l ∉ ls) : (s.hostAborts ls).leaf l = s.leaf l :=
  List.foldlRecOn ls _ (motive := fun t : State => t.leaf l = s.leaf l) rfl fun t ht k hk =>
    (t.askAbort_leaf_ne k _ fun e : l = k => hl (e ▸ hk)).trans ht

/-- The module that asks is that of each state on the way. -/
theorem State.hostAborts_module (s : State) (ls : List Nat) (t : State) (hm : t.module = s.module) :
    ls.foldl (fun (t : State) l =>
        t.askAbort l { notBefore := tickAt s.nextBoundary, cause := 0x01, srcUnit := l, srcModule := t.module, srcCause := 0x01 }) t =
      ls.foldl (fun t l => t.askAbort l (s.hostAbort l)) t := by
  induction ls generalizing t with
  | nil => rfl
  | cons k ls ih =>
    rw [List.foldl_cons, List.foldl_cons, hm]
    exact ih _ hm

theorem unitAbort_alone {u : Nat} (hex : s.unitExists u = true) (hmem : s.isMember u = false) :
    unitAbort u s = (s.hostAborts ((s.leavesOf u).filter fun l => (s.leaf l).phase != .off), .ok) := by
  rw [unitAbort, hex, hmem, if_neg (by decide), if_neg (by decide)]
  exact congrArg (·, Ans.ok) (s.hostAborts_module _ s rfl)

/-! ### JUMP -/

theorem unitJump_alone {u n : Nat} (hex : s.unitExists u = true) (hmem : s.isMember u = false)
    (hrun : s.unitState u = 1 ∨ s.startPending u = true) (hrep : ¬(s.jn.replay.active = true ∧ s.jn.replay.unit = u))
    (hn : (s.rd F.UNIT_JUMP_TICK_JUMP_TICK u = 0 ∧ n = s.tick + 4) ∨ (s.rd F.UNIT_JUMP_TICK_JUMP_TICK u = n ∧ s.tick + 4 ≤ n)) :
    unitJump u s = (s.setUnit u { s.unit u with hostJump := some (s.rd F.UNIT_JUMP_TARGET u, n) }, .ok) := by
  have htick : (if s.rd F.UNIT_JUMP_TICK_JUMP_TICK u = 0 then s.tick + 4 else s.rd F.UNIT_JUMP_TICK_JUMP_TICK u) = n := by
    split <;> omega
  have hsoon : ¬(s.rd F.UNIT_JUMP_TICK_JUMP_TICK u ≠ 0 ∧ s.rd F.UNIT_JUMP_TICK_JUMP_TICK u < s.tick + 4 ∧ s.fromAnchor u = false) := by
    omega
  rw [unitJump, htick, hex, hmem, if_neg (by decide), if_neg (by decide), if_neg (not_not.2 hrun), if_neg hrep, if_neg hsoon]

/-! ### CLEAR -/

/-- The state with the leaves of the list read IDLE. -/
def State.cleared (s : State) (ls : List Nat) : State := ls.foldl (fun s l => s.wr F.UNIT_STATUS_STATE l 0) s

theorem State.cleared_keeps (s : State) (ls : List Nat) : s.keepsCells [F.UNIT_STATUS_STATE.key] (s.cleared ls) ∧ s.keepsMem (s.cleared ls) :=
  List.foldlRecOn ls _ (motive := fun t : State => s.keepsCells [F.UNIT_STATUS_STATE.key] t ∧ s.keepsMem t)
    ⟨s.keepsCells_refl _, s.keepsMem_refl⟩ fun t ⟨hc, hm⟩ l _ =>
    ⟨fun g j hg hk => (t.wr_keepsCells _ l 0 (by decide) g j hg hk).trans (hc g j hg hk),
      State.keepsMem_trans hm (State.keepsMem_of_eq rfl rfl rfl)⟩

theorem State.cleared_state {ls : List Nat} (hn : ls.Nodup) {l : Nat} (hl : l ∈ ls) : (s.cleared ls).rd F.UNIT_STATUS_STATE l = 0 :=
  foldl_each (before := fun (_ : State) _ => True) (after := fun (t : State) l => t.rd F.UNIT_STATUS_STATE l = 0) hn (fun t l _ => t.rd_wr_self _ l 0)
    (fun _ _ _ _ h => h)
    (fun t k l hk h => (t.rd_wr_ne _ _ k l 0 fun e => hk (cellNo_inj (by decide) (by decide) e).2).trans h) (fun _ _ => trivial) l hl

theorem unitClear_alone {u : Nat} (hex : s.unitExists u = true) (hmem : s.isMember u = false) (hend : s.unitState u = 2 ∨ s.unitState u = 3) :
    unitClear u s = (s.cleared (s.leavesOf u), .ok) := by
  rw [unitClear, hex, hmem, if_neg (by decide), if_neg (by decide), if_pos hend]
  rfl

end

/-- Settles O22: each of the three is a request accepted, whose effect on a unit outside any group is said above. -/
theorem abortJumpClear : Obligations.AbortJumpClear := by
  intro s h u hex hmem
  refine ⟨fun hs => ?_, fun hs hrun hrep n hn => ?_, fun hs hend => ?_⟩
  · obtain ⟨hcells, hkept⟩ := s.hostAborts_keeps ((s.leavesOf u.val).filter fun l => (s.leaf l).phase != .off)
    have hin (l : Nat) (hl : l ∈ s.leavesOf u.val) (hp : (s.leaf l).phase ≠ .off) :
        l ∈ (s.leavesOf u.val).filter fun l => (s.leaf l).phase != .off := List.mem_filter.2 ⟨hl, by simpa using hp⟩
    have hout (l : Nat) (hl : l ∉ s.leavesOf u.val ∨ (s.leaf l).phase = .off) :
        l ∉ (s.leavesOf u.val).filter fun l => (s.leaf l).phase != .off := by
      simp only [List.mem_filter, bne_iff_ne]
      tauto
    refine ⟨_, congrArg Host.Outcome.next (State.request_accepted hs (unitAbort_alone hex hmem)), State.respond_told _ _ _,
      fun l hl hp => ⟨s.hostAbort l, ?_, rfl, rfl, rfl, rfl⟩, fun l hl => ?_, hcells, hkept⟩
    · exact State.hostAborts_leaf ((s.leavesOf_nodup _).filter _) (hin l hl hp)
    · exact State.hostAborts_leaf_not (hout l hl)
  · exact ⟨_, congrArg Host.Outcome.next (State.request_accepted hs (unitJump_alone hex hmem hrun hrep hn)), State.respond_told _ _ _,
      congrArg UnitSt.hostJump (s.unit_setUnit_self u.val _), rfl, fun _ _ _ _ => rfl, State.keepsMem_of_eq rfl rfl rfl⟩
  · obtain ⟨hcells, hkept⟩ := s.cleared_keeps (s.leavesOf u.val)
    exact ⟨_, congrArg Host.Outcome.next (State.request_accepted hs (unitClear_alone hex hmem hend)), State.respond_told _ _ _,
      fun l hl => State.cleared_state (s.leavesOf_nodup _) hl, hcells, hkept⟩

section
variable {s t u : State} {l : Nat}

/-! ### The host jump that latches -/

/-- Nothing but the leaf l, its bead cache and its engine is in t other than in s. -/
def State.onlyLeaf (s : State) (l : Nat) (t : State) : Prop :=
  (∃ (ls : Table Leaf) (cs : Table Cache) (gs : Table Engine), t = { s with leaves := ls, caches := cs, engines := gs }) ∧
    ∀ k, k ≠ l → t.leaf k = s.leaf k ∧ t.eng k = s.eng k

theorem State.onlyLeaf_refl (s : State) (l : Nat) : s.onlyLeaf l s := ⟨⟨_, _, _, rfl⟩, fun _ _ => ⟨rfl, rfl⟩⟩

theorem State.onlyLeaf_trans (h : s.onlyLeaf l t) (h' : t.onlyLeaf l u) : s.onlyLeaf l u := by
  obtain ⟨⟨_, _, _, ht⟩, hk⟩ := h
  obtain ⟨⟨ls, cs, gs, hu⟩, hk'⟩ := h'
  refine ⟨⟨ls, cs, gs, by rw [hu, ht]⟩, fun k hne => ?_⟩
  obtain ⟨hl, hg⟩ := hk k hne
  obtain ⟨hl', hg'⟩ := hk' k hne
  exact ⟨hl'.trans hl, hg'.trans hg⟩

theorem State.setLeaf_onlyLeaf (s : State) (l : Nat) (x : Leaf) : s.onlyLeaf l (s.setLeaf l x) :=
  ⟨⟨_, _, _, rfl⟩, fun _ hk => ⟨State.leaf_setLeaf_ne _ _ _ _ hk, rfl⟩⟩

theorem State.setEng_onlyLeaf (s : State) (l : Nat) (g : Engine) : s.onlyLeaf l (s.setEng l g) :=
  ⟨⟨_, _, _, rfl⟩, fun _ hk => ⟨rfl, State.eng_setEng_ne _ _ _ _ hk⟩⟩

theorem State.freeAhead_onlyLeaf (s : State) (l more : Nat) (cur : Option FetchCur) : s.onlyLeaf l (s.freeAhead l more cur) :=
  ⟨⟨_, _, _, rfl⟩, fun _ _ => ⟨rfl, rfl⟩⟩

theorem State.abandon_onlyLeaf (s : State) (l b : Nat) : s.onlyLeaf l (s.abandon l b) :=
  State.onlyLeaf_trans (s.setLeaf_onlyLeaf l _) (State.setEng_onlyLeaf _ l _)

theorem State.latchJump_onlyLeaf (s : State) (l cls target t : Nat) : s.onlyLeaf l (s.latchJump l cls target t) := by
  unfold State.latchJump
  extract_lets x b hold x1 s2
  have h2 : s.onlyLeaf l s2 := State.onlyLeaf_trans (s.setLeaf_onlyLeaf l x1) (State.abandon_onlyLeaf _ l b)
  split
  · split
    · exact State.onlyLeaf_trans h2 (s2.freeAhead_onlyLeaf _ _ _)
    · exact h2
  · exact s.onlyLeaf_refl l

theorem State.raiseInt_onlyLeaf (s : State) (l p : Nat) : s.onlyLeaf l (s.raiseInt l p) := by
  obtain ⟨g, hg, -⟩ := s.raiseInt_eq l p
  rw [hg]
  exact s.setEng_onlyLeaf l g

/-- R71, R72: a jump that latches stands behind those that have. -/
theorem State.latchJump_jumps (s : State) (l cls target t : Nat) (hp : (s.leaf l).phase = .play) (hr : (s.leaf l).raster = false) :
    ((s.latchJump l cls target t).leaf l).jumps = (s.leaf l).jumps ++ [{ cls := cls, target := target, at_ := t }] := by
  unfold State.latchJump
  extract_lets x b hold x1 s2
  obtain ⟨hjumps, -, -⟩ := (s.setLeaf l x1).abandon_spec l b
  rw [State.leaf_setLeaf_self] at hjumps
  rw [if_pos ⟨hp, hr⟩]
  split
  · exact hjumps
  · exact hjumps

theorem mem_insInt (q : List Nat) (p : Nat) : p ∈ insInt q p := by
  induction q with
  | nil => exact List.mem_singleton_self p
  | cons a q ih =>
    rw [insInt]
    split
    · exact List.mem_cons_self
    · exact List.mem_cons_of_mem a ih

/-- R115: an interrupt that is not taken at once is pending, behind a handler that runs. -/
theorem State.raiseInt_pending (s : State) (l p : Nat) (hp : intDiscards p = false) :
    p ∈ ((s.raiseInt l p).eng l).ints ++ ((s.raiseInt l p).eng l).later := by
  unfold State.raiseInt
  rw [if_neg (by rw [hp]; exact Bool.false_ne_true)]
  split
  · rw [State.eng_setEng_self]
    exact List.mem_append_right _ (mem_insInt _ p)
  · rw [State.eng_setEng_self]
    exact List.mem_append_left _ (mem_insInt _ p)

/-- R71: the host jump to a target for tick n latched in the leaf, and its interrupt. -/
def State.latchHost (target n : Nat) (s : State) (l : Nat) : State := (s.latchJump l 0 target (tickAt n)).raiseInt l 3

/-- The leaf has the host jump latched and its interrupt pending. -/
def State.hasHost (target n : Nat) (s : State) (l : Nat) : Prop :=
  (∃ j ∈ (s.leaf l).jumps, j.cls = 0 ∧ j.target = target ∧ j.at_ = tickAt n) ∧ 3 ∈ (s.eng l).ints ++ (s.eng l).later

theorem State.latchHost_onlyLeaf (target n : Nat) (s : State) (l : Nat) : s.onlyLeaf l (s.latchHost target n l) :=
  State.onlyLeaf_trans (s.latchJump_onlyLeaf l 0 target (tickAt n)) (State.raiseInt_onlyLeaf _ l 3)

theorem State.latchHost_hasHost {target n : Nat} (hp : (s.leaf l).phase = .play) (hr : (s.leaf l).raster = false) :
    (s.latchHost target n l).hasHost target n l := by
  refine ⟨⟨⟨0, target, tickAt n⟩, ?_, rfl, rfl, rfl⟩, State.raiseInt_pending _ l 3 (by decide)⟩
  obtain ⟨g, hg, -⟩ := (s.latchJump l 0 target (tickAt n)).raiseInt_eq l 3
  have hleaf : (s.latchHost target n l).leaf l = (s.latchJump l 0 target (tickAt n)).leaf l := by rw [State.latchHost, hg]; rfl
  rw [hleaf, s.latchJump_jumps l 0 target _ hp hr]
  exact List.mem_append_right _ (List.mem_singleton_self _)

theorem State.hasHost_of_onlyLeaf {target n k : Nat} (h : s.onlyLeaf k t) (hk : l ≠ k) (hh : s.hasHost target n l) : t.hasHost target n l := by
  obtain ⟨hl, hg⟩ := h.2 l hk
  rwa [State.hasHost, hl, hg]

/-- The host jump latched in each leaf of a list. -/
theorem State.latchHosts_spec {target n : Nat} {ls : List Nat} (hn : ls.Nodup) (hp : ∀ l ∈ ls, (s.leaf l).phase = .play) :
    (∃ (xs : Table Leaf) (cs : Table Cache) (gs : Table Engine),
      ls.foldl (State.latchHost target n) s = { s with leaves := xs, caches := cs, engines := gs }) ∧
    (∀ l, l ∉ ls → (ls.foldl (State.latchHost target n) s).leaf l = s.leaf l) ∧
    ∀ l ∈ ls, (s.leaf l).raster = false → (ls.foldl (State.latchHost target n) s).hasHost target n l := by
  refine ⟨?_, fun l hl => ?_, ?_⟩
  · refine List.foldlRecOn ls _ (motive := fun t : State => ∃ (xs : Table Leaf) (cs : Table Cache) (gs : Table Engine), t =
      { s with leaves := xs, caches := cs, engines := gs }) ⟨_, _, _, rfl⟩ fun t ⟨_, _, _, ht⟩ l _ => ?_
    obtain ⟨xs, cs, gs, hl⟩ := (t.latchHost_onlyLeaf target n l).1
    exact ⟨xs, cs, gs, by rw [hl, ht]⟩
  · exact List.foldlRecOn ls _ (motive := fun t : State => t.leaf l = s.leaf l) rfl fun t ht k hk =>
      ((t.latchHost_onlyLeaf target n k).2 l fun e => hl (e ▸ hk)).1.trans ht
  · exact foldl_each (before := fun (t : State) l => (s.leaf l).phase = .play ∧ t.leaf l = s.leaf l)
      (after := fun (t : State) l => (s.leaf l).raster = false → t.hasHost target n l) hn
      (fun t l ⟨hpl, ht⟩ hr => State.latchHost_hasHost (ht ▸ hpl) (ht ▸ hr))
      (fun t k l hk ⟨hpl, ht⟩ => ⟨hpl, ((t.latchHost_onlyLeaf target n k).2 l hk).1.trans ht⟩)
      (fun t k l hk h hr => State.hasHost_of_onlyLeaf (t.latchHost_onlyLeaf target n k) hk (h hr)) fun l hl => ⟨hp l hl, rfl⟩

theorem hostJumpLatch_of_due {u target n : Nat} (hj : (s.unit u).hostJump = some (target, n)) (hn : n ≤ s.tick) :
    hostJumpLatch u s =
      ((s.leavesOf u).filter fun l => (s.leaf l).phase == .play).foldl (State.latchHost target n)
        (s.setUnit u { s.unit u with hostJump := none }) := by
  rw [hostJumpLatch, hj]
  exact if_neg (Nat.not_lt.2 hn)

end

end Sys2Proof.Machine

namespace Sys2Proof.Settled

open Sys2Proof.Machine

set_option Elab.async false

/-- Settles O25: the host jump is let go and latches in each playing leaf in turn. -/
theorem hostJumpLatch : Obligations.HostJumpLatch := by
  intro s u target n hj hn
  let s1 := s.setUnit (uix u) { s.unit (uix u) with hostJump := none }
  obtain ⟨⟨xs, cs, gs, he⟩, hout, hin⟩ := State.latchHosts_spec (s := s1) (target := target) (n := n)
    (ls := (s.leavesOf (uix u)).filter fun l => (s.leaf l).phase == .play) ((s.leavesOf_nodup _).filter _)
    fun l hl => eq_of_beq (List.mem_filter.1 hl).2
  refine ⟨_, congrArg Host.Outcome.next (hostJumpLatch_of_due hj hn), ?_, fun l hl hp hr => ?_, fun l hl => ?_, fun _ _ _ _ => ?_, ?_⟩
  · rw [he]
    exact congrArg UnitSt.hostJump (s.unit_setUnit_self _ _)
  · exact hin l (List.mem_filter.2 ⟨hl, by simpa using hp⟩) hr
  · exact hout l fun hm => hl (List.mem_filter.1 hm).1
  · rw [he]; rfl
  · rw [he]; exact State.keepsMem_of_eq rfl rfl rfl

end Sys2Proof.Settled
end

section
/-! PROOFS. START of a local unit: accepted, or refused for a reason of R88 (R88, R89, R96, R261). -/

namespace Sys2Proof.Machine

set_option Elab.async false

section
variable {α β : Type} {σ s t : State} {l : Nat} {own : List Nat} {V : Leaf → α} {W : Leaf → β}

/-! ### What an accepted start does besides its leaves -/

/-- Where no leaf is looked at, any may change. -/
theorem State.Stays.setLeafAny {k : Nat} {x : Leaf} (h : σ.Stays l own (fun _ => ()) (fun _ => ()) s) :
    σ.Stays l own (fun _ => ()) (fun _ => ()) (s.setLeaf k x) := { h with leaf := Eq.refl _, others := fun _ _ => Eq.refl _ }

theorem State.Stays.parkPins {ls : List Nat} (h : σ.Stays l own (fun _ => ()) (fun _ => ()) s) :
    σ.Stays l own (fun _ => ()) (fun _ => ()) (s.parkPins ls) :=
  h.foldl fun t k h => State.Stays.setLeafAny (k := k) (x := { t.leaf k with drv := parkedDrv }) h

theorem State.Stays.calCancel {reason : Nat} (h : σ.Stays l own (fun _ => ()) (fun _ => ()) s) :
    σ.Stays l own (fun _ => ()) (fun _ => ()) (s.calCancel reason) := by
  unfold State.calCancel
  split
  · extract_lets _ s1
    have h1 : σ.Stays l own (fun _ => ()) (fun _ => ()) s1 := h.parts.wrs
    exact h1.parkPins
  · exact h

theorem State.Stays.takeReplay {u : Nat} (h : σ.Stays l own V W s) : σ.Stays l own V W (s.takeReplay u) := by
  unfold State.takeReplay
  extract_lets recs _
  split
  · exact h
  · exact h.parts.wrs

theorem State.Stays.dsaChange {p us : Nat} (h : σ.Stays l own V W s) : σ.Stays l own V W (s.dsaChange p us) := h.parts

theorem State.Stays.setPmu {p : Nat} {x : Pmu} (h : σ.Stays l own V W s) : σ.Stays l own V W (s.setPmu p x) := h.parts

theorem State.Stays.pmuSet {p : Nat} {y0 : Pmu} (h : σ.Stays l own V W s) : σ.Stays l own V W (s.pmuSet p y0) := by
  unfold State.pmuSet
  extract_lets x k y s1 s2
  have h1 : σ.Stays l own V W s1 := h.setPmu.wr
  have h2 : σ.Stays l own V W s2 := .ite h1.dsaChange h1
  exact .ite (.ite h2.dsaChange h2) h2.wr

theorem State.Stays.pmuOff {p : Nat} (h : σ.Stays l own V W s) : σ.Stays l own V W (s.pmuOff p) := .ite h.wr.pmuSet h.wr.setPmu

/-- R215: the PMUs of the unit's leaves are disconnected; no leaf changes. -/
theorem State.Stays.dcStart {ls : List Nat} (h : σ.Stays l own V W s) : σ.Stays l own V W (s.dcStart ls) :=
  h.foldl fun _ _ h => h.foldl fun _ _ h => .ite h.pmuOff h

/-! ### The leaves armed -/

theorem State.Stays.armLeaf {u n strand : Nat} {rep : Bool} {k : Nat} (h : σ.Stays l own (fun _ => ()) (fun _ => ()) s) :
    σ.Stays l own (fun _ => ()) (fun _ => ()) (s.armLeaf u n strand rep k) := by
  unfold State.armLeaf
  extract_lets x y v e c _ s0
  have h0 : σ.Stays l own (fun _ => ()) (fun _ => ()) s0 := h.parts
  exact h0.setLeafAny.parts.parts

/-- The leaf is armed for the tick n with the strand. -/
def State.armedFor (s : State) (l n strand : Nat) : Prop :=
  (s.leaf l).phase = .armed ∧ (s.leaf l).startTick = n ∧ (s.leaf l).strand = strand

theorem State.armLeaf_armedFor (s : State) (u n strand : Nat) (rep : Bool) (l : Nat) : (s.armLeaf u n strand rep l).armedFor l n strand := by
  have hleaf : ∃ x : Leaf, (s.armLeaf u n strand rep l).leaf l = x ∧ x.phase = .armed ∧ x.startTick = n ∧ x.strand = strand :=
    ⟨_, State.leaf_setLeaf_self _ _ _, rfl, rfl, rfl⟩
  obtain ⟨x, hx, hphase, htick, hstrand⟩ := hleaf
  rw [State.armedFor, hx]
  exact ⟨hphase, htick, hstrand⟩

theorem State.armLeaf_leaf_ne (s : State) (u n strand : Nat) (rep : Bool) {k l : Nat} (hk : l ≠ k) :
    (s.armLeaf u n strand rep k).leaf l = s.leaf l := State.leaf_setLeaf_ne _ _ _ _ hk

theorem State.armedFor_of_leaf {n strand : Nat} (hl : t.leaf l = s.leaf l) (h : s.armedFor l n strand) : t.armedFor l n strand := by
  rwa [State.armedFor, hl]

/-- R89: each leaf of a list armed. -/
theorem State.armLeaves_armedFor {u n strand : Nat} {rep : Bool} {ls : List Nat} (hn : ls.Nodup) {l : Nat} (hl : l ∈ ls) :
    (ls.foldl (fun s l => s.armLeaf u n strand rep l) s).armedFor l n strand :=
  foldl_each (before := fun (_ : State) _ => True) (after := fun (t : State) l => t.armedFor l n strand) hn
    (fun t l _ => t.armLeaf_armedFor u n strand rep l) (fun _ _ _ _ h => h)
    (fun t _ _ hk h => State.armedFor_of_leaf (t.armLeaf_leaf_ne u n strand rep hk) h) (fun _ _ => trivial) l hl

/-- R89: what an accepted start leaves. -/
theorem State.acceptStart_spec (s : State) (u : Nat) :
    ((s.acceptStart u).unit u).pending = some (s.rd F.UNIT_START_TICK_START_TICK u) ∧
      (∀ l ∈ s.leavesOf u, (s.acceptStart u).armedFor l (s.rd F.UNIT_START_TICK_START_TICK u) (s.rd F.UNIT_START_STRAND_STRAND u)) ∧
      s.keepsMem (s.acceptStart u) := by
  unfold State.acceptStart
  extract_lets n strand rep s0 s1 s2
  have h1 : s.Stays 0 [] (fun _ => ()) (fun _ => ()) s1 := by
    have h0 : s.Stays 0 [] (fun _ => ()) (fun _ => ()) s0 := State.Stays.rfl.calCancel
    exact .ite h0.takeReplay h0
  have hleaves : s2.leavesOf u = s.leavesOf u := State.leavesOf_of_image h1.image u
  let s3 := (s2.leavesOf u).foldl (fun s l => s.armLeaf u n strand rep l) s2
  have h3 : s2.Stays 0 [] (fun _ => ()) (fun _ => ()) (s3.dcStart (s2.leavesOf u)) :=
    State.Stays.dcStart (State.Stays.foldl State.Stays.rfl fun _ _ h => h.armLeaf)
  have hmem2 : s1.keepsMem s2 := State.keepsMem_of_eq rfl rfl rfl
  refine ⟨(h3.pending u).trans (congrArg UnitSt.pending (s1.unit_setUnit_self u _)), fun l hl => ?_,
    State.keepsMem_trans (State.keepsMem_trans h1.keepsMem hmem2) h3.keepsMem⟩
  have hdc : s3.Stays l [] (fun x => x) (fun _ => ()) (s3.dcStart (s2.leavesOf u)) := State.Stays.rfl.dcStart
  exact State.armedFor_of_leaf hdc.leaf (State.armLeaves_armedFor (s2.leavesOf_nodup u) (hleaves ▸ hl))

/-! ### The answer to a start that is no raster start -/

theorem startWrite_accepted {u : Nat} (hu : u < 256) (hras : s.rasterStarts u = false) (hex : s.unitExists u = true)
    (hr : s.startRefused u (s.startLanded u) rSTART_NOT_LANDED = none) : startWrite u s = (s.acceptStart u, .ok) := by
  have hlate : s.startsLate u = false := by simp [State.startsLate, State.fromAnchor, Nat.not_le.2 hu]
  simp [startWrite, hras, unitStart, hex, hr, hlate]

theorem startWrite_refused {u r : Nat} (hras : s.rasterStarts u = false) (hex : s.unitExists u = true)
    (hr : s.startRefused u (s.startLanded u) rSTART_NOT_LANDED = some r) : startWrite u s = (s, .rejected r 0) := by
  simp [startWrite, hras, unitStart, hex, hr]

theorem startWrite_notMounted {u : Nat} (hu : u < 256) (hras : s.rasterStarts u = false) (hex : s.unitExists u = false)
    (hm : s.mstate ≠ mMounted) : startWrite u s = (s, .rejected rNOT_MOUNTED 0) := by
  simp [startWrite, hras, unitStart, hex, State.startAbsent, hu, hm]

/-- R88: a start of a local unit that no condition above it refuses, and that is less than 4 ticks ahead. -/
theorem State.startRefused_of_soon {u code : Nat} {last : Bool} (hu : u < 256) (hm : s.mstate = mMounted) (hsafe : s.safeDue = false)
    (hmc : s.rd F.MC_STATUS_STATE 0 ≠ 1) (hmem : s.isMember u = false) (hrun : s.unitState u ≠ 1) (hpend : s.startPending u = false)
    (hoos : ∀ k ∈ s.leavesOf u, s.rd F.PL_LEAF_OOS k = 0) (hn : s.rd F.UNIT_START_TICK_START_TICK u < s.tick + 4) :
    s.startRefused u last code = some rSTART_TOO_SOON := by
  have hanchor : s.fromAnchor u = false := by simp [State.fromAnchor, Nat.not_le.2 hu]
  have hin : (s.leavesOf u).any (s.on F.PL_LEAF_OOS) = false := by
    rw [List.any_eq_false]
    exact fun k hk => by simp [State.on, hoos k hk]
  unfold State.startRefused
  simp [hm, hsafe, hmc, hmem, hrun, hpend, hin, hanchor, hn]

end

/-- Settles O19: the three answers to a start, each a request accepted or refused. -/
theorem startAccepted : Obligations.StartAccepted := by
  intro s h u hs hras
  have hu : u.val < 256 := u.isLt
  refine ⟨fun hex hr => ?_, fun r hex hr => ?_, fun hex hm => ?_⟩
  · obtain ⟨hpend, hleaves, hkept⟩ := s.acceptStart_spec u.val
    exact ⟨_, congrArg Host.Outcome.next (State.request_accepted hs (startWrite_accepted hu hras hex hr)), State.respond_told _ _ _, hpend,
      hleaves, hkept⟩
  · obtain ⟨htold, hcells, hkept, hunits, hls⟩ := State.request_rejected hs (startWrite_refused hras hex hr) rfl
    exact ⟨_, rfl, htold, hcells, hkept, hunits, hls⟩
  · obtain ⟨htold, hcells, hkept, hunits, hls⟩ := State.request_rejected hs (startWrite_notMounted hu hras hex hm) rfl
    exact ⟨_, rfl, htold, hcells, hkept, hunits, hls⟩

/-- Settles O20: the condition on the start tick is the first of R88 that such a start does not meet. -/
theorem startTooSoon : Obligations.StartTooSoon := by
  intro s h l hs hex hras hm hsafe hmc hmem hrun hpend hoos hn
  have hr := State.startRefused_of_soon (last := s.startLanded l.val) (code := rSTART_NOT_LANDED) (u := l.val) (by omega) hm hsafe hmc hmem hrun
    hpend hoos hn
  obtain ⟨htold, hcells, -, hunits, hls⟩ := State.request_rejected hs (startWrite_refused hras hex hr) rfl
  exact ⟨_, rfl, htold, hunits, hls, hcells⟩

end Sys2Proof.Machine
end

section
/-! PROOFS. The end of a run: DONE, or ABORTED where an abort takes effect (R70, R90 to R94, R97). -/

namespace Sys2Proof.Machine

set_option Elab.async false

/-- The leaf's own registers that the end of its run may change. -/
abbrev endKeys : List Nat :=
  [F.UNIT_STATUS_STATE.key, F.UNIT_STATUS_UNDERRUN.key, F.UNIT_STATUS_HOLDING.key, F.UNIT_STATUS_CAUSE.key, F.UNIT_HOLD_GAP_GAP.key,
   F.UNIT_ABORT_SRC_SRC_UNIT.key, F.UNIT_ABORT_SRC_SRC_MODULE.key, F.UNIT_ABORT_SRC_SRC_CAUSE.key]

/-- A leaf but for its results, its flags of the tick and its pins. -/
def Leaf.unpinned (x : Leaf) : Leaf := { x.body with drv := [] }

/-- Whether a leaf plays, and what its pins hold. -/
def Leaf.stood (x : Leaf) : Phase × Table PinDrv := (x.phase, x.drv)

section
variable {α β : Type} {σ s t : State} {l : Nat} {own : List Nat} {V : Leaf → α} {W : Leaf → β}

/-! ### Results and what is told of the end -/

theorem State.Stays.pushItem {n : Nat} {i : AcqItem} (h : σ.Stays l own V W s) : σ.Stays l own V W (s.pushItem n i) := h.parts

theorem State.Stays.feedHold {k start len : Nat} (h : σ.Stays l own V W s) : σ.Stays l own V W (s.feedHold k start len) :=
  h.foldl fun _ _ h => h.pushItem

theorem State.Stays.feedFail {k start word fails : Nat} (h : σ.Stays l own V W s) : σ.Stays l own V W (s.feedFail k start word fails) :=
  h.foldl fun _ _ h => h.pushItem

theorem State.Stays.formRecord {v : VRec} (h : σ.Stays l own Leaf.body W s) : σ.Stays l own Leaf.body W (s.formRecord l v) := by
  unfold State.formRecord
  split
  · extract_lets s' _ s1 _
    have h' : σ.Stays l own Leaf.body W s' := h.feedFail
    have h1 : σ.Stays l own Leaf.body W s1 := h'.bump
    exact .ite h'.parts h1.setLeaf.wr
  · exact h

theorem State.Stays.finishVec {v : VRec} (h : σ.Stays l own Leaf.body W s) : σ.Stays l own Leaf.body W (s.finishVec l v) :=
  .ite h (.ite h.setLeaf.formRecord (.ite h.setLeaf h.setLeaf))

theorem State.Stays.journalJump {k from_ : Nat} {j : Jump} {superseded : Bool} (h : σ.Stays l own V W s) :
    σ.Stays l own V W (s.journalJump k from_ j superseded) := h.journal

theorem State.Stays.journalEnd {k vindex state : Nat} (h : σ.Stays l own V W s) : σ.Stays l own V W (s.journalEnd k vindex state) := h.journal

theorem State.Stays.ffFollow {k t : Nat} (h : σ.Stays l own V W s) : σ.Stays l own V W (s.ffFollow k t) := by
  unfold State.ffFollow
  split
  · exact h.wr
  · exact h

theorem State.Stays.unitEnd {k : Nat} (h : σ.Stays l own V W s) : σ.Stays l own V W (s.unitEnd k) := .ite h h.setUnit.raise.endReplay

theorem State.Stays.tell {dst : Nat} {m : CluMsg} (h : σ.Stays l own V W s) : σ.Stays l own V W (s.tell dst m) := h.parts

theorem State.Stays.tellAbort {k : Nat} {a : AbortReq} (h : σ.Stays l own V W s) : σ.Stays l own V W (s.tellAbort k a) :=
  .ite (h.foldl fun _ _ h => h.tell) h

theorem State.Stays.stopEngine {k t : Nat} (h : σ.Stays l own V W s) : σ.Stays l own V W (s.stopEngine k t) := by
  unfold State.stopEngine
  extract_lets s1 v _
  have h1 : σ.Stays l own V W s1 := h.parts
  exact (State.Stays.parts h1).raiseInt

/-- Another leaf changes within the view. -/
theorem State.Stays.setOther {k : Nat} {x : Leaf} (h : σ.Stays l own V W s) (hk : k ≠ l) (hx : W x = W (s.leaf k) := by rfl) :
    σ.Stays l own V W (s.setLeaf k x) := by
  refine { h with leaf := Eq.trans (congrArg V (State.leaf_setLeaf_ne _ _ _ _ hk.symm)) h.leaf, others := fun j hj => Eq.trans ?_ (h.others j hj) }
  by_cases he : j = k
  · rw [he, State.leaf_setLeaf_self, hx]
  · rw [State.leaf_setLeaf_ne _ _ _ _ he]

theorem State.Stays.abortOthers {t : Nat} {a : AbortReq} (h : σ.Stays l own V Leaf.stood s) :
    σ.Stays l own V Leaf.stood (s.abortOthers l t a) := by
  unfold State.abortOthers
  extract_lets u
  refine List.foldlRecOn _ _ (motive := fun t : State => σ.Stays l own V Leaf.stood t) h fun t ht k hk => ?_
  have hne : k ≠ l := by simpa using (List.mem_filter.1 hk).2
  exact .ite (ht.setOther hne) ht

/-! ### The hold that ends with the run, and the bead missed -/

theorem State.Stays.closeHold {d : Hold} (h : σ.Stays l endKeys Leaf.body W s) : σ.Stays l endKeys Leaf.body W (s.closeHold l d) := by
  unfold State.closeHold
  extract_lets s1
  have h1 : σ.Stays l endKeys Leaf.body W s1 := h.wrsOwn.feedHold.flagUnderrun
  exact h1.journal

theorem State.Stays.missedToo (h : σ.Stays l endKeys Leaf.body W s) : σ.Stays l endKeys Leaf.body W (s.missedToo l) := by
  unfold State.missedToo
  extract_lets x le n
  split
  · split
    · exact .ite h.wrOwn.flagUnderrun h
    · exact h.wrOwn.flagUnderrun
    · exact h
  · exact h

theorem State.Stays.safePins {safe : Nat} (h : σ.Stays l own Leaf.unpinned W s) : σ.Stays l own Leaf.unpinned W (s.safePins l safe) := h.setLeaf

/-! ### The first abort of the run -/

theorem State.Stays.leavesOf (h : σ.Stays l own V W s) (u : Nat) : s.leavesOf u = σ.leavesOf u := State.leavesOf_of_image h.image u

/-- R96: the first abort of the run, where the unit, the start and the aborts of the leaf are the same. -/
theorem State.Stays.firstSrc (h : σ.Stays l own Leaf.body Leaf.body s) (a : AbortReq) : s.firstSrc l a = σ.firstSrc l a := by
  have hu : (s.leaf l).unit = (σ.leaf l).unit := (congrArg Leaf.unit h.leaf :)
  have ht : (s.leaf l).startTick = (σ.leaf l).startTick := (congrArg Leaf.startTick h.leaf :)
  have ha : (s.leaf l).aborts = (σ.leaf l).aborts := (congrArg Leaf.aborts h.leaf :)
  have hended : (fun m => m != l && s.rd F.UNIT_STATUS_STATE m == 3 && (s.leaf m).unit == (s.leaf l).unit && (s.leaf m).startTick == (s.leaf l).startTick) =
      fun m => m != l && σ.rd F.UNIT_STATUS_STATE m == 3 && (σ.leaf m).unit == (σ.leaf l).unit && (σ.leaf m).startTick == (σ.leaf l).startTick := by
    funext m
    by_cases hm : m = l
    · simp [hm]
    · have hum : (s.leaf m).unit = (σ.leaf m).unit := (congrArg Leaf.unit (h.others m hm) :)
      have htm : (s.leaf m).startTick = (σ.leaf m).startTick := (congrArg Leaf.startTick (h.others m hm) :)
      rw [h.cells F.UNIT_STATUS_STATE m (by decide) fun e => absurd e hm, hu, ht, hum, htm]
  unfold State.firstSrc
  dsimp only
  rw [hended, hu, ha, h.src, h.leavesOf]
  split
  · next m hf =>
    have hm : m ≠ l := fun e => by simpa [e] using List.find?_some hf
    rw [h.cells F.UNIT_ABORT_SRC_SRC_UNIT m (by decide) fun e => absurd e hm, h.cells F.UNIT_ABORT_SRC_SRC_MODULE m (by decide) fun e => absurd e hm,
      h.cells F.UNIT_ABORT_SRC_SRC_CAUSE m (by decide) fun e => absurd e hm]
  · rfl

end

/-! ### The pins in SAFE -/

/-- R91: the pins of SAFE codes D0 and D1 drive those levels; a byte of 216 says nothing of its three pins. -/
def drivesSafe (safe : Nat) (drv : Table PinDrv) : Prop :=
  ∀ j b, j < 9 → b = bits safe (8 * (j / 3)) 8 → b < 216 →
    (b / 6 ^ (j % 3) % 6 = 0 → Table.get? drv j = some { on := true, high := false, term := 3 }) ∧
    (b / 6 ^ (j % 3) % 6 = 1 → Table.get? drv j = some { on := true, high := true, term := 3 })

/-- R91: the SAFE code of a pin in its packed byte. -/
theorem safeCode_eq {b : Nat} (j : Nat) (hb : b < 216) :
    (if j % 3 = 0 then b % 6 else if j % 3 = 1 then b / 6 % 6 else b / 36) = b / 6 ^ (j % 3) % 6 := by
  have hj : j % 3 = 0 ∨ j % 3 = 1 ∨ j % 3 = 2 := by omega
  rcases hj with hj | hj | hj
  · simp [hj]
  · simp [hj]
  · simp [hj]
    omega

theorem State.safePins_drivesSafe (s : State) (l safe : Nat) : drivesSafe safe ((s.safePins l safe).leaf l).drv := by
  intro j b hj hb hlt
  unfold State.safePins
  extract_lets x played drv
  rw [State.leaf_setLeaf_self]
  have hpin : ∃ old term, Table.get? drv j = some (safePin old term (b / 6 ^ (j % 3) % 6) false played) :=
    foldl_each (before := fun _ _ => True)
      (after := fun (d : Table PinDrv) j => ∀ b, b = bits safe (8 * (j / 3)) 8 → b < 216 →
        ∃ old term, Table.get? d j = some (safePin old term (b / 6 ^ (j % 3) % 6) false played)) List.nodup_range
      (fun d k _ b hb hlt => ⟨_, _, (Table.get?_set_self _ _ _).trans
        (by rw [← hb, safeCode_eq k hlt, show (b == 216) = false from beq_eq_false_iff_ne.2 (by omega)])⟩)
      (fun _ _ _ _ h => h) (fun d k i hi h b hb hlt => by rw [Table.get?_set_ne _ _ _ _ hi]; exact h b hb hlt) (fun _ _ => trivial)
      j (List.mem_range.2 hj) b hb hlt
  obtain ⟨old, term, hget⟩ := hpin
  refine ⟨fun hc => ?_, fun hc => ?_⟩
  · rw [hget, hc]; rfl
  · rw [hget, hc]; rfl

section
variable {s : State}

/-! ### The run that ends ABORTED -/

/-- R90, R96: the leaf's run has ended ABORTED at t in u, as the abort a says. -/
structure State.Aborted (s : State) (l t : Nat) (a : AbortReq) (safe : Option Nat) (u : State) : Prop where
  state : u.rd F.UNIT_STATUS_STATE l = 3
  cause : u.rd F.UNIT_STATUS_CAUSE l = a.cause % 2 ^ 8
  src : u.rd F.UNIT_ABORT_SRC_SRC_UNIT l = (s.firstSrc l a).1 % 2 ^ 10
  rest : s.Stays l endKeys (fun _ => ()) Leaf.stood u
  phase : (u.leaf l).phase = .off
  cut : safe.isSome = true → ∀ e ∈ (u.leaf l).edges, e.placed < t
  kept : safe = none → (u.leaf l).drv = (s.leaf l).drv
  safe : ∀ d, safe = some d → drivesSafe d (u.leaf l).drv

theorem State.endAborted_aborted (s : State) (l t : Nat) (a : AbortReq) (safe : Option Nat) : s.Aborted l t a safe (s.endAborted l t a safe) := by
  unfold State.endAborted
  extract_lets s' x s1 sup y s2 stop
  have h' : s.Stays l endKeys Leaf.body Leaf.body s' := by
    unfold s'
    split
    · exact .ite .rfl (State.Stays.closeHold .rfl)
    · exact .rfl
  have h1 : s'.Stays l endKeys Leaf.unpinned Leaf.body s1 := by
    unfold s1
    split
    · exact State.Stays.safePins .rfl
    · exact .rfl
  have hup : s1.Stays l endKeys Leaf.body Leaf.body sup :=
    (State.Stays.ite (State.Stays.ffFollow .rfl) .rfl).foldl fun _ _ h => h.journalJump
  have hpins : (sup.leaf l).drv = (s1.leaf l).drv := (congrArg Leaf.drv hup.leaf :)
  have h02 : s.Stays l endKeys (fun _ => ()) Leaf.stood s2 := by
    have hw (x y : Leaf) (h : x.body = y.body) : x.stood = y.stood := (congrArg Leaf.stood h :)
    have hall : s.Stays l endKeys (fun _ => ()) Leaf.stood sup :=
      ((h'.weaken (List.Subset.refl _) (fun _ _ _ => rfl) hw).trans (h1.weaken (List.Subset.refl _) (fun _ _ _ => rfl) hw)).trans
        (hup.weaken (List.Subset.refl _) (fun _ _ _ => rfl) hw)
    exact hall.setLeaf
  have hleaf2 : ∃ z : Leaf, s2.leaf l = z ∧ z.phase = .off ∧ z.edges = y.edges ∧ z.drv = y.drv := ⟨_, State.leaf_setLeaf_self _ _ _, rfl, rfl, rfl⟩
  obtain ⟨z, hz, hphase, hedges, hdrv⟩ := hleaf2
  split
  next su sm sc hsrc =>
  extract_lets s3 s4 s5 s6 s7 x7 s8
  have h3 : s2.Stays l endKeys Leaf.body Leaf.stood s3 := State.Stays.wrsOwn .rfl
  have h4 : s3.Stays l [] Leaf.body Leaf.stood s4 := .ite (State.Stays.wr .rfl) .rfl
  have h5 : s3.Stays l [] Leaf.body Leaf.stood s5 := h4.parts
  have h6 : s3.Stays l [] Leaf.body Leaf.stood s6 := h5.foldl fun _ _ h => h.finishVec
  have h7 : s3.Stays l [] Leaf.body Leaf.stood s7 := h6.stopEngine.journalEnd.checkFlow
  have h8 : s3.Stays l [] Leaf.body Leaf.stood s8 := .ite h7.askExport h7
  have hend : s3.Stays l [] Leaf.body Leaf.stood (((s8.tellAbort l a).abortOthers l t a).unitEnd l) := h8.tellAbort.abortOthers.unitEnd
  generalize ((s8.tellAbort l a).abortOthers l t a).unitEnd l = u at hend
  have hcell (f : Fld) (v : Nat) (hf : f.key < 23) (hm : (f, l, v) ∈ [(F.UNIT_STATUS_STATE, l, 3), (F.UNIT_STATUS_CAUSE, l, a.cause),
      (F.UNIT_STATUS_HOLDING, l, 0), (F.UNIT_ABORT_SRC_SRC_UNIT, l, su), (F.UNIT_ABORT_SRC_SRC_MODULE, l, sm),
      (F.UNIT_ABORT_SRC_SRC_CAUSE, l, sc)]) : u.rd f l = v % 2 ^ f.w :=
    (hend.cells f l hf fun _ => List.not_mem_nil).trans (s2.wrs_rd_of_mem (by simp) (by simp) hm)
  have hleaf : (u.leaf l).body = z.body := (hend.leaf.trans h3.leaf).trans (congrArg Leaf.body hz)
  have hsrc1 : su = (s.firstSrc l a).1 := by rw [← h'.firstSrc a, hsrc]
  refine ⟨hcell _ 3 (by decide) (by simp), hcell _ _ (by decide) (by simp), hsrc1 ▸ hcell _ su (by decide) (by simp), ?_,
    (congrArg Leaf.phase hleaf).trans hphase, fun hs e he => ?_, fun hs => ?_, fun d hs => ?_⟩
  · exact (h02.trans (h3.weaken (List.Subset.refl _) (fun _ _ _ => rfl) fun _ _ h => h)).trans
      (hend.weaken (List.nil_subset _) (fun _ _ _ => rfl) fun _ _ h => h)
  · have hcut : (u.leaf l).edges = y.edges := (congrArg Leaf.edges hleaf).trans hedges
    have hy : y = (sup.leaf l).cancelFrom t := if_pos hs
    rw [hcut, hy] at he
    simpa using (List.mem_filter.1 he).2
  · subst hs
    have hs1 : s1 = s' := rfl
    exact ((congrArg Leaf.drv hleaf).trans hdrv).trans (hpins.trans (hs1 ▸ (congrArg Leaf.drv h'.leaf :)))
  · subst hs
    have hy : y.drv = (s1.leaf l).drv := hpins
    have hd : (u.leaf l).drv = ((s'.safePins l d).leaf l).drv := ((congrArg Leaf.drv hleaf).trans hdrv).trans hy
    rw [hd]
    exact s'.safePins_drivesSafe l d

end

end Sys2Proof.Machine
end

section
/-! PROOFS. RUN_COMPLETION and ABORT_TAKE_EFFECT (R70, R90 to R94, R97). -/

namespace Sys2Proof.Machine

set_option Elab.async false

section
variable {α β : Type} {σ s u v : State} {l t : Nat} {own : List Nat} {V : Leaf → α} {W : Leaf → β} {a : AbortReq} {safe : Option Nat}

/-! ### DONE -/

theorem runCompletion_done (hp : (s.leaf l).phase = .ended) (hd : s.due (s.leaf l).lastRes = true)
    (hv : (s.leaf l).vrecs.all (fun v => v.done) = true) :
    (runCompletion l s).rd F.UNIT_STATUS_STATE l = 2 ∧ ((runCompletion l s).leaf l).phase = .off ∧ s.keepsMem (runCompletion l s) := by
  unfold runCompletion
  extract_lets x s0 late s1 s2 _ s3
  rw [if_pos ⟨hp, hd, hv⟩]
  have h1 : s.Stays l [F.UNIT_STATUS_STATE.key, F.UNIT_STATUS_LATE_ABORT.key] (fun _ => ()) Leaf.body s1 :=
    (State.Stays.goto .rfl).wrsOwn
  have h2 : s1.Stays l [] Leaf.body Leaf.body s2 := .ite (State.Stays.wr .rfl) .rfl
  have h23 : s2.Stays l [] (fun _ => ()) Leaf.body s3 := State.Stays.setLeaf .rfl
  have hend : s3.Stays l [] Leaf.body Leaf.body
      (((s3.journalEnd l (s3.rd F.UNIT_VCOUNT_VCOUNT l) 2).checkFlow l (s3.endAgrees l 2)).unitEnd l) :=
    (State.Stays.rfl.journalEnd).checkFlow.unitEnd
  generalize ((s3.journalEnd l (s3.rd F.UNIT_VCOUNT_VCOUNT l) 2).checkFlow l (s3.endAgrees l 2)).unitEnd l = u at hend
  have hstate1 : s1.rd F.UNIT_STATUS_STATE l = 2 := s0.wrs_rd_of_mem (v := 2) (by simp) (by simp) (by simp)
  have hstate : u.rd F.UNIT_STATUS_STATE l = s1.rd F.UNIT_STATUS_STATE l :=
    ((hend.cells _ l (by decide) fun _ => List.not_mem_nil).trans (h23.cells _ l (by decide) fun _ => List.not_mem_nil)).trans
      (h2.cells _ l (by decide) fun _ => List.not_mem_nil)
  have hphase3 : (s3.leaf l).phase = .off := congrArg Leaf.phase (State.leaf_setLeaf_self _ _ _)
  have hphase : (u.leaf l).phase = (s3.leaf l).phase := (congrArg Leaf.phase hend.leaf :)
  exact ⟨hstate.trans hstate1, hphase.trans hphase3,
    State.keepsMem_trans (State.keepsMem_trans h1.keepsMem h2.keepsMem) (State.keepsMem_trans h23.keepsMem hend.keepsMem)⟩

/-! ### ABORTED -/

theorem Leaf.edges_of_body {x y : Leaf} (h : x.body = y.body) : x.edges = y.edges := (congrArg Leaf.edges h :)

theorem Leaf.drv_of_body {x y : Leaf} (h : x.body = y.body) : x.drv = y.drv := (congrArg Leaf.drv h :)

/-- An abort that takes effect after a way that leaves the leaf as it was. -/
theorem State.Aborted.after (h0 : σ.Stays l endKeys Leaf.body Leaf.body s) (h : s.Aborted l t a safe u) : σ.Aborted l t a safe u where
  state := h.state
  cause := h.cause
  src := h.src.trans (by rw [h0.firstSrc])
  rest := (h0.weaken (List.Subset.refl _) (fun _ _ _ => rfl) fun _ _ e => (congrArg Leaf.stood e :)).trans h.rest
  phase := h.phase
  cut := h.cut
  kept hs := (h.kept hs).trans (Leaf.drv_of_body h0.leaf)
  safe := h.safe

/-- The leaf's run has ended, and stays so. -/
theorem State.Aborted.stays (h : s.Aborted l t a safe u) (h1 : u.Stays l [] Leaf.body Leaf.stood v) : s.Aborted l t a safe v where
  state := (h1.cells _ l (by decide) fun _ => List.not_mem_nil).trans h.state
  cause := (h1.cells _ l (by decide) fun _ => List.not_mem_nil).trans h.cause
  src := (h1.cells _ l (by decide) fun _ => List.not_mem_nil).trans h.src
  rest := h.rest.trans (h1.weaken (List.nil_subset _) (fun _ _ _ => rfl) fun _ _ e => e)
  phase := (congrArg Leaf.phase h1.leaf :).trans h.phase
  cut hs e he := h.cut hs e (Leaf.edges_of_body h1.leaf ▸ he)
  kept hs := (Leaf.drv_of_body h1.leaf).trans (h.kept hs)
  safe d hs := Leaf.drv_of_body h1.leaf ▸ h.safe d hs

theorem State.Stays.rasEnd (h : σ.Stays l own V W s) : σ.Stays l own V W s.rasEnd := by
  unfold State.rasEnd
  split
  · exact h
  · extract_lets _ s1
    have h1 : σ.Stays l own V W s1 := h.parts.wrs
    exact h1.foldl fun _ _ h => .ite h.raise h

/-- R90: an abort at the place of a leaf in play, due in this tick. -/
theorem abortTakeEffect_play (hp : (s.leaf l).phase = .play) (hv : (s.leaf l).vhold = false)
    (ha : chooseAbort ((s.leaf l).abortNow (s.atEnd l)) = some a) (hd : s.due (s.leaf l).nextStart = true) :
    abortTakeEffect l s = ((s.goto (s.leaf l).nextStart).missedToo l).endAborted l (s.leaf l).nextStart a
      (some (if (s.leaf l).raster then s.rasterSafe l else dSafe (s.desc (s.safeStrand l a.cause)))) := by
  unfold abortTakeEffect
  rw [State.settle_of_vhold hv]
  simp only [hp, ha, hd, if_true]

/-- R94: an abort sampled before the start tick of an armed leaf, due in this tick. -/
theorem abortTakeEffect_armed (hp : (s.leaf l).phase = .armed) (hv : (s.leaf l).vhold = false)
    (ha : chooseAbort ((s.leaf l).aborts.filter (fun a => a.vec.isNone && decide (a.notBefore < tickAt (s.leaf l).startTick))) = some a)
    (hd : s.due a.notBefore = true) :
    abortTakeEffect l s = (((s.goto a.notBefore).setUnit (s.leaf l).unit { s.unit (s.leaf l).unit with pending := none }).clearState l).endAborted
      l a.notBefore a none := by
  unfold abortTakeEffect
  rw [State.settle_of_vhold hv]
  simp only [hp, ha, hd, if_true]

theorem leafAbort_play (hp : (s.leaf l).phase = .play) (hv : (s.leaf l).vhold = false)
    (ha : chooseAbort ((s.leaf l).abortNow (s.atEnd l)) = some a) (hd : s.due (s.leaf l).nextStart = true) :
    s.Aborted l (s.leaf l).nextStart a (some (if (s.leaf l).raster then s.rasterSafe l else dSafe (s.desc (s.safeStrand l a.cause))))
      (leafAbort l s) := by
  have hab := State.endAborted_aborted ((s.goto (s.leaf l).nextStart).missedToo l) l (s.leaf l).nextStart a
    (some (if (s.leaf l).raster then s.rasterSafe l else dSafe (s.desc (s.safeStrand l a.cause))))
  rw [← abortTakeEffect_play hp hv ha hd] at hab
  replace hab := hab.after ((State.Stays.goto .rfl).missedToo)
  unfold leafAbort
  extract_lets s1
  exact hab.stays (.ite (State.Stays.rasEnd .rfl) .rfl)

theorem State.keepsMem_setUnit (s : State) (u : Nat) (x : UnitSt) : s.keepsMem (s.setUnit u x) := State.keepsMem_of_eq rfl rfl rfl

theorem State.leaf_setUnit (s : State) (u : Nat) (x : UnitSt) (k : Nat) : (s.setUnit u x).leaf k = s.leaf k := rfl

/-- R94: the run of an armed leaf ends without a vector. -/
theorem leafAbort_armed (hp : (s.leaf l).phase = .armed) (hv : (s.leaf l).vhold = false)
    (ha : chooseAbort ((s.leaf l).aborts.filter (fun a => a.vec.isNone && decide (a.notBefore < tickAt (s.leaf l).startTick))) = some a)
    (hd : s.due a.notBefore = true) :
    (leafAbort l s).rd F.UNIT_STATUS_STATE l = 3 ∧ (leafAbort l s).rd F.UNIT_STATUS_CAUSE l = a.cause % 2 ^ 8 ∧
      (leafAbort l s).rd F.UNIT_VCOUNT_VCOUNT l = 0 ∧ ((leafAbort l s).unit (s.leaf l).unit).pending = none ∧
      ((leafAbort l s).leaf l).phase = .off ∧ ((leafAbort l s).leaf l).drv = (s.leaf l).drv ∧ s.keepsMem (leafAbort l s) := by
  have hplay : leafAbort l s = abortTakeEffect l s := if_neg fun hc => by simp [hp] at hc
  let s0 := (s.goto a.notBefore).setUnit (s.leaf l).unit { s.unit (s.leaf l).unit with pending := none }
  have h := (s0.clearState l).endAborted_aborted l a.notBefore a none
  rw [hplay, abortTakeEffect_armed hp hv ha hd]
  have hvcount : (s0.clearState l).rd F.UNIT_VCOUNT_VCOUNT l = 0 := s0.wrs_rd_of_mem (v := 0) (by simp) (by simp) (by simp)
  have hclear : s0.Stays l (List.range 23) Leaf.body Leaf.body (s0.clearState l) := State.Stays.wrsOwn .rfl
  have hmem : s.keepsMem s0 := State.keepsMem_trans (s.goto_keepsMem _) (State.keepsMem_setUnit _ _ _)
  refine ⟨h.state, h.cause, (h.rest.cells _ _ (by decide) fun _ => by decide).trans hvcount, ?_, h.phase, (h.kept rfl).trans ?_,
    State.keepsMem_trans (State.keepsMem_trans hmem hclear.keepsMem) h.rest.keepsMem⟩
  · exact ((h.rest.pending _).trans (hclear.pending _)).trans (congrArg UnitSt.pending (State.unit_setUnit_self _ _ _))
  · exact (Leaf.drv_of_body hclear.leaf).trans (congrArg Leaf.drv ((State.leaf_setUnit _ _ _ l).trans (s.goto_leaf _ l)))

theorem State.due_of_lt (h : t < tickAt (s.tick + 1)) : s.due t = true := decide_eq_true h

end

/-- Settles O32: the end DONE, then the abort of a leaf in play and of one that is armed. -/
theorem runEnds : Obligations.RunEnds := by
  refine ⟨fun s l hp hd hv => ⟨_, rfl, runCompletion_done hp (State.due_of_lt hd) hv⟩, fun s l a hp hv ha hd => ?_,
    fun s l a hp hv ha hd => ?_⟩
  · have h := leafAbort_play hp hv ha (State.due_of_lt hd)
    refine ⟨_, rfl, h.state, h.cause, h.src, h.phase, h.cut rfl, fun j b hr hb hlt => ?_, h.rest.keepsMem⟩
    exact h.safe _ rfl j.val b j.isLt (by rw [hr]; exact hb) hlt
  · exact ⟨_, rfl, leafAbort_armed hp hv ha (State.due_of_lt hd)⟩

end Sys2Proof.Machine
end

section
/-! PROOFS. RUN_START: the unit's leaves begin, or end START_LATE (R89, R17, R160, R303). -/

namespace Sys2Proof.Machine

set_option Elab.async false

/-- The leaf's own registers that the start of its run may change. -/
abbrev startKeys : List Nat := List.range 23

section
variable {α β : Type} {σ s t u : State} {l : Nat} {own : List Nat} {V : Leaf → α} {W : Leaf → β}

/-! ### What the commands of several leaves keep -/

/-- The memories, the strand table, the mounted image and the starts pending are as they were. -/
structure State.KeepsUnits (σ s : State) : Prop where
  mem : σ.keepsMem s
  image : s.image = σ.image
  pending : ∀ u, (s.unit u).pending = (σ.unit u).pending

theorem State.KeepsUnits.refl (s : State) : s.KeepsUnits s := ⟨s.keepsMem_refl, rfl, fun _ => rfl⟩

theorem State.KeepsUnits.trans (h : s.KeepsUnits t) (h' : t.KeepsUnits u) : s.KeepsUnits u :=
  ⟨State.keepsMem_trans h.mem h'.mem, h'.image.trans h.image, fun v => (h'.pending v).trans (h.pending v)⟩

theorem State.Stays.keepsUnits (h : σ.Stays l own V W s) : σ.KeepsUnits s := ⟨h.keepsMem, h.image, h.pending⟩

theorem State.KeepsUnits.foldl {γ : Type} {as : List γ} {g : State → γ → State} (hg : ∀ (t : State) a, t.KeepsUnits (g t a)) :
    s.KeepsUnits (as.foldl g s) :=
  List.foldlRecOn as g (motive := fun t : State => s.KeepsUnits t) (.refl s) fun t ht a _ => ht.trans (hg t a)

/-! ### A leaf begins -/

theorem State.Stays.clearState (h : σ.Stays l startKeys V W s) : σ.Stays l startKeys V W (s.clearState l) := h.wrsOwn

/-- R148, R160: what the start clears beside the registers of the run. -/
theorem State.clearRun_stays (s : State) (l : Nat) (accum : Bool) :
    (s.clearState l).Stays l [] (fun x => x) (fun x => x) (s.clearRun l accum) := by
  unfold State.clearRun
  extract_lets s1
  have h1 : (s.clearState l).Stays l [] (fun x => x) (fun x => x) s1 := State.Stays.wrs .rfl
  exact .ite h1 h1.wrs.wrs

theorem State.Stays.forceAbort (h : σ.Stays l own (fun x => x.phase) W s) : σ.Stays l own (fun x => x.phase) W (s.forceAbort l) := by
  unfold State.forceAbort
  split
  · exact h
  · exact h.setLeaf

/-- R89: the leaf has begun its run. -/
def State.begun (s : State) (l : Nat) : Prop :=
  s.rd F.UNIT_STATUS_STATE l = 1 ∧ s.rd F.UNIT_VCOUNT_VCOUNT l = 0 ∧ s.rd F.UNIT_HOLD_GAP_GAP l = 0 ∧ s.rd F.UNIT_STATUS_CAUSE l = 0 ∧
    (s.leaf l).phase = .play

theorem State.begun_of_stays (h : s.Stays l [] (fun x => x.phase) W t) (hb : s.begun l) : t.begun l := by
  obtain ⟨hstate, hvcount, hgap, hcause, hphase⟩ := hb
  have hcell (g : Fld) (hg : g.key < 23) : t.rd g l = s.rd g l := h.cells g l hg fun _ => List.not_mem_nil
  exact ⟨(hcell _ (by decide)).trans hstate, (hcell _ (by decide)).trans hvcount, (hcell _ (by decide)).trans hgap,
    (hcell _ (by decide)).trans hcause, h.leaf.trans hphase⟩

/-- What a leaf's own command leaves of another leaf. -/
theorem State.begun_of_stays_other {k : Nat} (h : s.Stays k own V (fun x => x.phase) t) (hk : l ≠ k) (hb : s.begun l) : t.begun l := by
  obtain ⟨hstate, hvcount, hgap, hcause, hphase⟩ := hb
  have hcell (g : Fld) (hg : g.key < 23) : t.rd g l = s.rd g l := h.cells g l hg fun e => absurd e hk
  exact ⟨(hcell _ (by decide)).trans hstate, (hcell _ (by decide)).trans hvcount, (hcell _ (by decide)).trans hgap,
    (hcell _ (by decide)).trans hcause, (h.others l hk).trans hphase⟩

theorem State.beginRun_spec (s : State) (accum : Bool) (l : Nat) :
    s.Stays l startKeys (fun _ => ()) (fun x => x.phase) (s.beginRun accum l) ∧ (s.beginRun accum l).begun l := by
  unfold State.beginRun
  extract_lets s1 x
  have hclear : s.Stays l startKeys (fun _ => ()) (fun x => x.phase) (s.clearState l) := State.Stays.clearState .rfl
  have hrun := s.clearRun_stays l accum
  have h1 : (s.clearRun l accum).Stays l [F.UNIT_STATUS_STATE.key] (fun x => x) (fun x => x) s1 := State.Stays.wrOwn .rfl
  have hstate : s1.rd F.UNIT_STATUS_STATE l = 1 := State.rd_wr_self _ _ l 1
  have hzero (g : Fld) (hm : (g, l, 0) ∈ [(F.UNIT_VCOUNT_VCOUNT, l, 0), (F.UNIT_HOLD_GAP_GAP, l, 0), (F.UNIT_SAFEPT_STRAND, l, 0),
      (F.UNIT_SAFEPT_BEAD, l, 0), (F.UNIT_SAFEPT_VALID, l, 0), (F.UNIT_ABORT_SRC_SRC_UNIT, l, 0),
      (F.UNIT_ABORT_SRC_SRC_MODULE, l, 0), (F.UNIT_ABORT_SRC_SRC_CAUSE, l, 0), (F.UNIT_STATUS_LATE_ABORT, l, 0),
      (F.UNIT_STATUS_TIMING_BROKEN, l, 0), (F.UNIT_STATUS_UNDERRUN, l, 0), (F.UNIT_STATUS_VCOUNT_WRAP, l, 0),
      (F.UNIT_STATUS_HOLDING, l, 0), (F.UNIT_STATUS_CAUSE, l, 0)]) (hg : g.key < 23) (hne : g.key ∉ [F.UNIT_STATUS_STATE.key]) : s1.rd g l = 0 :=
    ((h1.cells g l hg fun _ => hne).trans (hrun.cells g l hg fun _ => List.not_mem_nil)).trans
      ((s.wrs_rd_of_mem (v := 0) (by simp) (by simp) hm).trans (Nat.zero_mod _))
  generalize hy : ({ x with
      phase := .play, enter := true, chain := [], edges := x.edges.map Edge.old, vrecs := [], lastRes := 0, runFails := 0,
      beadFails := 0, runVecFails := 0, flCount := 0, minFail := none } : Leaf) = y
  have hphase : y.phase = .play := hy ▸ rfl
  let s2 := { s1 with shown := Table.erase s1.shown l }.setLeaf l y
  have h2 : s1.Stays l [] (fun _ => ()) (fun x => x.phase) s2 := State.Stays.setLeaf (State.Stays.parts .rfl)
  have hbegun2 : s2.begun l := by
    have hcell (g : Fld) (hg : g.key < 23) : s2.rd g l = s1.rd g l := h2.cells g l hg fun _ => List.not_mem_nil
    exact ⟨(hcell _ (by decide)).trans hstate, (hcell _ (by decide)).trans (hzero _ (by simp) (by decide) (by decide)),
      (hcell _ (by decide)).trans (hzero _ (by simp) (by decide) (by decide)),
      (hcell _ (by decide)).trans (hzero _ (by simp) (by decide) (by decide)), (congrArg Leaf.phase (State.leaf_setLeaf_self _ _ _)).trans hphase⟩
  have h3 : s2.Stays l [] (fun x => x.phase) (fun x => x.phase) (s2.forceAbort l) := State.Stays.forceAbort .rfl
  refine ⟨?_, State.begun_of_stays h3 hbegun2⟩
  have hw (x y : Leaf) (e : x = y) : x.phase = y.phase := congrArg Leaf.phase e
  exact (((hclear.trans (hrun.weaken (by simp) (fun _ _ _ => rfl) hw)).trans (h1.weaken (by decide) (fun _ _ _ => rfl) hw)).trans
    (h2.weaken (by simp) (fun _ _ _ => rfl) fun _ _ e => e)).trans (h3.weaken (by simp) (fun _ _ _ => rfl) fun _ _ e => e)

/-- Every leaf of a list begins its run. -/
theorem State.beginRuns_spec (s : State) (accum : Bool) {ls : List Nat} (hn : ls.Nodup) :
    s.KeepsUnits (ls.foldl (fun s l => s.beginRun accum l) s) ∧ ∀ l ∈ ls, (ls.foldl (fun s l => s.beginRun accum l) s).begun l :=
  ⟨.foldl fun t l => (t.beginRun_spec accum l).1.keepsUnits,
    foldl_each (before := fun _ _ => True) (after := State.begun) hn (fun t l _ => (t.beginRun_spec accum l).2) (fun _ _ _ _ h => h)
      (fun t k _ hl h => State.begun_of_stays_other (t.beginRun_spec accum k).1 hl h) fun _ _ => trivial⟩

/-! ### A PARTITIONED module -/

/-- R303: the leaf is asked to abort with PARTITION. -/
def State.parted (s : State) (l : Nat) : Prop := ∃ a ∈ (s.leaf l).aborts, a.cause = 0x0F

theorem State.ownAbort_stays (s : State) (l cause t : Nat) :
    s.Stays l [] (fun x => x.phase) (fun x => x) (s.ownAbort l cause t) := State.Stays.setLeaf .rfl

theorem State.ownAbort_aborts (s : State) (l cause t : Nat) : ∃ a, ((s.ownAbort l cause t).leaf l).aborts = (s.leaf l).aborts ++ [a] ∧
    a.cause = cause ∧ a.notBefore = t := ⟨_, congrArg Leaf.aborts (State.leaf_setLeaf_self _ _ _), rfl, rfl⟩

theorem State.ownAborts_spec (s : State) (t : Nat) {ls : List Nat} (hn : ls.Nodup) (hb : ∀ l ∈ ls, s.begun l) :
    s.KeepsUnits (ls.foldl (fun s l => s.ownAbort l 0x0F t) s) ∧
      ∀ l ∈ ls, (ls.foldl (fun s l => s.ownAbort l 0x0F t) s).begun l ∧ (ls.foldl (fun s l => s.ownAbort l 0x0F t) s).parted l := by
  have hw (x y : Leaf) (e : x = y) : x.phase = y.phase := congrArg Leaf.phase e
  have hother (v : State) (k l : Nat) (hl : l ≠ k) (h : v.begun l) : (v.ownAbort k 0x0F t).begun l :=
    State.begun_of_stays_other ((v.ownAbort_stays k 0x0F t).weaken (List.Subset.refl _) (fun _ _ e => e) hw) hl h
  refine ⟨.foldl fun v l => (v.ownAbort_stays l 0x0F t).keepsUnits,
    foldl_each (before := State.begun) (after := fun (v : State) l => v.begun l ∧ v.parted l) hn (fun v l h => ?_) hother
      (fun v k l hl h => ⟨hother v k l hl h.1, ?_⟩) hb⟩
  · obtain ⟨a, ha, hc, -⟩ := v.ownAbort_aborts l 0x0F t
    exact ⟨State.begun_of_stays (v.ownAbort_stays l 0x0F t) h, a, ha ▸ List.mem_append_right _ (List.mem_singleton_self a), hc⟩
  · rw [State.parted, (v.ownAbort_stays k 0x0F t).others l hl]
    exact h.2

/-! ### A start that comes too late -/

/-- R89: the leaf has ended START_LATE, its pins as they were. -/
def State.late (drv : Nat → Table PinDrv) (s : State) (l : Nat) : Prop :=
  s.rd F.UNIT_STATUS_STATE l = 3 ∧ s.rd F.UNIT_VCOUNT_VCOUNT l = 0 ∧ s.rd F.UNIT_STATUS_CAUSE l = 0x10 ∧ (s.leaf l).phase = .off ∧
    (s.leaf l).drv = drv l

/-- R89: the abort of a start that comes too late. -/
def lateAbort (src m now : Nat) : AbortReq := { notBefore := now, cause := 0x10, srcUnit := src, srcModule := m, srcCause := 0x10 }

/-- A leaf ended START_LATE. -/
def State.endOneLate (src m : Nat) (s : State) (l : Nat) : State := (s.clearState l).endAborted l s.now (lateAbort src m s.now) none

theorem State.endOneLate_stays (src m : Nat) (s : State) (l : Nat) :
    s.Stays l startKeys (fun _ => ()) Leaf.stood (s.endOneLate src m l) :=
  (State.Stays.clearState .rfl).trans
    (((s.clearState l).endAborted_aborted l s.now (lateAbort src m s.now) none).rest.weaken (by decide) (fun _ _ e => e) fun _ _ e => e)

theorem State.endOneLate_late {drv : Nat → Table PinDrv} (src m : Nat) (h : (s.leaf l).drv = drv l) : (s.endOneLate src m l).late drv l := by
  have ha := (s.clearState l).endAborted_aborted l s.now (lateAbort src m s.now) none
  have hvcount : (s.clearState l).rd F.UNIT_VCOUNT_VCOUNT l = 0 := s.wrs_rd_of_mem (v := 0) (by simp) (by simp) (by simp)
  have hclear : s.Stays l startKeys (fun x => x) (fun x => x) (s.clearState l) := State.Stays.clearState .rfl
  exact ⟨ha.state, (ha.rest.cells _ _ (by decide) fun _ => by decide).trans hvcount, ha.cause, ha.phase,
    (ha.kept rfl).trans ((congrArg Leaf.drv hclear.leaf).trans h)⟩

theorem State.endLate_eq (s : State) (ls : List Nat) (src m : Nat) : s.endLate ls src m = ls.foldl (State.endOneLate src m) s := rfl

theorem State.drv_of_stays_other {k : Nat} (h : s.Stays k own V Leaf.stood t) (hl : l ≠ k) : (t.leaf l).drv = (s.leaf l).drv :=
  (congrArg Prod.snd (h.others l hl) :)

theorem State.late_of_stays_other {drv : Nat → Table PinDrv} {k : Nat} (h : s.Stays k own V Leaf.stood t) (hl : l ≠ k) (hs : s.late drv l) :
    t.late drv l := by
  obtain ⟨hstate, hvcount, hcause, hphase, hdrv⟩ := hs
  have hcell (g : Fld) (hg : g.key < 23) : t.rd g l = s.rd g l := h.cells g l hg fun e => absurd e hl
  exact ⟨(hcell _ (by decide)).trans hstate, (hcell _ (by decide)).trans hvcount, (hcell _ (by decide)).trans hcause,
    (congrArg Prod.fst (h.others l hl) :).trans hphase, (State.drv_of_stays_other h hl).trans hdrv⟩

/-- R89: every leaf of a unit ended START_LATE. -/
theorem State.endLate_spec (s : State) (src m : Nat) {ls : List Nat} (hn : ls.Nodup) :
    s.KeepsUnits (s.endLate ls src m) ∧ ∀ l ∈ ls, (s.endLate ls src m).late (fun l => (s.leaf l).drv) l := by
  rw [State.endLate_eq]
  exact ⟨.foldl fun t l => (t.endOneLate_stays src m l).keepsUnits,
    foldl_each (before := fun (t : State) l => (t.leaf l).drv = (s.leaf l).drv) (after := State.late fun l => (s.leaf l).drv) hn
      (fun _ _ h => State.endOneLate_late src m h)
      (fun t k _ hl h => (State.drv_of_stays_other (t.endOneLate_stays src m k) hl).trans h)
      (fun t k _ hl h => State.late_of_stays_other (t.endOneLate_stays src m k) hl h) fun _ _ => rfl⟩

/-! ### The start of the unit -/

theorem State.Stays.journalStart {u : Nat} (h : σ.Stays l own V W s) : σ.Stays l own V W (s.journalStart u) := by
  unfold State.journalStart
  exact .ite h h.journal

theorem State.Stays.occursStart {u t : Nat} (h : σ.Stays l own V W s) : σ.Stays l own V W (s.occursStart u t) := .ite h.occurs h

/-- The start is taken: no longer pending, with what the run of the unit begins with. -/
def State.taken (s : State) (u : Nat) : State :=
  s.setUnit u { s.unit u with pending := none, endRaised := false, per := [], differ := false, decided := 0, src := none }

/-- R89: a start whose tick has come, of leaves that are all armed and not cancelled. -/
theorem runStart_of_due {u n : Nat} {late : Option (Fin 16 × Fin 16)} (hp : (s.unit u).pending = some n) (hn : n ≤ s.tick)
    (hall : ∀ l ∈ s.leavesOf u, (s.leaf l).phase = .armed ∧
      (s.leaf l).aborts.all (fun a => a.vec.isSome || decide (tickAt n ≤ a.notBefore)) = true) :
    runStart u late s =
      match (if u < 256 then none else late) with
      | some (l, m) => (s.taken u).endLate (s.leavesOf u) l.val m.val
      | none =>
        let s2 := (s.leavesOf u).foldl (fun t l => t.beginRun (s.on F.UNIT_FSTOP_ACCUM u) l) (s.taken u)
        let s3 := if s.rd F.ID_STAT_STATE 0 = 5 then (s.leavesOf u).foldl (fun t l => t.ownAbort l 0x0F (tickAt n)) s2 else s2
        (s3.journalStart u).occursStart u (tickAt n) := by
  have hls : (s.leavesOf u).filter (fun l => (s.leaf l).phase == .armed) = s.leavesOf u :=
    List.filter_eq_self.2 fun l hl => by simp [(hall l hl).1]
  have hcancel : (s.leavesOf u).any (fun l => (s.leaf l).aborts.any (fun a => a.vec.isNone && decide (a.notBefore < tickAt n))) = false := by
    rw [List.any_eq_false]
    intro l hl
    obtain ⟨-, ha⟩ := hall l hl
    rw [Bool.not_eq_true, List.any_eq_false]
    intro a hm
    have := List.all_eq_true.1 ha a hm
    cases hv : a.vec with
    | none => simpa [hv] using this
    | some q => simp
  unfold runStart
  simp only [hp]
  rw [hls, hcancel, if_neg (by simpa using hn)]
  rfl

/-- R89: the start taken in time. -/
theorem runStart_begins {u n : Nat} {late : Option (Fin 16 × Fin 16)} (hp : (s.unit u).pending = some n) (hn : n ≤ s.tick)
    (hall : ∀ l ∈ s.leavesOf u, (s.leaf l).phase = .armed ∧
      (s.leaf l).aborts.all (fun a => a.vec.isSome || decide (tickAt n ≤ a.notBefore)) = true) (hlate : u < 256 ∨ late = none) :
    (s.taken u).KeepsUnits (runStart u late s) ∧
      ∀ l ∈ s.leavesOf u, (runStart u late s).begun l ∧ (s.rd F.ID_STAT_STATE 0 = 5 → (runStart u late s).parted l) := by
  have hnone : (if u < 256 then none else late) = none := by
    rcases hlate with h | h
    · exact if_pos h
    · rw [h, ite_self]
  rw [runStart_of_due hp hn hall, hnone]
  extract_lets s2 s3
  obtain ⟨hk2, hb2⟩ := (s.taken u).beginRuns_spec (s.on F.UNIT_FSTOP_ACCUM u) (s.leavesOf_nodup u)
  obtain ⟨hk3, hb3⟩ := State.ownAborts_spec s2 (tickAt n) (s.leavesOf_nodup u) hb2
  have h3 : s2.KeepsUnits s3 ∧ ∀ l ∈ s.leavesOf u, s3.begun l ∧ (s.rd F.ID_STAT_STATE 0 = 5 → s3.parted l) := by
    unfold s3
    split
    · exact ⟨hk3, fun l hl => ⟨(hb3 l hl).1, fun _ => (hb3 l hl).2⟩⟩
    · next h5 => exact ⟨.refl s2, fun l hl => ⟨hb2 l hl, fun h => absurd h h5⟩⟩
  have hend (l : Nat) : s3.Stays l [] (fun x => x) (fun x => x) ((s3.journalStart u).occursStart u (tickAt n)) :=
    State.Stays.rfl.journalStart.occursStart
  refine ⟨(hk2.trans h3.1).trans (hend 0).keepsUnits, fun l hl => ?_⟩
  obtain ⟨hb, hpart⟩ := h3.2 l hl
  refine ⟨State.begun_of_stays ((hend l).weaken (List.Subset.refl _) (fun _ _ e => congrArg Leaf.phase e) fun _ _ e => e) hb, fun h5 => ?_⟩
  rw [State.parted, (hend l).leaf]
  exact hpart h5

/-- R89: the start of a cluster group that a member module is late for. -/
theorem runStart_late {u n : Nat} {l m : Fin 16} (hp : (s.unit u).pending = some n) (hn : n ≤ s.tick)
    (hall : ∀ l ∈ s.leavesOf u, (s.leaf l).phase = .armed ∧
      (s.leaf l).aborts.all (fun a => a.vec.isSome || decide (tickAt n ≤ a.notBefore)) = true) (hu : 256 ≤ u) :
    (s.taken u).KeepsUnits (runStart u (some (l, m)) s) ∧
      ∀ k ∈ s.leavesOf u, (runStart u (some (l, m)) s).late (fun k => (s.leaf k).drv) k := by
  rw [runStart_of_due hp hn hall, if_neg (Nat.not_lt.2 hu)]
  exact (s.taken u).endLate_spec l.val m.val (s.leavesOf_nodup u)

/-! ### The command -/

theorem State.taken_pending (s : State) (u : Nat) : ((s.taken u).unit u).pending = none := congrArg UnitSt.pending (s.unit_setUnit_self u _)

theorem State.keepsMem_taken (s : State) (u : Nat) : s.keepsMem (s.taken u) := s.keepsMem_setUnit u _

/-- R232, R244: a raster run begins with its frame 0, beside what the leaves begin with. -/
theorem unitRunStart_stays (s : State) (u l : Nat) (late : Option (Fin 16 × Fin 16)) :
    (runStart u late s).Stays l [] (fun x => x) (fun x => x) (unitRunStart u late s) := by
  unfold unitRunStart
  extract_lets s1
  exact .ite (State.Stays.parts .rfl).wrs .rfl

end

end Sys2Proof.Machine

namespace Sys2Proof.Settled

open Sys2Proof.Machine

set_option Elab.async false

/-- Settles O21: the start is taken, and every leaf begins, or ends START_LATE. -/
theorem runStart : Obligations.RunStart := by
  intro s u n hp hn hall
  refine ⟨fun late hlate => ⟨_, rfl, ?_⟩, fun l m hu => ⟨_, rfl, ?_⟩⟩
  · obtain ⟨hk, hb⟩ := runStart_begins hp hn hall hlate
    have hend := unitRunStart_stays s (uix u)
    refine ⟨(((hend 0 late).pending _).trans (hk.pending _)).trans (s.taken_pending _), fun l hl => ?_,
      State.keepsMem_trans (State.keepsMem_trans (s.keepsMem_taken _) hk.mem) (hend 0 late).keepsMem⟩
    obtain ⟨hbegun, hpart⟩ := hb l hl
    obtain ⟨hstate, hvcount, hgap, hcause, hphase⟩ := State.begun_of_stays
      ((hend l late).weaken (List.Subset.refl _) (fun _ _ e => congrArg Leaf.phase e) fun _ _ e => e) hbegun
    refine ⟨hstate, hvcount, hgap, hcause, hphase, fun h5 => ?_⟩
    have hleaf := (hend l late).leaf
    obtain ⟨a, ha, hc⟩ := hpart h5
    exact ⟨a, hleaf ▸ ha, hc⟩
  · obtain ⟨hk, hlate⟩ := runStart_late (l := l) (m := m) hp hn hall hu
    have hend := unitRunStart_stays s (uix u) (late := some (l, m))
    refine ⟨(((hend 0).pending _).trans (hk.pending _)).trans (s.taken_pending _), fun k hl => ?_,
      State.keepsMem_trans (State.keepsMem_trans (s.keepsMem_taken _) hk.mem) (hend 0).keepsMem⟩
    obtain ⟨hstate, hvcount, hcause, hphase, hdrv⟩ := hlate k hl
    have hcell (g : Fld) (hg : g.key < 23) := (hend k).cells g k hg fun _ => List.not_mem_nil
    have hleaf := (hend k).leaf
    exact ⟨(hcell _ (by decide)).trans hstate, (hcell _ (by decide)).trans hvcount, (hcell _ (by decide)).trans hcause,
      (congrArg Leaf.phase hleaf).trans hphase, (congrArg Leaf.drv hleaf).trans hdrv⟩

end Sys2Proof.Settled
end

section
/-! PROOFS. What a bead boundary looks at, and the steps that follow it (R66 to R76, R82 to R85, R97, R119). -/

namespace Sys2Proof.Machine

set_option Elab.async false

section
variable {α β : Type} {σ s t : State} {l : Nat} {own : List Nat} {V : Leaf → α} {W : Leaf → β}

/-! ### What the checks of a bead look at -/

/-- What the checks at a bead boundary look at beside the leaf: its bead cache, the routines dispatched and running, the strand table and
the replay. -/
structure Store where
  cache : Cache
  fifo : List Disp
  run : Option Routine
  strands : StrandSt
  replay : Replay

def State.store (s : State) (l : Nat) : Store := ⟨s.cache l, (s.eng l).fifo, (s.eng l).run, s.strands, s.jn.replay⟩

theorem State.store_goto (s : State) (t l : Nat) : (s.goto t).store l = s.store l := by
  obtain ⟨r, n, b, sh, v, h⟩ := s.goto_onlyClock t
  rw [h]
  rfl

theorem State.store_setLeaf (s : State) (k l : Nat) (x : Leaf) : (s.setLeaf k x).store l = s.store l := rfl

theorem State.store_wrs (s : State) (ws : List (Fld × Nat × Nat)) (l : Nat) : (s.wrs ws).store l = s.store l := by
  obtain ⟨r, h⟩ := s.wrs_regs ws
  rw [h]
  rfl

theorem State.store_journal (s : State) (typ leaf : Nat) (rep : Bool) (body l : Nat) : (s.journal typ leaf rep body).store l = s.store l := by
  have hrep := (State.Frame.journal (typ := typ) (leaf := leaf) (rep := rep) (body := body) (State.Frame.rfl (s := s) (ex := []))).replay
  obtain ⟨r, e, m, j, h⟩ := s.journal_onlyJn typ leaf rep body
  rw [h] at hrep ⊢
  exact congrArg (Store.mk _ _ _ _) hrep

theorem State.store_foldl {γ : Type} {as : List γ} {g : State → γ → State} (hg : ∀ (t : State) a, (g t a).store l = t.store l) (s : State) :
    (as.foldl g s).store l = s.store l :=
  List.foldlRecOn as g (motive := fun t : State => t.store l = s.store l) rfl fun t ht a _ => (hg t a).trans ht

theorem State.store_mapLoops (s : State) (l : Nat) (f : List (Nat × Nat) → List (Nat × Nat)) : (s.mapLoops l f).store l = s.store l := by
  have hengine : ∃ g : Engine, (s.mapLoops l f).eng l = g ∧ g.fifo = (s.eng l).fifo ∧ g.run = (s.eng l).run :=
    ⟨_, State.eng_setEng_self _ _ _, rfl, rfl⟩
  obtain ⟨g, hg, hfifo, hrun⟩ := hengine
  rw [State.store, State.store, hg, hfifo, hrun]
  rfl

/-- The places of a leaf that the checks of the bead there look at. -/
structure Leaf.SameSpot (x y : Leaf) : Prop where
  strand : x.strand = y.strand
  bead : x.bead = y.bead
  beadSeq : x.beadSeq = y.beadSeq
  curRing : x.curRing = y.curRing
  enter : x.enter = y.enter
  moved : x.moved = y.moved
  seamIn : x.seamIn = y.seamIn

theorem State.desc_of_store (hs : t.store l = s.store l) (id : Nat) : t.desc id = s.desc id := by
  have hstrands : t.strands = s.strands := congrArg Store.strands hs
  rw [State.desc, State.desc, hstrands]

theorem State.cache_of_store (hs : t.store l = s.store l) : t.cache l = s.cache l := congrArg Store.cache hs

theorem State.beadSlot_of_store (hs : t.store l = s.store l) (hr : (t.leaf l).curRing = (s.leaf l).curRing) (strand bead : Nat) :
    t.beadSlot l strand bead = s.beadSlot l strand bead := by
  simp only [State.beadSlot, State.pinned, Cache.ahead, State.cache_of_store hs, State.desc_of_store hs, hr]

theorem State.beadFault_of_store (hs : t.store l = s.store l) (c : CSlot) (strand bead : Nat) :
    t.beadFault c strand bead = s.beadFault c strand bead := by
  simp only [State.beadFault, State.desc_of_store hs]

/-- R67, R68, R60, R75: the checks of the bead at a leaf's place. -/
theorem State.beadCheck_of_store (hs : t.store l = s.store l) (hx : (t.leaf l).SameSpot (s.leaf l)) (le : Nat) (checkRes : Bool) (par : Nat) :
    t.beadCheck l le checkRes par = s.beadCheck l le checkRes par := by
  obtain ⟨hstrand, hbead, -, hring, henter, hmoved, hseam⟩ := hx
  simp only [State.beadCheck, hstrand, hbead, henter, hmoved, hseam, State.desc_of_store hs, State.beadSlot_of_store hs hring,
    State.beadFault_of_store hs, State.cache_of_store hs]

/-- R119: the routine that is late at a leaf's place. -/
theorem State.missedFlow_of_store (hs : t.store l = s.store l) (hb : (t.leaf l).beadSeq = (s.leaf l).beadSeq) :
    t.missedFlow l = s.missedFlow l := by
  have hfifo : (t.eng l).fifo = (s.eng l).fifo := (congrArg Store.fifo hs :)
  have hrun : (t.eng l).run = (s.eng l).run := (congrArg Store.run hs :)
  unfold State.missedFlow
  simp only [hb, hfifo, hrun]

/-! ### What the steps change -/

/-- What begins with a bead: the bead's number in the run, the place in it, and whether a boundary is due. -/
def Leaf.spot (x : Leaf) : Nat × Nat × Bool := (x.beadSeq, x.off, x.bdue)

theorem State.Stays.reveal {c : Ctx} {k : Nat} (h : σ.Stays l own V W s) : σ.Stays l own V W (s.reveal k c) :=
  State.Stays.wrs h.parts (by rw [List.all_map, List.all_eq_true]; exact fun _ _ => Eq.refl _)

theorem State.Stays.publish {t : Nat} {c : Ctx} (h : σ.Stays l own Leaf.spot W s) : σ.Stays l own Leaf.spot W (s.publish l t c) := by
  unfold State.publish
  extract_lets s1
  have h1 : σ.Stays l own Leaf.spot W s1 := h.reveal
  exact .ite h1.setLeaf h1

theorem State.Stays.freeAhead {k more : Nat} {cur : Option FetchCur} (h : σ.Stays l own V W s) : σ.Stays l own V W (s.freeAhead k more cur) :=
  h.parts

theorem State.Stays.abandon {b : Nat} (h : σ.Stays l own Leaf.spot W s) : σ.Stays l own Leaf.spot W (s.abandon l b) :=
  State.Stays.parts (h.setLeaf (x := { s.leaf l with queue := (s.leaf l).queue.filter fun q => decide (q.beadSeq ≤ b) }))

theorem State.Stays.latchJump {cls target t : Nat} (h : σ.Stays l own Leaf.spot W s) :
    σ.Stays l own Leaf.spot W (s.latchJump l cls target t) := by
  unfold State.latchJump
  extract_lets x b hold x1 s2
  have h2 : σ.Stays l own Leaf.spot W s2 := (h.setLeaf (x := x1)).abandon
  split
  · split
    · exact h2.freeAhead
    · exact h2
  · exact h

theorem State.Stays.ownAbort {cause t : Nat} (h : σ.Stays l own Leaf.spot W s) : σ.Stays l own Leaf.spot W (s.ownAbort l cause t) := h.setLeaf

theorem State.Stays.setEng {k : Nat} {g : Engine} (h : σ.Stays l own V W s) : σ.Stays l own V W (s.setEng k g) := h.parts

theorem State.Stays.addArm {t cond target qid : Nat} (h : σ.Stays l own Leaf.spot W s) :
    σ.Stays l own Leaf.spot W (s.addArm l t cond target qid) := by
  unfold State.addArm
  extract_lets x g
  split
  · exact h.setEng
  · extract_lets n out s1
    have h1 : σ.Stays l own Leaf.spot W s1 := h.setEng
    exact .ite h.setEng (.ite (.ite h1.latchJump h1) h.ownAbort)

theorem State.Stays.opEvent {k qid code : Nat} (h : σ.Stays l own V W s) : σ.Stays l own V W (s.opEvent k qid code) := by
  unfold State.opEvent
  split
  · exact h.occurs
  · split
    · exact .ite h.occurs h.parts
    · exact h.parts

theorem State.Stays.applyEffs {t : Nat} {es : List Eff} (h : σ.Stays l own Leaf.spot W s) : σ.Stays l own Leaf.spot W (s.applyEffs l t es) := by
  induction es generalizing s with
  | nil => exact h
  | cons e es ih =>
    cases e with
    | jump target => exact ih h.latchJump
    | seamEnd => exact ih h.setLeaf
    | arm cond target qid => exact ih h.addArm
    | event code qid => exact ih h.opEvent

/-- R114: the commits staged for the bead that begins change nothing of where the leaf stands. -/
theorem State.Stays.release {le : Nat} (h : σ.Stays l own Leaf.spot W s) : σ.Stays l own Leaf.spot W (s.release l le) :=
  h.setEng.foldl fun _ _ h => h.publish.applyEffs

theorem State.Stays.tellAll {m : CluMsg} (h : σ.Stays l own V W s) : σ.Stays l own V W (s.tellAll m) := .ite (h.foldl fun _ _ h => h.tell) h

theorem State.Stays.firePulse {k strand t : Nat} {entry seam : Bool} (h : σ.Stays l own V W s) :
    σ.Stays l own V W (s.firePulse k strand t entry seam) := by
  unfold State.firePulse
  extract_lets d p s0 sa s1 s2
  have h0 : σ.Stays l own V W s0 := h.parts
  have ha : σ.Stays l own V W sa := .ite h0.occurs h0
  have h1 : σ.Stays l own V W s1 := .ite ha.occurs ha
  have h2 : σ.Stays l own V W s2 := h1.occurs
  exact .ite (.ite h2.tellAll h2) h1

theorem State.Stays.journalFault {k cause strand bead off bytePos detail : Nat} (h : σ.Stays l own V W s) :
    σ.Stays l own V W (s.journalFault k cause strand bead off bytePos detail) := h.journal

/-! ### A bead that begins -/

/-- The leaf's own registers that a bead's beginning may change. -/
abbrev beginKeys : List Nat :=
  [F.UNIT_STATUS_CUR_STRAND.key, F.UNIT_STATUS_CUR_BEAD.key, F.UNIT_SAFEPT_STRAND.key, F.UNIT_SAFEPT_BEAD.key, F.UNIT_SAFEPT_VALID.key]

/-- R66, R67: the bead at the place of the leaf in s is the current one in u, at its first vector. -/
structure State.BeadBegun (s : State) (l : Nat) (u : State) : Prop where
  rest : s.Stays l beginKeys (fun _ => ()) (fun x => x) u
  spot : (u.leaf l).spot = ((s.leaf l).beadSeq + 1, 0, false)
  curStrand : u.rd F.UNIT_STATUS_CUR_STRAND l = (s.leaf l).strand % 2 ^ 16
  curBead : u.rd F.UNIT_STATUS_CUR_BEAD l = (s.leaf l).bead % 2 ^ 24

theorem State.beginBead_begun (s : State) (l k le : Nat) : s.BeadBegun l (s.beginBead l k le) := by
  unfold State.beginBead
  extract_lets x c pinned drop s0 x0 t x1 x2 s1 s2 s3 ring _ s4
  have h0 : s.Stays l [] Leaf.spot (fun x => x) s0 := .ite (State.Stays.abandon .rfl) .rfl
  have hseq : x0.beadSeq = x.beadSeq := (congrArg Prod.fst h0.leaf :)
  have hx2 : x2.spot = (x.beadSeq + 1, 0, false) := by
    have hx1 : x1.spot = (x.beadSeq + 1, 0, false) := by rw [← hseq]; rfl
    unfold x2
    split
    · exact hx1
    · exact hx1
  have h1 : s0.Stays l beginKeys (fun _ => ()) (fun x => x) s1 := State.Stays.wrsOwn (State.Stays.setLeaf .rfl)
  have hspot1 : (s1.leaf l).spot = (x.beadSeq + 1, 0, false) := by
    have hw : (s0.setLeaf l x2).Stays l beginKeys Leaf.spot (fun x => x) s1 := State.Stays.wrsOwn .rfl
    rw [hw.leaf, State.leaf_setLeaf_self, hx2]
  have h2 : s1.Stays l [F.UNIT_SAFEPT_STRAND.key, F.UNIT_SAFEPT_BEAD.key, F.UNIT_SAFEPT_VALID.key] Leaf.spot (fun x => x) s2 :=
    .ite (State.Stays.wrsOwn .rfl) .rfl
  have h3 : s2.Stays l [] Leaf.spot (fun x => x) s3 := .ite (State.Stays.firePulse .rfl) .rfl
  have h4 : s2.Stays l [] Leaf.spot (fun x => x) s4 := h3.parts
  have hend : s2.Stays l [] Leaf.spot (fun x => x) ((s4.latchTrims l).release l le) := State.Stays.release (State.Stays.parts h4)
  generalize (s4.latchTrims l).release l le = u at hend
  have hcell (f : Fld) (v : Nat) (hf : f.key < 23) (hn : f.key ∉ [F.UNIT_SAFEPT_STRAND.key, F.UNIT_SAFEPT_BEAD.key, F.UNIT_SAFEPT_VALID.key])
      (hm : (f, l, v) ∈ [(F.UNIT_STATUS_CUR_STRAND, l, x.strand), (F.UNIT_STATUS_CUR_BEAD, l, x.bead)]) : u.rd f l = v % 2 ^ f.w :=
    ((hend.cells f l hf fun _ => List.not_mem_nil).trans (h2.cells f l hf fun _ => hn)).trans
      (State.wrs_rd_of_mem _ (by simp) (by simp) hm)
  refine ⟨?_, (hend.leaf.trans h2.leaf).trans hspot1, hcell F.UNIT_STATUS_CUR_STRAND x.strand (by decide) (by decide) (by simp),
    hcell F.UNIT_STATUS_CUR_BEAD x.bead (by decide) (by decide) (by simp)⟩
  exact (((h0.weaken (by simp) (fun _ _ _ => rfl) fun _ _ e => e).trans h1).trans (h2.weaken (by decide) (fun _ _ _ => rfl) fun _ _ e => e)).trans
    (hend.weaken (by simp) (fun _ _ _ => rfl) fun _ _ e => e)

/-! ### A bead that cannot be filled -/

/-- What a leaf's own command that asks for an abort of a cause from t on leaves. -/
structure State.AsksAbort (s : State) (l cause t : Nat) (u : State) : Prop where
  mem : s.keepsMem u
  asked : ∃ a, (u.leaf l).aborts = (s.leaf l).aborts ++ [a] ∧ a.cause = cause ∧ a.notBefore = t

theorem State.AsksAbort.ownAbort {cause t : Nat} (hm : σ.keepsMem s) (ha : (s.leaf l).aborts = (σ.leaf l).aborts) :
    σ.AsksAbort l cause t (s.ownAbort l cause t) := by
  obtain ⟨a, h, hc, hn⟩ := s.ownAbort_aborts l cause t
  exact ⟨State.keepsMem_trans hm (s.ownAbort_stays l cause t).keepsMem, a, h.trans (by rw [ha]), hc, hn⟩

theorem State.Stays.askFetch {k : Nat} {f : Fetch} (h : σ.Stays l own V W s) : σ.Stays l own V W (s.askFetch k f) := by
  unfold State.askFetch
  obtain ⟨c, hc⟩ := (s.setCache k { s.cache k with fetches := (s.cache k).fetches ++ [f] }).askFar_onlyClu k f
  rw [hc]
  exact h.parts

theorem State.Stays.refetch {k strand bead : Nat} (h : σ.Stays l own V W s) : σ.Stays l own V W (s.refetch k strand bead) := by
  unfold State.refetch
  split
  · exact h
  · extract_lets c _ s1
    have h1 : σ.Stays l own V W s1 := h.parts
    exact h1.askFetch

/-- R83: a hold begun at the leaf's place. -/
def State.Holds (l : Nat) (d : Hold) (s : State) : Prop := (s.leaf l).hold = some d ∧ s.rd F.UNIT_STATUS_HOLDING l = 1

theorem State.beginHold_holds (s : State) (l : Nat) (d : Hold) : (s.beginHold l d).Holds l d := by
  unfold State.beginHold
  extract_lets s1
  have h : (s1.setLeaf l { s1.leaf l with hold := some d }).Stays l [] (fun x => x) (fun x => x)
      ((s1.setLeaf l { s1.leaf l with hold := some d }).raiseInt l 2) := State.Stays.raiseInt .rfl
  have hcell : s1.rd F.UNIT_STATUS_HOLDING l = 1 := s.wrs_rd_of_mem (v := 1) (by simp) (by simp) (by simp)
  exact ⟨by rw [h.leaf, State.leaf_setLeaf_self], (h.cells _ l (by decide) fun _ => List.not_mem_nil).trans hcell⟩

theorem State.beginHold_keepsMem (s : State) (l : Nat) (d : Hold) : s.keepsMem (s.beginHold l d) := by
  unfold State.beginHold
  extract_lets s1
  have h1 : s.Stays l [F.UNIT_STATUS_HOLDING.key, F.UNIT_STATUS_TIMING_BROKEN.key] (fun _ => ()) (fun x => x) s1 := State.Stays.wrsOwn .rfl
  exact (State.Stays.raiseInt h1.setLeaf).keepsMem

theorem State.Holds.stays {d : Hold} (h : s.Holds l d) (hst : s.Stays l [] (fun x => x) W t) : t.Holds l d :=
  ⟨(congrArg Leaf.hold hst.leaf).trans h.1, (hst.cells _ l (by decide) fun _ => List.not_mem_nil).trans h.2⟩

/-- R82, R83: a leaf whose strand's policy is to hold. -/
theorem State.starve_holds {cause strand bead off bytePos detail : Nat} (hh : s.holds l strand = true) :
    s.keepsMem (s.starve l cause strand bead off bytePos detail) ∧
      ∃ d, d.cause = cause ∧ (s.starve l cause strand bead off bytePos detail).Holds l d := by
  unfold State.starve
  extract_lets x s0 s1 s2 s3
  rw [if_pos hh]
  have h2 : s.Stays l [F.UNIT_STATUS_UNDERRUN.key] Leaf.body (fun x => x) s2 := by
    have h0 : s.Stays l [F.UNIT_STATUS_UNDERRUN.key] Leaf.body (fun x => x) s0 := .ite .rfl (State.Stays.journalFault .rfl)
    have h1 : s.Stays l [F.UNIT_STATUS_UNDERRUN.key] Leaf.body (fun x => x) s1 := h0.flagUnderrun
    exact .ite h1.wrOwn h1
  have hhold : ∃ d, d.cause = cause ∧ s3.Holds l d := ⟨_, rfl, s2.beginHold_holds l _⟩
  have hmem3 : s.keepsMem s3 := State.keepsMem_trans h2.keepsMem (s2.beginHold_keepsMem l _)
  have hend : s3.Stays l [] (fun x => x) (fun x => x) (if cause = 0x03 ∨ cause = 0x04 then s3.refetch l strand bead
      else if cause = 0x05 ∧ (s.beadSlot l strand bead).isNone then s3.freeAhead l 0 (some { strand := strand, bead := bead, loops := [] })
      else s3) := .ite (State.Stays.refetch .rfl) (.ite (State.Stays.freeAhead .rfl) .rfl)
  obtain ⟨d, hd, hs3⟩ := hhold
  exact ⟨State.keepsMem_trans hmem3 hend.keepsMem, d, hd, hs3.stays hend⟩

/-- R85: a leaf whose strand's policy is to abort. -/
theorem State.starve_aborts {cause strand bead off bytePos detail : Nat} (hh : s.holds l strand = false) :
    s.AsksAbort l cause (s.leaf l).nextStart (s.starve l cause strand bead off bytePos detail) := by
  unfold State.starve
  extract_lets x s0 s1 s2 s3
  rw [if_neg (by simp [hh])]
  have h2 : s.Stays l [F.UNIT_STATUS_UNDERRUN.key] Leaf.aborts (fun x => x) s2 := by
    have h0 : s.Stays l [F.UNIT_STATUS_UNDERRUN.key] Leaf.aborts (fun x => x) s0 := .ite .rfl (State.Stays.journalFault .rfl)
    have h1 : s.Stays l [F.UNIT_STATUS_UNDERRUN.key] Leaf.aborts (fun x => x) s1 := h0.flagUnderrun
    exact .ite h1.wrOwn h1
  have h3 : s.Stays l [F.UNIT_STATUS_UNDERRUN.key] Leaf.aborts (fun x => x) ((s2.setLeaf l { s2.leaf l with hold := none }).raiseInt l 6) :=
    State.Stays.raiseInt h2.setLeaf
  exact .ownAbort h3.keepsMem h3.leaf

end

end Sys2Proof.Machine
end

section
/-! PROOFS. BEAD_BOUNDARY (R66, R67, R70, R79, R82, R83, R119). -/

namespace Sys2Proof.Machine

set_option Elab.async false

section
variable {α β : Type} {σ s t : State} {l : Nat} {own : List Nat} {V : Leaf → α} {W : Leaf → β}

/-! ### The place moves -/

theorem State.Stays.mapLoops {k : Nat} {f : List (Nat × Nat) → List (Nat × Nat)} (h : σ.Stays l own V W s) :
    σ.Stays l own V W (s.mapLoops k f) := State.Stays.parts h.setEng

/-- R73, R74: the jump that applies and those it supersedes, journalled; the micro loops it empties. -/
def State.jumpTaken (s : State) (l le : Nat) (n : NextB) : State :=
  match n.jump with
  | none => s
  | some j =>
    let x := s.leaf l
    let gone := x.jumps.filter (fun j => decide (j.at_ ≤ le))
    let s0 := (gone.erase j).foldl (fun (s : State) g => s.journalJump l x.strand g true) s
    (s0.journalJump l x.strand j false).mapLoops l (fun _ => [])

/-- R73, R76, R79: a leaf whose place has moved to what plays next. -/
def Leaf.movedTo (x : Leaf) (le : Nat) (n : NextB) (vcount : Nat) : Leaf :=
  { x with
    strand := n.strand, bead := n.bead, loops := n.loops, jumps := x.jumps.filter (fun j => !decide (j.at_ ≤ le)), moved := true,
    seamIn := n.seam, seamEnd := x.seamEnd && (n.jump.isNone || n.strand == x.strand),
    jumpAt := if n.jump.isSome then some vcount else x.jumpAt,
    enter := n.jump.isSome || n.seam || decide (x.beadSeq = 0) || (x.moved && x.enter),
    lastStrand := if x.beadSeq = 0 then n.strand else if x.moved then x.lastStrand else x.strand }

theorem State.jumpTaken_stays (s : State) (l le : Nat) (n : NextB) : s.Stays l [] (fun x => x) (fun x => x) (s.jumpTaken l le n) := by
  unfold State.jumpTaken
  split
  · exact .rfl
  · exact (State.Stays.foldl .rfl fun _ _ h => h.journalJump).journalJump.mapLoops

theorem State.store_jumpTaken (s : State) (l le : Nat) (n : NextB) : (s.jumpTaken l le n).store l = s.store l := by
  unfold State.jumpTaken
  split
  · rfl
  · rw [State.store_mapLoops, State.journalJump, State.store_journal]
    exact State.store_foldl (fun t g => t.store_journal _ _ _ _ _) s

theorem State.moveTo_eq (s : State) (l le : Nat) (n : NextB) :
    s.moveTo l le n = ((s.jumpTaken l le n).setLeaf l ((s.leaf l).movedTo le n (s.rd F.UNIT_VCOUNT_VCOUNT l))).lowerLoops l := by
  have hleaf : (s.jumpTaken l le n).leaf l = s.leaf l := (s.jumpTaken_stays l le n).leaf
  have h : s.moveTo l le n = ((s.jumpTaken l le n).setLeaf l { (s.jumpTaken l le n).leaf l with
      strand := n.strand, bead := n.bead, loops := n.loops, jumps := (s.leaf l).jumps.filter (fun j => !decide (j.at_ ≤ le)), moved := true,
      seamIn := n.seam, seamEnd := ((s.jumpTaken l le n).leaf l).seamEnd && (n.jump.isNone || n.strand == (s.leaf l).strand),
      jumpAt := if n.jump.isSome then some (s.rd F.UNIT_VCOUNT_VCOUNT l) else ((s.jumpTaken l le n).leaf l).jumpAt,
      enter := n.jump.isSome || n.seam || decide ((s.leaf l).beadSeq = 0) || ((s.leaf l).moved && (s.leaf l).enter),
      lastStrand := if (s.leaf l).beadSeq = 0 then n.strand else if (s.leaf l).moved then (s.leaf l).lastStrand else (s.leaf l).strand }).lowerLoops l := rfl
  rw [h, hleaf]
  rfl

theorem State.store_moveTo (s : State) (l le : Nat) (n : NextB) : (s.moveTo l le n).store l = s.store l := by
  rw [State.moveTo_eq, State.lowerLoops, State.store_mapLoops, State.store_setLeaf, State.store_jumpTaken]

theorem State.moveTo_leaf (s : State) (l le : Nat) (n : NextB) :
    (s.moveTo l le n).leaf l = (s.leaf l).movedTo le n (s.rd F.UNIT_VCOUNT_VCOUNT l) := by
  rw [State.moveTo_eq]
  exact State.leaf_setLeaf_self _ l _

theorem State.Stays.moveTo {le : Nat} {n : NextB} (h : σ.Stays l own (fun _ => ()) (fun x => x) s) :
    σ.Stays l own (fun _ => ()) (fun x => x) (s.moveTo l le n) := by
  rw [State.moveTo_eq]
  have h1 := h.trans ((s.jumpTaken_stays l le n).weaken (List.nil_subset own) (V' := fun _ => ()) (fun _ _ _ => Eq.refl _) fun _ _ e => e)
  exact State.Stays.mapLoops h1.setLeaf

/-- R66: what plays at a boundary does not change as the clock moves to it. -/
theorem State.nextB_goto (s : State) (t l le : Nat) : (s.goto t).nextB l le = s.nextB l le := by
  obtain ⟨r, n, b, sh, v, h⟩ := s.goto_onlyClock t
  rw [h]
  rfl

/-- R119, R83: what a leaf is found to do at its place, where the leaf is the same. -/
theorem Leaf.sameSpot_of_eq {x y : Leaf} (h : x = y) : x.SameSpot y := h ▸ ⟨rfl, rfl, rfl, rfl, rfl, rfl, rfl⟩

theorem State.holds_of_store (hs : t.store l = s.store l) (hx : t.leaf l = s.leaf l) (strand : Nat) : t.holds l strand = s.holds l strand := by
  rw [State.holds, State.holds, hx, State.desc_of_store hs]

theorem State.willHold_of_store (hs : t.store l = s.store l) (hx : t.leaf l = s.leaf l) (c : BeadCheck) : t.willHold l c = s.willHold l c := by
  cases c with
  | unused => rfl
  | ok k => rfl
  | fault f => exact (State.holds_of_store hs hx _).trans (by rw [hx]; rfl)

/-! ### The run stops -/

theorem State.Stays.restPins {k : Nat} (h : σ.Stays l own (fun _ => ()) (fun _ => ()) s) :
    σ.Stays l own (fun _ => ()) (fun _ => ()) (s.restPins k) := h.setLeafAny

theorem State.endRun_spec (s : State) (l : Nat) :
    ((s.endRun l).leaf l).phase = .ended ∧ ((s.endRun l).leaf l).queue = [] ∧ s.keepsMem (s.endRun l) := by
  have hleaf : ∃ x : Leaf, (s.endRun l).leaf l = x ∧ x.phase = .ended ∧ x.queue = [] := ⟨_, State.leaf_setLeaf_self _ _ _, rfl, rfl⟩
  obtain ⟨x, hx, hphase, hqueue⟩ := hleaf
  have h : s.Stays l [] (fun _ => ()) (fun _ => ()) (s.endRun l) := State.Stays.setLeafAny (State.Stays.restPins .rfl)
  exact ⟨(congrArg Leaf.phase hx).trans hphase, (congrArg Leaf.queue hx).trans hqueue, h.keepsMem⟩

/-! ### A routine late, an unused descriptor -/

theorem State.flowLate_asksAbort (s : State) (l : Nat) (d : Disp) (pc t : Nat) : s.AsksAbort l 0x07 t (s.flowLate l d pc t) := by
  unfold State.flowLate
  extract_lets s1 s2
  have h1 : s.Stays l [] (fun x => x) (fun x => x) s1 := State.Stays.wrs .rfl
  have h2 : s.Stays l [] (fun x => x) (fun x => x) s2 := h1.raise
  have h3 := h2.journalFault (k := l) (cause := 0x07) (strand := d.strand) (bead := d.bead) (off := d.off) (bytePos := 0)
    (detail := pack [(0, 12, eAddr d.entry), (12, 12, pc)])
  exact .ownAbort h3.keepsMem (congrArg Leaf.aborts h3.leaf)

theorem State.AsksAbort.after {cause t : Nat} {u : State} (h : s.AsksAbort l cause t u) (hm : σ.keepsMem s)
    (ha : (s.leaf l).aborts = (σ.leaf l).aborts) : σ.AsksAbort l cause t u := by
  obtain ⟨a, haborts, hc, hn⟩ := h.asked
  exact ⟨State.keepsMem_trans hm h.mem, a, haborts.trans (by rw [ha]), hc, hn⟩

theorem State.tryBegin_ok {le par k : Nat} {checkRes : Bool} (hc : s.beadCheck l le checkRes par = .ok k) :
    s.tryBegin l le checkRes par = s.beginBead l k le := by
  simp only [State.tryBegin, hc]

theorem State.tryBegin_fault {le par f : Nat} {checkRes : Bool} (hc : s.beadCheck l le checkRes par = .fault f) :
    s.tryBegin l le checkRes par = s.starve l f (s.leaf l).strand (s.leaf l).bead 0 0 0 := by
  simp only [State.tryBegin, hc]

/-- R75, R97: the descriptor at the leaf's place names no strand. -/
theorem State.tryBegin_unused {le par : Nat} {checkRes : Bool} (hc : s.beadCheck l le checkRes par = .unused) :
    s.AsksAbort l 0x05 (s.leaf l).nextStart (s.tryBegin l le checkRes par) ∧
      (s.tryBegin l le checkRes par).rd F.UNIT_STATUS_UNDERRUN l = 1 := by
  let s1 := (s.journalFault l 0x05 (s.leaf l).strand 0 0 0 0).wr F.UNIT_STATUS_UNDERRUN l 1
  have ht : s.tryBegin l le checkRes par = (s1.flagUnderrun l (s.leaf l).nextStart).ownAbort l 0x05 (s.leaf l).nextStart := by
    simp only [State.tryBegin, hc]
    rfl
  have h1 : s.Stays l [F.UNIT_STATUS_UNDERRUN.key] Leaf.aborts (fun x => x) s1 := State.Stays.wrOwn (State.Stays.journalFault .rfl)
  have hend : s1.Stays l [] Leaf.phase (fun x => x) ((s1.flagUnderrun l (s.leaf l).nextStart).ownAbort l 0x05 (s.leaf l).nextStart) :=
    (State.Stays.flagUnderrun .rfl).trans (State.ownAbort_stays _ _ _ _)
  rw [ht]
  exact ⟨.ownAbort h1.flagUnderrun.keepsMem h1.flagUnderrun.leaf,
    (hend.cells _ l (by decide) fun _ => List.not_mem_nil).trans (State.rd_wr_self _ _ l 1)⟩

/-! ### The boundary -/

/-- R66: a leaf in play stands at a bead boundary whose launch edge is due, in no hold and with no abort due there, nothing replayed. -/
structure State.AtBoundary (s : State) (l : Nat) : Prop where
  play : (s.leaf l).phase = .play
  due : (s.leaf l).bdue = true
  hold : (s.leaf l).hold = none
  vhold : (s.leaf l).vhold = false
  abort : (s.leaf l).abortNow (s.atEnd l) = []
  replay : s.jn.replay.active = false
  edge : s.due (edgeOf (s.leaf l).nextStart) = true

/-- The state at the boundary's launch edge, the leaf moved to what plays next. -/
def State.atNext (s : State) (l : Nat) : State :=
  (s.goto (edgeOf (s.leaf l).nextStart)).moveTo l (edgeOf (s.leaf l).nextStart) (s.nextB l (edgeOf (s.leaf l).nextStart))

theorem State.replayJump_of_inactive (h : s.jn.replay.active = false) (l : Nat) : s.replayJump l = none := by
  simp [State.replayJump, State.replayRec_of_inactive h]

theorem State.missedFlow_goto (s : State) (t l : Nat) : (s.goto t).missedFlow l = s.missedFlow l :=
  State.missedFlow_of_store (s.store_goto t l) (congrArg Leaf.beadSeq (s.goto_leaf t l))

theorem State.replay_of_store (hs : t.store l = s.store l) (h : s.jn.replay.active = false) : t.jn.replay.active = false := by
  have hrep : t.jn.replay = s.jn.replay := congrArg Store.replay hs
  rw [hrep, h]

theorem State.store_atNext (s : State) (l : Nat) : (s.atNext l).store l = s.store l := (State.store_moveTo _ _ _ _).trans (s.store_goto _ l)

/-- R119, R66 to R70: which of the outcomes a boundary has. -/
theorem beadBoundary_cases {le par : Nat} {n : NextB} (h : s.AtBoundary l) (hle : le = edgeOf (s.leaf l).nextStart) (hn : s.nextB l le = n) :
    (s.missedFlow l = none →
      beadBoundary l par s = if n.stop then (s.goto le).endRun l else (s.atNext l).tryBegin l le true par) ∧
    (n.stop = false → (s.atNext l).willHold l ((s.atNext l).beadCheck l le true par) = true →
      beadBoundary l par s = (s.atNext l).tryBegin l le true par) ∧
    (∀ d, s.missedFlow l = some d → n.stop = true ∨ (s.atNext l).willHold l ((s.atNext l).beadCheck l le true par) = false →
      beadBoundary l par s = (s.goto le).flowLate l d.1 d.2 (s.leaf l).nextStart) := by
  subst hle hn
  have hrep0 : (s.goto (edgeOf (s.leaf l).nextStart)).jn.replay.active = false := by rw [s.goto_jn]; exact h.replay
  have hguard : (s.leaf l).phase = .play ∧ (s.leaf l).bdue = true ∧ (s.leaf l).hold.isNone = true ∧
      s.due (edgeOf (s.leaf l).nextStart) = true ∧ (s.leaf l).abortNow (s.atEnd l) = [] :=
    ⟨h.play, h.due, by rw [h.hold]; rfl, h.edge, h.abort⟩
  unfold beadBoundary
  extract_lets s' x le sj s0 n s1 forced
  have hs' : s = s' := (State.settle_of_vhold h.vhold).symm
  clear_value s'
  subst hs'
  rw [if_pos hguard]
  have hjump : sj.replayJump l = none := State.replayJump_of_inactive hrep0 l
  have hs0 : s0 = sj := by simp only [s0, hjump]
  have hn : n = s.nextB l le := by
    unfold n
    rw [hs0, s.nextB_goto]
  have hs1 : s1 = s.atNext l := by
    unfold s1
    rw [hs0, hn, State.checkFlow_of_inactive hrep0, State.atNext]
  have hforced : forced = none := by
    unfold forced
    rw [hs1, State.replayHold_of_inactive (State.replay_of_store (s.store_atNext l) h.replay)]
  have hmissed : s0.missedFlow l = s.missedFlow l := by rw [hs0, s.missedFlow_goto]
  rw [hforced, hmissed, hs1, hs0, hn]
  subst sj le x
  refine ⟨fun hm => ?_, fun hstop hw => ?_, fun d hm hw => ?_⟩
  · rw [hm]
  · rw [hstop, hw]
    cases s.missedFlow l with
    | none => rfl
    | some d => rfl
  · have hlate : ((s.nextB l (edgeOf (s.leaf l).nextStart)).stop ||
        !((none : Option Nat).isSome || (s.atNext l).willHold l ((s.atNext l).beadCheck l (edgeOf (s.leaf l).nextStart) true par))) = true := by
      rcases hw with hw | hw
      · rw [hw, Bool.true_or]
      · simp [hw]
    rw [hm, hlate]

end

end Sys2Proof.Machine
end

section
/-! PROOFS. The outcomes of BEAD_BOUNDARY (R66, R67, R70, R75, R82, R83, R97, R119). -/

namespace Sys2Proof.Machine

set_option Elab.async false

section
variable {s : State} {l : Nat}

/-- The leaf moved at the launch edge is the leaf moved at once: the clock changes nothing that the move looks at. -/
theorem State.atNext_leaf (s : State) (l : Nat) :
    (s.atNext l).leaf l = (s.moveTo l (edgeOf (s.leaf l).nextStart) (s.nextB l (edgeOf (s.leaf l).nextStart))).leaf l := by
  rw [State.atNext, State.moveTo_leaf, State.moveTo_leaf, s.goto_leaf, s.goto_rd _ F.UNIT_VCOUNT_VCOUNT l]

theorem State.atNext_stays (s : State) (l : Nat) : s.Stays l [] (fun _ => ()) (fun x => x) (s.atNext l) :=
  State.Stays.moveTo (State.Stays.goto .rfl)

/-- What a leaf that has moved keeps. -/
theorem State.atNext_spot (s : State) (l : Nat) :
    ((s.atNext l).leaf l).strand = (s.nextB l (edgeOf (s.leaf l).nextStart)).strand ∧
      ((s.atNext l).leaf l).bead = (s.nextB l (edgeOf (s.leaf l).nextStart)).bead ∧ ((s.atNext l).leaf l).beadSeq = (s.leaf l).beadSeq ∧
      ((s.atNext l).leaf l).nextStart = (s.leaf l).nextStart ∧ ((s.atNext l).leaf l).aborts = (s.leaf l).aborts := by
  rw [s.atNext_leaf, State.moveTo_leaf]
  exact ⟨rfl, rfl, rfl, rfl, rfl⟩

/-! ### What a boundary finds -/

section
variable {le par : Nat} {n : NextB} {m : State} (hle : le = edgeOf (s.leaf l).nextStart) (hn : s.nextB l le = n) (hm : m = s.moveTo l le n)
include hle hn hm

/-- The bead's check, the policy and the hold to come are those of the leaf moved at once. -/
theorem State.atNext_finds : (s.atNext l).beadCheck l le true par = m.beadCheck l le true par ∧
    (∀ strand, (s.atNext l).holds l strand = m.holds l strand) ∧ ∀ c, (s.atNext l).willHold l c = m.willHold l c := by
  subst hle hn hm
  have hs : (s.atNext l).store l = (s.moveTo l (edgeOf (s.leaf l).nextStart) (s.nextB l (edgeOf (s.leaf l).nextStart))).store l :=
    (s.store_atNext l).trans (State.store_moveTo _ _ _ _).symm
  have hx := s.atNext_leaf l
  exact ⟨State.beadCheck_of_store hs (Leaf.sameSpot_of_eq hx) _ _ _, State.holds_of_store hs hx, State.willHold_of_store hs hx⟩

variable (h : s.AtBoundary l)
include h

/-- R66: the bead at the boundary begins. -/
theorem beadBoundary_begins {k : Nat} (hmiss : s.missedFlow l = none) (hstop : n.stop = false) (hc : m.beadCheck l le true par = .ok k) :
    (s.atNext l).BeadBegun l (beadBoundary l par s) := by
  obtain ⟨hcheck, -, -⟩ := State.atNext_finds (par := par) hle hn hm
  rw [(beadBoundary_cases h hle hn).1 hmiss, if_neg (by simp [hstop]), State.tryBegin_ok (hcheck.trans hc)]
  exact State.beginBead_begun _ l k le

/-- R82, R83: the bead cannot be filled, and the strand's policy is to hold. -/
theorem beadBoundary_holds {f : Nat} (hstop : n.stop = false) (hc : m.beadCheck l le true par = .fault f) (hh : m.holds l n.strand = true) :
    s.keepsMem (beadBoundary l par s) ∧ ∃ d, d.cause = f ∧ (beadBoundary l par s).Holds l d := by
  obtain ⟨hcheck, hholds, hwill⟩ := State.atNext_finds (par := par) hle hn hm
  have hstrand : ((s.atNext l).leaf l).strand = n.strand := by rw [(s.atNext_spot l).1, ← hle, hn]
  have hhold : (s.atNext l).holds l ((s.atNext l).leaf l).strand = true := by rw [hstrand, hholds, hh]
  have hto : (s.atNext l).willHold l ((s.atNext l).beadCheck l le true par) = true := by rw [hcheck, hc]; exact hhold
  obtain ⟨hmem, hd⟩ := State.starve_holds (cause := f) (bead := ((s.atNext l).leaf l).bead) (off := 0) (bytePos := 0) (detail := 0) hhold
  rw [(beadBoundary_cases h hle hn).2.1 hstop hto, State.tryBegin_fault (hcheck.trans hc)]
  exact ⟨State.keepsMem_trans (s.atNext_stays l).keepsMem hmem, hd⟩

/-- R85: the bead cannot be filled, and the strand's policy is to abort. -/
theorem beadBoundary_aborts {f : Nat} (hmiss : s.missedFlow l = none) (hstop : n.stop = false) (hc : m.beadCheck l le true par = .fault f)
    (hh : m.holds l n.strand = false) : s.AsksAbort l f (s.leaf l).nextStart (beadBoundary l par s) := by
  obtain ⟨hcheck, hholds, -⟩ := State.atNext_finds (par := par) hle hn hm
  obtain ⟨hstrand, -, -, hstart, haborts⟩ := s.atNext_spot l
  have hhold : (s.atNext l).holds l ((s.atNext l).leaf l).strand = false := by rw [hstrand, ← hle, hn, hholds, hh]
  rw [(beadBoundary_cases h hle hn).1 hmiss, if_neg (by simp [hstop]), State.tryBegin_fault (hcheck.trans hc), ← hstart]
  exact (State.starve_aborts hhold).after (s.atNext_stays l).keepsMem haborts

/-- R75: the descriptor names no strand. -/
theorem beadBoundary_unused (hmiss : s.missedFlow l = none) (hstop : n.stop = false) (hc : m.beadCheck l le true par = .unused) :
    s.AsksAbort l 0x05 (s.leaf l).nextStart (beadBoundary l par s) ∧ (beadBoundary l par s).rd F.UNIT_STATUS_UNDERRUN l = 1 := by
  obtain ⟨hcheck, -, -⟩ := State.atNext_finds (par := par) hle hn hm
  obtain ⟨-, -, -, hstart, haborts⟩ := s.atNext_spot l
  obtain ⟨hask, hunder⟩ := State.tryBegin_unused (hcheck.trans hc)
  rw [(beadBoundary_cases h hle hn).1 hmiss, if_neg (by simp [hstop])]
  exact ⟨hstart ▸ hask.after (s.atNext_stays l).keepsMem haborts, hunder⟩

/-- R119: a routine late, and no hold to come. -/
theorem beadBoundary_late {d : Disp × Nat} (hmiss : s.missedFlow l = some d)
    (hno : n.stop = true ∨ m.willHold l (m.beadCheck l le true par) = false) :
    s.AsksAbort l 0x07 (s.leaf l).nextStart (beadBoundary l par s) := by
  obtain ⟨hcheck, -, hwill⟩ := State.atNext_finds (par := par) hle hn hm
  rw [(beadBoundary_cases h hle hn).2.2 d hmiss (by rwa [hwill, hcheck])]
  exact (State.flowLate_asksAbort _ l d.1 d.2 _).after (s.goto_keepsMem _) (congrArg Leaf.aborts (s.goto_leaf _ l))

end

theorem leafBoundary_pattern {par : Nat} (hr : (s.leaf l).raster = false) : leafBoundary l par s = beadBoundary l par s :=
  if_neg (by simp [hr])

end

end Sys2Proof.Machine

namespace Sys2Proof.Settled

open Sys2Proof.Machine

set_option Elab.async false

/-- Settles O30: each outcome of the boundary by the lemma about it. -/
theorem beadBoundary : Obligations.BeadBoundary := by
  intro s l par le n m hr hplay hdue hhold hvhold habort hrep hle hedge hn hm
  have h : s.AtBoundary l.val := ⟨hplay, hdue, hhold, hvhold, habort, hrep, State.due_of_lt (hle ▸ hedge)⟩
  have hexec : exec (.beadBoundary ⟨l, par⟩) s = .next (Machine.beadBoundary l.val par.val s) :=
    congrArg Host.Outcome.next (leafBoundary_pattern hr)
  refine ⟨fun hmiss hstop => ⟨_, hexec, ?_⟩, fun k hmiss hstop hc => ⟨_, hexec, ?_⟩,
    fun f hstop hc => ⟨fun hh => ?_, fun hh hmiss => ?_⟩, fun hmiss hstop hc => ?_, fun d hmiss hno => ?_⟩
  · obtain ⟨hphase, hqueue, hmem⟩ := (s.goto le).endRun_spec l.val
    rw [(beadBoundary_cases h hle hn).1 hmiss, if_pos hstop]
    exact ⟨hphase, hqueue, State.keepsMem_trans (s.goto_keepsMem _) hmem⟩
  · obtain ⟨hrest, hspot, hstrand, hbead⟩ := beadBoundary_begins hle hn hm h hmiss hstop hc
    obtain ⟨hs, hb, hseq, -, -⟩ := s.atNext_spot l.val
    rw [← hle, hn] at hs hb
    rw [hs] at hstrand
    rw [hb] at hbead
    rw [hseq] at hspot
    exact ⟨congrArg (·.2.2) hspot, congrArg (·.2.1) hspot, congrArg (·.1) hspot, hbead, hstrand,
      State.keepsMem_trans (s.atNext_stays l.val).keepsMem hrest.keepsMem⟩
  · obtain ⟨hmem, d, hcause, hd, hread⟩ := beadBoundary_holds hle hn hm h hstop hc hh
    exact ⟨_, d, hexec, hd, hcause, hread, hmem⟩
  · obtain ⟨hmem, a, ha, hcause, hstart⟩ := beadBoundary_aborts hle hn hm h hmiss hstop hc hh
    exact ⟨_, a, hexec, ha, hcause, hstart, hmem⟩
  · obtain ⟨⟨hmem, a, ha, hcause, -⟩, hunder⟩ := beadBoundary_unused hle hn hm h hmiss hstop hc
    exact ⟨_, a, hexec, ha, hcause, hunder, hmem⟩
  · obtain ⟨hmem, a, ha, hcause, -⟩ := beadBoundary_late hle hn hm h hmiss hno
    exact ⟨_, a, hexec, ha, hcause, hmem⟩

end Sys2Proof.Settled
end

section
/-! PROOFS. The end of a hold: HOLD_RESUME and HOLD_TIMEOUT (R61, R83, R84). -/

namespace Sys2Proof.Machine

set_option Elab.async false

section
variable {s t : State} {l : Nat}

/-! ### The gap closed -/

/-- The leaf's own registers that the end of a hold changes. -/
abbrev gapKeys : List Nat := [F.UNIT_STATUS_HOLDING.key, F.UNIT_HOLD_GAP_GAP.key]

/-- R83: the gap of len held vectors of the leaf is counted in t, and HOLDING cleared. -/
structure State.GapClosed (s : State) (l len : Nat) (t : State) : Prop where
  holding : t.rd F.UNIT_STATUS_HOLDING l = 0
  gap : t.rd F.UNIT_HOLD_GAP_GAP l = min (s.rd F.UNIT_HOLD_GAP_GAP l + len) (2 ^ 48 - 1)
  mem : s.keepsMem t

theorem State.GapClosed.stays {α β : Type} {V : Leaf → α} {W : Leaf → β} {own : List Nat} {len : Nat} {u : State} (h : s.GapClosed l len t)
    (hst : t.Stays l own V W u) (h1 : F.UNIT_STATUS_HOLDING.key ∉ own := by decide) (h2 : F.UNIT_HOLD_GAP_GAP.key ∉ own := by decide) :
    s.GapClosed l len u :=
  ⟨(hst.cells _ l (by decide) fun _ => h1).trans h.holding, (hst.cells _ l (by decide) fun _ => h2).trans h.gap,
    State.keepsMem_trans h.mem hst.keepsMem⟩

theorem State.closeHold_gapClosed (s : State) (l : Nat) (d : Hold) : s.GapClosed l d.len (s.closeHold l d) := by
  unfold State.closeHold
  extract_lets s1
  let s0 := s.wrs [(F.UNIT_STATUS_HOLDING, l, 0), (F.UNIT_HOLD_GAP_GAP, l, satAdd 48 (s.rd F.UNIT_HOLD_GAP_GAP l) d.len)]
  have h0 : s.Stays l gapKeys Leaf.body (fun x => x) s0 := State.Stays.wrsOwn .rfl
  have hgap : s0.rd F.UNIT_HOLD_GAP_GAP l = satAdd 48 (s.rd F.UNIT_HOLD_GAP_GAP l) d.len % 2 ^ 48 := s.wrs_rd_of_mem (by simp) (by simp) (by simp)
  have hsat : satAdd 48 (s.rd F.UNIT_HOLD_GAP_GAP l) d.len % 2 ^ 48 = min (s.rd F.UNIT_HOLD_GAP_GAP l + d.len) (2 ^ 48 - 1) :=
    Nat.mod_eq_of_lt (Nat.lt_of_le_of_lt (Nat.min_le_right _ _) (by decide))
  have hclosed : s.GapClosed l d.len s0 := ⟨s.wrs_rd_of_mem (v := 0) (by simp) (by simp) (by simp), hgap.trans hsat, h0.keepsMem⟩
  have h1 : s0.Stays l [] Leaf.body (fun x => x) s1 := (State.Stays.feedHold .rfl).flagUnderrun
  exact hclosed.stays h1.journal

theorem State.closeHold_body (s : State) (l : Nat) (d : Hold) : ((s.closeHold l d).leaf l).body = (s.leaf l).body :=
  (State.Stays.closeHold (W := fun x => x) .rfl).leaf

theorem State.store_closeHold (s : State) (l : Nat) (d : Hold) : (s.closeHold l d).store l = s.store l := by
  unfold State.closeHold
  extract_lets s1
  rw [State.store_journal]
  unfold s1
  rw [State.flagUnderrun, State.store_setLeaf, State.feedHold, State.store_foldl fun t n => ?_, State.store_wrs]
  rfl

/-! ### The hold that ends -/

/-- R83: a leaf in play holds, and what it waited for is ready 16 base cycles before its place, which is due; no abort is due there. -/
structure State.Resumes (s : State) (l : Nat) (d : Hold) : Prop where
  play : (s.leaf l).phase = .play
  hold : (s.leaf l).hold = some d
  forced : d.forced = none
  isOver : (s.leaf l).holdOver = true
  due : s.due (s.leaf l).nextStart = true
  abort : (s.leaf l).abortNow false = []

/-- The state at the launch edge of the leaf's place, with the gap of its hold closed. -/
def State.gapShut (s : State) (l : Nat) (d : Hold) : State := (s.goto (edgeOf (s.leaf l).nextStart)).closeHold l d

theorem State.gapShut_gapClosed (s : State) (l : Nat) (d : Hold) : s.GapClosed l d.len (s.gapShut l d) := by
  obtain ⟨hholding, hgap, hmem⟩ := (s.goto (edgeOf (s.leaf l).nextStart)).closeHold_gapClosed l d
  rw [s.goto_rd _ F.UNIT_HOLD_GAP_GAP l] at hgap
  exact ⟨hholding, hgap, State.keepsMem_trans (s.goto_keepsMem _) hmem⟩

theorem State.gapShut_body (s : State) (l : Nat) (d : Hold) : ((s.gapShut l d).leaf l).body = (s.leaf l).body :=
  (State.closeHold_body _ l d).trans (congrArg Leaf.body (s.goto_leaf _ l))

theorem State.store_gapShut (s : State) (l : Nat) (d : Hold) : (s.gapShut l d).store l = s.store l :=
  (State.store_closeHold _ l d).trans (s.store_goto _ l)

theorem Leaf.congr_of_body {γ : Type} (f : Leaf → γ) (hf : ∀ x : Leaf, f x.body = f x) {x y : Leaf} (h : x.body = y.body) : f x = f y := by
  rw [← hf x, ← hf y, h]

/-! ### Inside a bead -/

theorem State.slotAt_of_store (hs : t.store l = s.store l) (hr : (t.leaf l).curRing = (s.leaf l).curRing)
    (hb : (t.leaf l).beadSeq = (s.leaf l).beadSeq) (bs strand bead : Nat) : t.slotAt l bs strand bead = s.slotAt l bs strand bead := by
  rw [State.slotAt, State.slotAt, hr, hb, State.cache_of_store hs, State.beadSlot_of_store hs hr]

/-- The held vector is the queue's one entry in t, without a fault. -/
def State.Requeued (l word : Nat) (t : State) : Prop := ∃ q, (t.leaf l).queue = [q] ∧ q.word = word ∧ q.fault = none

/-- R46: the entry of the vector at a place, whose bead stands in the slot c. -/
def State.entryOf (s : State) (l : Nat) (c : CSlot) (p : Nat × Nat × Nat × Nat) : QEnt :=
  { qid := (s.leaf l).nextQid + 1, beadSeq := p.1, strand := p.2.1, bead := p.2.2.1, off := p.2.2.2, word := beadWord c.payload p.2.2.2,
    hdr := c.hdr, fault := vecFault (beadWord c.payload p.2.2.2) ((s.leaf l).last.isEmpty && (s.leaf l).queue.isEmpty) }

theorem State.enqueue_eq {p : Nat × Nat × Nat × Nat} {k : Nat} (hk : s.slotAt l p.1 p.2.1 p.2.2.1 = some k)
    (hlanded : ((s.cache l).slot k).landed ≠ none) (hbad : ((s.cache l).slot k).bad = false) :
    ∃ g : Table Engine, s.enqueue l p =
      { s.setLeaf l { s.leaf l with nextQid := (s.leaf l).nextQid + 1, queue := (s.leaf l).queue ++ [s.entryOf l ((s.cache l).slot k) p] } with
        engines := g } := by
  obtain ⟨bs, strand, bead, off⟩ := p
  unfold State.enqueue
  dsimp only at hk ⊢
  rw [hk]
  dsimp only
  rw [if_neg (by simp [hlanded, hbad])]
  exact State.dispatch_onlyEngines _ l _ _

/-- R83: the held vector is queued anew where its bead's slot has landed, with no fault. -/
theorem State.enqueue_requeued {p : Nat × Nat × Nat × Nat} {k : Nat} (hk : s.slotAt l p.1 p.2.1 p.2.2.1 = some k)
    (hlanded : ((s.cache l).slot k).landed ≠ none) (hbad : ((s.cache l).slot k).bad = false) (hq : (s.leaf l).queue = [])
    (hv : vecFault (beadWord ((s.cache l).slot k).payload p.2.2.2) (s.leaf l).last.isEmpty = none) :
    s.Stays l [] (fun _ => ()) (fun x => x) (s.enqueue l p) ∧ (s.enqueue l p).Requeued l (beadWord ((s.cache l).slot k).payload p.2.2.2) := by
  obtain ⟨g, hg⟩ := State.enqueue_eq hk hlanded hbad
  have hfault : (s.entryOf l ((s.cache l).slot k) p).fault = none := by
    rw [State.entryOf, hq, List.isEmpty_nil, Bool.and_true, hv]
  rw [hg]
  refine ⟨State.Stays.parts (State.Stays.setLeaf .rfl), s.entryOf l ((s.cache l).slot k) p, ?_, rfl, hfault⟩
  refine Eq.trans (congrArg Leaf.queue (s.leaf_setLeaf_self l _)) ?_
  rw [hq]
  rfl

/-- R60: a bead without a fault has no word in error. -/
theorem State.bad_of_beadFault {c : CSlot} {strand bead : Nat} (h : s.beadFault c strand bead = none) : c.bad = false := by
  unfold State.beadFault at h
  split at h
  · cases h
  · next hc =>
    simp only [Bool.or_eq_true, not_or] at hc
    simpa using hc.1.2

/-- The held vector's entry dropped, for the vector to be queued anew. -/
def State.dropHeld (s : State) (l : Nat) (d : Hold) : State :=
  s.setLeaf l { s.leaf l with queue := [], hold := some { d with ready := none, forced := none } }

theorem State.dropHeld_stays (s : State) (l : Nat) (d : Hold) :
    s.Stays l [] (fun x => (x.curRing, x.beadSeq, x.last)) (fun x => x) (s.dropHeld l d) := State.Stays.setLeaf .rfl

theorem State.dropHeld_queue (s : State) (l : Nat) (d : Hold) : ((s.dropHeld l d).leaf l).queue = [] :=
  congrArg Leaf.queue (State.leaf_setLeaf_self _ _ _)

/-- What the dropped entry leaves: the bead's slot, its payload and its faults are those of s. -/
theorem State.dropHeld_gapShut (s : State) (l : Nat) (d : Hold) :
    s.GapClosed l d.len ((s.gapShut l d).dropHeld l d) ∧ ((s.gapShut l d).dropHeld l d).store l = s.store l ∧
      (((s.gapShut l d).dropHeld l d).leaf l).curRing = (s.leaf l).curRing ∧
      (((s.gapShut l d).dropHeld l d).leaf l).beadSeq = (s.leaf l).beadSeq ∧
      (((s.gapShut l d).dropHeld l d).leaf l).last = (s.leaf l).last := by
  have hst := (s.gapShut l d).dropHeld_stays l d
  have hleaf := hst.leaf.trans (Leaf.congr_of_body (fun x => (x.curRing, x.beadSeq, x.last)) (fun _ => rfl) (s.gapShut_body l d))
  exact ⟨(s.gapShut_gapClosed l d).stays hst, (State.store_setLeaf _ _ _ _).trans (s.store_gapShut l d), by simpa using hleaf⟩

/-- R83: the hold ends inside a bead where its slot has no fault and the vector queued anew has none. -/
theorem holdResume_eq_of_inside {d : Hold} {par k : Nat} {t : State} (h : s.Resumes l d) (hb : (s.leaf l).bdue = false)
    (hk : ((s.gapShut l d).dropHeld l d).slotAt l (s.leaf l).beadSeq (s.leaf l).strand (s.leaf l).bead = some k)
    (hf : ((s.gapShut l d).dropHeld l d).beadFault ((((s.gapShut l d).dropHeld l d).cache l).slot k) (s.leaf l).strand (s.leaf l).bead = none)
    (ht : t = ((s.gapShut l d).dropHeld l d).enqueue l ((s.leaf l).beadSeq, (s.leaf l).strand, (s.leaf l).bead, (s.leaf l).off))
    (hq : (t.leaf l).queue.head?.bind (·.fault) = none) : holdResume l par s = t.setLeaf l { t.leaf l with hold := none } := by
  obtain ⟨s2, hs2⟩ : ∃ s2, s2 = (s.gapShut l d).dropHeld l d := ⟨_, rfl⟩
  rw [← hs2] at hk hf ht
  obtain ⟨s1, hs1⟩ : ∃ s1, s1 = s.gapShut l d := ⟨_, rfl⟩
  rw [← hs1, State.dropHeld] at hs2
  unfold holdResume
  extract_lets x le jumped
  rw [show x.hold = some d from h.hold]
  dsimp -zeta only
  rw [if_pos ⟨h.play, h.isOver, h.due, h.abort⟩]
  extract_lets +onlyGivenNames t1
  obtain rfl : s1 = t1 := hs1
  rw [if_neg (by simp [x, hb]), if_neg (by simp [h.forced]), ← hs2]
  extract_lets +onlyGivenNames t2
  rw [show t2.slotAt l x.beadSeq x.strand x.bead = some k from hk]
  dsimp -zeta only
  rw [show t2.beadFault ((t2.cache l).slot k) x.strand x.bead = none from hf]
  dsimp -zeta only
  extract_lets +onlyGivenNames t3
  obtain rfl : t = t3 := ht
  rw [hq]

/-- R83: the hold ends inside a bead, whose slot has landed without a fault. -/
theorem holdResume_inside {d : Hold} {par k : Nat} (h : s.Resumes l d) (hb : (s.leaf l).bdue = false)
    (hk : s.slotAt l (s.leaf l).beadSeq (s.leaf l).strand (s.leaf l).bead = some k) (hlanded : ((s.cache l).slot k).landed ≠ none)
    (hf : s.beadFault ((s.cache l).slot k) (s.leaf l).strand (s.leaf l).bead = none)
    (hv : vecFault (beadWord ((s.cache l).slot k).payload (s.leaf l).off) (s.leaf l).last.isEmpty = none) :
    s.GapClosed l d.len (holdResume l par s) ∧ ((holdResume l par s).leaf l).hold = none ∧
      (holdResume l par s).Requeued l (beadWord ((s.cache l).slot k).payload (s.leaf l).off) := by
  obtain ⟨hgap2, hstore2, hring2, hseq2, hlast2⟩ := s.dropHeld_gapShut l d
  have hqueue2 := (s.gapShut l d).dropHeld_queue l d
  have hcache2 : ((s.gapShut l d).dropHeld l d).cache l = s.cache l := State.cache_of_store hstore2
  have hslot2 := (State.slotAt_of_store hstore2 hring2 hseq2 (s.leaf l).beadSeq (s.leaf l).strand (s.leaf l).bead).trans hk
  have hfault2 : ((s.gapShut l d).dropHeld l d).beadFault ((((s.gapShut l d).dropHeld l d).cache l).slot k) (s.leaf l).strand (s.leaf l).bead = none := by
    rw [State.beadFault_of_store hstore2, hcache2, hf]
  obtain ⟨t, ht⟩ : ∃ t, t = ((s.gapShut l d).dropHeld l d).enqueue l ((s.leaf l).beadSeq, (s.leaf l).strand, (s.leaf l).bead, (s.leaf l).off) := ⟨_, rfl⟩
  have h3 := State.enqueue_requeued (p := ((s.leaf l).beadSeq, (s.leaf l).strand, (s.leaf l).bead, (s.leaf l).off)) hslot2
    (by rw [hcache2]; exact hlanded) (by rw [hcache2]; exact State.bad_of_beadFault hf) hqueue2 (by rw [hcache2, hlast2, hv])
  rw [← ht, hcache2] at h3
  obtain ⟨hst3, q, hq, hword, hqf⟩ := h3
  have hhead : (t.leaf l).queue.head?.bind (·.fault) = none := by
    rw [hq]
    exact hqf
  have h4 : t.Stays l [] (fun _ => ()) (fun x => x) (t.setLeaf l { t.leaf l with hold := none }) := State.Stays.setLeaf .rfl
  rw [holdResume_eq_of_inside h hb hslot2 hfault2 ht hhead]
  exact ⟨(hgap2.stays hst3).stays h4, congrArg Leaf.hold (State.leaf_setLeaf_self _ _ _), q,
    (congrArg Leaf.queue (State.leaf_setLeaf_self _ _ _)).trans hq, hword, hqf⟩

/-! ### At a boundary -/

theorem Leaf.sameSpot_of_body_unheld {x y : Leaf} (h : ({ x.body with hold := none } : Leaf) = { y.body with hold := none }) : x.SameSpot y :=
  ⟨(congrArg Leaf.strand h :), (congrArg Leaf.bead h :), (congrArg Leaf.beadSeq h :), (congrArg Leaf.curRing h :), (congrArg Leaf.enter h :),
    (congrArg Leaf.moved h :), (congrArg Leaf.seamIn h :)⟩

/-- The hold at a boundary over, or waiting for no more than the bead that begins. -/
def State.easeHold (s : State) (l : Nat) (d : Hold) : State :=
  s.setLeaf l { s.leaf l with hold := if d.refetched then some { d with ready := none, forced := none } else none }

theorem State.easeHold_stays (s : State) (l : Nat) (d : Hold) :
    s.Stays l [] (fun x => { x.body with hold := none }) (fun x => x) (s.easeHold l d) := State.Stays.setLeaf .rfl

theorem State.easeHold_gapShut (s : State) (l : Nat) (d : Hold) :
    s.GapClosed l d.len ((s.gapShut l d).easeHold l d) ∧ ((s.gapShut l d).easeHold l d).store l = s.store l ∧
      (((s.gapShut l d).easeHold l d).leaf l).SameSpot (s.leaf l) := by
  have hst := (s.gapShut l d).easeHold_stays l d
  exact ⟨(s.gapShut_gapClosed l d).stays hst, (State.store_setLeaf _ _ _ _).trans (s.store_gapShut l d),
    Leaf.sameSpot_of_body_unheld (hst.leaf.trans (congrArg (fun x => { x with hold := none }) (s.gapShut_body l d)))⟩

/-- R83: the hold ends at a boundary where no jump has latched, no routine is late, and the bead there passes its checks. -/
theorem holdResume_eq_of_boundary {d : Hold} {par k : Nat} {u v : State} (h : s.Resumes l d) (hb : (s.leaf l).bdue = true)
    (hj : jumpWinner (s.leaf l).jumps (edgeOf (s.leaf l).nextStart) = none) (hmiss : (s.gapShut l d).missedFlow l = none)
    (hc : ((s.gapShut l d).easeHold l d).beadCheck l (edgeOf (s.leaf l).nextStart) false par = .ok k)
    (hu : u = ((s.gapShut l d).easeHold l d).beginBead l k (edgeOf (s.leaf l).nextStart))
    (hv : v = u.checkFlow l (d.forced.isNone || !(u.leaf l).bdue)) (hvb : (v.leaf l).bdue = false) :
    holdResume l par s = v.setLeaf l { v.leaf l with hold := none } := by
  obtain ⟨s2, hs2⟩ : ∃ s2, s2 = (s.gapShut l d).easeHold l d := ⟨_, rfl⟩
  rw [← hs2] at hc hu
  obtain ⟨s1, hs1⟩ : ∃ s1, s1 = s.gapShut l d := ⟨_, rfl⟩
  rw [← hs1, State.easeHold] at hs2
  rw [← hs1] at hmiss
  unfold holdResume
  extract_lets x le jumped
  rw [show x.hold = some d from h.hold]
  dsimp -zeta only
  rw [if_pos ⟨h.play, h.isOver, h.due, h.abort⟩]
  extract_lets +onlyGivenNames t1
  obtain rfl : s1 = t1 := hs1
  rw [if_pos hb, ← hs2]
  extract_lets +onlyGivenNames t2
  rw [show jumped = false from congrArg Option.isSome hj, show jumpWinner x.jumps le = none from hj,
    show t1.missedFlow l = none from hmiss]
  dsimp -zeta only
  extract_lets +onlyGivenNames t3 t5
  obtain rfl : u = t5 := hu.trans (State.tryBegin_ok hc).symm
  extract_lets +onlyGivenNames t4
  obtain rfl : v = t4 := hv
  rw [if_neg (by simp [hvb])]

/-- R83: the hold ends at a boundary, and the bead there begins. -/
theorem holdResume_boundary {d : Hold} {par k : Nat} (h : s.Resumes l d) (hb : (s.leaf l).bdue = true)
    (hj : jumpWinner (s.leaf l).jumps (edgeOf (s.leaf l).nextStart) = none) (hmiss : s.missedFlow l = none)
    (hc : s.beadCheck l (edgeOf (s.leaf l).nextStart) false par = .ok k) :
    s.GapClosed l d.len (holdResume l par s) ∧ ((holdResume l par s).leaf l).hold = none ∧
      ((holdResume l par s).leaf l).spot = ((s.leaf l).beadSeq + 1, 0, false) := by
  obtain ⟨hgap2, hstore2, hspot2⟩ := s.easeHold_gapShut l d
  have hcheck := (State.beadCheck_of_store hstore2 hspot2 (edgeOf (s.leaf l).nextStart) false par).trans hc
  have hmiss1 : (s.gapShut l d).missedFlow l = none :=
    (State.missedFlow_of_store (s.store_gapShut l d) (Leaf.congr_of_body Leaf.beadSeq (fun _ => rfl) (s.gapShut_body l d))).trans hmiss
  obtain ⟨u, hu⟩ : ∃ u, u = ((s.gapShut l d).easeHold l d).beginBead l k (edgeOf (s.leaf l).nextStart) := ⟨_, rfl⟩
  obtain ⟨v, hv⟩ : ∃ v, v = u.checkFlow l (d.forced.isNone || !(u.leaf l).bdue) := ⟨_, rfl⟩
  obtain ⟨h5, hspot5, -, -⟩ := hu ▸ ((s.gapShut l d).easeHold l d).beginBead_begun l k (edgeOf (s.leaf l).nextStart)
  have h4 : u.Stays l [] (fun x => x) (fun x => x) v := hv ▸ State.Stays.checkFlow .rfl
  have hspot4 : (v.leaf l).spot = ((s.leaf l).beadSeq + 1, 0, false) := by rw [h4.leaf, hspot5, hspot2.beadSeq]
  have hend : v.Stays l [] (fun _ => ()) (fun x => x) (v.setLeaf l { v.leaf l with hold := none }) := State.Stays.setLeaf .rfl
  rw [holdResume_eq_of_boundary h hb hj hmiss1 hcheck hu hv (congrArg (·.2.2) hspot4)]
  exact ⟨((hgap2.stays h5).stays h4).stays hend, congrArg Leaf.hold (State.leaf_setLeaf_self _ _ _),
    (congrArg Leaf.spot (State.leaf_setLeaf_self _ _ _)).trans hspot4⟩

/-! ### The limit -/

/-- R84: the hold's limit passes in this tick. -/
theorem holdTimeout_of_due {k : Nat} (hp : (s.leaf l).phase = .play) (hlim : s.holdLimit l = some k) (hexp : s.holdExpired l = true)
    (hd : s.due (tickAt k) = true) : s.AsksAbort l 0x0A (tickAt k) (holdTimeout l s) := by
  have he : holdTimeout l s = ((s.goto (tickAt k)).journalFault l 0x0A (s.leaf l).strand (s.leaf l).bead (s.leaf l).off 0 0).ownAbort l 0x0A (tickAt k) := by
    unfold holdTimeout
    rw [hlim]
    exact if_pos ⟨hp, hexp, hd⟩
  have h : s.Stays l [] (fun x => x) (fun x => x) ((s.goto (tickAt k)).journalFault l 0x0A (s.leaf l).strand (s.leaf l).bead (s.leaf l).off 0 0) :=
    (State.Stays.goto .rfl).journalFault
  rw [he]
  exact .ownAbort h.keepsMem (congrArg Leaf.aborts h.leaf)

theorem tickAt_due {k : Nat} (h : k ≤ s.tick) : s.due (tickAt k) = true :=
  State.due_of_lt (Nat.mul_lt_mul_of_pos_right (by omega) tickTu_pos)

end

/-- Settles O31: the resume inside a bead and at a boundary, then the timeout. -/
theorem holdEnds : Obligations.HoldEnds := by
  refine ⟨fun s l par d r k hp hh hforced hready hr hdue ha _ => ?_, fun s l k hp hlim hexp hk => ?_⟩
  · have h : s.Resumes l.val d :=
      ⟨hp, hh, hforced, by simp only [Leaf.holdOver, hh, hforced, hready]; exact decide_eq_true hr, State.due_of_lt hdue, ha⟩
    refine ⟨fun hb hslot hlanded hf hv => ?_, fun hb hj hmiss hc => ?_⟩
    · obtain ⟨⟨hholding, hgap, hmem⟩, hhold, q, hq, hword, -⟩ := holdResume_inside (par := par.val) h hb hslot hlanded hf hv
      exact ⟨_, q, rfl, hhold, hholding, hgap, hq, hword, hmem⟩
    · obtain ⟨⟨hholding, hgap, hmem⟩, hhold, hspot⟩ := holdResume_boundary h hb hj hmiss hc
      exact ⟨_, rfl, hhold, hholding, hgap, congrArg (·.2.2) hspot, congrArg (·.2.1) hspot, congrArg (·.1) hspot, hmem⟩
  · obtain ⟨hmem, a, ha, hcause, hstart⟩ := holdTimeout_of_due hp hlim hexp (tickAt_due hk)
    exact ⟨_, a, rfl, ha, hcause, hstart, hmem⟩

end Sys2Proof.Machine
end

section
/-! PROOFS. The ALU (R107): the operations that store a result leave it cut to 32 bits, and Z and N follow it. -/

namespace Sys2Proof.Machine

set_option Elab.async false

/-- R107: a result stored in a U register, Z and N set by it, C as given. -/
def Ctx.stores (c : Ctx) (dst r : Nat) (carry : Bool) : Ctx := (c.setU dst r).flags r carry

section
variable (c : Ctx) (dst r a b k : Nat) (carry : Bool)

theorem Ctx.stores_ureg_self : (c.stores dst r carry).ureg dst = r % 2 ^ 32 := by
  simp [Ctx.stores, Ctx.flags, Ctx.setU, Ctx.ureg, Table.get?_set_self]

theorem Ctx.stores_ureg_ne {j : Nat} (h : j ≠ dst) : (c.stores dst r carry).ureg j = c.ureg j := by
  simp [Ctx.stores, Ctx.flags, Ctx.setU, Ctx.ureg, Table.get?_set_ne _ _ _ _ h]

theorem Ctx.stores_c : (c.stores dst r carry).c = carry := rfl

theorem Ctx.flags_u : (c.flags r carry).u = c.u := rfl

theorem Ctx.flags_z : (c.flags r carry).z = decide (r % 2 ^ 32 = 0) := beq_eq_decide _ _

theorem Ctx.stores_z : (c.stores dst r carry).z = decide ((c.stores dst r carry).ureg dst = 0) := by
  rw [Ctx.stores_ureg_self, Ctx.stores, Ctx.flags_z]

theorem Ctx.stores_n : (c.stores dst r carry).n = ((c.stores dst r carry).ureg dst).testBit 31 := by
  rw [Ctx.stores_ureg_self]
  rfl

/-! ### The operations that store a result -/

theorem aluExec_add : aluExec c 2 dst b = c.stores dst (c.ureg dst + b) (decide (2 ^ 32 ≤ c.ureg dst + b)) := rfl

theorem aluExec_sub : aluExec c 3 dst b = c.stores dst (c.ureg dst + 2 ^ 32 - b) (decide (b ≤ c.ureg dst)) := rfl

theorem aluExec_and : aluExec c 4 dst b = c.stores dst (c.ureg dst &&& b) false := rfl

theorem aluExec_or : aluExec c 5 dst b = c.stores dst (c.ureg dst ||| b) false := rfl

theorem aluExec_xor : aluExec c 6 dst b = c.stores dst (c.ureg dst ^^^ b) false := rfl

theorem aluExec_shl : aluExec c 7 dst b = c.stores dst (c.ureg dst * 2 ^ (b % 32))
    (if b % 32 = 0 then Config.shiftZeroCarry (c.ureg dst) else (c.ureg dst).testBit (32 - b % 32)) := rfl

theorem aluExec_shr : aluExec c 8 dst b = c.stores dst (c.ureg dst / 2 ^ (b % 32))
    (if b % 32 = 0 then Config.shiftZeroCarry (c.ureg dst) else (c.ureg dst).testBit (b % 32 - 1)) := rfl

theorem aluExec_dec : aluExec c 12 dst b = c.stores dst (c.ureg dst + 2 ^ 32 - 1) (decide (1 ≤ c.ureg dst)) := rfl

/-! ### The operations that set the flags alone, or CB0 to CB7 -/

theorem aluExec_cmp : aluExec c 9 dst b = c.flags (c.ureg dst + 2 ^ 32 - b) (decide (b ≤ c.ureg dst)) := rfl

theorem aluExec_tst : aluExec c 10 dst b = c.flags (c.ureg dst &&& b) false := rfl

theorem aluExec_setcb : aluExec c 11 dst b = { c with cb := b % 256 } := rfl

/-- The opcodes of ADD, SUB, AND, OR, XOR, SHL, SHR and DEC: each stores a result in its U register. -/
theorem aluExec_stores {op : Nat} (h : op ∈ [2, 3, 4, 5, 6, 7, 8, 12]) : ∃ r carry, aluExec c op dst b = c.stores dst r carry := by
  simp only [List.mem_cons, List.not_mem_nil, or_false] at h
  obtain rfl | rfl | rfl | rfl | rfl | rfl | rfl | rfl := h
  · exact ⟨_, _, aluExec_add c dst b⟩
  · exact ⟨_, _, aluExec_sub c dst b⟩
  · exact ⟨_, _, aluExec_and c dst b⟩
  · exact ⟨_, _, aluExec_or c dst b⟩
  · exact ⟨_, _, aluExec_xor c dst b⟩
  · exact ⟨_, _, aluExec_shl c dst b⟩
  · exact ⟨_, _, aluExec_shr c dst b⟩
  · exact ⟨_, _, aluExec_dec c dst b⟩

variable {c dst b k}

/-- A shift by 1 to 31, to the left. -/
theorem aluExec_shl_by (h1 : 1 ≤ k) (hk : b % 32 = k) :
    (aluExec c 7 dst b).ureg dst = (c.ureg dst <<< k) % 2 ^ 32 ∧ (aluExec c 7 dst b).c = (c.ureg dst).testBit (32 - k) := by
  rw [aluExec_shl, Ctx.stores_ureg_self, Ctx.stores_c, hk, if_neg (by omega), Nat.shiftLeft_eq]
  exact ⟨rfl, rfl⟩

/-- A shift by 1 to 31, to the right. -/
theorem aluExec_shr_by (ha : c.ureg dst < 2 ^ 32) (h1 : 1 ≤ k) (hk : b % 32 = k) :
    (aluExec c 8 dst b).ureg dst = c.ureg dst >>> k ∧ (aluExec c 8 dst b).c = (c.ureg dst).testBit (k - 1) := by
  rw [aluExec_shr, Ctx.stores_ureg_self, Ctx.stores_c, hk, if_neg (by omega), Nat.shiftRight_eq_div_pow]
  exact ⟨Nat.mod_eq_of_lt ((Nat.div_le_self _ _).trans_lt ha), rfl⟩

/-- The difference of two words is 0 modulo 2^32 where they are the same. -/
theorem aluExec_cmp_z (ha : c.ureg dst < 2 ^ 32) (hb : b < 2 ^ 32) : (aluExec c 9 dst b).z = decide (c.ureg dst = b) := by
  rw [aluExec_cmp, Ctx.flags_z, decide_eq_decide]
  omega

end

/-- Settles O34, operation by operation; what holds wherever a result is stored follows from `aluExec_stores`. -/
theorem aluOperations : Obligations.AluOperations := by
  intro c dst b ha hb
  refine ⟨?_, ?_, ?_, fun k h1 _ hk => ?_, ?_, ⟨?_, ?_, aluExec_cmp_z ha hb⟩, ?_, fun op hop => ?_⟩
  · rw [aluExec_add, Ctx.stores_ureg_self]
    exact ⟨rfl, rfl⟩
  · rw [aluExec_sub, Ctx.stores_ureg_self, Nat.add_comm (2 ^ 32)]
    exact ⟨rfl, rfl⟩
  · rw [aluExec_and, aluExec_or, aluExec_xor, Ctx.stores_ureg_self, Ctx.stores_ureg_self, Ctx.stores_ureg_self]
    exact ⟨Nat.mod_eq_of_lt (Nat.and_lt_two_pow _ hb), Nat.mod_eq_of_lt (Nat.or_lt_two_pow ha hb), Nat.mod_eq_of_lt (Nat.xor_lt_two_pow ha hb),
      rfl, rfl, rfl⟩
  · obtain ⟨hl, hlc⟩ := aluExec_shl_by (c := c) (dst := dst) h1 hk
    obtain ⟨hr, hrc⟩ := aluExec_shr_by ha h1 hk
    exact ⟨hl, hlc, hr, hrc⟩
  · rw [aluExec_dec, Ctx.stores_ureg_self, Nat.add_comm (2 ^ 32)]
  · rw [aluExec_cmp, Ctx.flags_u]
  · rw [aluExec_tst, Ctx.flags_u]
  · rw [aluExec_setcb]
    exact ⟨rfl, rfl, rfl⟩
  · obtain ⟨r, carry, h⟩ := aluExec_stores c dst b hop
    rw [h]
    exact ⟨c.stores_z dst r carry, c.stores_n dst r carry, fun j hj => c.stores_ureg_ne dst r carry hj⟩

end Sys2Proof.Machine
end

section
/-! PROOFS. The start of a routine, the interrupts, and the deadline of a vector's action (R100, R102, R109, R115, R116). -/

namespace Sys2Proof.Machine

set_option Elab.async false

section
variable {s : State} {l : Nat}

theorem State.keepsMem_setEng (s : State) (l : Nat) (g : Engine) : s.keepsMem (s.setEng l g) := State.keepsMem_of_eq rfl rfl rfl

theorem State.keepsCells_setEng (s : State) (l : Nat) (g : Engine) : s.keepsCells [] (s.setEng l g) := fun _ _ _ _ => rfl

/-! ### ROUTINE_START -/

/-- R100: an engine with its oldest dispatched routine begun. -/
def Engine.begins (g : Engine) (d : Disp) (rest : List Disp) : Engine :=
  { g with fifo := rest, t := max g.t (edgeUp d.at_), c := { g.w with calls := [], loops := [] },
           run := some { d := d, pc := eAddr d.entry, saved := eAddr d.entry } }

theorem routineStart_of_free {d : Disp} {rest : List Disp} (hr : (s.eng l).run = none) (hf : (s.eng l).fifo = d :: rest)
    (hi : (s.eng l).nextInt = none) : routineStart l s = s.setEng l ((s.eng l).begins d rest) := by
  unfold routineStart
  simp only [hr, hf]
  exact if_pos hi

/-! ### INTERRUPT_TAKEN -/

theorem Engine.takeInt_run (g : Engine) : g.takeInt.run = g.run := by
  unfold Engine.takeInt
  split
  · split <;> rfl
  · rfl
  · rfl

/-- R115: when the handler of an interrupt taken now ends: one that waits for a commit point begins after the microcycle before it. -/
def State.handlerEnd (s : State) (l p : Nat) : Nat :=
  (if intDiscards p then edgeUp s.now else max (s.eng l).t (edgeUp s.now)) + handlerCycles p * cyc

variable {p : Nat} {b : Bool}

/-- R116: the routine and every interrupt ended. -/
def Engine.discards (g : Engine) (t : Nat) : Engine :=
  { g with ints := [], later := [], batch := false, run := none, c := g.w, t := t, handled := t }

/-- R115: the next interrupt taken, with its handler running until t. -/
def Engine.handles (g : Engine) (t : Nat) : Engine := { g.takeInt with t := t, handled := t }

/-- R115: the next interrupt taken, and the routine back at its last commit. -/
def Engine.resumes (g : Engine) (r : Routine) (t : Nat) : Engine :=
  { g.takeInt with t := t, handled := t, c := g.w, run := some { r with pc := r.saved, pendV := [], pendE := [] } }

theorem interruptTaken_discards (hn : (s.eng l).nextInt = some (p, b)) (hp : intDiscards p = true) :
    interruptTaken l s = s.setEng l ((s.eng l).discards (s.handlerEnd l p)) := by
  unfold interruptTaken
  simp only [hn]
  exact if_pos hp

theorem interruptTaken_idle (hn : (s.eng l).nextInt = some (p, b)) (hp : intDiscards p = false) (hr : (s.eng l).run = none) :
    interruptTaken l s = s.setEng l ((s.eng l).handles (s.handlerEnd l p)) := by
  unfold interruptTaken
  simp only [hn, hr]
  exact if_neg (by simp [hp])

theorem interruptTaken_resumes {r : Routine} (hn : (s.eng l).nextInt = some (p, b)) (hp : intDiscards p = false)
    (hr : (s.eng l).run = some r) (hc : b = true ∨ r.waiting = true ∨ isCommit (s.uword r.pc) = true) :
    interruptTaken l s = s.setEng l ((s.eng l).resumes r (s.handlerEnd l p)) := by
  unfold interruptTaken
  simp only [hn, hr]
  rw [if_neg (by simp [hp]), if_pos hc]
  rfl

/-- An abort, or a starvation that ends the run, begins its handler at once. -/
theorem State.handlerEnd_of_discards (hp : intDiscards p = true) : s.handlerEnd l p = edgeUp s.now + handlerCycles p * 1024 :=
  congrArg (· + handlerCycles p * cyc) (if_pos hp)

theorem State.handlerEnd_of_not_discards (hp : intDiscards p = false) :
    s.handlerEnd l p = max (s.eng l).t (edgeUp s.now) + handlerCycles p * 1024 :=
  congrArg (· + handlerCycles p * cyc) (if_neg (by simp [hp]))

/-! ### VECTOR_ACTION_DEADLINE -/

/-- R102: the deadline of the action of a vector that starts at t0 has come, and the action of the vector is fixed. -/
def State.fixes (s : State) (l t0 : Nat) (q : QEnt) : State :=
  (s.goto (edgeOf t0 - 8 * cyc)).setLeaf l
    { s.leaf l with queue := (s.leaf l).queue.map fun e => if e.qid = q.qid then e.fix else e }

/-- R103: the dispatch entry of a queued vector. -/
def State.entryFor (s : State) (q : QEnt) : Nat := s.mc.dispatch.getD (hPage q.hdr * 16 + vecOp q.word) 0

/-- R109: a required action that is not resolved ends the run at its vector. -/
def State.lateAt (s : State) (l t0 : Nat) (q : QEnt) (e : Nat) : State :=
  (s.journalFault l 0x07 q.strand q.bead q.off 0 (pack [(0, 12, eAddr e)])).vecAbort l 0x07 t0 q.qid

theorem vectorActionDeadline_of_due {k t0 : Nat} {q : QEnt} (hk : findIx? (fun q => !q.act.fixed) (s.leaf l).queue = some k)
    (ht : s.startOf l k = some t0) (hq : (s.leaf l).queue[k]? = some q) (hp : (s.leaf l).phase = .play ∨ (s.leaf l).phase = .armed)
    (hd : s.due (edgeOf t0 - 8 * cyc) = true) :
    vectorActionDeadline l s =
      if vecOp q.word ≠ 0 ∧ eVreq (s.entryFor q) ∧ q.act.resolved = false ∧ q.fault = none then (s.fixes l t0 q).lateAt l t0 q (s.entryFor q)
      else s.fixes l t0 q := by
  unfold vectorActionDeadline
  simp only [hk, ht, hq]
  exact if_pos ⟨hp, hd⟩

theorem State.keepsMem_fixes (s : State) (l t0 : Nat) (q : QEnt) : s.keepsMem (s.fixes l t0 q) :=
  State.keepsMem_trans (s.goto_keepsMem _) (State.keepsMem_setLeaf _ _ _)

theorem State.fixes_fixed (s : State) (l t0 : Nat) (q : QEnt) :
    ∀ e ∈ ((s.fixes l t0 q).leaf l).queue, e.qid = q.qid → e.act.fixed = true := by
  rw [State.fixes, State.leaf_setLeaf_self]
  intro e he hid
  obtain ⟨e0, -, rfl⟩ := List.mem_map.1 he
  split
  · rfl
  · next hn => rw [if_neg hn] at hid; exact absurd hid hn

theorem State.vecAbort_spec (s : State) (l cause t qid : Nat) : ((s.vecAbort l cause t qid).leaf l).queue = (s.leaf l).queue ∧
    ∃ a ∈ ((s.vecAbort l cause t qid).leaf l).aborts, a.cause = cause ∧ a.vec = some qid := by
  rw [State.vecAbort, State.askAbort, State.leaf_setLeaf_self]
  exact ⟨rfl, _, List.mem_append_right _ (List.mem_singleton_self _), rfl, rfl⟩

/-- The run is asked to end at the vector; the queue stays. -/
theorem State.lateAt_spec (s : State) (l t0 : Nat) (q : QEnt) (e : Nat) :
    ((s.lateAt l t0 q e).leaf l).queue = (s.leaf l).queue ∧
      (∃ a ∈ ((s.lateAt l t0 q e).leaf l).aborts, a.cause = 0x07 ∧ a.vec = some q.qid) ∧ s.keepsMem (s.lateAt l t0 q e) := by
  have h : s.Stays l [] (fun x => x) (fun x => x) (s.journalFault l 0x07 q.strand q.bead q.off 0 (pack [(0, 12, eAddr e)])) :=
    State.Stays.rfl.journalFault
  obtain ⟨hqueue, a, ha, hcause, hvec⟩ := State.vecAbort_spec (s.journalFault l 0x07 q.strand q.bead q.off 0 (pack [(0, 12, eAddr e)])) l 0x07 t0 q.qid
  exact ⟨hqueue.trans (congrArg Leaf.queue h.leaf), ⟨a, ha, hcause, hvec⟩, State.keepsMem_trans h.keepsMem (State.keepsMem_setLeaf _ _ _)⟩

end

/-- Settles O37. -/
theorem routinesAndInterrupts : Obligations.RoutinesAndInterrupts := by
  refine ⟨fun s l d rest hr hf hi hl => ?_, fun s l p b hn => ⟨fun hp => ?_, fun hp hr => ?_, fun r hp hr hc => ?_⟩,
    fun s l k t0 q hk ht hq hp hd => ?_⟩
  · have hnext : (s.eng l.val).nextInt = none := by rw [Engine.nextInt, hi, hl]
    refine ⟨_, { d := d, pc := eAddr d.entry, saved := eAddr d.entry }, congrArg Host.Outcome.next (routineStart_of_free hr hf hnext), ?_⟩
    rw [State.eng_setEng_self]
    exact ⟨rfl, rfl, rfl, rfl, rfl, s.keepsCells_setEng _ _, s.keepsMem_setEng _ _⟩
  · refine ⟨_, congrArg Host.Outcome.next (interruptTaken_discards hn hp), ?_⟩
    rw [State.eng_setEng_self]
    exact ⟨rfl, rfl, rfl, rfl, State.handlerEnd_of_discards hp, s.keepsCells_setEng _ _, s.keepsMem_setEng _ _⟩
  · refine ⟨_, congrArg Host.Outcome.next (interruptTaken_idle hn hp hr), ?_⟩
    rw [State.eng_setEng_self]
    exact ⟨rfl, rfl, (Engine.takeInt_run _).trans hr, State.handlerEnd_of_not_discards hp, s.keepsCells_setEng _ _, s.keepsMem_setEng _ _⟩
  · refine ⟨_, { r with pc := r.saved, pendV := [], pendE := [] }, congrArg Host.Outcome.next (interruptTaken_resumes hn hp hr hc), ?_⟩
    rw [State.eng_setEng_self]
    exact ⟨rfl, rfl, rfl, rfl, rfl, rfl, State.handlerEnd_of_not_discards hp, s.keepsCells_setEng _ _, s.keepsMem_setEng _ _⟩
  · refine ⟨_, congrArg Host.Outcome.next (vectorActionDeadline_of_due hk ht hq hp (State.due_of_lt hd)), ?_⟩
    obtain ⟨hqueue, habort, hmem⟩ := (s.fixes l.val t0 q).lateAt_spec l.val t0 q (s.entryFor q)
    have hfix := s.fixes_fixed l.val t0 q
    split
    · exact ⟨fun e he => hfix e (hqueue ▸ he), fun _ _ _ _ => habort, State.keepsMem_trans (s.keepsMem_fixes _ _ _) hmem⟩
    · next hn => exact ⟨hfix, fun h0 hv hr hf => absurd ⟨h0, hv, hr, hf⟩ hn, s.keepsMem_fixes _ _ _⟩

end Sys2Proof.Machine
end

section
/-! PROOFS. The OTP key, its commands, and the flag of the stack faults (R124, R107, R404). -/

namespace Sys2Proof.Machine

set_option Elab.async false

section
variable {s t : State} {h : Hdr}

/-! ### Requests of the control store's block -/

theorem State.onlyEvt.mc (ho : s.onlyEvt t) : t.mc = s.mc := by
  obtain ⟨_, _, _, rfl⟩ := ho
  rfl

/-- R404, R408: a refusal that the module serves is answered and recorded, and leaves the control store as the checks left it. -/
theorem State.request_refuses {addr : Nat} {q : Req} {f : State → State × Ans} {s1 : State} {r d : Nat} (hs : s.serves h addr q)
    (hf : f s = (s1, .rejected r d)) :
    ∃ t, s.request h addr q f = t ∧ t.told h (.rejected r d) ∧ s1.keepsCells rejectKeys t ∧ s1.keepsMem t ∧ t.mc = s1.mc := by
  obtain ⟨htold, hcells, hmem, -, -⟩ := State.request_rejected hs hf rfl
  refine ⟨_, rfl, htold, hcells, hmem, ?_⟩
  rw [State.request_serves _ _ _ _ _ hs, State.execute_rejected _ _ _ _ _ _ _ hf]
  exact (s1.recordReject_onlyEvt addr h.src.val r d).mc

theorem State.keepsCells_of_regs (he : t.regs = s.regs) : s.keepsCells [] t := fun _ _ _ _ => by rw [State.rd, State.rd, he]

/-! ### The commands of MC_OTP_CMD -/

/-- R124: the key consumed. -/
def State.keyUsed (s : State) : State := { s with mc := { s.mc with keyOpen := none } }

/-- R124: with the key open the command in bits 1:0 acts on the slot in bits 3:2, and the key is consumed. -/
theorem wrOtpCmd_of_open (ho : s.otpOpen = true) {cmd slot : Nat} (hc : cmd < 4) (hk : slot < 4) :
    wrOtpCmd s (cmd + 4 * slot) = s.keyUsed.otpCommand cmd slot := by
  have h1 : bits (cmd + 4 * slot) 0 2 = cmd := by unfold bits; omega
  have h2 : bits (cmd + 4 * slot) 2 2 = slot := by unfold bits; omega
  rw [wrOtpCmd, if_pos ho, h1, h2]
  rfl

theorem wrOtpCmd_of_closed (ho : s.otpOpen = false) (data : Nat) : wrOtpCmd s data = (s, .rejected rOTP_KEY 0) :=
  if_neg (by simp [ho])

/-- A slot of the OTP, programmed with the hash in MC_OTP_DATA. -/
def State.slotProgrammed (s : State) (k : Nat) : State :=
  ({ s with mc := { s.mc with otpHash := Table.set s.mc.otpHash k s.otpData } } : State).wr F.MC_OTP_PROG 0
    (setBit (s.rd F.MC_OTP_PROG 0) k true)

theorem State.otpCommand_program {k : Nat} (hp : (s.rd F.MC_OTP_PROG 0).testBit k = false) :
    s.otpCommand 0 k = (s.slotProgrammed k, .ok) := by
  rw [State.otpCommand, if_pos rfl, if_neg (by simp [hp])]
  rfl

theorem State.otpCommand_revoke {k : Nat} (hl : s.liveSlots.filter (· != k) ≠ []) :
    s.otpCommand 1 k = (s.wr F.MC_OTP_REVOKED 0 (setBit (s.rd F.MC_OTP_REVOKED 0) k true), .ok) := by
  rw [State.otpCommand, if_neg (by decide), if_pos rfl, if_neg hl]

theorem State.otpCommand_revoke_last {k : Nat} (hl : s.liveSlots.filter (· != k) = []) : s.otpCommand 1 k = (s, .rejected rSTATE 0) := by
  rw [State.otpCommand, if_neg (by decide), if_pos rfl, if_pos hl]

theorem State.otpCommand_advance (hv : s.rd F.MC_OTP_MIN_SVN 0 < s.rd F.MC_VER_SVN 0) :
    s.otpCommand 2 0 = (s.wr F.MC_OTP_MIN_SVN 0 (min 63 (s.rd F.MC_VER_SVN 0)), .ok) := by
  rw [State.otpCommand, if_neg (by decide), if_neg (by decide), if_pos rfl, if_neg (by omega)]

theorem setBit_testBit_self (m i : Nat) : (setBit m i true).testBit i = true := by
  unfold setBit
  split
  · assumption
  · next hm => rw [if_pos rfl, Nat.add_comm, Nat.testBit_two_pow_add_eq]; simpa using hm

/-- A bit set in a field wide enough for it reads 1. -/
theorem State.rd_wr_setBit (s : State) (f : Fld) (i m : Nat) {k : Nat} (hk : k < f.w) :
    ((s.wr f i (setBit m k true)).rd f i).testBit k = true := by
  rw [State.rd_wr_self, Nat.testBit_mod_two_pow, setBit_testBit_self, decide_eq_true hk]
  rfl

theorem State.slotProgrammed_spec (s : State) {k : Nat} (hk : k < 4) :
    ((s.slotProgrammed k).rd F.MC_OTP_PROG 0).testBit k = true ∧ Table.get? (s.slotProgrammed k).mc.otpHash k = some s.otpData ∧
      s.keepsCells [F.MC_OTP_PROG.key] (s.slotProgrammed k) ∧ s.keepsMem (s.slotProgrammed k) :=
  ⟨State.rd_wr_setBit _ _ _ _ hk, Table.get?_set_self _ _ _,
    State.wr_keepsCells { s with mc := { s.mc with otpHash := Table.set s.mc.otpHash k s.otpData } } _ _ _ (by decide), s.keepsMem_refl⟩

/-! ### W1C fields that the host clears (R6, R8) -/

theorem testBit_sub_and_low (v n : Nat) {j : Nat} (hj : j < n) : (v - (v &&& (2 ^ n - 1))).testBit j = false := by
  have h : v - (v &&& (2 ^ n - 1)) = 2 ^ n * (v / 2 ^ n) := by
    rw [Nat.and_two_pow_sub_one_eq_mod]
    have := Nat.div_add_mod v (2 ^ n)
    omega
  rw [h, Nat.testBit_two_pow_mul, decide_eq_false (Nat.not_le.2 hj)]
  rfl

/-- R8: a W1C field cleared whole keeps the bits that the module has set in this base cycle. -/
theorem State.unflag_rd_testBit (s : State) (f : Fld) (i : Nat) {j : Nat} (hj : j < f.w) :
    ((s.unflag f i (2 ^ f.w - 1)).rd f i).testBit j = ((s.rd f i).testBit j && (s.hotOf f i).testBit j) := by
  rw [State.unflag, State.rd_wr_self, Nat.testBit_mod_two_pow, decide_eq_true hj, Nat.testBit_or, testBit_sub_and_low _ _ hj,
    Nat.testBit_and, Bool.true_and, Bool.false_or]

theorem State.unflag_rd_ne (s : State) (f g : Fld) (i j m : Nat) (hc : cellNo g j ≠ cellNo f i) : (s.unflag f i m).rd g j = s.rd g j :=
  s.rd_wr_ne _ _ _ _ _ hc

theorem State.unflag_hotOf (s : State) (f g : Fld) (i j m : Nat) (ht : cellNo F.GLB_TICK_TICK 0 ≠ cellNo f i) :
    (s.unflag f i m).hotOf g j = s.hotOf g j := by
  have hn : (s.unflag f i m).now = s.now := congrArg (tickAt · + s.sub) (s.unflag_rd_ne f F.GLB_TICK_TICK i 0 m ht)
  rw [State.hotOf, State.hotOf, hn]
  rfl

/-- R107, R125: the state in which STACK_FAULT and STACK_LEAVES have been cleared. -/
def State.stackCleared (s : State) : State :=
  (s.unflag F.MC_STATUS_STACK_FAULT 0 (2 ^ 1 - 1)).unflag F.MC_STATUS_STACK_LEAVES 0 (2 ^ 16 - 1)

theorem State.wrMcStatus_stackFault (s : State) : (fun s => wrMcStatus s 8) s = (s.stackCleared, .ok) := rfl

theorem State.stackCleared_fault (s : State) : (s.stackCleared.rd F.MC_STATUS_STACK_FAULT 0).testBit 0 =
    ((s.rd F.MC_STATUS_STACK_FAULT 0).testBit 0 && (s.hotOf F.MC_STATUS_STACK_FAULT 0).testBit 0) := by
  rw [State.stackCleared, State.unflag_rd_ne _ _ _ _ _ _ (by decide)]
  exact s.unflag_rd_testBit F.MC_STATUS_STACK_FAULT 0 (by decide)

theorem State.stackCleared_leaves (s : State) {i : Nat} (hi : i < 16) : (s.stackCleared.rd F.MC_STATUS_STACK_LEAVES 0).testBit i =
    ((s.rd F.MC_STATUS_STACK_LEAVES 0).testBit i && (s.hotOf F.MC_STATUS_STACK_LEAVES 0).testBit i) := by
  refine (State.unflag_rd_testBit _ F.MC_STATUS_STACK_LEAVES 0 hi).trans ?_
  rw [State.unflag_rd_ne _ _ _ _ _ _ (by decide), State.unflag_hotOf _ _ _ _ _ _ (by decide)]

theorem State.stackCleared_keepsCells (s : State) :
    s.keepsCells [F.MC_STATUS_STACK_FAULT.key, F.MC_STATUS_STACK_LEAVES.key] s.stackCleared :=
  State.keepsCells_trans (s.wr_keepsCells F.MC_STATUS_STACK_FAULT 0 _ (by decide))
    (State.wr_keepsCells _ F.MC_STATUS_STACK_LEAVES 0 _ (by decide))

/-! ### The key -/

/-- The state after a write of MC_OTP_KEY. -/
def State.keyWritten (s : State) (data : Nat) : State := (wrOtpKey s data).1

/-- R124: the right value opens the key for 1 ms. -/
theorem State.keyWritten_keyOpen (s : State) (data : Nat) :
    (s.keyWritten data).mc.keyOpen = if data = 0x4F545021 then some (s.now + 1280000000) else none := by
  have h : (s.keyWritten data).mc.keyOpen = if data = otpKeyValue then some (s.now + otpKeyTu) else none := rfl
  rw [h, otpKeyValue, otpKeyTu]

theorem State.wrOtpKey_accepted (s : State) (data : Nat) : (fun s => wrOtpKey s data) s = (s.keyWritten data, .ok) := rfl

theorem otpKeyExpire_of_due {e : Nat} (hk : s.mc.keyOpen = some e) (hd : s.due e = true) :
    otpKeyExpire s = { s.goto e with mc := { s.mc with keyOpen := none } } := by
  unfold otpKeyExpire
  rw [hk]
  exact if_pos hd

theorem State.setMc_keeps (s : State) (m : McSt) : s.keepsCells [] { s with mc := m } ∧ s.keepsMem { s with mc := m } :=
  ⟨State.keepsCells_of_regs rfl, State.keepsMem_of_eq rfl rfl rfl⟩

theorem otpKeyExpire_keeps {e : Nat} (hk : s.mc.keyOpen = some e) (hd : s.due e = true) :
    s.keepsCells [F.MC_UREG_VALUE.key] (otpKeyExpire s) ∧ s.keepsMem (otpKeyExpire s) := by
  rw [otpKeyExpire_of_due hk hd]
  obtain ⟨hcells, hmem⟩ := (s.goto e).setMc_keeps { s.mc with keyOpen := none }
  exact ⟨State.keepsCells_trans (s.goto_keepsCells e) hcells, State.keepsMem_trans (s.goto_keepsMem e) hmem⟩

end

/-- Settles O39: each command's effect is one of those above, or a refusal of R124. -/
theorem otpCommands : Obligations.OtpCommands := by
  refine ⟨fun s h key hs => ?_, fun s e hk hd => ?_, fun s h k ho => ⟨fun hs hp => ?_, fun hs => ⟨fun hl => ?_, fun hl => ?_⟩, fun hs hv => ?_⟩,
    fun s h k ho => ⟨fun hs => ?_, fun hs => ?_, fun hs => ?_⟩, fun s h hs => ?_⟩
  · exact ⟨_, congrArg Host.Outcome.next (State.request_accepted hs (s.wrOtpKey_accepted _)), State.respond_told _ _ _,
      s.keyWritten_keyOpen _, State.keepsCells_of_regs rfl, State.keepsMem_of_eq rfl rfl rfl⟩
  · obtain ⟨hcells, hmem⟩ := otpKeyExpire_keeps hk (State.due_of_lt hd)
    exact ⟨_, rfl, congrArg (·.mc.keyOpen) (otpKeyExpire_of_due hk (State.due_of_lt hd)), hcells, hmem⟩
  · have hf : (fun s => wrOtpCmd s (4 * k.val)) s = (s.keyUsed.slotProgrammed k.val, .ok) := by
      rw [← State.otpCommand_program (s := s.keyUsed) hp, ← wrOtpCmd_of_open ho (by omega) k.isLt, Nat.zero_add]
    obtain ⟨hbit, hhash, hcells, hmem⟩ := s.keyUsed.slotProgrammed_spec k.isLt
    exact ⟨_, congrArg Host.Outcome.next (State.request_accepted hs hf), State.respond_told _ _ _, hbit, hhash, rfl, hcells, hmem⟩
  · have hf : (fun s => wrOtpCmd s (1 + 4 * k.val)) s =
        (s.keyUsed.wr F.MC_OTP_REVOKED 0 (setBit (s.rd F.MC_OTP_REVOKED 0) k.val true), .ok) :=
      (wrOtpCmd_of_open ho (by omega) k.isLt).trans (State.otpCommand_revoke (s := s.keyUsed) hl)
    exact ⟨_, congrArg Host.Outcome.next (State.request_accepted hs hf), State.respond_told _ _ _,
      State.rd_wr_setBit s.keyUsed F.MC_OTP_REVOKED 0 _ k.isLt, rfl, s.keyUsed.wr_keepsCells _ _ _ (by decide), s.keepsMem_refl⟩
  · have hf : (fun s => wrOtpCmd s (1 + 4 * k.val)) s = (s.keyUsed, .rejected rSTATE 0) :=
      (wrOtpCmd_of_open ho (by omega) k.isLt).trans (State.otpCommand_revoke_last (s := s.keyUsed) hl)
    obtain ⟨t, ht, htold, hcells, hmem, hmc⟩ := State.request_refuses (f := fun s => wrOtpCmd s (1 + 4 * k.val)) hs hf
    exact ⟨t, congrArg Host.Outcome.next ht, htold, congrArg McSt.keyOpen hmc, hcells, hmem⟩
  · have hf : (fun s => wrOtpCmd s 2) s = (s.keyUsed.wr F.MC_OTP_MIN_SVN 0 (min 63 (s.rd F.MC_VER_SVN 0)), .ok) :=
      (wrOtpCmd_of_open (cmd := 2) (slot := 0) ho (by omega) (by omega)).trans (State.otpCommand_advance (s := s.keyUsed) hv)
    have hmin : min 63 (s.rd F.MC_VER_SVN 0) % 2 ^ 6 = min 63 (s.rd F.MC_VER_SVN 0) := Nat.mod_eq_of_lt (by omega)
    exact ⟨_, congrArg Host.Outcome.next (State.request_accepted hs hf), State.respond_told _ _ _,
      (s.keyUsed.rd_wr_self F.MC_OTP_MIN_SVN 0 _).trans hmin, rfl, s.keyUsed.wr_keepsCells _ _ _ (by decide), s.keepsMem_refl⟩
  · obtain ⟨t, ht, htold, hcells, -, hmc⟩ := State.request_refuses (f := fun s => wrOtpCmd s (4 * k.val)) hs (wrOtpCmd_of_closed ho _)
    exact ⟨t, congrArg Host.Outcome.next ht, htold, hmc, hcells⟩
  · obtain ⟨t, ht, htold, hcells, -, hmc⟩ := State.request_refuses (f := fun s => wrOtpCmd s (1 + 4 * k.val)) hs (wrOtpCmd_of_closed ho _)
    exact ⟨t, congrArg Host.Outcome.next ht, htold, hmc, hcells⟩
  · obtain ⟨t, ht, htold, hcells, -, hmc⟩ := State.request_refuses (f := fun s => wrOtpCmd s 2) hs (wrOtpCmd_of_closed ho _)
    exact ⟨t, congrArg Host.Outcome.next ht, htold, hmc, hcells⟩
  · exact ⟨_, congrArg Host.Outcome.next (State.request_accepted hs s.wrMcStatus_stackFault), State.respond_told _ _ _, s.stackCleared_fault,
      fun i hi => s.stackCleared_leaves hi, s.stackCleared_keepsCells, s.keepsMem_refl⟩

end Sys2Proof.Machine
end

section
/-! PROOFS. The control store's load (R121, R122, R427), and what a reader of the DRAM meets on the way (R333 to R336). -/

namespace Sys2Proof.Machine

set_option Elab.async false

section
variable {s t : State}

/-! ### What reading the DRAM leaves as it was -/

/-- What the memories hold, the strand table, and the control store. -/
def State.stored (s : State) : Table Byte × Nat × SramSt × StrandSt × McSt := (s.dram.mem, s.dram.epoch, s.sram, s.strands, s.mc)

theorem State.keepsMem_of_stored (h : t.stored = s.stored) : s.keepsMem t := by
  simp only [State.stored, Prod.mk.injEq] at h
  obtain ⟨hmem, hepoch, hsram, hstr, -⟩ := h
  exact ⟨⟨fun a => by rw [DramSt.byte, DramSt.byte, hmem, hepoch], fun a => by rw [State.sramByte, State.sramByte, hsram]⟩,
    fun id => by rw [State.desc, State.desc, hstr]⟩

theorem State.mc_of_stored (h : t.stored = s.stored) : t.mc = s.mc := congrArg (·.2.2.2.2) h

theorem State.stored_ite {p : Prop} [Decidable p] {a b : State} (ha : a.stored = s.stored) (hb : b.stored = s.stored) :
    (if p then a else b).stored = s.stored := by
  split
  · exact ha
  · exact hb

theorem State.onlyJn.stored (h : s.onlyJn t) : t.stored = s.stored := by
  obtain ⟨_, _, _, _, rfl⟩ := h
  rfl

theorem State.stored_wrs (s : State) (ws : List (Fld × Nat × Nat)) : (s.wrs ws).stored = s.stored := (s.onlyEvt_wrs ws).jn.stored

theorem State.stored_wr (s : State) (f : Fld) (i v : Nat) : (s.wr f i v).stored = s.stored := (s.onlyEvt_wr f i v).jn.stored

theorem State.stored_raise (s : State) (code index data dataHi : Nat) : (s.raise code index data dataHi).stored = s.stored :=
  (s.raise_onlyEvt _ _ _ _).jn.stored

theorem State.stored_flag (s : State) (f : Fld) (i : Nat) : (s.flag f i).stored = s.stored := (s.flag_onlyEvt f i).jn.stored

theorem State.stored_bump (s : State) (f : Fld) (i n : Nat) (sat : Fld) (si row off : Nat) : (s.bump f i n sat si row off).stored = s.stored :=
  (s.bump_onlyEvt _ _ _ _ _ _ _).jn.stored

theorem State.stored_journal (s : State) (typ leaf : Nat) (rep : Bool) (body : Nat) : (s.journal typ leaf rep body).stored = s.stored :=
  (s.journal_onlyJn _ _ _ _).stored

theorem State.stored_journalPlat (s : State) (kind index code value : Nat) : (s.journalPlat kind index code value).stored = s.stored :=
  s.stored_journal _ _ _ _

theorem State.stored_foldl {α : Type} {g : State → α → State} (hg : ∀ t a, (g t a).stored = t.stored) (as : List α) (s : State) :
    (as.foldl g s).stored = s.stored := by
  induction as generalizing s with
  | nil => rfl
  | cons a as ih => exact (ih _).trans (hg s a)

theorem State.stored_tellAll (s : State) (m : CluMsg) : (s.tellAll m).stored = s.stored := by
  unfold State.tellAll
  split
  · exact State.stored_foldl (g := fun s d => s.tell d m) (fun _ _ => rfl) _ _
  · rfl

theorem State.stored_reask (s was : State) : (s.reask was).stored = s.stored :=
  State.stored_foldl (fun t l => State.stored_foldl (fun t f => by obtain ⟨c, h⟩ := t.askFar_onlyClu l f; rw [h]; rfl) _ t) _ s

theorem State.stored_promote (s : State) (moved : List Nat) (index code : Nat) : (s.promote moved index code).stored = s.stored := by
  unfold State.promote
  extract_lets s1 s2
  calc _ = s2.stored := State.stored_foldl (fun t _ => t.stored_journal _ _ _ _) _ _
    _ = s1.stored := State.stored_raise _ _ _ _ _
    _ = s.stored := (State.stored_flag _ _ _).trans (State.stored_bump _ _ _ _ _ _ _ _)

theorem State.stored_failover (s : State) (moved : List Nat) (fault : Nat × Option Nat) (index code : Nat) :
    (s.failover moved fault index code).stored = s.stored := by
  unfold State.failover
  extract_lets done served pairs starve gone s1
  split
  · rfl
  · exact State.stored_promote _ _ _ _

/-- R336, R321: a subchannel marked faulty moves strands to their replicas; their descriptors stay. -/
theorem State.stored_markFaulty (s : State) (k cause : Nat) : (s.markFaulty k cause).stored = s.stored := by
  unfold State.markFaulty
  extract_lets s1 s2 moved
  have h1 : s1.stored = s.stored := State.stored_wrs _ _
  have h2 : s2.stored = s.stored := by
    calc _ = _ := State.stored_tellAll _ _
      _ = _ := State.stored_journalPlat _ 3 k cause 0
      _ = s1.stored := State.stored_raise _ _ _ _ _
      _ = s.stored := h1
  exact State.stored_ite rfl (State.stored_ite h2 ((State.stored_reask _ _).trans ((State.stored_failover _ _ _ _ _).trans ((State.stored_wr _ _ _ _).trans h2))))

theorem State.stored_setDram {x : DramSt} (h : x.mem = s.dram.mem) (he : x.epoch = s.dram.epoch) : ({ s with dram := x } : State).stored = s.stored := by
  rw [State.stored, State.stored, h, he]

theorem State.stored_recordUe (s : State) (a : Nat) : (s.recordUe a).stored = s.stored := by
  unfold State.recordUe
  extract_lets k addr s1 s2 _ s3 times _ s4
  have h1 : s1.stored = s.stored := (State.stored_wr _ _ _ _).trans (s.stored_bump _ _ _ _ _ _ _)
  have h2 : s2.stored = s.stored := (s1.stored_journalPlat 4 k 0 addr).trans h1
  have h3 : s3.stored = s.stored := by
    refine State.stored_ite h2 (((State.stored_raise _ _ _ _ _).trans (State.stored_setDram ?_ ?_)).trans h2) <;> rfl
  have h4 : s4.stored = s.stored := by
    refine (State.stored_setDram ?_ ?_).trans h3 <;> rfl
  exact State.stored_ite ((s4.stored_markFaulty k 3).trans h4) h4

theorem State.stored_readerUe (s : State) (a n : Nat) : (s.readerUe a n).stored = s.stored := by
  unfold State.readerUe
  extract_lets s1
  have h1 : s1.stored = s.stored := State.stored_foldl (g := fun s b => s.recordCe b) (fun t b => t.stored_bump _ _ _ _ _ _ _) _ s
  split
  · split
    · exact h1
    · exact (State.stored_recordUe _ _).trans h1
  · exact h1

/-! ### The refusals -/

/-- R427: MC_REJECT holds the code and the offset. -/
theorem State.mcRefuse_rd (s : State) (code off : Nat) :
    (s.mcRefuse code off).rd F.MC_REJECT_CODE 0 = code % 2 ^ 8 ∧ (s.mcRefuse code off).rd F.MC_REJECT_OFFSET 0 = off % 2 ^ 24 := by
  unfold State.mcRefuse
  extract_lets s1
  have hrd (f : Fld) (v : Nat) := s.wrs_rd_of_mem (f := f) (i := 0) (v := v)
    (l := [(F.MC_REJECT_CODE, 0, code), (F.MC_REJECT_OFFSET, 0, off)]) (by simp) (by simp)
  have hraise := s1.raise_keepsCells 0x11 0 s1.mcReject 0
  exact ⟨(hraise _ _ (by decide) (by decide)).trans (hrd F.MC_REJECT_CODE code (by simp)),
    (hraise _ _ (by decide) (by decide)).trans (hrd F.MC_REJECT_OFFSET off (by simp))⟩

theorem State.mcRefuse_keepsCells (s : State) (code off : Nat) :
    s.keepsCells ([F.MC_REJECT_CODE.key, F.MC_REJECT_OFFSET.key] ++ eventKeys) (s.mcRefuse code off) :=
  State.keepsCells_trans (s.wrs_keepsCells [(F.MC_REJECT_CODE, 0, code), (F.MC_REJECT_OFFSET, 0, off)] (by simp)) (State.raise_keepsCells _ _ _ _ _)

theorem State.stored_mcRefuse (s : State) (code off : Nat) : (s.mcRefuse code off).stored = s.stored :=
  (State.stored_raise _ _ _ _ _).trans (s.stored_wrs _)

theorem State.stored_recordReject (s : State) (addr src reason detail : Nat) : (s.recordReject addr src reason detail).stored = s.stored :=
  (s.recordReject_onlyEvt _ _ _ _).jn.stored

/-! ### LOAD -/

/-- R122: the source range, read. -/
def State.sourceRead (s : State) : State := (s.readerUe (s.rd F.MC_SRC_ADDR_ADDR 0 - dramWin) (s.rd F.MC_SRC_LEN_LEN 0)).wake

/-- R122: the control store with the source range staged. -/
def State.staging (s : State) (src : Nat) : McSt :=
  { s.mc with loading := some (s.dram.read (s.rd F.MC_SRC_ADDR_ADDR 0 - dramWin) (s.rd F.MC_SRC_LEN_LEN 0)), loadSrc := src }

/-- R122: the image staged, and the load in progress. -/
def State.imageStaged (s : State) (src : Nat) : State := ({ s.sourceRead with mc := s.staging src } : State).wr F.MC_STATUS_STATE 0 1

theorem State.stored_sourceRead (s : State) : s.sourceRead.stored = s.stored := s.stored_readerUe _ _

theorem State.imageStaged_keepsMem (s : State) (src : Nat) : s.keepsMem (s.imageStaged src) :=
  State.keepsMem_trans (State.keepsMem_of_stored s.stored_sourceRead) (State.keepsMem_of_eq rfl rfl rfl)

variable (src : Nat)

theorem mcLoad_accepted (ho : s.loadOpen = true) (hc : s.inCapture (s.rd F.MC_SRC_ADDR_ADDR 0) (s.rd F.MC_SRC_LEN_LEN 0) = true) :
    mcLoad src s = (s.imageStaged src, .ok) := by
  have hmc : s.sourceRead.mc = s.mc := State.mc_of_stored s.stored_sourceRead
  unfold mcLoad
  extract_lets a n s1
  rw [if_neg (by simp [ho]), if_neg (by simp [a, n, hc]), State.imageStaged, State.staging, ← hmc]
  rfl

theorem mcLoad_not_open (ho : s.loadOpen = false) : mcLoad src s = (s.mcRefuse 0x0A 0, .rejected rBLOCK_REJECT 0x0A) := if_pos ho

theorem mcLoad_not_capture (ho : s.loadOpen = true) (hc : s.inCapture (s.rd F.MC_SRC_ADDR_ADDR 0) (s.rd F.MC_SRC_LEN_LEN 0) = false) :
    mcLoad src s = (s.mcRefuse 0x0B 0, .rejected rBLOCK_REJECT 0x0B) := (if_neg (by simp [ho])).trans (if_pos hc)

/-- R427: LOAD refused with a code. -/
theorem exec_load_refused {h : Hdr} {code : Nat} (hlt : code < 2 ^ 8) (hs : s.serves h 0x20000 (.write64 1))
    (hf : mcLoad h.src.val s = (s.mcRefuse code 0, .rejected rBLOCK_REJECT code)) :
    ∃ t, exec (.load h) s = .next t ∧ t.told h (.rejected 0x38 code) ∧ t.rd F.MC_REJECT_CODE 0 = code ∧ t.mc = s.mc ∧
      s.keepsMem t := by
  obtain ⟨t, ht, htold, hcells, hmem, hmc⟩ := State.request_refuses hs hf
  have hst := s.stored_mcRefuse code 0
  exact ⟨t, congrArg Host.Outcome.next ht, htold, (hcells _ _ (by decide) (by decide)).trans ((s.mcRefuse_rd code 0).1.trans (Nat.mod_eq_of_lt hlt)),
    hmc.trans (State.mc_of_stored hst), State.keepsMem_trans (State.keepsMem_of_stored hst) hmem⟩

/-! ### MC_LOAD_COMPLETE -/

theorem State.journal_keepsCells (s : State) (typ leaf : Nat) (rep : Bool) (body : Nat) :
    s.keepsCells journalKeys (s.journal typ leaf rep body) := by
  unfold State.journal
  split
  · exact fun _ _ _ _ => rfl
  · extract_lets s1 _ s2 s3
    have h1 : s.keepsCells [F.JN_STATUS_LOSS_SEEN.key] s1 := by
      simp only [s1]
      split
      · exact s.flag_keepsCells F.JN_STATUS_LOSS_SEEN 0 (by decide)
      · exact s.keepsCells_refl _
    have h2 : s1.keepsCells [] s2 := fun _ _ _ _ => rfl
    have h3 : s2.keepsCells (F.JN_LOST_COUNT.key :: F.JN_STATUS_SAT.key :: eventKeys) s3 := s2.bump_keepsCells _ _ _ _ _ _ _ (by decide) (by decide)
    have h : s.keepsCells _ s3 := State.keepsCells_trans (State.keepsCells_trans h1 h2) h3
    split
    · exact State.keepsCells_mono (State.keepsCells_trans h (State.raise_keepsCells _ _ _ _ _)) (by decide)
    · exact State.keepsCells_mono h (by decide)

/-- The control store and what is loading, replaced. -/
def State.withMc (s : State) (m : McSt) : State := { s with mc := m }

theorem State.withMc_keepsMem (s : State) (m : McSt) : s.keepsMem (s.withMc m) := (s.setMc_keeps m).2

/-- R122: what a stored image's control store holds. -/
def McSt.storing (m : McSt) (b : List Byte) : McSt :=
  { m with loading := none, words := (List.range 4096).map (imgWord b), dispatch := (List.range 256).map (imgEntry b) }

/-- R122: the registers a stored image sets. -/
def imageCells (b : List Byte) (slot : Nat) : List (Fld × Nat × Nat) :=
  [(F.MC_STATUS_STATE, 0, 2), (F.MC_STATUS_LAST_OK, 0, 1), (F.MC_STATUS_STACK_FAULT, 0, 0), (F.MC_STATUS_STACK_LEAVES, 0, 0),
    (F.MC_STATUS_KEY_SLOT, 0, slot), (F.MC_VER_MAJOR, 0, field b 4 1), (F.MC_VER_MINOR, 0, field b 5 1), (F.MC_VER_PATCH, 0, field b 6 2),
    (F.MC_VER_SVN, 0, imgSvn b), (F.MC_DIGEST_DIGEST, 0, imgDigest b % 2 ^ 64)]

/-- R122: every U register's cell, 0 after a load. -/
def uregZeros : List (Fld × Nat × Nat) := (List.range 256).map (fun i => (F.MC_UREG_VALUE, i, 0))

theorem State.wrs_uregZeros_keepsCells (s : State) : s.keepsCells [F.MC_UREG_VALUE.key] (s.wrs uregZeros) := by
  intro g j hg hn
  rw [State.rd_wrs_ne]
  intro e he
  obtain ⟨u, -, rfl⟩ := List.mem_map.1 he
  exact cellNo_ne (f := F.MC_UREG_VALUE) (by decide) hg fun hk => hn (List.mem_singleton.2 hk)

/-- R122: every engine's U registers 0. -/
def State.clearEngines (s : State) : State := { s with engines := s.engines.map (fun (e : Nat × Engine) => (e.1, e.2.clearU)) }

theorem State.clearEngines_keepsCells (s : State) : s.keepsCells [] s.clearEngines := State.keepsCells_of_regs rfl

theorem State.stored_clearEngines (s : State) : s.clearEngines.stored = s.stored := rfl

/-- R122: the record and the event of a stored image. -/
def State.imageTold (s : State) (b : List Byte) : State :=
  (s.journal 0x0D 0 false (pack [(0, 1, 1), (64, 64, imgDigest b)])).raise 0x10 0 s.mcVer 0

theorem State.imageTold_keepsCells (s : State) (b : List Byte) : s.keepsCells (journalKeys ++ eventKeys) (s.imageTold b) :=
  State.keepsCells_trans (s.journal_keepsCells _ _ _ _) (State.raise_keepsCells _ _ _ _ _)

theorem State.stored_imageTold (s : State) (b : List Byte) : (s.imageTold b).stored = s.stored :=
  (State.stored_raise _ _ _ _ _).trans (s.stored_journal _ _ _ _)

theorem State.storeImage_eq (s : State) (b : List Byte) :
    s.storeImage b = (((s.withMc (s.mc.storing b)).wrs (imageCells b ((s.keySlot b).getD 0))).wrs uregZeros).clearEngines.imageTold b := rfl

theorem State.stored_storeImage (s : State) (b : List Byte) : (s.storeImage b).stored = (s.withMc (s.mc.storing b)).stored := by
  rw [s.storeImage_eq]
  exact (State.stored_imageTold _ _).trans ((State.stored_clearEngines _).trans ((State.stored_wrs _ _).trans (State.stored_wrs _ _)))

theorem State.storeImage_mc (s : State) (b : List Byte) : (s.storeImage b).mc = s.mc.storing b := State.mc_of_stored (s.stored_storeImage b)

theorem McSt.storing_words (m : McSt) (b : List Byte) : (m.storing b).words = (List.range 4096).map (imgWord b) := by rw [McSt.storing]

theorem McSt.storing_dispatch (m : McSt) (b : List Byte) : (m.storing b).dispatch = (List.range 256).map (imgEntry b) := by rw [McSt.storing]

theorem State.storeImage_keepsMem (s : State) (b : List Byte) : s.keepsMem (s.storeImage b) :=
  State.keepsMem_trans (s.withMc_keepsMem _) (State.keepsMem_of_stored (s.stored_storeImage b))

/-- R122: a stored image's registers read what the image gives. -/
theorem State.storeImage_rd (s : State) (b : List Byte) {f : Fld} {v : Nat} (he : (f, 0, v) ∈ imageCells b ((s.keySlot b).getD 0))
    (hf : f.key ∉ [F.MC_UREG_VALUE.key] ++ ([] ++ (journalKeys ++ eventKeys))) (hb : f.key < 1024) : (s.storeImage b).rd f 0 = v % 2 ^ f.w := by
  have hkeep := State.keepsCells_trans (State.wrs_uregZeros_keepsCells ((s.withMc (s.mc.storing b)).wrs (imageCells b ((s.keySlot b).getD 0))))
    (State.keepsCells_trans (State.clearEngines_keepsCells _) (State.imageTold_keepsCells _ b))
  rw [s.storeImage_eq, hkeep f 0 hb hf]
  exact State.wrs_rd_of_mem _ (by simp [imageCells]) (by simp [imageCells]) he

/-- R122: what the control store holds when the staged image is dropped: what it held before the load. -/
def McSt.dropping (m : McSt) : McSt := { m with loading := none }

/-- R122: the staged image dropped. -/
def State.imageDropped (s : State) : State :=
  (s.withMc s.mc.dropping).wrs [(F.MC_STATUS_STATE, 0, if s.mc.words.isEmpty then 0 else 2), (F.MC_STATUS_LAST_OK, 0, 0)]

theorem State.imageDropped_lastOk (s : State) : s.imageDropped.rd F.MC_STATUS_LAST_OK 0 = 0 :=
  State.wrs_rd_of_mem (l := [(F.MC_STATUS_STATE, 0, if s.mc.words.isEmpty then 0 else 2), (F.MC_STATUS_LAST_OK, 0, 0)]) (v := 0) _
    (by simp) (by simp) (by simp)

/-- R427: a load that failed a check: the staged image dropped, and the refusal recorded. -/
def State.loadFailed (s : State) (code off : Nat) : State :=
  (s.imageDropped.mcRefuse code off).recordReject 0x20000 s.mc.loadSrc rBLOCK_REJECT code

theorem State.stored_loadFailed (s : State) (code off : Nat) : (s.loadFailed code off).stored = (s.withMc s.mc.dropping).stored :=
  (State.stored_recordReject _ _ _ _ _).trans ((State.stored_mcRefuse _ _ _).trans (State.stored_wrs _ _))

theorem State.loadFailed_mc (s : State) (code off : Nat) : (s.loadFailed code off).mc = s.mc.dropping :=
  State.mc_of_stored (s.stored_loadFailed code off)

theorem State.loadFailed_keepsMem (s : State) (code off : Nat) : s.keepsMem (s.loadFailed code off) :=
  State.keepsMem_trans (s.withMc_keepsMem _) (State.keepsMem_of_stored (s.stored_loadFailed code off))

theorem State.loadFailed_rd (s : State) (code off : Nat) :
    (s.loadFailed code off).rd F.MC_REJECT_CODE 0 = code % 2 ^ 8 ∧ (s.loadFailed code off).rd F.MC_REJECT_OFFSET 0 = off % 2 ^ 24 ∧
      (s.loadFailed code off).rd F.MC_STATUS_LAST_OK 0 = 0 := by
  obtain ⟨hcode, hoff⟩ := s.imageDropped.mcRefuse_rd code off
  have hcells := State.recordReject_keepsCells (s.imageDropped.mcRefuse code off) 0x20000 s.mc.loadSrc rBLOCK_REJECT code
  have hok := State.keepsCells_trans (s.imageDropped.mcRefuse_keepsCells code off) hcells
  exact ⟨(hcells _ _ (by decide) (by decide)).trans hcode, (hcells _ _ (by decide) (by decide)).trans hoff,
    (hok _ _ (by decide) (by decide)).trans s.imageDropped_lastOk⟩

theorem mcLoadComplete_stores {b : List Byte} (hl : s.mc.loading = some b) (hf : s.imageFault b = none) : mcLoadComplete s = s.storeImage b := by
  simp only [mcLoadComplete, hl, hf]

theorem mcLoadComplete_refuses {b : List Byte} {code off : Nat} (hl : s.mc.loading = some b) (hf : s.imageFault b = some (code, off)) :
    mcLoadComplete s = s.loadFailed code off := by
  simp only [mcLoadComplete, hl, hf]
  rfl

end

/-- Settles O38: LOAD by its checks at acceptance, MC_LOAD_COMPLETE by the image's. -/
theorem controlStoreLoad : Obligations.ControlStoreLoad := by
  refine ⟨fun s h hs => ⟨fun ho hc => ?_, fun ho => ?_, fun ho hc => ?_⟩, fun s b hl => ⟨fun hf => ?_, fun code off hf => ?_⟩⟩
  · exact ⟨_, congrArg Host.Outcome.next (State.request_accepted hs (mcLoad_accepted h.src.val ho hc)), State.respond_told _ _ _,
      State.rd_wr_self _ F.MC_STATUS_STATE 0 1, Option.some_ne_none _, rfl, s.imageStaged_keepsMem h.src.val⟩
  · exact exec_load_refused (by decide) hs (mcLoad_not_open h.src.val ho)
  · exact exec_load_refused (by decide) hs (mcLoad_not_capture h.src.val ho hc)
  · have hrd (f : Fld) (v : Nat) := s.storeImage_rd b (f := f) (v := v)
    have hmc := s.storeImage_mc b
    exact ⟨s.storeImage b, congrArg Host.Outcome.next (mcLoadComplete_stores hl hf),
      hrd F.MC_STATUS_STATE 2 (by simp [imageCells]) (by decide) (by decide),
      hrd F.MC_STATUS_LAST_OK 1 (by simp [imageCells]) (by decide) (by decide), by rw [hmc, McSt.storing_words],
      by rw [hmc, McSt.storing_dispatch],
      hrd F.MC_VER_SVN (imgSvn b) (by simp [imageCells]) (by decide) (by decide),
      congrArg McSt.loading hmc, s.storeImage_keepsMem b⟩
  · obtain ⟨hcode, hoff, hok⟩ := s.loadFailed_rd code off
    have hmc := s.loadFailed_mc code off
    exact ⟨_, congrArg Host.Outcome.next (mcLoadComplete_refuses hl hf), hcode, hoff, hok, by rw [hmc]; rfl,
      by rw [hmc]; rfl, congrArg McSt.loading hmc, s.loadFailed_keepsMem code off⟩

end Sys2Proof.Machine
end

section
/-! PROOFS. One microword: its flow, WAIT, DONE and TICKWAIT (R101, R105 to R107, R110 to R112). -/

namespace Sys2Proof.Machine

set_option Elab.async false

section
variable {s t u : State} {l : Nat}

/-! ### What leaves the engines and the memories as they were -/

/-- Every engine, and every byte of memory, is in t as it is in s. -/
structure State.SameEngines (s t : State) : Prop where
  engines : t.engines = s.engines
  mem : s.keepsMem t

theorem State.SameEngines.eng (h : s.SameEngines t) (k : Nat) : t.eng k = s.eng k := by rw [State.eng, State.eng, h.engines]

theorem State.sameEngines_refl (s : State) : s.SameEngines s := ⟨rfl, s.keepsMem_refl⟩

theorem State.SameEngines.trans (h : s.SameEngines t) (h' : t.SameEngines u) : s.SameEngines u :=
  ⟨h'.engines.trans h.engines, State.keepsMem_trans h.mem h'.mem⟩

theorem State.onlyJn.sameEngines (h : s.onlyJn t) : s.SameEngines t := by
  obtain ⟨_, _, _, _, rfl⟩ := h
  exact ⟨rfl, State.keepsMem_of_eq rfl rfl rfl⟩

theorem State.sameEngines_goto (s : State) (n : Nat) : s.SameEngines (s.goto n) := by
  refine ⟨?_, s.goto_keepsMem n⟩
  obtain ⟨_, _, _, _, _, h⟩ := s.goto_onlyClock n
  rw [h]

theorem State.sameEngines_setLeaf (s : State) (k : Nat) (x : Leaf) : s.SameEngines (s.setLeaf k x) := ⟨rfl, s.keepsMem_setLeaf k x⟩

theorem State.sameEngines_ownAbort (s : State) (k cause at_ : Nat) : s.SameEngines (s.ownAbort k cause at_) := State.sameEngines_setLeaf _ _ _

theorem State.sameEngines_journal (s : State) (typ k : Nat) (rep : Bool) (body : Nat) : s.SameEngines (s.journal typ k rep body) :=
  (s.journal_onlyJn typ k rep body).sameEngines

theorem State.sameEngines_journalFault (s : State) (k cause strand bead off bytePos detail : Nat) :
    s.SameEngines (s.journalFault k cause strand bead off bytePos detail) := s.sameEngines_journal _ _ _ _

theorem State.sameEngines_raise (s : State) (code index data dataHi : Nat) : s.SameEngines (s.raise code index data dataHi) :=
  (s.raise_onlyEvt code index data dataHi).jn.sameEngines

theorem State.sameEngines_wrs (s : State) (ws : List (Fld × Nat × Nat)) : s.SameEngines (s.wrs ws) := (s.onlyEvt_wrs ws).jn.sameEngines

theorem State.sameEngines_setJn (s : State) (j : JnSt) : s.SameEngines { s with jn := j } := ⟨rfl, State.keepsMem_of_eq rfl rfl rfl⟩

theorem State.sameEngines_diverge (s : State) (k cond : Nat) (flow : Bool) (vindex : Nat) : s.SameEngines (s.diverge k cond flow vindex) := by
  unfold State.diverge
  extract_lets _ _ s1 w
  have h1 : s.SameEngines s1 := (s.sameEngines_setJn _).trans (State.sameEngines_wrs _ _)
  split
  · exact s.sameEngines_refl
  · exact (h1.trans (s1.sameEngines_journal 0x0F k true w)).trans (State.sameEngines_raise _ 0xF8 0 w 0)

theorem State.sameEngines_flowLate (s : State) (k : Nat) (d : Disp) (pc at_ : Nat) : s.SameEngines (s.flowLate k d pc at_) := by
  unfold State.flowLate
  extract_lets s1 s2
  have h2 : s.SameEngines s2 := (s.sameEngines_wrs _).trans (s1.sameEngines_raise _ _ _ _)
  exact (h2.trans (s2.sameEngines_journalFault _ _ _ _ _ _ _)).trans (State.sameEngines_ownAbort _ _ _ _)

/-! ### A condition evaluated by a routine -/

variable {d : Disp} {c : Ctx} {at_ cond : Nat}

theorem State.evalCond_plain (hj : isJournalled cond = false) : s.evalCond l d c at_ cond = (s, s.liveCond l d c at_ cond) := by
  unfold State.evalCond
  extract_lets live
  exact if_pos (by simp [hj])

/-- R110, R366: the value a routine evaluates: the live one, or in replay that of the file for a journalled condition. -/
theorem State.evalCond_snd (s : State) (l : Nat) (d : Disp) (c : Ctx) (at_ cond : Nat) :
    (s.evalCond l d c at_ cond).2 =
      if isJournalled cond && ((s.leaf l).replay && s.jn.replay.active) then
        s.fileCond l cond (s.vindexOf l d.qid) ((Table.get? (s.leaf l).condEval (d.qid * 64 + cond)).getD 0)
      else s.liveCond l d c at_ cond := by
  cases hj : isJournalled cond with
  | false => rw [State.evalCond_plain hj]; rfl
  | true =>
    unfold State.evalCond
    extract_lets live x key eval vindex rep v s1 _ x1 s2
    rw [if_neg (by simp [hj])]
    split <;> rfl

theorem State.evalCond_sameEngines (s : State) (l : Nat) (d : Disp) (c : Ctx) (at_ cond : Nat) :
    s.SameEngines (s.evalCond l d c at_ cond).1 := by
  unfold State.evalCond
  extract_lets live x key eval vindex rep v s1 _ x1 s2
  have h1 : s.SameEngines s1 := by
    simp only [s1]
    split
    · exact s.sameEngines_diverge _ _ _ _
    · exact s.sameEngines_refl
  have h2 : s.SameEngines s2 := h1.trans (s1.sameEngines_setLeaf _ _)
  split
  · exact s.sameEngines_refl
  · split
    · exact h2
    · exact h2.trans (s2.journal_onlyJn _ _ _ _).sameEngines

/-! ### The clock moved to the microcycle -/

theorem State.vindexOf_congr {qid : Nat} (hx : t.leaf l = s.leaf l) (hv : t.rd F.UNIT_VCOUNT_VCOUNT l = s.rd F.UNIT_VCOUNT_VCOUNT l) :
    t.vindexOf l qid = s.vindexOf l qid := by
  simp only [State.vindexOf, hx, hv]

theorem State.vindexOf_goto (s : State) (n l qid : Nat) : (s.goto n).vindexOf l qid = s.vindexOf l qid :=
  State.vindexOf_congr (s.goto_leaf n l) (s.goto_rd n _ l)

theorem State.liveCond_goto (s : State) (n l : Nat) (d : Disp) (c : Ctx) (at_ cond : Nat) :
    (s.goto n).liveCond l d c at_ cond = s.liveCond l d c at_ cond := by
  obtain ⟨_, _, _, _, _, h⟩ := s.goto_onlyClock n
  rw [h]
  rfl

theorem State.fileCond_congr {vindex eval : Nat} (hj : t.jn = s.jn) : t.fileCond l cond vindex eval = s.fileCond l cond vindex eval := by
  simp only [State.fileCond, hj]

theorem State.fileCond_goto (s : State) (n l cond vindex eval : Nat) : (s.goto n).fileCond l cond vindex eval = s.fileCond l cond vindex eval :=
  State.fileCond_congr (s.goto_jn n)

theorem State.evalCond_goto (s : State) (n l : Nat) (d : Disp) (c : Ctx) (at_ cond : Nat) :
    ((s.goto n).evalCond l d c at_ cond).2 = (s.evalCond l d c at_ cond).2 := by
  rw [State.evalCond_snd, State.evalCond_snd, s.goto_leaf, s.goto_jn, s.vindexOf_goto, s.liveCond_goto, s.fileCond_goto]

/-! ### A microword at which an engine stands -/

/-- R105, R116: a routine at a microword whose microcycle is due, with no interrupt before it and no tick boundary waited for. -/
structure State.AtWord (s : State) (l : Nat) (r : Routine) (w : Nat) : Prop where
  run : (s.eng l).run = some r
  word : s.uword r.pc = w
  tickTo : r.tickTo = none
  quiet : (s.eng l).intFirst r w = false
  due : s.due (s.eng l).t = true

/-- R107: the operand of the microword at which a routine stands. -/
def State.operandAt (s : State) (l : Nat) (r : Routine) (w : Nat) : Nat := uOperand (s.eng l).c r.d.hdr (s.vindexOf l r.d.qid) w

/-- R107: the working copy after the microword's ALU operation. -/
def State.aluAt (s : State) (l : Nat) (r : Routine) (w : Nat) : Ctx := aluExec (s.eng l).c (uAlu w) (uUdst w) (s.operandAt l r w)

/-- R110: the state and the condition's value once the microword has asked for it; only BRANCH_T, BRANCH_F and WAIT ask. -/
def State.asked (s : State) (l : Nat) (r : Routine) (w : Nat) : State × Bool :=
  if uSeq w = 2 ∨ uSeq w = 3 ∨ uSeq w = 7 then (s.goto (s.eng l).t).evalCond l r.d (s.eng l).c (s.eng l).t (uCond w)
  else (s.goto (s.eng l).t, false)

variable {r : Routine} {w : Nat}

theorem State.asked_snd (h : uSeq w = 2 ∨ uSeq w = 3 ∨ uSeq w = 7) :
    (s.asked l r w).2 = (s.evalCond l r.d (s.eng l).c (s.eng l).t (uCond w)).2 := by
  rw [State.asked, if_pos h, State.evalCond_goto]

theorem State.asked_sameEngines (s : State) (l : Nat) (r : Routine) (w : Nat) : s.SameEngines (s.asked l r w).1 := by
  unfold State.asked
  split
  · exact (s.sameEngines_goto _).trans (State.evalCond_sameEngines _ _ _ _ _ _)
  · exact s.sameEngines_goto _

theorem State.asked_keepsCells (hj : isJournalled (uCond w) = false) : s.keepsCells [F.MC_UREG_VALUE.key] (s.asked l r w).1 := by
  unfold State.asked
  split
  · rw [State.evalCond_plain hj]; exact s.goto_keepsCells _
  · exact s.goto_keepsCells _

theorem vEffs_nil {o : Nat} (hv : uVact w = 0) (h1 : uLoopop w ≠ 1) (h2 : uLoopop w ≠ 2) : vEffs c w o = [] := by simp [vEffs, hv, h1, h2]

theorem State.sEffs_nil {o : Nat} (ha : uSact w = 0) (he : uEvent w = 0) : s.sEffs d w o = [] := by simp [State.sEffs, ha, he]

/-- R112: the committed values are the working copy, the routine runs on, and nothing else that a register or a byte holds changes. -/
structure State.Commits (s : State) (l : Nat) (c : Ctx) (t : State) : Prop where
  run : (t.eng l).run = (s.eng l).run
  copy : (t.eng l).c = c
  committed : (t.eng l).w = c
  cells : s.keepsCells [] t
  mem : s.keepsMem t

theorem State.Commits.setEng {g : Engine} (h : s.Commits l c t) (hr : g.run = (t.eng l).run) (hc : g.c = (t.eng l).c)
    (hw : g.w = (t.eng l).w) : s.Commits l c (t.setEng l g) where
  run := by rw [State.eng_setEng_self, hr, h.run]
  copy := by rw [State.eng_setEng_self, hc, h.copy]
  committed := by rw [State.eng_setEng_self, hw, h.committed]
  cells := State.keepsCells_trans h.cells (t.keepsCells_setEng l g)
  mem := State.keepsMem_trans h.mem (t.keepsMem_setEng l g)

theorem State.Commits.setVis {v : List (Nat × Nat × Ctx)} (h : s.Commits l c t) : s.Commits l c { t with vis := v } :=
  ⟨h.run, h.copy, h.committed, h.cells, h.mem⟩

theorem State.Commits.of_setEng {g : Engine} (hr : g.run = (s.eng l).run) (hc : g.c = c) (hw : g.w = c) : s.Commits l c (s.setEng l g) where
  run := by rw [State.eng_setEng_self, hr]
  copy := by rw [State.eng_setEng_self, hc]
  committed := by rw [State.eng_setEng_self, hw]
  cells := s.keepsCells_setEng l g
  mem := s.keepsMem_setEng l g

theorem State.commit_commits (s : State) (l : Nat) (r : Routine) (c : Ctx) (at_ : Nat) : s.Commits l c (s.commit l r c [] [] at_) := by
  unfold State.commit
  extract_lets _ s1 s2 _
  have h2 : s.Commits l c s2 := State.Commits.of_setEng rfl rfl rfl
  split
  · exact h2.setEng rfl rfl rfl
  · exact h2.setVis

end

end Sys2Proof.Machine
end

section
/-! PROOFS. What one microword, DONE and TICKWAIT leave (R105 to R107, R111, R112). -/

namespace Sys2Proof.Machine

set_option Elab.async false

section
variable {s : State} {l : Nat} {r : Routine} {w : Nat} {c : Ctx}

/-! ### The flow -/

/-- R107: the working copy after the microword's loop operation, or its fault. -/
def State.loopAt (s : State) (l : Nat) (r : Routine) (w : Nat) : Option Ctx :=
  loopOp (s.aluAt l r w) (s.leaf l).loops.length (uLoopop w) (s.operandAt l r w)

theorem State.loopAt_of_no_loop (h : uLoopop w = 0) : s.loopAt l r w = some (s.aluAt l r w) := by simp [State.loopAt, loopOp, h]

/-- R112: a microword with COMMIT asks nothing, nothing is pending, and no arm slot is waited for. -/
structure State.NothingToCommit (s : State) (l : Nat) (r : Routine) (w : Nat) : Prop where
  pendV : r.pendV = []
  pendE : r.pendE = []
  vact : uVact w = 0
  sact : uSact w = 0
  event : uEvent w = 0
  rpt : uLoopop w ≠ 1
  loopb : uLoopop w ≠ 2
  stall : armStall (s.eng l) [] = false

/-- R105, R106: the routine after a microword that does not end it. -/
def Routine.after (r : Routine) (w pc : Nat) (cond : Bool) (pv : List VEff) (pe : List Eff) : Routine :=
  if uCommit w then { d := r.d, pc := pc, saved := pc, waiting := decide (uSeq w = 7 ∧ cond = false) }
  else { d := r.d, pc := pc, saved := r.saved, waiting := false, pendV := pv, pendE := pe }

theorem Routine.after_pc (r : Routine) (w pc : Nat) (cond : Bool) (pv : List VEff) (pe : List Eff) : (r.after w pc cond pv pe).pc = pc := by
  unfold Routine.after
  split <;> rfl

theorem Routine.after_d (r : Routine) (w pc : Nat) (cond : Bool) (pv : List VEff) (pe : List Eff) : (r.after w pc cond pv pe).d = r.d := by
  unfold Routine.after
  split <;> rfl

/-- What a microword that does not end its routine leaves. -/
structure State.StepsTo (s : State) (l : Nat) (r : Routine) (w : Nat) (c : Ctx) (t : State) : Prop where
  run : ∃ pv pe, (t.eng l).run = some (r.after w (nextPc w r.pc (s.asked l r w).2 c) (s.asked l r w).2 pv pe)
  time : (t.eng l).t = (s.eng l).t + cyc
  copy : (t.eng l).c = callStack w r.pc c
  kept : uCommit w = false → (t.eng l).w = (s.eng l).w
  committed : uCommit w = true → (t.eng l).w = callStack w r.pc c
  cells : isJournalled (uCond w) = false → s.keepsCells [F.MC_UREG_VALUE.key] t
  mem : s.keepsMem t

theorem isCommit_of_not_done (h6 : uSeq w ≠ 6) : isCommit w = uCommit w := by simp [isCommit, h6]

theorem State.tickMet_of_no_tickwait (hw : uTickwait w = false) : s.tickMet r w = true := by simp [State.tickMet, hw]

/-- R105: an engine whose routine goes on. -/
def Engine.goesOn (g : Engine) (at_ : Nat) (r : Routine) : Engine := { g with t := at_, run := some r }

/-- R105: an engine whose working copy is c, and whose routine goes on. -/
def Engine.worksOn (g : Engine) (at_ : Nat) (c : Ctx) (r : Routine) : Engine := { g with t := at_, c := c, run := some r }

/-- R105 to R107: a microword without COMMIT. -/
theorem microStep_plain (h : s.AtWord l r w) (hw : uTickwait w = false) (h6 : uSeq w ≠ 6) (hl : s.loopAt l r w = some c) (hcm : uCommit w = false) :
    ∃ pv pe, microStep (uSeq w) l s = (s.asked l r w).1.setEng l (((s.asked l r w).1.eng l).worksOn ((s.eng l).t + cyc) (callStack w r.pc c)
      (r.after w (nextPc w r.pc (s.asked l r w).2 c) (s.asked l r w).2 pv pe)) := by
  refine ⟨r.pendV ++ vEffs (s.eng l).c w (s.operandAt l r w), r.pendE ++ (s.goto (s.eng l).t).sEffs r.d w (s.operandAt l r w), ?_⟩
  unfold State.loopAt State.aluAt State.operandAt at hl
  unfold microStep State.asked State.operandAt Routine.after
  simp only [h.run, h.word, h.tickTo, State.goto_leaf, State.vindexOf_goto]
  rw [if_pos ⟨trivial, State.tickMet_of_no_tickwait hw, h.quiet, h.due⟩]
  simp only [isCommit_of_not_done h6, hcm, hl, h6, if_false, Bool.false_and, Bool.false_eq_true]
  rfl

/-- R112: a microword with COMMIT and nothing to commit but the working copy. -/
theorem microStep_commits (h : s.AtWord l r w) (hw : uTickwait w = false) (h6 : uSeq w ≠ 6) (hl : s.loopAt l r w = some c) (hcm : uCommit w = true)
    (hn : s.NothingToCommit l r w) :
    ∃ u, (s.asked l r w).1.Commits l (callStack w r.pc c) u ∧ microStep (uSeq w) l s = u.setEng l ((u.eng l).goesOn ((s.eng l).t + cyc)
      (r.after w (nextPc w r.pc (s.asked l r w).2 c) (s.asked l r w).2 [] [])) := by
  have hc := (s.asked l r w).1.commit_commits l r (callStack w r.pc c) ((s.eng l).t + cyc)
  refine ⟨_, hc, ?_⟩
  have hs := s.asked_sameEngines l r w
  have hrun := hc.run.trans ((congrArg Engine.run (hs.eng l)).trans h.run)
  have hstall : armStall ((s.asked l r w).1.eng l) [] = false := by rw [hs.eng l]; exact hn.stall
  unfold State.loopAt State.aluAt State.operandAt at hl
  unfold State.asked at hrun hstall
  unfold microStep State.asked Routine.after
  simp only [h.run, h.word, h.tickTo, State.goto_leaf, State.vindexOf_goto, hn.pendV, hn.pendE, vEffs_nil hn.vact hn.rpt hn.loopb,
    State.sEffs_nil hn.sact hn.event, List.append_nil]
  rw [if_pos ⟨trivial, State.tickMet_of_no_tickwait hw, h.quiet, h.due⟩]
  simp only [isCommit_of_not_done h6, hcm, hl, h6, hstall, if_false, Bool.true_and, Bool.false_eq_true, hrun, if_true]
  rfl

theorem microStep_stepsTo (h : s.AtWord l r w) (hw : uTickwait w = false) (h6 : uSeq w ≠ 6) (hl : s.loopAt l r w = some c)
    (hn : uCommit w = true → s.NothingToCommit l r w) : s.StepsTo l r w c (microStep (uSeq w) l s) := by
  have hs := s.asked_sameEngines l r w
  cases hcm : uCommit w with
  | false =>
    obtain ⟨pv, pe, e⟩ := microStep_plain h hw h6 hl hcm
    rw [e]
    refine ⟨⟨pv, pe, ?_⟩, ?_, ?_, fun _ => ?_, fun hx => ?_, fun hj => ?_, ?_⟩
    · rw [State.eng_setEng_self]; rfl
    · rw [State.eng_setEng_self]; rfl
    · rw [State.eng_setEng_self]; rfl
    · rw [State.eng_setEng_self, hs.eng]; rfl
    · rw [hcm] at hx; exact absurd hx Bool.false_ne_true
    · exact State.keepsCells_trans (State.asked_keepsCells hj) (State.keepsCells_setEng _ l _)
    · exact State.keepsMem_trans hs.mem (State.keepsMem_setEng _ l _)
  | true =>
    obtain ⟨u, hu, e⟩ := microStep_commits h hw h6 hl hcm (hn hcm)
    rw [e]
    refine ⟨⟨[], [], ?_⟩, ?_, ?_, fun hx => ?_, fun _ => ?_, fun hj => ?_, ?_⟩
    · rw [State.eng_setEng_self]; rfl
    · rw [State.eng_setEng_self]; rfl
    · rw [State.eng_setEng_self]; exact hu.copy
    · rw [hcm] at hx; exact absurd hx.symm Bool.false_ne_true
    · rw [State.eng_setEng_self]; exact hu.committed
    · exact State.keepsCells_trans (State.asked_keepsCells hj) (State.keepsCells_trans hu.cells (State.keepsCells_setEng _ l _))
    · exact State.keepsMem_trans hs.mem (State.keepsMem_trans hu.mem (State.keepsMem_setEng _ l _))

/-! ### DONE and TICKWAIT -/

/-- R111: the working copy when the routine ends: its micro loops and its call stack empty. -/
def Ctx.ended (c : Ctx) : Ctx := { c with loops := [], calls := [] }

/-- R111: an engine whose routine has ended. -/
def Engine.ends (g : Engine) (at_ : Nat) : Engine := { g with t := at_, run := none }

theorem State.Commits.doneAct {k at_ : Nat} {d : Disp} {u : State} (h : s.Commits l c u) : s.Commits l c (u.doneAct k d at_) :=
  ⟨h.run, h.copy, h.committed, h.cells, h.mem⟩

/-- R110: a leaf without the counts of the conditions that a vector's routine has evaluated. -/
def State.dropCounts (s : State) (l qid : Nat) : State :=
  s.setLeaf l { s.leaf l with condEval := (s.leaf l).condEval.filter (fun e => e.1 / 64 != qid) }

/-- R119: a routine that may change control flow and ended after the end of its bead. -/
def State.checkLate (s : State) (l : Nat) (r : Routine) (x : Leaf) (at_ : Nat) : State :=
  if eFlow r.d.entry ∧ r.d.beadSeq = x.beadSeq ∧ x.bdue ∧ x.hold.isNone ∧ edgeOf x.nextStart < at_ then s.flowLate l r.d r.pc x.nextStart else s

theorem State.checkLate_sameEngines (s : State) (l : Nat) (r : Routine) (x : Leaf) (at_ : Nat) : s.SameEngines (s.checkLate l r x at_) := by
  unfold State.checkLate
  split
  · exact s.sameEngines_flowLate _ _ _ _
  · exact s.sameEngines_refl

/-- R111, R119: DONE commits and ends the routine; one that came too late for the end of its bead asks for an abort. -/
theorem microStep_done (h : s.AtWord l r w) (hw : uTickwait w = false) (h6 : uSeq w = 6) (hl : s.loopAt l r w = some c)
    (hn : s.NothingToCommit l r w) :
    ∃ u, (s.goto (s.eng l).t).Commits l c.ended u ∧
      microStep 6 l s = ((u.setEng l ((u.eng l).ends ((s.eng l).t + cyc))).dropCounts l r.d.qid).checkLate l r (u.leaf l) ((s.eng l).t + cyc) := by
  refine ⟨_, ((s.goto (s.eng l).t).commit_commits l r c.ended ((s.eng l).t + cyc)).doneAct (k := l) (d := r.d) (at_ := (s.eng l).t + cyc), ?_⟩
  have hstall : armStall ((s.goto (s.eng l).t).eng l) [] = false := by rw [s.goto_eng]; exact hn.stall
  have hcommit : isCommit w = true := by simp [isCommit, h6]
  have hcalls : callStack w r.pc c = c := by simp [callStack, h6]
  unfold State.loopAt State.aluAt State.operandAt at hl
  unfold microStep
  simp only [h.run, h.word, h.tickTo, State.goto_leaf, State.vindexOf_goto, hn.pendV, hn.pendE, vEffs_nil hn.vact hn.rpt hn.loopb,
    State.sEffs_nil hn.sact hn.event, List.append_nil]
  rw [if_pos ⟨h6, State.tickMet_of_no_tickwait hw, h.quiet, h.due⟩]
  simp only [hcommit, hcalls, hl, hstall, Bool.and_false, Bool.false_eq_true, if_false, if_true,
    show ¬((6 : Nat) = 2 ∨ (6 : Nat) = 3 ∨ (6 : Nat) = 7) by decide]
  rfl

theorem tickwait_waits (h : s.AtWord l r w) (hw : uTickwait w = true) (hv : r.pendV = []) (he : r.pendE = []) :
    ∃ u, (s.goto (s.eng l).t).Commits l (s.eng l).c u ∧ tickwait l s = u.setEng l ((u.eng l).goesOn ((s.eng l).t + cyc)
      { d := r.d, pc := r.pc, saved := r.pc, waiting := true, tickTo := some (tickOf (s.eng l).t + 1) }) := by
  have hc := (s.goto (s.eng l).t).commit_commits l r (s.eng l).c ((s.eng l).t + cyc)
  refine ⟨_, hc, ?_⟩
  have hrun := hc.run.trans ((congrArg Engine.run (s.goto_eng _ l)).trans h.run)
  unfold tickwait
  simp only [h.run, h.word, hv, he]
  rw [if_pos ⟨hw, h.tickTo, h.quiet, h.due⟩]
  simp only [hrun]
  rfl

/-! ### Where a microword goes -/

/-- R101, R105 to R107, R112: a command that executes the microword at which the engine stands. -/
theorem microword_goes {i : Instr} {pc : Nat} {calls : List Nat} (h : s.StepsTo l r w c (microStep (uSeq w) l s))
    (hi : exec i s = .next (microStep (uSeq w) l s)) (hpc : nextPc w r.pc (s.asked l r w).2 c = pc)
    (hcalls : callStack w r.pc c = { c with calls := calls }) :
    ∃ t r', exec i s = .next t ∧ (t.eng l).run = some r' ∧ r'.pc = pc ∧ r'.d = r.d ∧ (t.eng l).c = { c with calls := calls } ∧
      (t.eng l).t = (s.eng l).t + 1024 ∧ (uCommit w = false → (t.eng l).w = (s.eng l).w) ∧
      (uCommit w = true → (t.eng l).w = { c with calls := calls } ∧ r'.saved = pc) ∧
      (isJournalled (uCond w) = false → s.keepsCells [F.MC_UREG_VALUE.key] t) ∧ s.keepsMem t := by
  obtain ⟨pv, pe, hrun⟩ := h.run
  refine ⟨_, _, hi, hrun, (r.after_pc _ _ _ _ _).trans hpc, r.after_d _ _ _ _ _, h.copy.trans hcalls, h.time, h.kept, fun hcm => ⟨?_, ?_⟩,
    h.cells, h.mem⟩
  · exact (h.committed hcm).trans hcalls
  · rw [Routine.after, if_pos hcm]; exact hpc

end

/-- Settles O35: `microStep_stepsTo`, and where each operation goes. -/
theorem microwords : Obligations.Microwords := by
  intro s l r w c hrun hw htw hto hint hdue hl hn i cond pc calls hcond hcase
  have hat : s.AtWord l.val r w := ⟨hrun, hw, hto, hint, decide_eq_true hdue⟩
  have hnothing : uCommit w = true → s.NothingToCommit l.val r w := fun hcm => by
    obtain ⟨hpv, hpe, hv, ha, he, h1, h2, hs⟩ := hn hcm
    exact ⟨hpv, hpe, hv, ha, he, h1, h2, hs⟩
  have hsteps (h6 : uSeq w ≠ 6) := microStep_stepsTo hat htw h6 hl hnothing
  have hasked (h : uSeq w = 2 ∨ uSeq w = 3 ∨ uSeq w = 7) : (s.asked l.val r w).2 = cond := (State.asked_snd h).trans hcond.symm
  rcases hcase with ⟨rfl, hq, rfl, rfl⟩ | ⟨rfl, hq, rfl, rfl⟩ | ⟨rfl, hq, rfl, rfl⟩ | ⟨rfl, hq, rfl, rfl⟩ | ⟨rfl, hq, rfl, rfl⟩ |
    ⟨rfl, hq, rfl, rfl⟩
  · exact microword_goes (hsteps (by omega)) (by rw [hq]; rfl) (by simp [nextPc, hq, pcAfter]) (by simp [callStack, hq])
  case inr.inl => exact microword_goes (hsteps (by omega)) (by rw [hq]; rfl) (by simp [nextPc, hq]) (by simp [callStack, hq])
  case inr.inr.inl =>
    exact microword_goes (hsteps (by omega)) (by rw [hq]; rfl) (by simp [nextPc, hq, pcAfter, hasked]) (by simp [callStack, hq])
  case inr.inr.inr.inl =>
    exact microword_goes (hsteps (by omega)) (by rw [hq]; rfl) (by simp [nextPc, hq, pcAfter, hasked]) (by simp [callStack, hq])
  case inr.inr.inr.inr.inl =>
    exact microword_goes (hsteps (by omega)) (by rw [hq]; rfl) (by simp [nextPc, hq]) (by simp [callStack, hq, pcAfter])
  case inr.inr.inr.inr.inr =>
    exact microword_goes (hsteps (by omega)) (by rw [hq]; rfl) (by simp [nextPc, hq]) (by simp [callStack, hq])

/-- Settles O36: `microStep_stepsTo` for WAIT, `microStep_done` and `tickwait_waits`. -/
theorem waitDoneTickwait : Obligations.WaitDoneTickwait := by
  intro s l r w c hrun hw hto hpv hpe hloop hv ha he hint hstall hdue hc
  have hat : s.AtWord l.val r w := ⟨hrun, hw, hto, hint, decide_eq_true hdue⟩
  have hn : s.NothingToCommit l.val r w := ⟨hpv, hpe, hv, ha, he, by omega, by omega, hstall⟩
  have hl : s.loopAt l.val r w = some c := (State.loopAt_of_no_loop hloop).trans (congrArg some hc.symm)
  refine ⟨fun cond hq htw hcm hcond => ?_, fun hq htw => ?_, fun htw => ?_⟩
  · have hsteps := microStep_stepsTo hat htw (by omega) hl fun _ => hn
    have hasked : (s.asked l.val r w).2 = cond := (State.asked_snd (by omega)).trans hcond.symm
    obtain ⟨pv, pe, hr⟩ := hsteps.run
    have hcalls : callStack w r.pc c = c := by simp [callStack, hq]
    refine ⟨_, _, by rw [hq]; rfl, hr, (hsteps.committed hcm).trans hcalls, fun ht => ?_, fun hf => ?_, hsteps.mem⟩
    · simp [hasked, ht, nextPc, hq, pcAfter, Routine.after, hcm]
    · simp [hasked, hf, nextPc, hq, Routine.after, hcm]
  · obtain ⟨u, hu, e⟩ := microStep_done hat htw hq hl hn
    have hlate := State.checkLate_sameEngines
      ((u.setEng l.val ((u.eng l.val).ends ((s.eng l.val).t + cyc))).dropCounts l.val r.d.qid) l.val r (u.leaf l.val) ((s.eng l.val).t + cyc)
    have hsame := (State.sameEngines_setLeaf _ _ _).trans hlate
    rw [← e] at hsame
    have heng := (hsame.eng l.val).trans (u.eng_setEng_self l.val _)
    refine ⟨_, rfl, congrArg Engine.run heng, (congrArg Engine.w heng).trans hu.committed, ?_⟩
    exact State.keepsMem_trans (s.goto_keepsMem _) (State.keepsMem_trans hu.mem (State.keepsMem_trans (u.keepsMem_setEng _ _) hsame.mem))
  · obtain ⟨u, hu, e⟩ := tickwait_waits hat htw hpv hpe
    refine ⟨_, _, congrArg Host.Outcome.next e, congrArg Engine.run (u.eng_setEng_self l.val _), rfl, rfl, rfl, ?_, ?_⟩
    · rw [State.eng_setEng_self]; exact hu.committed
    · exact State.keepsMem_trans (s.goto_keepsMem _) (State.keepsMem_trans hu.mem (u.keepsMem_setEng _ _))

end Sys2Proof.Machine
end

section
/-! PROOFS. The edges of a pin at their placed times (R131 to R133). -/

namespace Sys2Proof.Machine

set_option Elab.async false

section
variable {s : State} {l slot : Nat} {e : Edge}

/-- R133: a compare edge takes the comparator outputs as a sample, or closes the window. -/
theorem Cmp.sampleAt_taken (c : Cmp) (k : Nat) (cl ch exc : Bool) :
    if k = 3 then (c.sampleAt k cl ch exc).sample = some (cl, ch) else (c.sampleAt k cl ch exc).closed = true := by
  by_cases hk : k = 3
  · simp [Cmp.sampleAt, hk]
  · simp [Cmp.sampleAt, hk]

/-- The pin after a drive edge: with its state's enable and termination, at the level that the edge commands, if any. -/
def PinDrv.driven (p : PinDrv) (e : Edge) : PinDrv :=
  { pinTake p e.fmt e.term e.state with
    high := (driveLevel e.fmt e.state e.field).getD (pinTake p e.fmt e.term e.state).high }

/-- A leaf with an edge of a pin placed. -/
def Leaf.placing (x : Leaf) (slot : Nat) (e : Edge) : Leaf :=
  { x with edges := x.edges.erase e, past := x.past ++ [(slot, e.field, e.placed)] }

/-- A compare at a compare edge of a pin: taken when it is the pin's and was not suppressed. -/
def Cmp.atEdge (slot k : Nat) (cl ch exc : Bool) (c : Cmp) : Cmp :=
  if c.slot = slot ∧ c.supp = false then c.sampleAt k cl ch exc else c

/-- A vector at a compare edge of a pin: its compares, when the edge is one of the vector's. -/
def VRec.atEdge (slot : Nat) (e : Edge) (cl ch exc : Bool) (v : VRec) : VRec :=
  if v.vindex = e.vindex then { v with cmps := v.cmps.map (Cmp.atEdge slot e.field cl ch exc) } else v

theorem State.goto_setLeaf_keeps (s : State) (at_ l : Nat) (x : Leaf) :
    s.keepsCells [F.MC_UREG_VALUE.key] ((s.goto at_).setLeaf l x) ∧ s.keepsMem ((s.goto at_).setLeaf l x) :=
  ⟨State.keepsCells_trans (s.goto_keepsCells at_) (State.keepsCells_of_regs (State.setLeaf_regs _ l x)),
    State.keepsMem_trans (s.goto_keepsMem at_) (State.keepsMem_setLeaf _ l x)⟩

theorem edgePlace_drive {cl ch exc : Bool} (hn : nextEdge (s.leaf l).edges slot = some e) (hd : s.due e.placed = true) (hr : e.role = 0) :
    edgePlace l slot cl ch exc s = (s.goto e.placed).setLeaf l { (s.leaf l).placing slot e with
      drv := Table.set (s.leaf l).drv slot (((Table.get? (s.leaf l).drv slot).getD {}).driven e) } := by
  simp only [edgePlace, hn, hd, hr, if_true, PinDrv.driven, Leaf.placing]
  cases driveLevel e.fmt e.state e.field <;> rfl

theorem edgePlace_compare {cl ch exc : Bool} (hn : nextEdge (s.leaf l).edges slot = some e) (hd : s.due e.placed = true) (hr : e.role ≠ 0) :
    edgePlace l slot cl ch exc s = (s.goto e.placed).setLeaf l { (s.leaf l).placing slot e with
      vrecs := (s.leaf l).vrecs.map (VRec.atEdge slot e cl ch exc) } := by
  simp only [edgePlace, hn, hd, hr, if_true, if_false]
  rfl

/-- R133: after a compare edge every compare of its vector at its pin that was not suppressed has been taken. -/
theorem VRec.atEdge_taken {cl ch exc : Bool} {v : VRec} (hv : (v.atEdge slot e cl ch exc).vindex = e.vindex) {c : Cmp}
    (hc : c ∈ (v.atEdge slot e cl ch exc).cmps) (hslot : c.slot = slot) (hsupp : c.supp = false) :
    if e.field = 3 then c.sample = some (cl, ch) else c.closed = true := by
  have hvec : v.vindex = e.vindex := by
    by_contra hne
    exact hne (by rwa [VRec.atEdge, if_neg hne] at hv)
  rw [VRec.atEdge, if_pos hvec] at hc
  obtain ⟨d, -, rfl⟩ := List.mem_map.1 hc
  by_cases hd : d.slot = slot ∧ d.supp = false
  · rw [Cmp.atEdge, if_pos hd]
    exact d.sampleAt_taken _ _ _ _
  · rw [Cmp.atEdge, if_neg hd] at hslot hsupp
    exact absurd ⟨hslot, hsupp⟩ hd

end

end Sys2Proof.Machine

namespace Sys2Proof.Settled
open Sys2Proof.Machine

set_option Elab.async false

/-- Settles O28: the drive edge by `edgePlace_drive`, the compare edge by `edgePlace_compare`; besides the leaf only the clock moves. -/
theorem edgePlace : Obligations.EdgePlace := by
  intro s l j cl ch exc e hnext hdue
  have hexec : exec (.edgePlace l j cl ch exc) s = .next (Machine.edgePlace l.val j.val cl ch exc s) := rfl
  have hdue' : s.due e.placed = true := State.due_of_lt hdue
  by_cases hr : e.role = 0
  · rw [hexec, edgePlace_drive hnext hdue' hr]
    refine ⟨_, rfl, ?_, fun _ => ⟨((Table.get? (s.leaf l.val).drv j.val).getD {}).driven e, ?_, rfl, rfl, rfl⟩, fun hne => absurd hr hne,
      s.goto_setLeaf_keeps _ _ _⟩
    · rw [State.leaf_setLeaf_self]; rfl
    · rw [State.leaf_setLeaf_self]; exact Table.get?_set_self _ _ _
  · rw [hexec, edgePlace_compare hnext hdue' hr]
    refine ⟨_, rfl, ?_, fun h0 => absurd h0 hr, fun _ => ?_, s.goto_setLeaf_keeps _ _ _⟩
    · rw [State.leaf_setLeaf_self]; rfl
    · rw [State.leaf_setLeaf_self]
      refine ⟨rfl, fun v hv hvec c hc hslot hsupp => ?_⟩
      obtain ⟨w, -, rfl⟩ := List.mem_map.1 hv
      exact VRec.atEdge_taken hvec hc hslot hsupp

end Sys2Proof.Settled
end

section
/-! PROOFS. Requests for an exchange of a leaf's banks, and the exchange (R140 to R143). -/

namespace Sys2Proof.Machine

set_option Elab.async false

section
variable {s t : State} {l : Nat}

/-! ### SWAP and CANCEL -/

theorem tsSwap_accepted (hf : s.swapFault l = none) : tsSwap l s = (s.wr F.TS_STATUS_SWAP_PENDING l 1, .ok) := by simp only [tsSwap, hf]

/-- What TS_STATUS says of a rejected request. -/
def rejCells (l : Nat) (f : SwapFault) : List (Fld × Nat × Nat) :=
  [(F.TS_STATUS_REJECT, l, f.1), (F.TS_STATUS_LAST_SWAP_OK, l, 0), (F.TS_STATUS_REJ_SET, l, f.2.1), (F.TS_STATUS_REJ_SLOT, l, f.2.2.1),
    (F.TS_STATUS_REJ_EDGE, l, f.2.2.2)]

/-- A rejected request shown in TS_STATUS and told. -/
def State.swapRejected (s : State) (l : Nat) (f : SwapFault) : State :=
  (s.wrs (rejCells l f)).raise 0x72 l ((s.wrs (rejCells l f)).tsStatus l) 0

theorem tsSwap_rejected {f : SwapFault} (hf : s.swapFault l = some f) :
    tsSwap l s = (s.swapRejected l f, .rejected rBLOCK_REJECT f.1) := by
  simp only [tsSwap, hf]
  rfl

theorem State.swapRejected_keepsMem (s : State) (l : Nat) (f : SwapFault) : s.keepsMem (s.swapRejected l f) :=
  State.keepsMem_of_onlyEvt (State.onlyEvt_trans (s.onlyEvt_wrs _) (State.raise_onlyEvt _ _ _ _ _))

/-- R140: TS_STATUS shows the code of the rejection; the pending exchange stays as it was. -/
theorem State.swapRejected_rd (s : State) (l : Nat) (f : SwapFault) :
    (s.swapRejected l f).rd F.TS_STATUS_REJECT l = f.1 % 2 ^ 8 ∧ (s.swapRejected l f).rd F.TS_STATUS_LAST_SWAP_OK l = 0 ∧
      (s.swapRejected l f).rd F.TS_STATUS_SWAP_PENDING l = s.rd F.TS_STATUS_SWAP_PENDING l := by
  have hk : ∀ e ∈ rejCells l f, e.1.key < 1024 := by simp [rejCells]
  have hraise (g : Fld) (hg : g.key < 1024) (hn : g.key ∉ eventKeys) : (s.swapRejected l f).rd g l = (s.wrs (rejCells l f)).rd g l :=
    (s.wrs (rejCells l f)).raise_keepsCells _ _ _ _ g l hg hn
  refine ⟨?_, ?_, ?_⟩
  · rw [hraise _ (by decide) (by decide)]
    exact s.wrs_rd_of_mem hk (by simp [rejCells]) (by simp [rejCells])
  · rw [hraise _ (by decide) (by decide)]
    exact s.wrs_rd_of_mem (v := 0) hk (by simp [rejCells]) (by simp [rejCells])
  · rw [hraise _ (by decide) (by decide)]
    exact s.wrs_keepsCells _ hk _ l (by decide) (by simp [rejCells])

theorem tsCancel_withdraws (hat : ∀ e, s.exchangeAt l = some e → s.now < edgeOf e.1)
    (hcomes : s.exchangeAt l = none → s.exchangeComes l = false) : tsCancel l s = (s.wr F.TS_STATUS_SWAP_PENDING l 0, .ok) := by
  unfold tsCancel
  split
  next at_ whr he => rw [if_neg (Nat.not_le.2 (hat _ he))]
  next he => rw [if_neg (by simp [hcomes he])]

theorem tsCancel_late {e : Nat × Nat} (hat : s.exchangeAt l = some e) (hle : edgeOf e.1 ≤ s.now) : tsCancel l s = (s, .ok) := by
  simp only [tsCancel, hat, hle, if_true]

/-! ### What interrupts, records and replays leave of the leaves and of the registers -/

/-- The cells in which a replay shows its first difference (R373). -/
abbrev divergeKeys : List Nat :=
  [F.JN_RPL_STAT_DIVERGED.key, F.JN_RPL_STAT_LEAF.key, F.JN_RPL_STAT_COND.key, F.JN_RPL_STAT_FLOW.key, F.JN_RPL_STAT_VINDEX.key,
    F.JN_RPL_DIVTICK_TICK.key] ++ journalKeys

theorem State.onlyJn.leaf (h : s.onlyJn t) (k : Nat) : t.leaf k = s.leaf k := by
  obtain ⟨_, _, _, _, rfl⟩ := h
  rfl

theorem State.onlyJn.keepsMem (h : s.onlyJn t) : s.keepsMem t := State.keepsMem_of_stored h.stored

theorem State.checkFlow_onlyJn (s : State) (l : Nat) (same : Bool) : s.onlyJn (s.checkFlow l same) := by
  unfold State.checkFlow State.diverge
  split
  · split
    · exact s.onlyEvt_refl.jn
    · exact State.onlyJn_trans (State.onlyJn_trans (State.onlyJn_trans ⟨_, _, _, _, rfl⟩ (State.onlyEvt_wrs _ _).jn)
        (State.journal_onlyJn _ _ _ _ _)) (State.raise_onlyEvt _ _ _ _ _).jn
  · exact s.onlyEvt_refl.jn

theorem State.checkFlow_keepsCells (s : State) (l : Nat) (same : Bool) : s.keepsCells divergeKeys (s.checkFlow l same) := by
  have hjn (j : JnSt) : s.keepsCells [] { s with jn := j } := fun _ _ _ _ => rfl
  unfold State.checkFlow State.diverge
  split
  · split
    · exact s.keepsCells_refl _
    · exact State.keepsCells_mono (State.keepsCells_trans (State.keepsCells_trans (State.keepsCells_trans (hjn _)
        (State.wrs_keepsCells _ _ (by simp))) (State.journal_keepsCells _ _ _ _ _)) (State.raise_keepsCells _ _ _ _ _))
        (by simp [List.subset_def])
  · exact s.keepsCells_refl _

/-- R142: an exchange is told: the interrupt, the record, the message, and the replay that checks it. -/
def State.exchangeTold (s : State) (l : Nat) (rep : Bool) (w : Nat) (same : Bool) : State :=
  (((s.raiseInt l 5).journal 0x08 l rep w).raise 0x71 l w 0).checkFlow l same

theorem State.exchangeTold_keeps (s : State) (l : Nat) (rep : Bool) (w : Nat) (same : Bool) :
    (∀ k, (s.exchangeTold l rep w same).leaf k = s.leaf k) ∧ s.keepsCells divergeKeys (s.exchangeTold l rep w same) ∧
      s.keepsMem (s.exchangeTold l rep w same) := by
  obtain ⟨g, hg, -⟩ := s.raiseInt_eq l 5
  rw [State.exchangeTold, hg]
  have hjournal := (s.setEng l g).journal_onlyJn 0x08 l rep w
  have honly := State.onlyJn_trans (State.onlyJn_trans hjournal (State.raise_onlyEvt _ 0x71 l w 0).jn) (State.checkFlow_onlyJn _ l same)
  have hcells := State.keepsCells_trans (State.keepsCells_trans ((s.setEng l g).journal_keepsCells 0x08 l rep w)
    (State.raise_keepsCells _ 0x71 l w 0)) (State.checkFlow_keepsCells _ l same)
  exact ⟨honly.leaf, State.keepsCells_mono hcells (by decide), State.keepsMem_trans (s.keepsMem_setEng l g) honly.keepsMem⟩

/-! ### The exchange -/

/-- R141: the vector index of an exchange with the code whr in WHERE. -/
def State.exchangeIndex (s : State) (l whr : Nat) : Nat := if whr = 1 ∨ (s.leaf l).phase = .armed then 0 else s.rd F.UNIT_VCOUNT_VCOUNT l

/-- What the TS registers say of an exchange. -/
def exchangeCells (l v whr : Nat) : List (Fld × Nat × Nat) :=
  [(F.TS_STATUS_SWAP_PENDING, l, 0), (F.TS_STATUS_LAST_SWAP_OK, l, 1), (F.TS_SWAP_AT_VINDEX, l, v), (F.TS_SWAP_AT_WHERE, l, whr)]

/-- R141: the banks of a leaf exchanged, and shown. -/
def State.exchanged (s : State) (l whr : Nat) : State :=
  (s.setLeaf l { s.leaf l with
    bank := 1 - (s.leaf l).bank
    swapAt := if whr = 1 then (s.leaf l).swapAt else some (s.exchangeIndex l whr) }).wrs (exchangeCells l (s.exchangeIndex l whr) whr)

theorem tsExchange_told {e : Nat × Nat} (hat : s.exchangeAt l = some e) (hd : s.due e.1 = true) :
    ∃ rep w same, tsExchange l s = ((s.goto e.1).exchanged l e.2).exchangeTold l rep w same := by
  simp only [tsExchange, hat, hd, if_true]
  exact ⟨_, _, _, rfl⟩

theorem State.exchanged_spec (s : State) (l whr : Nat) :
    ((s.exchanged l whr).leaf l).bank = 1 - (s.leaf l).bank ∧ (s.exchanged l whr).rd F.TS_STATUS_SWAP_PENDING l = 0 ∧
      (s.exchanged l whr).rd F.TS_STATUS_LAST_SWAP_OK l = 1 ∧ (s.exchanged l whr).rd F.TS_SWAP_AT_WHERE l = whr % 2 ^ 2 ∧
      s.keepsMem (s.exchanged l whr) := by
  have hrd {f : Fld} {v : Nat} (hm : (f, l, v) ∈ exchangeCells l (s.exchangeIndex l whr) whr) :
      (s.exchanged l whr).rd f l = v % 2 ^ f.w :=
    State.wrs_rd_of_mem _ (by simp [exchangeCells]) (by simp [exchangeCells]) hm
  refine ⟨?_, hrd (v := 0) (by simp [exchangeCells]), hrd (v := 1) (by simp [exchangeCells]), hrd (by simp [exchangeCells]), ?_⟩
  · exact congrArg Leaf.bank (((State.onlyEvt_wrs _ _).jn.leaf l).trans (State.leaf_setLeaf_self s l _))
  · exact State.keepsMem_trans (s.keepsMem_setLeaf l _) (State.keepsMem_of_onlyEvt (State.onlyEvt_wrs _ _))

end

/-- Settles O40: SWAP and CANCEL are requests whose answers are said above; the exchange takes place in `State.exchanged`, and what tells
it leaves the leaf and the TS registers. -/
theorem bankExchange : Obligations.BankExchange := by
  refine ⟨fun s h l hs => ⟨fun hf => ?_, fun f hf => ?_⟩, fun s h l hs => ⟨fun hat hcomes => ?_, fun e hat hle => ?_⟩,
    fun s l e hat hdue => ?_⟩
  · exact ⟨_, congrArg Host.Outcome.next (State.request_accepted hs (tsSwap_accepted hf)), State.respond_told _ _ _,
      s.rd_wr_self F.TS_STATUS_SWAP_PENDING l.val 1, s.wr_keepsCells F.TS_STATUS_SWAP_PENDING l.val 1 (by decide), s.keepsMem_refl⟩
  · obtain ⟨htold, hcells, hmem, -, -⟩ := State.request_rejected hs (tsSwap_rejected hf) rfl
    obtain ⟨hreject, hok, hpending⟩ := s.swapRejected_rd l.val f
    exact ⟨_, rfl, htold, (hcells _ _ (by decide) (by decide)).trans hreject, (hcells _ _ (by decide) (by decide)).trans hok,
      (hcells _ _ (by decide) (by decide)).trans hpending, State.keepsMem_trans (s.swapRejected_keepsMem l.val f) hmem⟩
  · exact ⟨_, congrArg Host.Outcome.next (State.request_accepted hs (tsCancel_withdraws hat hcomes)), State.respond_told _ _ _,
      s.rd_wr_self F.TS_STATUS_SWAP_PENDING l.val 0, s.wr_keepsCells F.TS_STATUS_SWAP_PENDING l.val 0 (by decide), s.keepsMem_refl⟩
  · exact ⟨_, congrArg Host.Outcome.next (State.request_accepted hs (tsCancel_late hat hle)), State.respond_told _ _ _,
      State.keepsCells_of_regs rfl, s.keepsMem_refl⟩
  · obtain ⟨rep, w, same, ht⟩ := tsExchange_told hat (State.due_of_lt hdue)
    obtain ⟨hleaf, hcells, hmem⟩ := ((s.goto e.1).exchanged l.val e.2).exchangeTold_keeps l.val rep w same
    obtain ⟨hbank, hpending, hok, hwhere, hmem1⟩ := (s.goto e.1).exchanged_spec l.val e.2
    have hrd (f : Fld) (hf : f.key < 1024) (hn : f.key ∉ divergeKeys) := hcells f l.val hf hn
    refine ⟨_, congrArg Host.Outcome.next ht, ?_, (hrd _ (by decide) (by decide)).trans hpending, (hrd _ (by decide) (by decide)).trans hok,
      (hrd _ (by decide) (by decide)).trans hwhere, State.keepsMem_trans (s.goto_keepsMem e.1) (State.keepsMem_trans hmem1 hmem)⟩
    rw [hleaf, hbank, s.goto_leaf]

end Sys2Proof.Machine
end

section
/-! PROOFS. What a change of the reference or of the vernier DLL's lock leaves as it was (R147, R191 to R197, R207, R208). -/

namespace Sys2Proof.Machine

set_option Elab.async false

section
variable {s t u : State}

/-! ### What the frequency counters' gates change -/

/-- Nothing but the frequency counters is in t other than in s. -/
def State.onlyFcs (s t : State) : Prop := ∃ x : Table FcSt, t = { s with tmu := { s.tmu with fcs := x } }

theorem State.onlyFcs_refl (s : State) : s.onlyFcs s := ⟨_, rfl⟩

theorem State.onlyFcs_trans (h : s.onlyFcs t) (h' : t.onlyFcs u) : s.onlyFcs u := by
  obtain ⟨_, rfl⟩ := h
  obtain ⟨_, rfl⟩ := h'
  exact ⟨_, rfl⟩

theorem State.onlyFcs_setFc (s : State) (f : Nat) (x : FcSt) : s.onlyFcs (s.setFc f x) := ⟨_, rfl⟩

theorem State.onlyFcs_foldl {g : State → Nat → State} (hg : ∀ (t : State) f, t.onlyFcs (g t f)) (ls : List Nat) (s : State) :
    s.onlyFcs (ls.foldl g s) :=
  List.foldlRecOn ls g (motive := s.onlyFcs) s.onlyFcs_refl fun _ h _ _ => State.onlyFcs_trans h (hg _ _)

theorem State.fcRoll_onlyFcs (s : State) (f at_ : Nat) : s.onlyFcs (s.fcRoll f at_) := by
  unfold State.fcRoll
  extract_lets x
  split
  · exact s.onlyFcs_refl
  · split
    · exact s.onlyFcs_setFc _ _
    · exact s.onlyFcs_refl

theorem State.fcRollAll_onlyFcs (s : State) : s.onlyFcs s.fcRollAll := State.onlyFcs_foldl (fun t f => t.fcRoll_onlyFcs f t.now) _ s

theorem State.fcMark_onlyFcs (s : State) : s.onlyFcs s.fcMark := by
  unfold State.fcMark
  refine State.onlyFcs_trans s.fcRollAll_onlyFcs (State.onlyFcs_foldl (fun t f => ?_) _ _)
  split
  · split
    · exact t.onlyFcs_setFc _ _
    · exact t.onlyFcs_refl
  · exact t.onlyFcs_refl

/-! ### What a change of the reference leaves as it was -/

/-- What a change of the reference from σ to s leaves as it was: every cell but those of the fields ks, the memories, the pull-in, and the
place in the tick. -/
structure State.RefKeeps (σ : State) (ks : List Nat) (s : State) : Prop where
  cells : σ.keepsCells ks s
  mem : σ.keepsMem s
  pullIn : s.tmu.pullIn = σ.tmu.pullIn
  sub : s.sub = σ.sub

theorem State.RefKeeps.trans {ks js : List Nat} (h : s.RefKeeps ks t) (h' : t.RefKeeps js u) : s.RefKeeps (ks ++ js) u :=
  ⟨State.keepsCells_trans h.cells h'.cells, State.keepsMem_trans h.mem h'.mem, h'.pullIn.trans h.pullIn, h'.sub.trans h.sub⟩

theorem State.RefKeeps.mono {ks js : List Nat} (h : s.RefKeeps ks t) (hs : ks ⊆ js) : s.RefKeeps js t :=
  ⟨State.keepsCells_mono h.cells hs, h.mem, h.pullIn, h.sub⟩

theorem State.RefKeeps.rd {ks : List Nat} (h : s.RefKeeps ks t) (f : Fld) (i : Nat) (hf : f.key < 1024 := by decide)
    (hn : f.key ∉ ks := by decide) : t.rd f i = s.rd f i := h.cells f i hf hn

theorem State.RefKeeps.on {ks : List Nat} (h : s.RefKeeps ks t) (f : Fld) (i : Nat) (hf : f.key < 1024 := by decide)
    (hn : f.key ∉ ks := by decide) : t.on f i = s.on f i := by rw [State.on, State.on, h.rd f i hf hn]

theorem State.RefKeeps.now {ks : List Nat} (h : s.RefKeeps ks t) (hn : F.GLB_TICK_TICK.key ∉ ks := by decide) : t.now = s.now := by
  have htick : t.tick = s.tick := h.rd F.GLB_TICK_TICK 0 (by decide) hn
  rw [State.now, State.now, htick, h.sub]

theorem State.onlyFcs.refKeeps (h : s.onlyFcs t) : s.RefKeeps [] t := by
  obtain ⟨_, rfl⟩ := h
  exact ⟨State.keepsCells_of_regs rfl, State.keepsMem_of_eq rfl rfl rfl, rfl, rfl⟩

theorem State.onlyJn.refKeeps {ks : List Nat} (h : s.onlyJn t) (hc : s.keepsCells ks t) : s.RefKeeps ks t := by
  obtain ⟨_, _, _, _, rfl⟩ := h
  exact ⟨hc, State.keepsMem_of_eq rfl rfl rfl, rfl, rfl⟩

theorem State.RefKeeps.ite {ks : List Nat} {c : Prop} [Decidable c] {a b : State} (ha : s.RefKeeps ks a) (hb : s.RefKeeps ks b) :
    s.RefKeeps ks (if c then a else b) := by split <;> assumption

theorem State.setTmu_refKeeps (s : State) {x : TmuSt} (hx : x.pullIn = s.tmu.pullIn) : s.RefKeeps [] { s with tmu := x } :=
  ⟨State.keepsCells_of_regs rfl, State.keepsMem_of_eq rfl rfl rfl, hx, rfl⟩

theorem State.wr_refKeeps (s : State) (f : Fld) (i v : Nat) (hf : f.key < 1024) : s.RefKeeps [f.key] (s.wr f i v) :=
  (s.onlyEvt_wr f i v).jn.refKeeps (s.wr_keepsCells f i v hf)

theorem State.wrs_refKeeps (s : State) (ws : List (Fld × Nat × Nat)) (hk : ∀ e ∈ ws, e.1.key < 1024) :
    s.RefKeeps (ws.map fun e => e.1.key) (s.wrs ws) := (s.onlyEvt_wrs ws).jn.refKeeps (s.wrs_keepsCells ws hk)

theorem State.flag_refKeeps (s : State) (f : Fld) (i : Nat) (hf : f.key < 1024) : s.RefKeeps [f.key] (s.flag f i) :=
  (s.flag_onlyEvt f i).jn.refKeeps (s.flag_keepsCells f i hf)

theorem State.journal_refKeeps (s : State) (typ leaf : Nat) (rep : Bool) (body : Nat) : s.RefKeeps journalKeys (s.journal typ leaf rep body) :=
  (s.journal_onlyJn typ leaf rep body).refKeeps (s.journal_keepsCells typ leaf rep body)

/-- R365, R410: a TIMEBASE record and a message. -/
theorem State.timeTold_refKeeps (s : State) (kind value code index data : Nat) :
    s.RefKeeps journalKeys ((s.journalTime kind value).raise code index data 0) :=
  State.RefKeeps.mono ((s.journal_refKeeps _ _ _ _).trans ((State.raise_onlyEvt _ code index data 0).jn.refKeeps (State.raise_keepsCells _ _ _ _ _)))
    (by decide)

/-- A one-bit W1C field reads 1 once the module has set it. -/
theorem State.flag_rd_self (s : State) (f : Fld) (i : Nat) (hw : f.w = 1) : (s.flag f i).rd f i = 1 := by
  rw [State.flag, State.flagBits, State.mark_rd, State.rd_wr_self, hw, pow_one, Nat.or_mod_two_eq_one]
  exact .inr rfl

/-- A list of writes of different cells: each reads as written. -/
theorem State.wrs_rd_of_cell {ws : List (Fld × Nat × Nat)} {f : Fld} {i v : Nat} (s : State)
    (hd : (ws.map fun e => cellNo e.1 e.2.1).Nodup) (hm : (f, i, v) ∈ ws) : (s.wrs ws).rd f i = v % 2 ^ f.w := by
  induction ws generalizing s with
  | nil => exact absurd hm List.not_mem_nil
  | cons e ws ih =>
    obtain ⟨hne, hd⟩ := List.nodup_cons.1 hd
    rcases List.mem_cons.1 hm with rfl | hm
    · exact (State.rd_wrs_ne _ f i ws fun e he h => hne (List.mem_map.2 ⟨e, he, h.symm⟩)).trans (s.rd_wr_self f i v)
    · exact ih (s.wr e.1 e.2.1 e.2.2) hd hm

/-- The clock moved on to an instant of the present tick stands there. -/
theorem State.goto_now {at_ : Nat} (hd : s.due at_ = true) (hle : s.now ≤ at_) : (s.goto at_).now = at_ := by
  have hsub : (s.goto at_).sub = max s.sub (at_ - tickAt s.tick) := by rw [State.goto, if_pos hd, State.subTo_sub]
  unfold State.now at hle ⊢
  rw [s.goto_tick, hsub]
  omega

end

end Sys2Proof.Machine
end

section
/-! PROOFS. The loss of the reference, and its gates (R192 to R195, R291). -/

namespace Sys2Proof.Machine

set_option Elab.async false

section
variable {s t : State}

/-! ### REFIN_LOSS -/

/-- No pull-in runs. -/
def State.noPull (s : State) : State := { s with tmu := { s.tmu with pullIn := none } }

theorem State.noPull_keeps (s : State) : s.keepsCells [] s.noPull ∧ s.keepsMem s.noPull :=
  ⟨State.keepsCells_of_regs rfl, State.keepsMem_of_eq rfl rfl rfl⟩

/-- R194: the qualification restarted. -/
def State.qualRestarted (s : State) : State := s.noPull.wr F.TMU_REF_QUAL_MS 0 0

theorem State.qualRestarted_keeps (s : State) : s.keepsCells [F.TMU_REF_QUAL_MS.key] s.qualRestarted ∧ s.keepsMem s.qualRestarted := by
  obtain ⟨hcells, hmem⟩ := s.noPull_keeps
  exact ⟨State.keepsCells_trans hcells (s.noPull.wr_keepsCells F.TMU_REF_QUAL_MS 0 0 (by decide)), hmem⟩

theorem State.qualRestarted_rd (s : State) : s.qualRestarted.rd F.TMU_REF_QUAL_MS 0 = 0 := s.noPull.rd_wr_self F.TMU_REF_QUAL_MS 0 0

/-- R291: at the anchor, which holds the lease, ROOT_HOLDOVER follows LOST. -/
def rootCells (held : Bool) (v : Nat) : List (Fld × Nat × Nat) := if held then [(F.ID_STAT_ROOT_HOLDOVER, 0, v)] else []

/-- R193: what a loss sets. -/
def lossCells (held : Bool) : List (Fld × Nat × Nat) := [(F.TMU_REF_LOST, 0, 1), (F.TMU_REF_SRC, 0, 1)] ++ rootCells held 1

/-- R193: a loss shown in TMU_REF, and marked in the gates in progress. -/
def State.lossShown (s : State) (held : Bool) : State := ((s.fcRollAll.wrs (lossCells held)).flag F.TMU_REF_LOST_SEEN 0).fcMark

/-- R193, R365: a loss shown and told. -/
def State.lossTold (s : State) (held : Bool) : State :=
  ((s.lossShown held).journalTime 0 (s.lossShown held).now).raise 0xA0 0 (s.lossShown held).tmuRef 0

theorem State.on_of_zero {f : Fld} {i : Nat} (h : s.rd f i = 0) : s.on f i = false := by rw [State.on, h]; rfl

theorem State.on_of_ne_zero {f : Fld} {i : Nat} (h : s.rd f i ≠ 0) : s.on f i = true := bne_iff_ne.2 h

theorem refinLoss_of_lost (h : s.rd F.TMU_REF_LOST 0 ≠ 0) : refinLoss s = s.qualRestarted := by
  unfold refinLoss
  exact if_pos (State.on_of_ne_zero h)

theorem refinLoss_of_held (h : s.rd F.TMU_REF_LOST 0 = 0) : refinLoss s = s.qualRestarted.lossTold (s.on F.ID_LEASE_HELD 0) := by
  simp only [refinLoss, State.on_of_zero h, Bool.false_eq_true, if_false]
  rfl

theorem lossCells_key (held : Bool) : ∀ e ∈ lossCells held, e.1.key < 1024 := by cases held <;> decide

/-- What is shown last of a loss: LOST_SEEN, the gates, the record and the message. -/
theorem State.lossTold_refKeeps_lossCells (s : State) (held : Bool) :
    (s.fcRollAll.wrs (lossCells held)).RefKeeps (F.TMU_REF_LOST_SEEN.key :: journalKeys) (s.lossTold held) :=
  ((State.flag_refKeeps _ F.TMU_REF_LOST_SEEN 0 (by decide)).trans (State.fcMark_onlyFcs _).refKeeps).trans
    (State.timeTold_refKeeps _ _ _ _ _ _)

theorem State.lossTold_refKeeps (s : State) (held : Bool) :
    s.RefKeeps ([F.TMU_REF_LOST.key, F.TMU_REF_LOST_SEEN.key, F.TMU_REF_SRC.key, F.ID_STAT_ROOT_HOLDOVER.key] ++ journalKeys) (s.lossTold held) := by
  have h := (s.fcRollAll_onlyFcs.refKeeps.trans (s.fcRollAll.wrs_refKeeps _ (lossCells_key held))).trans (s.lossTold_refKeeps_lossCells held)
  exact h.mono (by cases held <;> decide)

theorem State.lossTold_rd (s : State) (held : Bool) : (s.lossTold held).rd F.TMU_REF_LOST 0 = 1 ∧
    (s.lossTold held).rd F.TMU_REF_LOST_SEEN 0 = 1 ∧ (s.lossTold held).rd F.TMU_REF_SRC 0 = 1 := by
  have hlast := s.lossTold_refKeeps_lossCells held
  have hshown {f : Fld} (hm : (f, 0, 1) ∈ lossCells held) : (s.fcRollAll.wrs (lossCells held)).rd f 0 = 1 % 2 ^ f.w :=
    State.wrs_rd_of_mem _ (lossCells_key held) (by cases held <;> decide) hm
  have hafter : ((s.fcRollAll.wrs (lossCells held)).flag F.TMU_REF_LOST_SEEN 0).RefKeeps journalKeys (s.lossTold held) :=
    (State.fcMark_onlyFcs _).refKeeps.trans (State.timeTold_refKeeps _ _ _ _ _ _)
  exact ⟨(hlast.rd F.TMU_REF_LOST 0).trans (hshown (by simp [lossCells])),
    (hafter.rd F.TMU_REF_LOST_SEEN 0).trans (State.flag_rd_self _ _ _ rfl),
    (hlast.rd F.TMU_REF_SRC 0).trans (hshown (by simp [lossCells]))⟩

/-- The cells that a loss of REFIN can change (R193, R194, R291). -/
abbrev lossKeys : List Nat := [F.TMU_REF_LOST.key, F.TMU_REF_LOST_SEEN.key, F.TMU_REF_SRC.key, F.TMU_REF_QUAL_MS.key,
  F.ID_STAT_ROOT_HOLDOVER.key] ++ journalKeys

/-- R193, R194: after a loss REFIN is lost, and neither its qualification nor the pull-in goes on. -/
theorem refinLoss_spec (s : State) : (refinLoss s).rd F.TMU_REF_LOST 0 ≠ 0 ∧ (refinLoss s).rd F.TMU_REF_QUAL_MS 0 = 0 ∧
    (refinLoss s).tmu.pullIn = none ∧ s.keepsCells lossKeys (refinLoss s) ∧ s.keepsMem (refinLoss s) := by
  obtain ⟨hcells, hmem⟩ := s.qualRestarted_keeps
  by_cases hl : s.rd F.TMU_REF_LOST 0 = 0
  · rw [refinLoss_of_held hl]
    have hr := s.qualRestarted.lossTold_refKeeps (s.on F.ID_LEASE_HELD 0)
    obtain ⟨hlost, -, -⟩ := s.qualRestarted.lossTold_rd (s.on F.ID_LEASE_HELD 0)
    exact ⟨by rw [hlost]; decide, (hr.rd F.TMU_REF_QUAL_MS 0).trans s.qualRestarted_rd, hr.pullIn,
      State.keepsCells_mono (State.keepsCells_trans hcells hr.cells) (by decide), State.keepsMem_trans hmem hr.mem⟩
  · rw [refinLoss_of_lost hl]
    exact ⟨by rwa [hcells F.TMU_REF_LOST 0 (by decide) (by decide)], s.qualRestarted_rd, rfl, State.keepsCells_mono hcells (by decide), hmem⟩

theorem exec_refinLoss (h0 : s.mstate ≠ 0) (h1 : s.mstate ≠ 1) : exec .refinLoss s = .next (refinLoss s) := by
  have he : exec .refinLoss s = .next (if s.mstate = mBoot ∨ s.mstate = 0 then s else refinLoss s) := rfl
  exact he.trans (congrArg Host.Outcome.next (if_neg fun h => h.elim h1 h0))

theorem exec_refinLoss_unpowered (h : s.mstate = 0 ∨ s.mstate = 1) : exec .refinLoss s = .next s := by
  have he : exec .refinLoss s = .next (if s.mstate = mBoot ∨ s.mstate = 0 then s else refinLoss s) := rfl
  exact he.trans (congrArg Host.Outcome.next (if_pos h.symm))

/-! ### REF_GATE_END -/

theorem sx_toNat (off : BitVec 12) : sx 12 off.toNat = off.toInt := by
  have hlt := off.isLt
  rw [sx, BitVec.toInt_eq_toNat_cond, Nat.mod_eq_of_lt hlt]
  split <;> split <;> omega

variable {near : Option (Fin 2)} {off : BitVec 12}

/-- R192: the window of a frequency. -/
theorem gatePasses_iff {f : Nat} : gatePasses f (near.map (·.val)) off.toNat = true ↔
    near.map (·.val) = some f ∧ -500 ≤ off.toInt ∧ off.toInt ≤ 500 := by
  simp [gatePasses, sx_toNat, and_assoc]

/-- R195: the frequency whose window a gate lies in. -/
def gateHit (near : Option Nat) (off : Nat) : Option Nat := [0, 1].find? fun f => gatePasses f near off

theorem gateHit_of_outside (h : near = none ∨ off.toInt < -500 ∨ 500 < off.toInt) : gateHit (near.map (·.val)) off.toNat = none := by
  refine List.find?_eq_none.2 fun f _ hp => ?_
  obtain ⟨hnear, hlo, hhi⟩ := gatePasses_iff.1 hp
  rcases h with rfl | h | h
  · exact absurd hnear (by simp)
  · omega
  · omega

theorem gateHit_of_inside {f : Fin 2} (hn : near = some f) (hlo : -500 ≤ off.toInt) (hhi : off.toInt ≤ 500) :
    gateHit (near.map (·.val)) off.toNat = some f.val := by
  have hp (g : Nat) : gatePasses g (near.map (·.val)) off.toNat = decide (f.val = g) := by
    rw [Bool.eq_iff_iff, gatePasses_iff, hn]
    simp [hlo, hhi]
  obtain rfl | rfl : f = 0 ∨ f = 1 := by omega
  · simp [gateHit, hp]
  · simp [gateHit, hp]

theorem State.gateUnknown_of_miss {near : Option Nat} {off : Nat} (hm : s.mstate ≠ mBoot) (hh : gateHit near off = none) :
    s.gateUnknown near off = { s with tmu := { s.tmu with cand := none } }.wr F.TMU_REF_QUAL_MS 0 0 := by
  rw [gateHit] at hh
  simp only [State.gateUnknown, hh, hm, if_false]

theorem State.gateUnknown_of_again {near : Option Nat} {off f : Nat} (hm : s.mstate ≠ mBoot) (hh : gateHit near off = some f)
    (hc : s.tmu.cand = some f) :
    s.gateUnknown near off = s.wr F.TMU_REF_QUAL_MS 0 (min 1000 (s.rd F.TMU_REF_QUAL_MS 0 + 1)) := by
  rw [gateHit] at hh
  simp only [State.gateUnknown, hh, hm, hc, if_false, if_true]

/-- The cells that a gate can change before the frequency is known (R195). -/
abbrev gateKeys : List Nat := [F.TMU_REF_QUAL_MS.key, F.TMU_REF_FREQ.key]

theorem State.gateUnknown_refKeeps (s : State) (near : Option Nat) (off : Nat) : s.RefKeeps gateKeys (s.gateUnknown near off) := by
  have hset {x : TmuSt} (hx : x.pullIn = s.tmu.pullIn) := (s.setTmu_refKeeps hx).mono (List.nil_subset gateKeys)
  have hwr {x : TmuSt} {f : Fld} {v : Nat} (hf : f.key ∈ gateKeys) (hx : x.pullIn = s.tmu.pullIn) :
      s.RefKeeps gateKeys ({ s with tmu := x }.wr f 0 v) :=
    ((hset hx).trans (State.wr_refKeeps _ f 0 v ((by decide : ∀ k ∈ gateKeys, k < 1024) _ hf))).mono
      (List.append_subset.2 ⟨List.Subset.refl _, List.cons_subset.2 ⟨hf, List.nil_subset _⟩⟩)
  refine .ite (.ite (hwr (by decide) rfl) (hset rfl)) ?_
  split
  · exact hwr (by decide) rfl
  · exact .ite (hwr (x := s.tmu) (by decide) rfl) (hwr (by decide) rfl)

/-- R192: the offset of a gate shown. -/
def State.offsetShown (s : State) (off : Nat) : State := s.wr F.TMU_REF_OFFSET 0 off

theorem State.offsetShown_rd (s : State) (off : Nat) (f : Fld) (hf : f.key < 1024 := by decide) (hn : f.key ∉ [F.TMU_REF_OFFSET.key] := by decide) :
    (s.offsetShown off).rd f 0 = s.rd f 0 := s.wr_keepsCells F.TMU_REF_OFFSET 0 off (by decide) f 0 hf hn

theorem refGateEnd_of_unknown {near : Option Nat} {off : Nat} (hk : s.tmu.known = false) :
    refGateEnd near off s = (s.offsetShown off).gateUnknown near off := if_pos hk

theorem refGateEnd_of_bad {near : Option Nat} {off : Nat} (hk : s.tmu.known = true) (hp : ¬gatePasses (s.rd F.TMU_REF_FREQ 0) near off = true) :
    refGateEnd near off s = refinLoss (s.offsetShown off) := by
  rw [refGateEnd, if_neg (by rw [hk]; decide), if_neg hp]
  rfl

theorem refGateEnd_of_good {near : Option Nat} {off : Nat} (hk : s.tmu.known = true) (hp : gatePasses (s.rd F.TMU_REF_FREQ 0) near off = true) :
    refGateEnd near off s = if s.on F.TMU_REF_LOST 0 then
      (s.offsetShown off).wr F.TMU_REF_QUAL_MS 0 (min 1000 (s.rd F.TMU_REF_QUAL_MS 0 + 1)) else s.offsetShown off := by
  rw [refGateEnd, if_neg (by rw [hk]; decide), if_pos hp]
  rfl

/-- R192, R194: what the gate changes besides OFFSET. -/
theorem refGateEnd_keeps (near : Option Nat) (off : Nat) (s : State) :
    (s.offsetShown off).keepsCells (gateKeys ++ lossKeys) (refGateEnd near off s) ∧
      (s.offsetShown off).keepsMem (refGateEnd near off s) := by
  cases hk : s.tmu.known with
  | false =>
    rw [refGateEnd_of_unknown hk]
    have hr := (s.offsetShown off).gateUnknown_refKeeps near off
    exact ⟨State.keepsCells_mono hr.cells (List.subset_append_left _ _), hr.mem⟩
  | true =>
    by_cases hp : gatePasses (s.rd F.TMU_REF_FREQ 0) near off = true
    · rw [refGateEnd_of_good hk hp]
      split
      · exact ⟨State.keepsCells_mono ((s.offsetShown off).wr_keepsCells F.TMU_REF_QUAL_MS 0 _ (by decide)) (by decide), State.keepsMem_refl _⟩
      · exact ⟨State.keepsCells_refl _ _, State.keepsMem_refl _⟩
    · rw [refGateEnd_of_bad hk hp]
      obtain ⟨-, -, -, hcells, hmem⟩ := refinLoss_spec (s.offsetShown off)
      exact ⟨State.keepsCells_mono hcells (List.subset_append_right _ _), hmem⟩

theorem qualMs_counted (n : Nat) : min 1000 (n + 1) % 2 ^ F.TMU_REF_QUAL_MS.w = min 1000 (n + 1) :=
  Nat.mod_eq_of_lt ((Nat.min_le_left ..).trans_lt (by decide))

/-- R192, R194: with the frequency known, a gate inside its window counts while REFIN is lost, and changes no more than OFFSET while not. -/
theorem refGateEnd_inside (hk : s.tmu.known = true) (hnear : near.map (·.val) = some (s.rd F.TMU_REF_FREQ 0)) (hlo : -500 ≤ off.toInt)
    (hhi : off.toInt ≤ 500) {t : State} (ht : t = refGateEnd (near.map (·.val)) off.toNat s) :
    (s.rd F.TMU_REF_LOST 0 ≠ 0 → t.rd F.TMU_REF_QUAL_MS 0 = min 1000 (s.rd F.TMU_REF_QUAL_MS 0 + 1) ∧ t.tmu = s.tmu) ∧
      (s.rd F.TMU_REF_LOST 0 = 0 → s.keepsCells [F.TMU_REF_OFFSET.key] t ∧ t.tmu = s.tmu) := by
  rw [ht, refGateEnd_of_good hk (gatePasses_iff.2 ⟨hnear, hlo, hhi⟩)]
  refine ⟨fun hl => ?_, fun hl => ?_⟩
  · rw [if_pos (State.on_of_ne_zero hl)]
    exact ⟨(State.rd_wr_self _ _ _ _).trans (qualMs_counted _), rfl⟩
  · rw [if_neg (by rw [State.on_of_zero hl]; decide)]
    exact ⟨s.wr_keepsCells _ _ _ (by decide), rfl⟩

/-- R192, R194: with the frequency known, a gate outside its window leaves REFIN lost, its qualification restarted. -/
theorem refGateEnd_outside (hk : s.tmu.known = true)
    (hbad : near.map (·.val) ≠ some (s.rd F.TMU_REF_FREQ 0) ∨ off.toInt < -500 ∨ 500 < off.toInt) {t : State}
    (ht : t = refGateEnd (near.map (·.val)) off.toNat s) :
    t.rd F.TMU_REF_LOST 0 ≠ 0 ∧ t.rd F.TMU_REF_QUAL_MS 0 = 0 ∧ t.tmu.pullIn = none := by
  have hp : ¬gatePasses (s.rd F.TMU_REF_FREQ 0) (near.map (·.val)) off.toNat = true := by
    rw [gatePasses_iff]
    rintro ⟨hnear, hlo, hhi⟩
    rcases hbad with hne | hlt | hgt
    · exact hne hnear
    · omega
    · omega
  rw [ht, refGateEnd_of_bad hk hp]
  obtain ⟨hlost, hqual, hpull, -, -⟩ := refinLoss_spec (s.offsetShown off.toNat)
  exact ⟨hlost, hqual, hpull⟩

/-- R195: out of BOOT with no frequency known, a gate of none restarts the search, and one of the frequency being tried counts. -/
theorem refGateEnd_searching (hk : s.tmu.known = false) (hm : s.mstate ≠ mBoot) {t : State}
    (ht : t = refGateEnd (near.map (·.val)) off.toNat s) :
    (near = none ∨ off.toInt < -500 ∨ 500 < off.toInt → t.rd F.TMU_REF_QUAL_MS 0 = 0 ∧ t.tmu.cand = none) ∧
      (∀ f, near = some f → -500 ≤ off.toInt → off.toInt ≤ 500 → s.tmu.cand = some f.val →
        t.rd F.TMU_REF_QUAL_MS 0 = min 1000 (s.rd F.TMU_REF_QUAL_MS 0 + 1)) := by
  have hm' : (s.offsetShown off.toNat).mstate ≠ mBoot := by
    rwa [State.mstate, s.offsetShown_rd off.toNat F.ENV_STATUS_MSTATE]
  rw [ht, refGateEnd_of_unknown hk]
  refine ⟨fun hout => ?_, fun f hnear hlo hhi hc => ?_⟩
  · rw [State.gateUnknown_of_miss hm' (gateHit_of_outside hout)]
    exact ⟨State.rd_wr_self _ _ _ _, rfl⟩
  · rw [State.gateUnknown_of_again hm' (gateHit_of_inside hnear hlo hhi) hc, s.offsetShown_rd off.toNat F.TMU_REF_QUAL_MS]
    exact (State.rd_wr_self _ _ _ _).trans (qualMs_counted _)

end

end Sys2Proof.Machine
end

section
/-! PROOFS. The reference's qualification and return, the wrap of the timestamps, and the lock of the vernier DLL (R147, R194, R195, R197, R208). -/

namespace Sys2Proof.Machine

set_option Elab.async false

section
variable {s t : State}

/-! ### REFIN_QUALIFIED and REF_RESTORED -/

/-- R195: a frequency that had not been found is selected. -/
def State.freqFound (s : State) : State := if s.tmu.known then s else s.wr F.TMU_REF_FREQ 0 (s.tmu.cand.getD 1)

/-- R194, R195: the pull-in begun. -/
def State.pullInBegun (s : State) : State := { s.freqFound with tmu := { s.freqFound.tmu with known := true, pullIn := some s.now } }

theorem refinQualified_begins (hl : s.rd F.TMU_REF_LOST 0 ≠ 0) (hq : s.rd F.TMU_REF_QUAL_MS 0 = 1000) (hp : s.tmu.pullIn = none) :
    refinQualified s = s.pullInBegun := if_pos ⟨State.on_of_ne_zero hl, hq, hp⟩

theorem State.freqFound_of_known (h : s.tmu.known = true) : s.freqFound = s := if_pos h

theorem State.freqFound_of_unknown (h : s.tmu.known = false) : s.freqFound = s.wr F.TMU_REF_FREQ 0 (s.tmu.cand.getD 1) :=
  if_neg (by rw [h]; decide)

theorem State.freqFound_keeps (s : State) : s.keepsCells [F.TMU_REF_FREQ.key] s.freqFound ∧ s.keepsMem s.freqFound := by
  cases h : s.tmu.known with
  | true => rw [State.freqFound_of_known h]; exact ⟨s.keepsCells_refl _, s.keepsMem_refl⟩
  | false => rw [State.freqFound_of_unknown h]; exact ⟨s.wr_keepsCells _ _ _ (by decide), s.keepsMem_refl⟩

theorem State.freqFound_freq {f : Fin 2} (hk : s.tmu.known = false) (hc : s.tmu.cand = some f.val) : s.freqFound.rd F.TMU_REF_FREQ 0 = f.val := by
  rw [State.freqFound_of_unknown hk, hc, State.rd_wr_self]
  exact Nat.mod_eq_of_lt f.isLt

/-- R194, R291: what the end of the pull-in clears. -/
def backCells (held : Bool) : List (Fld × Nat × Nat) := [(F.TMU_REF_SRC, 0, 0), (F.TMU_REF_LOST, 0, 0)] ++ rootCells held 0

/-- R194: the reference back. -/
def State.refBack (s : State) (held : Bool) : State := s.fcRollAll.noPull.wrs (backCells held)

theorem refRestored_told {p : Nat} (hp : s.tmu.pullIn = some p) :
    ∃ v d, refRestored s = ((s.refBack (s.on F.ID_LEASE_HELD 0)).journalTime 1 v).raise 0xA1 0 d 0 := by
  simp only [refRestored, hp]
  exact ⟨_, _, rfl⟩

theorem backCells_key (held : Bool) : ∀ e ∈ backCells held, e.1.key < 1024 := by cases held <;> decide

theorem State.refBack_keeps (s : State) (held : Bool) :
    s.keepsCells [F.TMU_REF_SRC.key, F.TMU_REF_LOST.key, F.ID_STAT_ROOT_HOLDOVER.key] (s.refBack held) ∧ s.keepsMem (s.refBack held) := by
  have hroll := s.fcRollAll_onlyFcs.refKeeps
  obtain ⟨hcells, hmem⟩ := s.fcRollAll.noPull_keeps
  have hback := s.fcRollAll.noPull.wrs_refKeeps _ (backCells_key held)
  exact ⟨State.keepsCells_mono (State.keepsCells_trans (State.keepsCells_trans hroll.cells hcells) hback.cells) (by cases held <;> decide),
    State.keepsMem_trans (State.keepsMem_trans hroll.mem hmem) hback.mem⟩

theorem State.refBack_pullIn (s : State) (held : Bool) : (s.refBack held).tmu.pullIn = none := by rw [State.refBack, State.wrs_tmu]; rfl

theorem State.refBack_rd (s : State) (held : Bool) : (s.refBack held).rd F.TMU_REF_SRC 0 = 0 ∧ (s.refBack held).rd F.TMU_REF_LOST 0 = 0 := by
  have hrd {f : Fld} (hm : (f, 0, 0) ∈ backCells held) : (s.refBack held).rd f 0 = 0 % 2 ^ f.w :=
    State.wrs_rd_of_mem _ (backCells_key held) (by cases held <;> decide) hm
  exact ⟨hrd (by simp [backCells]), hrd (by simp [backCells])⟩

/-! ### TS_WRAP -/

/-- R197: the clock at a wrap, which TMU_EPOCH counts. -/
def State.wrapped (s : State) (k : Nat) : State := (s.goto (k * 2 ^ 64)).wr F.TMU_EPOCH_EPOCH 0 (k % 2 ^ 16)

theorem State.wrapped_keepsMem (s : State) (k : Nat) : s.keepsMem (s.wrapped k) :=
  State.keepsMem_trans (s.goto_keepsMem _) (State.keepsMem_of_onlyEvt (State.onlyEvt_wr _ _ _ _))

theorem tsWrap_told {k : Nat} (hk : s.now / 2 ^ 64 + 1 = k) (hn : s.now % 2 ^ 64 ≠ 0) (hd : s.due (k * 2 ^ 64) = true) :
    tsWrap s = ((s.wrapped k).journalTime 4 (k % 2 ^ 16)).raise 0xA2 0 (k % 2 ^ 16) 0 := by
  unfold tsWrap
  extract_lets e k' s1
  have hk' : k' = k := (if_neg fun h => hn h.1).trans hk
  rw [if_pos (by rw [hk', hd])]
  simp only [s1, hk', State.wrapped]

theorem State.wrapped_now {k : Nat} (hk : s.now / 2 ^ 64 + 1 = k) (hd : s.due (k * 2 ^ 64) = true) : (s.wrapped k).now = k * 2 ^ 64 := by
  have hwr := (s.goto (k * 2 ^ 64)).wr_refKeeps F.TMU_EPOCH_EPOCH 0 (k % 2 ^ 16) (by decide)
  have hle : s.now ≤ k * 2 ^ 64 := by omega
  exact hwr.now.trans (State.goto_now hd hle)

/-! ### DLL_LOCK_CHANGE -/

/-- R147: the lock in every leaf. -/
def unlockCells (lock : Bool) : List (Fld × Nat × Nat) := (List.range 16).map fun l => (F.TS_STATUS_DLL_UNLOCK, l, bit !lock)

/-- R147, R208: the lock in TMU_DLL and in every leaf. -/
def lockCells (lock : Bool) : List (Fld × Nat × Nat) := (F.TMU_DLL_LOCK, 0, bit lock) :: unlockCells lock

/-- R147: the lock shown. -/
def State.lockShown (s : State) (lock : Bool) : State := s.fcRollAll.wrs (lockCells lock)

theorem State.lockShown_eq (s : State) (lock : Bool) :
    s.lockShown lock = (s.fcRollAll.wr F.TMU_DLL_LOCK 0 (bit lock)).wrs (unlockCells lock) := by rw [State.lockShown, lockCells, State.wrs]

/-- R208: an unlock seen, and marked in what it makes uncalibrated. -/
def State.unlockSeen (s : State) : State :=
  ({ s with tmu := { s.tmu with cdtUncal := true } }.flag F.TMU_DLL_UNLOCK_SEEN 0).fcMark

theorem dllLockChange_told {lock : Bool} (h : s.on F.TMU_DLL_LOCK 0 ≠ lock) : ∃ kind v,
    dllLockChange lock s = (if lock then s.lockShown lock else (s.lockShown lock).unlockSeen).journalTime kind v := by
  simp only [dllLockChange, h, if_false, State.lockShown_eq]
  exact ⟨_, _, rfl⟩

theorem dllLockChange_same {lock : Bool} (h : s.on F.TMU_DLL_LOCK 0 = lock) : dllLockChange lock s = s := if_pos h

theorem State.unlockSeen_spec (s : State) :
    s.unlockSeen.rd F.TMU_DLL_UNLOCK_SEEN 0 = 1 ∧ s.RefKeeps [F.TMU_DLL_UNLOCK_SEEN.key] s.unlockSeen := by
  have huncal := s.setTmu_refKeeps (x := { s.tmu with cdtUncal := true }) rfl
  have hflag := huncal.trans (State.flag_refKeeps _ F.TMU_DLL_UNLOCK_SEEN 0 (by decide))
  have hmark := (State.fcMark_onlyFcs ({ s with tmu := { s.tmu with cdtUncal := true } }.flag F.TMU_DLL_UNLOCK_SEEN 0)).refKeeps
  exact ⟨(hmark.rd F.TMU_DLL_UNLOCK_SEEN 0).trans (State.flag_rd_self _ _ _ rfl), hflag.trans hmark⟩

theorem State.lockShown_refKeeps (s : State) (lock : Bool) :
    s.RefKeeps [F.TMU_DLL_LOCK.key, F.TS_STATUS_DLL_UNLOCK.key] (s.lockShown lock) :=
  (s.fcRollAll_onlyFcs.refKeeps.trans (s.fcRollAll.wrs_refKeeps (lockCells lock) (by cases lock <;> decide))).mono (by cases lock <;> decide)

theorem State.lockShown_on (s : State) (lock : Bool) :
    (s.lockShown lock).on F.TMU_DLL_LOCK 0 = lock ∧ ∀ l < 16, (s.lockShown lock).on F.TS_STATUS_DLL_UNLOCK l = !lock := by
  have hrd {f : Fld} {i v : Nat} (hm : (f, i, v) ∈ lockCells lock) : (s.lockShown lock).rd f i = v % 2 ^ f.w :=
    State.wrs_rd_of_cell _ (by cases lock <;> decide) hm
  refine ⟨?_, fun l hl => ?_⟩
  · rw [State.on, hrd (List.mem_cons_self ..)]
    cases lock <;> rfl
  · rw [State.on, hrd (List.mem_cons_of_mem _ (List.mem_map.2 ⟨l, List.mem_range.2 hl, rfl⟩))]
    cases lock <;> rfl

/-- R147, R208: what a change of the lock shows, and what it leaves. -/
theorem dllLockChange_spec {lock : Bool} (h : s.on F.TMU_DLL_LOCK 0 ≠ lock) :
    (s.lockShown lock).RefKeeps (F.TMU_DLL_UNLOCK_SEEN.key :: journalKeys) (dllLockChange lock s) ∧
      (lock = false → (dllLockChange lock s).rd F.TMU_DLL_UNLOCK_SEEN 0 = 1) := by
  obtain ⟨kind, v, ht⟩ := dllLockChange_told h
  rw [ht]
  cases lock with
  | true => exact ⟨(State.journal_refKeeps _ _ _ _ _).mono (List.subset_cons_self ..), fun h => absurd h (by decide)⟩
  | false =>
    obtain ⟨hseen, hr⟩ := (s.lockShown false).unlockSeen_spec
    have hj : (s.lockShown false).unlockSeen.RefKeeps journalKeys ((s.lockShown false).unlockSeen.journalTime kind v) :=
      State.journal_refKeeps _ _ _ _ _
    exact ⟨hr.trans hj, fun _ => (hj.rd F.TMU_DLL_UNLOCK_SEEN 0).trans hseen⟩

end

/-- Settles O45, command by command; a loss is `refinLoss_spec` but for what it sets, which is `State.lossTold_rd`. -/
theorem timingReference : Obligations.TimingReference := by
  refine ⟨fun s => exec_refinLoss_unpowered, fun s h0 h1 => ⟨fun hl => ?_, fun hl => ?_⟩, fun s near off => ?_, fun s hl hq hp => ?_,
    fun s p hp => ?_, fun s k hk hn hdue => ?_, fun s lock => ⟨fun hne => ?_, fun he => ?_⟩⟩
  · obtain ⟨-, hqual, hpull, hcells, hmem⟩ := refinLoss_spec s
    obtain ⟨hlost, hseen, hsrc⟩ := s.qualRestarted.lossTold_rd (s.on F.ID_LEASE_HELD 0)
    rw [← refinLoss_of_held hl] at hlost hseen hsrc
    exact ⟨_, exec_refinLoss h0 h1, hlost, hseen, hsrc, hqual, hpull, hcells, hmem⟩
  · obtain ⟨hcells, hmem⟩ := s.qualRestarted_keeps
    exact ⟨_, (exec_refinLoss h0 h1).trans (congrArg _ (refinLoss_of_lost hl)), s.qualRestarted_rd, rfl, hcells, hmem⟩
  · obtain ⟨hcells, hmem⟩ := refGateEnd_keeps (near.map (·.val)) off.toNat s
    have hoff : (s.offsetShown off.toNat).rd F.TMU_REF_OFFSET 0 = off.toNat := (s.rd_wr_self _ _ _).trans (Nat.mod_eq_of_lt off.isLt)
    exact ⟨_, rfl, (hcells _ _ (by decide) (by decide)).trans hoff, hmem, fun hk hnear hlo hhi => refGateEnd_inside hk hnear hlo hhi rfl,
      fun hk hbad => refGateEnd_outside hk hbad rfl, fun hk hm => refGateEnd_searching hk hm rfl⟩
  · obtain ⟨hcells, hmem⟩ := s.freqFound_keeps
    refine ⟨_, congrArg Host.Outcome.next (refinQualified_begins hl hq hp), rfl, rfl, fun hk => ?_,
      fun hk f hc => s.freqFound_freq hk hc, hcells, hmem⟩
    exact congrArg (·.rd F.TMU_REF_FREQ 0) (State.freqFound_of_known hk)
  · obtain ⟨v, d, ht⟩ := refRestored_told hp
    have htold := (s.refBack (s.on F.ID_LEASE_HELD 0)).timeTold_refKeeps 1 v 0xA1 0 d
    obtain ⟨hcells, hmem⟩ := s.refBack_keeps (s.on F.ID_LEASE_HELD 0)
    obtain ⟨hsrc, hlost⟩ := s.refBack_rd (s.on F.ID_LEASE_HELD 0)
    exact ⟨_, congrArg Host.Outcome.next ht, (htold.rd F.TMU_REF_SRC 0).trans hsrc, (htold.rd F.TMU_REF_LOST 0).trans hlost,
      htold.pullIn.trans (s.refBack_pullIn _), State.keepsCells_trans hcells htold.cells, State.keepsMem_trans hmem htold.mem⟩
  · have hd : s.due (k * 2 ^ 64) = true := State.due_of_lt hdue
    have htold := (s.wrapped k).timeTold_refKeeps 4 (k % 2 ^ 16) 0xA2 0 (k % 2 ^ 16)
    have hepoch : (s.wrapped k).rd F.TMU_EPOCH_EPOCH 0 = k % 2 ^ 16 := (State.rd_wr_self _ _ _ _).trans (Nat.mod_mod _ _)
    exact ⟨_, congrArg Host.Outcome.next (tsWrap_told hk hn hd), (htold.rd F.TMU_EPOCH_EPOCH 0).trans hepoch,
      htold.now.trans (State.wrapped_now hk hd), State.keepsMem_trans (s.wrapped_keepsMem k) htold.mem⟩
  · obtain ⟨hafter, hseen⟩ := dllLockChange_spec hne
    have hshown := s.lockShown_refKeeps lock
    obtain ⟨hlock, hleaves⟩ := s.lockShown_on lock
    exact ⟨_, rfl, (hafter.on F.TMU_DLL_LOCK 0).trans hlock, fun l hl => (hafter.on F.TS_STATUS_DLL_UNLOCK l).trans (hleaves l hl), hseen,
      State.keepsCells_mono (hshown.trans hafter).cells (by decide), (hshown.trans hafter).mem⟩
  · exact congrArg Host.Outcome.next (dllLockChange_same he)

end Sys2Proof.Machine
end

section
/-! PROOFS. The start and the ends of a run leave the fail-log ring's registers as they were (R157).

`σ.KeepsRing s` relates the state σ to a state s on the way of a command: FL_WR and FL_RD are as in σ. Each operation of a run that writes
registers has one lemma `State.KeepsRing.<operation>`; one that writes none keeps them by `State.KeepsRing.parts`. -/

namespace Sys2Proof.Machine

set_option Elab.async false

/-- FL_WR and FL_RD: where the fail-log ring stands (R154). -/
abbrev ringKeys : List Nat := [F.FL_WR_WR.key, F.FL_RD_RD.key]

/-- FL_WR and FL_RD are in s as they are in σ. -/
structure State.KeepsRing (σ s : State) : Prop where
  flWr : s.rd F.FL_WR_WR 0 = σ.rd F.FL_WR_WR 0
  flRd : s.rd F.FL_RD_RD 0 = σ.rd F.FL_RD_RD 0

/-- A field beside the ring's. -/
def Fld.offRing (f : Fld) : Bool := decide (f.key < 1024) && !ringKeys.contains f.key

theorem Fld.of_offRing {f : Fld} (h : f.offRing = true) : f.key < 1024 ∧ f.key ∉ ringKeys := by
  simpa only [Fld.offRing, Bool.and_eq_true, decide_eq_true_eq, Bool.not_eq_true', List.contains_eq_mem, decide_eq_false_iff_not] using h

section
variable {σ s t : State} {l : Nat}

/-! ### Rules -/

theorem State.KeepsRing.rfl : s.KeepsRing s := ⟨Eq.refl _, Eq.refl _⟩

theorem State.KeepsRing.of_regs (h : σ.KeepsRing s) (hr : t.regs = s.regs) : σ.KeepsRing t :=
  ⟨(congrArg (RegFile.get · F.FL_WR_WR 0) hr).trans h.flWr, (congrArg (RegFile.get · F.FL_RD_RD 0) hr).trans h.flRd⟩

/-- Everything but the registers may change. The update is written out so that a caller's record update matches it as it stands. -/
theorem State.KeepsRing.parts {sub : Nat} {pending : List Instr} {host : HostSt} {evt : EvtSt} {jn : JnSt} {snap : SnapSt} {leaves : Table Leaf}
    {caches : Table Cache} {engines : Table Engine} {units : Table UnitSt} {pulses : List Pulse} {strands : StrandSt} {mc : McSt} {fl : FlSt}
    {mnt : MntSt} {pl : PlSt} {dram : DramSt} {sram : SramSt} {trig : TrigSt} {acq : AcqSt} {tmu : TmuSt} {dc : DcSt} {ras : RasSt} {lk : LkSt}
    {clu : CluSt} {cal : CalSt} {env : EnvSt} {shown : Table Ctx} {vis : List (Nat × Nat × Ctx)} {hot : HotSt} {lvl : LvlSt} {free : Nat}
    (h : σ.KeepsRing s) :
    σ.KeepsRing ⟨s.regs, sub, pending, host, evt, jn, snap, leaves, caches, engines, units, pulses, strands, mc, fl, mnt, pl, dram, sram, trig,
      acq, tmu, dc, ras, lk, clu, cal, env, shown, vis, hot, lvl, free⟩ :=
  h.of_regs (Eq.refl _)

/-- Cells of other fields may change. -/
theorem State.KeepsRing.cells {ks : List Nat} (h : σ.KeepsRing s) (hc : s.keepsCells ks t) (hk : ∀ k ∈ ringKeys, k ∉ ks) : σ.KeepsRing t :=
  ⟨(hc _ 0 (by decide) (hk _ (by decide))).trans h.flWr, (hc _ 0 (by decide) (hk _ (by decide))).trans h.flRd⟩

theorem State.KeepsRing.setEng {g : Engine} (h : σ.KeepsRing s) : σ.KeepsRing (s.setEng l g) := h.parts

theorem State.KeepsRing.mapLoops {f : List (Nat × Nat) → List (Nat × Nat)} (h : σ.KeepsRing s) : σ.KeepsRing (s.mapLoops l f) := h.parts

theorem State.KeepsRing.setLeaf {x : Leaf} (h : σ.KeepsRing s) : σ.KeepsRing (s.setLeaf l x) := h.parts

theorem State.KeepsRing.wr {f : Fld} {i v : Nat} (h : σ.KeepsRing s) (hf : f.offRing = true := by rfl) : σ.KeepsRing (s.wr f i v) := by
  obtain ⟨hlt, hoff⟩ := Fld.of_offRing hf
  exact h.cells (s.wr_keepsCells f i v hlt) fun k hk hm => hoff (List.mem_singleton.1 hm ▸ hk)

theorem State.KeepsRing.wrs {ws : List (Fld × Nat × Nat)} (h : σ.KeepsRing s) (hw : (ws.all fun e => e.1.offRing) = true := by rfl) :
    σ.KeepsRing (s.wrs ws) := by
  induction ws generalizing s with
  | nil => exact h
  | cons e ws ih =>
    obtain ⟨he, hw⟩ := Bool.and_eq_true_iff.1 hw
    exact ih (h.wr he) hw

theorem State.KeepsRing.ite {c : Prop} [Decidable c] {a b : State} (ha : σ.KeepsRing a) (hb : σ.KeepsRing b) :
    σ.KeepsRing (if c then a else b) := by split <;> assumption

theorem State.KeepsRing.foldl {γ : Type} {as : List γ} {g : State → γ → State} (h : σ.KeepsRing s)
    (hg : ∀ t a, σ.KeepsRing t → σ.KeepsRing (g t a)) : σ.KeepsRing (as.foldl g s) :=
  List.foldlRecOn as g (motive := fun t : State => σ.KeepsRing t) h fun t ht a _ => hg t a ht

/-! ### The shared operations -/

theorem State.KeepsRing.goto {at_ : Nat} (h : σ.KeepsRing s) : σ.KeepsRing (s.goto at_) := h.cells (s.goto_keepsCells at_) (by decide)

theorem State.KeepsRing.raise {code index data dataHi : Nat} (h : σ.KeepsRing s) : σ.KeepsRing (s.raise code index data dataHi) :=
  h.cells (s.raise_keepsCells _ _ _ _) (by decide)

theorem State.KeepsRing.bump {f : Fld} {i n : Nat} {sat : Fld} {si row off : Nat} (h : σ.KeepsRing s) (hf : f.offRing = true := by rfl)
    (hs : sat.offRing = true := by rfl) : σ.KeepsRing (s.bump f i n sat si row off) := by
  obtain ⟨hflt, hfoff⟩ := Fld.of_offRing hf
  obtain ⟨hslt, hsoff⟩ := Fld.of_offRing hs
  refine h.cells (s.bump_keepsCells _ _ _ _ _ _ _ hflt hslt) fun k hk hm => ?_
  rcases List.mem_cons.1 hm with rfl | hm
  · exact hfoff hk
  · rcases List.mem_cons.1 hm with rfl | hm
    · exact hsoff hk
    · exact (by decide : ∀ k ∈ ringKeys, k ∉ eventKeys) k hk hm

theorem State.KeepsRing.journal {typ leaf : Nat} {rep : Bool} {body : Nat} (h : σ.KeepsRing s) : σ.KeepsRing (s.journal typ leaf rep body) :=
  h.cells (s.journal_keepsCells _ _ _ _) (by decide)

theorem State.KeepsRing.checkFlow {same : Bool} (h : σ.KeepsRing s) : σ.KeepsRing (s.checkFlow l same) :=
  h.cells (s.checkFlow_keepsCells _ _) (by decide)

theorem State.KeepsRing.raiseInt {p : Nat} (h : σ.KeepsRing s) : σ.KeepsRing (s.raiseInt l p) := by
  obtain ⟨g, hg, -⟩ := s.raiseInt_eq l p
  exact hg ▸ h.parts

theorem State.KeepsRing.journalEnd {vindex state : Nat} (h : σ.KeepsRing s) : σ.KeepsRing (s.journalEnd l vindex state) := h.journal

theorem State.KeepsRing.askExport {e : Export} (h : σ.KeepsRing s) : σ.KeepsRing (s.askExport e) := by
  unfold State.askExport
  extract_lets _ s1
  have h1 : σ.KeepsRing s1 := h.parts
  exact .ite h.bump (.ite h1 h1.bump)

theorem State.KeepsRing.endReplay {u : Nat} (h : σ.KeepsRing s) : σ.KeepsRing (s.endReplay u) :=
  .ite h.parts.wr h

theorem State.KeepsRing.unitEnd (h : σ.KeepsRing s) : σ.KeepsRing (s.unitEnd l) := .ite h h.parts.raise.endReplay

theorem State.KeepsRing.rasEnd (h : σ.KeepsRing s) : σ.KeepsRing s.rasEnd := by
  unfold State.rasEnd
  extract_lets _ s1
  have h1 : σ.KeepsRing s1 := h.parts.wrs
  exact .ite h (h1.foldl fun _ _ h => .ite h.raise h)

/-! ### The end DONE -/

theorem State.KeepsRing.runCompletion (h : σ.KeepsRing s) : σ.KeepsRing (runCompletion l s) := by
  unfold Machine.runCompletion
  extract_lets x s0 late s1 s2 _ s3
  have h1 : σ.KeepsRing s1 := h.goto.wrs
  have h2 : σ.KeepsRing s2 := .ite h1.wr h1
  have h3 : σ.KeepsRing s3 := h2.parts
  exact .ite h3.journalEnd.checkFlow.unitEnd h

/-! ### The end ABORTED -/

theorem State.KeepsRing.feeds {as : List Nat} {i : AcqItem} (h : σ.KeepsRing s) : σ.KeepsRing (as.foldl (fun s n => s.pushItem n i) s) :=
  h.foldl fun _ _ h => h.parts

theorem State.KeepsRing.closeHold {d : Hold} (h : σ.KeepsRing s) : σ.KeepsRing (s.closeHold l d) := by
  unfold State.closeHold
  extract_lets s1
  have h1 : σ.KeepsRing s1 := h.wrs.feeds.setLeaf
  exact h1.journal

theorem State.KeepsRing.ffFollow {at_ : Nat} (h : σ.KeepsRing s) : σ.KeepsRing (s.ffFollow l at_) := by
  unfold State.ffFollow
  split
  · exact h.wr
  · exact h

theorem State.KeepsRing.formRecord {v : VRec} (h : σ.KeepsRing s) : σ.KeepsRing (s.formRecord l v) := by
  unfold State.formRecord
  extract_lets s' _ s1 _
  have h' : σ.KeepsRing s' := h.feeds
  have h1 : σ.KeepsRing s1 := h'.bump
  exact .ite (.ite h'.parts h1.setLeaf.wr) h

theorem State.KeepsRing.finishVec {v : VRec} (h : σ.KeepsRing s) : σ.KeepsRing (s.finishVec l v) :=
  .ite h (.ite h.parts.formRecord (.ite h.parts h.parts))

theorem State.KeepsRing.stopEngine {at_ : Nat} (h : σ.KeepsRing s) : σ.KeepsRing (s.stopEngine l at_) := by
  unfold State.stopEngine
  extract_lets s1 v _
  have h1 : σ.KeepsRing s1 := h.parts
  exact h1.setEng.raiseInt

theorem State.KeepsRing.tellAbort {a : AbortReq} (h : σ.KeepsRing s) : σ.KeepsRing (s.tellAbort l a) :=
  .ite (h.foldl fun _ _ h => h.parts) h

theorem State.KeepsRing.abortOthers {at_ : Nat} {a : AbortReq} (h : σ.KeepsRing s) : σ.KeepsRing (s.abortOthers l at_ a) :=
  h.foldl fun _ _ h => .ite h.parts h

theorem State.KeepsRing.endAborted {at_ : Nat} {a : AbortReq} {safe : Option Nat} (h : σ.KeepsRing s) :
    σ.KeepsRing (s.endAborted l at_ a safe) := by
  unfold State.endAborted
  extract_lets s' x s1 sup y s2 stop
  have h' : σ.KeepsRing s' := by
    unfold s'
    split
    · exact .ite h h.closeHold
    · exact h
  have h1 : σ.KeepsRing s1 := by
    unfold s1
    split
    · exact h'.parts
    · exact h'
  have hup : σ.KeepsRing sup := (State.KeepsRing.ite h1.ffFollow h1).foldl fun _ _ h => h.journal
  have h2 : σ.KeepsRing s2 := hup.parts
  split
  next su sm sc _ =>
  extract_lets s3 s4 s5 s6 s7 x7 s8
  have h3 : σ.KeepsRing s3 := h2.wrs
  have h4 : σ.KeepsRing s4 := .ite h3.wr h3
  have h5 : σ.KeepsRing s5 := h4.parts
  have h6 : σ.KeepsRing s6 := h5.foldl fun _ _ h => h.finishVec
  have h7 : σ.KeepsRing s7 := h6.stopEngine.journalEnd.checkFlow
  have h8 : σ.KeepsRing s8 := .ite h7.askExport h7
  exact h8.tellAbort.abortOthers.unitEnd

theorem State.KeepsRing.missedToo (h : σ.KeepsRing s) : σ.KeepsRing (s.missedToo l) := by
  have hflag : σ.KeepsRing ((s.wr F.UNIT_STATUS_UNDERRUN l 1).flagUnderrun l (s.leaf l).nextStart) := h.wr.setLeaf
  unfold State.missedToo
  extract_lets x le n
  split
  · split
    · exact .ite hflag h
    · exact hflag
    · exact h
  · exact h

theorem State.KeepsRing.afterPeriod (h : σ.KeepsRing s) : σ.KeepsRing (s.afterPeriod l) := by
  unfold State.afterPeriod
  extract_lets x x1 s0 s1 _
  have h0 : σ.KeepsRing s0 := h.setLeaf.mapLoops
  have h1 : σ.KeepsRing s1 := h0.setLeaf
  exact .ite h (.ite (.ite h1.parts h1) h0)

theorem State.KeepsRing.settle (h : σ.KeepsRing s) : σ.KeepsRing (s.settle l) := .ite h.setLeaf.afterPeriod h

theorem State.KeepsRing.clearState (h : σ.KeepsRing s) : σ.KeepsRing (s.clearState l) := h.wrs

theorem State.KeepsRing.abortTakeEffect (h : σ.KeepsRing s) : σ.KeepsRing (abortTakeEffect l s) := by
  have h0 : σ.KeepsRing (s.settle l) := h.settle
  unfold Machine.abortTakeEffect
  extract_lets s0 x late
  split
  · split
    · exact .ite h0.goto.parts.clearState.endAborted h0
    · exact h0
  · split
    · exact .ite h0.goto.missedToo.endAborted h0
    · exact h0
  · exact h0

theorem State.KeepsRing.leafAbort (h : σ.KeepsRing s) : σ.KeepsRing (leafAbort l s) := .ite h.abortTakeEffect.rasEnd h.abortTakeEffect

/-! ### The start -/

theorem State.KeepsRing.clearRun {accum : Bool} (h : σ.KeepsRing s) : σ.KeepsRing (s.clearRun l accum) :=
  .ite h.clearState.wrs h.clearState.wrs.wrs.wrs

theorem State.KeepsRing.forceAbort (h : σ.KeepsRing s) : σ.KeepsRing (s.forceAbort l) := by
  unfold State.forceAbort
  split
  · exact h
  · exact h.parts

theorem State.KeepsRing.beginRun {accum : Bool} (h : σ.KeepsRing s) : σ.KeepsRing (s.beginRun accum l) :=
  h.clearRun.wr.parts.setLeaf.forceAbort

theorem State.KeepsRing.endLate {ls : List Nat} {src m : Nat} (h : σ.KeepsRing s) : σ.KeepsRing (s.endLate ls src m) :=
  h.foldl fun _ _ h => h.clearState.endAborted

theorem State.KeepsRing.journalStart {u : Nat} (h : σ.KeepsRing s) : σ.KeepsRing (s.journalStart u) := .ite h h.journal

theorem State.KeepsRing.occursStart {u at_ : Nat} (h : σ.KeepsRing s) : σ.KeepsRing (s.occursStart u at_) :=
  .ite (h.foldl fun _ _ h => h.parts) h

theorem State.KeepsRing.runStart {u : Nat} {late : Option (Fin 16 × Fin 16)} (h : σ.KeepsRing s) : σ.KeepsRing (runStart u late s) := by
  unfold Machine.runStart
  extract_lets us ls accum s1 s2
  have h1 : σ.KeepsRing s1 := h.parts
  have h2 : σ.KeepsRing s2 := h1.foldl fun _ _ h => h.beginRun
  split
  · exact h
  · extract_lets _ s3
    have h3 : σ.KeepsRing s3 := .ite (h2.foldl fun _ _ h => h.setLeaf) h2
    refine .ite h ?_
    split
    · exact h1.endLate
    · exact h3.journalStart.occursStart

theorem State.KeepsRing.unitRunStart {u : Nat} {late : Option (Fin 16 × Fin 16)} (h : σ.KeepsRing s) : σ.KeepsRing (unitRunStart u late s) :=
  .ite (h.runStart.parts).wrs h.runStart

end

end Sys2Proof.Machine
end

section
/-! PROOFS. The fail-log ring's reset and its configuration, and the writer of its records (R152 to R157). -/

namespace Sys2Proof.Machine

set_option Elab.async false

section
variable {s t u : State} {h : Hdr}

/-! ### Requests of the ring's block -/

/-- R404, R408: a refusal that the module serves is recorded, which changes no cell but those of the record, and counted once. -/
theorem State.request_records {addr : Nat} {q : Req} {f : State → State × Ans} {r d : Nat} (hs : s.serves h addr q)
    (hf : f s = (s, .rejected r d)) (ht : t = s.request h addr q f) :
    t.told h (.rejected r d) ∧ t.rd F.GLB_ERR_COUNT_COUNT 0 = min (s.rd F.GLB_ERR_COUNT_COUNT 0 + 1) (2 ^ 32 - 1) ∧
      s.keepsCells rejectKeys t ∧ s.keepsMem t := by
  obtain ⟨htold, hcount, -⟩ := State.request_refused hs hf ht
  obtain ⟨-, hcells, hmem, -⟩ := State.request_rejected hs hf ht
  exact ⟨htold, hcount, hcells, hmem⟩

/-- R400: a request that the module serves and accepts is answered; its effect is what the request leaves. -/
theorem State.request_takes {addr : Nat} {q : Req} {f : State → State × Ans} {s1 : State} (hs : s.serves h addr q) (hf : f s = (s1, .ok))
    (ht : t = s.request h addr q f) : t.told h .ok ∧ (∀ g j, t.rd g j = s1.rd g j) ∧ s1.keepsMem t := by
  rw [State.request_accepted hs hf] at ht
  subst ht
  exact ⟨State.respond_told _ _ _, fun _ _ => rfl, State.keepsMem_of_eq rfl rfl rfl⟩

/-! ### The reset -/

theorem State.flReset_rd (s : State) : s.flReset.rd F.FL_WR_WR 0 = 0 ∧ s.flReset.rd F.FL_RD_RD 0 = 0 :=
  ⟨((s.wr F.FL_WR_WR 0 0).rd_wr_ne F.FL_RD_RD F.FL_WR_WR 0 0 0 (by decide)).trans (s.rd_wr_self F.FL_WR_WR 0 0),
    (s.wr F.FL_WR_WR 0 0).rd_wr_self F.FL_RD_RD 0 0⟩

theorem State.flReset_keepsCells (s : State) : s.keepsCells ringKeys s.flReset :=
  State.keepsCells_trans (s.wr_keepsCells F.FL_WR_WR 0 0 (by decide)) (State.wr_keepsCells _ F.FL_RD_RD 0 0 (by decide))

theorem State.flReset_keepsMem (s : State) : s.keepsMem s.flReset := State.keepsMem_of_eq rfl rfl rfl

/-- FL_STATUS.FULL: the ring holds as many records as its capacity (R154). -/
theorem State.flStatus_full (s : State) : s.flStatus.testBit 19 = decide (s.flCap ≤ s.flOcc) := by
  unfold State.flStatus
  generalize s.flOcc = n
  rw [Nat.testBit_eq_decide_div_mod_eq]
  cases decide (s.flCap ≤ n) with
  | false =>
    simp only [pack, bit, Bool.false_eq_true, if_false, decide_eq_false_iff_not]
    omega
  | true =>
    simp only [pack, bit, if_true, decide_eq_true_eq]
    omega

/-- An empty ring that has a capacity is not full. -/
theorem State.flStatus_not_full (hw : s.rd F.FL_WR_WR 0 = 0) (hr : s.rd F.FL_RD_RD 0 = 0) (hc : 0 < s.flCap) : s.flStatus.testBit 19 = false := by
  rw [s.flStatus_full, State.flOcc, hw, hr]
  exact decide_eq_false (Nat.not_le.2 hc)

theorem wrFlCtl_idle (hb : s.anyBusy = false) : wrFlCtl s 1 = (s.flReset, .ok) := by
  rw [wrFlCtl, if_pos (by decide), if_neg (by simp [hb])]

theorem wrFlCtl_busy (hb : s.anyBusy = true) : wrFlCtl s 1 = (s, .rejected rSTATE 0) := by
  rw [wrFlCtl, if_pos (by decide), if_pos hb]

/-! ### FL_CFG -/

/-- What FL_CFG takes from a written word. -/
def flCfgCells (data : Nat) : List (Fld × Nat × Nat) := [(F.FL_CFG_RING_64K, 0, bits data 0 7), (F.FL_CFG_LEAF_EN, 0, bits data 16 16)]

/-- R157: FL_CFG set; a change of the ring's size resets the ring. -/
def State.flConfigured (s : State) (data : Nat) : State :=
  if bits data 0 7 ≠ s.rd F.FL_CFG_RING_64K 0 then (s.wrs (flCfgCells data)).flReset else s.wrs (flCfgCells data)

/-- R157, R164: a word without reserved bits and with RING_64K from 1 to 64 is judged by the module's units and the channels' buffers. -/
theorem wrFlCfg_in_range {d : Nat} (hd : d < 2 ^ 32) (h0 : bits d 7 9 = 0) (h1 : 1 ≤ bits d 0 7) (h64 : bits d 0 7 ≤ 64) :
    wrFlCfg s d =
      if s.anyBusy then (s, .rejected rSTATE 0)
      else if s.acqOverlap 0 (16 * bits d 0 7) then (s, .rejected rSTATE 0)
      else (s.flConfigured d, .ok) := by
  unfold wrFlCfg
  extract_lets r changed s1
  rw [if_neg (by omega), if_neg (by omega)]
  simp only [State.flConfigured, changed, decide_eq_true_eq]
  rfl

theorem bits_lt (v lo w : Nat) : bits v lo w < 2 ^ w := Nat.mod_lt _ (Nat.two_pow_pos w)

/-- R157: what FL_CFG and the ring read after an accepted write. -/
theorem State.flConfigured_spec (s : State) (data : Nat) :
    (s.flConfigured data).rd F.FL_CFG_RING_64K 0 = bits data 0 7 ∧ (s.flConfigured data).rd F.FL_CFG_LEAF_EN 0 = bits data 16 16 ∧
      (bits data 0 7 ≠ s.rd F.FL_CFG_RING_64K 0 → (s.flConfigured data).rd F.FL_WR_WR 0 = 0 ∧ (s.flConfigured data).rd F.FL_RD_RD 0 = 0) ∧
      (bits data 0 7 = s.rd F.FL_CFG_RING_64K 0 → s.KeepsRing (s.flConfigured data)) ∧ s.keepsMem (s.flConfigured data) := by
  have hset {f : Fld} {v : Nat} (hm : (f, 0, v) ∈ flCfgCells data) : (s.wrs (flCfgCells data)).rd f 0 = v % 2 ^ f.w :=
    s.wrs_rd_of_mem (by simp [flCfgCells]) (by simp [flCfgCells]) hm
  have hring : (s.wrs (flCfgCells data)).rd F.FL_CFG_RING_64K 0 = bits data 0 7 :=
    (hset (by simp [flCfgCells])).trans (Nat.mod_eq_of_lt (bits_lt _ _ 7))
  have hen : (s.wrs (flCfgCells data)).rd F.FL_CFG_LEAF_EN 0 = bits data 16 16 :=
    (hset (by simp [flCfgCells])).trans (Nat.mod_eq_of_lt (bits_lt _ _ 16))
  have hmem : s.keepsMem (s.wrs (flCfgCells data)) := State.keepsMem_of_onlyEvt (s.onlyEvt_wrs _)
  unfold State.flConfigured
  split
  next hne =>
    have hkeep := (s.wrs (flCfgCells data)).flReset_keepsCells
    exact ⟨(hkeep _ 0 (by decide) (by decide)).trans hring, (hkeep _ 0 (by decide) (by decide)).trans hen,
      fun _ => (s.wrs (flCfgCells data)).flReset_rd, fun he => absurd he hne, State.keepsMem_trans hmem (State.flReset_keepsMem _)⟩
  next he => exact ⟨hring, hen, fun hne => absurd hne he, fun _ => State.KeepsRing.rfl.wrs, hmem⟩

/-! ### FL_RD -/

theorem wrFlRd_refused {d : Nat} (hd : d < 2 ^ 32) (ho : s.flOcc < (d + 2 ^ 32 - s.rd F.FL_RD_RD 0) % 2 ^ 32) :
    wrFlRd s d = (s, .rejected rRANGE 0) := by
  rw [wrFlRd, if_neg (by omega), if_pos ho]

/-- R156: the records up to the new FL_RD consumed; a ring that is no longer full can tell again that it is. -/
def State.flConsumed (s : State) (d : Nat) : State :=
  let s1 := s.wr F.FL_RD_RD 0 d
  if s1.flOcc < s1.flCap then { s1 with fl := { s1.fl with fullEp := false } } else s1

theorem wrFlRd_accepted {d : Nat} (hd : d < 2 ^ 32) (ho : (d + 2 ^ 32 - s.rd F.FL_RD_RD 0) % 2 ^ 32 ≤ s.flOcc) :
    wrFlRd s d = ((s.flConsumed d).flMark, .ok) := by
  rw [wrFlRd, if_neg (by omega), if_neg (by omega)]
  rfl

/-! ### What telling of a record leaves as it was -/

/-- What the writer's counters, flags and messages leave as it was: the register cells but those of the fields `ks`, the memories, the
strand table and the queue of records. -/
structure State.LogKeeps (σ : State) (ks : List Nat) (s : State) : Prop where
  cells : σ.keepsCells ks s
  dram : s.dram = σ.dram
  sram : s.sram = σ.sram
  strands : s.strands = σ.strands
  queue : s.fl.queue = σ.fl.queue

theorem State.LogKeeps.trans {ks js : List Nat} (h : s.LogKeeps ks t) (h' : t.LogKeeps js u) : s.LogKeeps (ks ++ js) u :=
  ⟨State.keepsCells_trans h.cells h'.cells, h'.dram.trans h.dram, h'.sram.trans h.sram, h'.strands.trans h.strands, h'.queue.trans h.queue⟩

theorem State.LogKeeps.keepsMem {ks : List Nat} (h : s.LogKeeps ks t) : s.keepsMem t := State.keepsMem_of_eq h.dram h.sram h.strands

theorem State.onlyEvt.logKeeps {ks : List Nat} (h : s.onlyEvt t) (hc : s.keepsCells ks t) : s.LogKeeps ks t := by
  obtain ⟨_, _, _, rfl⟩ := h
  exact ⟨hc, rfl, rfl, rfl, rfl⟩

theorem State.setFl_logKeeps (s : State) {x : FlSt} (hx : x.queue = s.fl.queue) : s.LogKeeps [] { s with fl := x } :=
  ⟨State.keepsCells_of_regs rfl, rfl, rfl, rfl, hx⟩

theorem State.setLeaf_logKeeps (s : State) (l : Nat) (x : Leaf) : s.LogKeeps [] (s.setLeaf l x) :=
  ⟨State.keepsCells_of_regs rfl, rfl, rfl, rfl, rfl⟩

theorem State.wr_logKeeps (s : State) (f : Fld) (i v : Nat) (hf : f.key < 1024 := by decide) : s.LogKeeps [f.key] (s.wr f i v) :=
  (s.onlyEvt_wr f i v).logKeeps (s.wr_keepsCells f i v hf)

theorem State.raise_logKeeps (s : State) (c i d h : Nat) : s.LogKeeps eventKeys (s.raise c i d h) :=
  (s.raise_onlyEvt c i d h).logKeeps (s.raise_keepsCells c i d h)

/-- R164: FL_WMARK judged anew. -/
theorem State.flMark_logKeeps (s : State) : s.LogKeeps eventKeys s.flMark := by
  unfold State.flMark
  extract_lets lev reached _ s1
  have h1 : s.LogKeeps [] s1 := s.setFl_logKeeps rfl
  split
  · exact h1.trans (s1.raise_logKeeps _ _ _ _)
  · exact { h1 with cells := State.keepsCells_mono h1.cells (List.nil_subset _) }

theorem State.flConsumed_logKeeps (s : State) (d : Nat) : s.LogKeeps [F.FL_RD_RD.key] (s.flConsumed d) := by
  have h1 := s.wr_logKeeps F.FL_RD_RD 0 d
  unfold State.flConsumed
  extract_lets s1
  split
  · exact h1.trans (s1.setFl_logKeeps rfl)
  · exact h1

theorem State.flConsumed_rd (s : State) {d : Nat} (hd : d < 2 ^ 32) : (s.flConsumed d).rd F.FL_RD_RD 0 = d := by
  have h1 : (s.wr F.FL_RD_RD 0 d).rd F.FL_RD_RD 0 = d := (s.rd_wr_self F.FL_RD_RD 0 d).trans (Nat.mod_eq_of_lt hd)
  unfold State.flConsumed
  extract_lets s1
  split
  · exact h1
  · exact h1

/-! ### The record that the writer takes -/

/-- R154: the record in front taken from the queue, in this base cycle. -/
def State.flTaken (s : State) (rest : List (Nat × Nat)) : State := { s with fl := { s.fl with queue := rest, wrote := some (s.now / cyc) } }

/-- R155: a record of the leaf lost. -/
def State.flLose (s : State) (l : Nat) : State := (s.setLeaf l { s.leaf l with flLost := true }).wr F.UNIT_FSTAT_FL_LOST l 1

/-- R155: a record of the leaf lost, and counted. -/
def State.flCounted (s : State) (l : Nat) (f : Fld) (off : Nat) : State := (s.flLose l).bump f 0 1 F.FL_STATUS_SAT 0 8 off

/-- FL_FULL, told once until the ring has room again. -/
def State.flFullTold (s : State) : State :=
  if s.fl.fullEp then s else { s with fl := { s.fl with fullEp := true } }.raise 0x80 0 s.flStatus 0

/-- R152: the record w of a leaf as it is stored, with FIRST and DROPPED_BEFORE. -/
def Leaf.flRecord (x : Leaf) (w : Nat) : Nat := w + bit (x.minFail == some (failIndex w)) * 2 ^ 87 + bit x.flLost * 2 ^ 88

/-- R154: where the next record goes. -/
def State.flAt (s : State) : Nat := 16 * (s.rd F.FL_WR_WR 0 % s.flCap)

/-- R154: a record in the ring. -/
def State.flStored (s : State) (w : Nat) : State :=
  { s with sram := { s.sram with mem := memWrite s.sram.mem s.flAt (toBytes 16 w) } }.usePort 1008

/-- R154: a record of the leaf written. -/
def State.flWritten (s : State) (l w : Nat) : State :=
  let s1 := (s.flStored w).wr F.FL_WR_WR 0 (s.rd F.FL_WR_WR 0 + 1)
  (s1.setLeaf l { s1.leaf l with flCount := (s1.leaf l).flCount + 1, flLost := false }).flMark

/-! ### What becomes of the record -/

theorem State.flTaken_keepsMem (s : State) (rest : List (Nat × Nat)) : s.keepsMem (s.flTaken rest) := State.keepsMem_of_eq rfl rfl rfl

/-- R155: a lost record steps its counter, and writes no byte. -/
theorem State.flCounted_spec (s : State) (l : Nat) {f : Fld} (off : Nat) (hf : f ∈ [F.FL_DROPPED_COUNT, F.FL_LIMITED_COUNT]) :
    (s.flCounted l f off).rd f 0 = min (s.rd f 0 + 1) (2 ^ 32 - 1) ∧
      s.LogKeeps ([F.UNIT_FSTAT_FL_LOST.key] ++ (f.key :: F.FL_STATUS_SAT.key :: eventKeys)) (s.flCounted l f off) := by
  have hlose : s.LogKeeps [F.UNIT_FSTAT_FL_LOST.key] (s.flLose l) := (s.setLeaf_logKeeps l _).trans (State.wr_logKeeps _ _ _ _)
  obtain ⟨hw, hlt, hsat, hev, hlost⟩ : f.w = 32 ∧ f.key < 1024 ∧ F.FL_STATUS_SAT.key ≠ f.key ∧ f.key ∉ eventKeys ∧
      f.key ∉ [F.UNIT_FSTAT_FL_LOST.key] :=
    (by decide : ∀ f ∈ [F.FL_DROPPED_COUNT, F.FL_LIMITED_COUNT], f.w = 32 ∧ f.key < 1024 ∧ F.FL_STATUS_SAT.key ≠ f.key ∧ f.key ∉ eventKeys ∧
      f.key ∉ [F.UNIT_FSTAT_FL_LOST.key]) f hf
  have hbump := (State.bump_onlyEvt (s.flLose l) f 0 1 F.FL_STATUS_SAT 0 8 off).logKeeps
    (State.bump_keepsCells _ _ _ _ _ _ _ _ hlt (by decide))
  refine ⟨?_, hlose.trans hbump⟩
  rw [State.flCounted, State.bump_rd_self _ _ _ _ _ _ _ _ hw hlt ⟨by decide, hsat⟩ hev, hlose.cells f 0 hlt hlost]
  rfl

theorem State.flFullTold_logKeeps (s : State) : s.LogKeeps eventKeys s.flFullTold := by
  unfold State.flFullTold
  split
  · exact s.onlyEvt_refl.logKeeps (s.keepsCells_refl _)
  · have h1 : s.LogKeeps [] { s with fl := { s.fl with fullEp := true } } := s.setFl_logKeeps rfl
    exact h1.trans (State.raise_logKeeps _ _ _ _ _)

theorem Leaf.flRecord_eq (x : Leaf) (w : Nat) :
    x.flRecord w = w + (if x.minFail = some (failIndex w) then 2 ^ 87 else 0) + (if x.flLost then 2 ^ 88 else 0) := by
  simp only [Leaf.flRecord, bit, ite_mul, one_mul, zero_mul, beq_iff_eq]

theorem toBytes_length (n v : Nat) : (toBytes n v).length = n := by
  induction n generalizing v with
  | zero => rfl
  | succ n ih => exact congrArg Nat.succ (ih _)

theorem State.flStored_mem (s : State) (w : Nat) : (s.flStored w).sram.mem = memWrite s.sram.mem s.flAt (toBytes 16 w) := by
  simp only [State.flStored, State.usePort]

theorem State.flStored_get (s : State) (w : Nat) {i : Nat} (hi : i < 16) :
    Table.get? (s.flStored w).sram.mem (s.flAt + i) = (toBytes 16 w)[i]? := by
  rw [State.flStored_mem, memWrite_get_inside]
  rwa [toBytes_length]

theorem State.flStored_sramByte (s : State) (w : Nat) {a : Nat} (ha : a < s.flAt ∨ s.flAt + 16 ≤ a) :
    (s.flStored w).sramByte a = s.sramByte a := by
  rw [State.sramByte, State.sramByte, State.flStored_mem, memWrite_get_outside]
  rwa [toBytes_length]

theorem State.sramByte_of_sram (h : t.sram = s.sram) (a : Nat) : t.sramByte a = s.sramByte a := by rw [State.sramByte, State.sramByte, h]

/-- R154: a written record steps FL_WR, and its bytes are those of the ring. -/
theorem State.flWritten_spec (s : State) (l w : Nat) :
    (s.flWritten l w).rd F.FL_WR_WR 0 = (s.rd F.FL_WR_WR 0 + 1) % 2 ^ 32 ∧
      (s.flStored w).LogKeeps ([F.FL_WR_WR.key] ++ [] ++ eventKeys) (s.flWritten l w) := by
  unfold State.flWritten
  extract_lets s1
  have h1 : (s.flStored w).LogKeeps [F.FL_WR_WR.key] s1 := State.wr_logKeeps _ _ _ _
  have hwr : s1.rd F.FL_WR_WR 0 = (s.rd F.FL_WR_WR 0 + 1) % 2 ^ 32 := (s.flStored w).rd_wr_self F.FL_WR_WR 0 _
  have hmark := State.flMark_logKeeps (s1.setLeaf l { s1.leaf l with flCount := (s1.leaf l).flCount + 1, flLost := false })
  exact ⟨(hmark.cells _ 0 (by decide) (by decide)).trans hwr, (h1.trans (s1.setLeaf_logKeeps l _)).trans hmark⟩

/-! ### FAIL_LOG_WRITE -/

section
variable {key w : Nat} {rest : List (Nat × Nat)} (hq : s.fl.queue = (key, w) :: rest) (hr : s.flReady key = true)
include hq hr

/-- R155: what the writer does with the record that it can take. -/
theorem failLogWrite_takes :
    failLogWrite s =
      if s.rd F.FL_LIMIT_MAX (key % 16) ≠ 0 ∧ s.rd F.FL_LIMIT_MAX (key % 16) ≤ (s.leaf (key % 16)).flCount then
        (s.flTaken rest).flCounted (key % 16) F.FL_LIMITED_COUNT 0x28
      else if s.flCap ≤ s.flOcc then ((s.flTaken rest).flCounted (key % 16) F.FL_DROPPED_COUNT 0x20).flFullTold
      else (s.flTaken rest).flWritten (key % 16) ((s.leaf (key % 16)).flRecord w) := by
  simp only [failLogWrite, hq, hr, if_true]
  rfl

/-- R155: a record beyond its leaf's limit is lost, and counted. -/
theorem failLogWrite_limited (h0 : s.rd F.FL_LIMIT_MAX (key % 16) ≠ 0) (hlim : s.rd F.FL_LIMIT_MAX (key % 16) ≤ (s.leaf (key % 16)).flCount) :
    (failLogWrite s).rd F.FL_LIMITED_COUNT 0 = min (s.rd F.FL_LIMITED_COUNT 0 + 1) (2 ^ 32 - 1) ∧
      (failLogWrite s).rd F.FL_WR_WR 0 = s.rd F.FL_WR_WR 0 ∧ (failLogWrite s).fl.queue = rest ∧ s.keepsMem (failLogWrite s) := by
  rw [failLogWrite_takes hq hr, if_pos ⟨h0, hlim⟩]
  obtain ⟨hcount, hkeep⟩ := (s.flTaken rest).flCounted_spec (key % 16) 0x28 (f := F.FL_LIMITED_COUNT) (by decide)
  exact ⟨hcount, hkeep.cells _ 0 (by decide) (by decide), hkeep.queue, State.keepsMem_trans (s.flTaken_keepsMem rest) hkeep.keepsMem⟩

variable (hb : s.rd F.FL_LIMIT_MAX (key % 16) = 0 ∨ (s.leaf (key % 16)).flCount < s.rd F.FL_LIMIT_MAX (key % 16))
include hb

/-- R155: a record that finds the ring full is lost, and counted. -/
theorem failLogWrite_full (hf : s.flCap ≤ s.flOcc) :
    (failLogWrite s).rd F.FL_DROPPED_COUNT 0 = min (s.rd F.FL_DROPPED_COUNT 0 + 1) (2 ^ 32 - 1) ∧
      (failLogWrite s).rd F.FL_WR_WR 0 = s.rd F.FL_WR_WR 0 ∧ (failLogWrite s).fl.queue = rest ∧ s.keepsMem (failLogWrite s) := by
  rw [failLogWrite_takes hq hr, if_neg (by omega), if_pos hf]
  obtain ⟨hcount, hkeep⟩ := (s.flTaken rest).flCounted_spec (key % 16) 0x20 (f := F.FL_DROPPED_COUNT) (by decide)
  have htold := ((s.flTaken rest).flCounted (key % 16) F.FL_DROPPED_COUNT 0x20).flFullTold_logKeeps
  have hall := hkeep.trans htold
  exact ⟨(htold.cells _ 0 (by decide) (by decide)).trans hcount, hall.cells _ 0 (by decide) (by decide), hall.queue,
    State.keepsMem_trans (s.flTaken_keepsMem rest) hall.keepsMem⟩

/-- R154: a record that finds room is stored where FL_WR points. -/
theorem failLogWrite_room (hf : s.flOcc < s.flCap) :
    (failLogWrite s).rd F.FL_WR_WR 0 = (s.rd F.FL_WR_WR 0 + 1) % 2 ^ 32 ∧ (failLogWrite s).fl.queue = rest ∧
      (∀ i < 16, Table.get? (failLogWrite s).sram.mem (s.flAt + i) = (toBytes 16 ((s.leaf (key % 16)).flRecord w))[i]?) ∧
      (∀ a, a < s.flAt ∨ s.flAt + 16 ≤ a → (failLogWrite s).sramByte a = s.sramByte a) ∧
      (∀ a, (failLogWrite s).dram.byte a = s.dram.byte a) := by
  rw [failLogWrite_takes hq hr, if_neg (by omega), if_neg (by omega)]
  obtain ⟨hwr, hkeep⟩ := (s.flTaken rest).flWritten_spec (key % 16) ((s.leaf (key % 16)).flRecord w)
  obtain ⟨⟨-, hsram⟩, -⟩ := s.flTaken_keepsMem rest
  refine ⟨hwr, hkeep.queue, fun i hi => ?_, fun a ha => ?_, fun a => by rw [hkeep.dram]; rfl⟩
  · rw [hkeep.sram]
    exact State.flStored_get (s.flTaken rest) _ hi
  · rw [State.sramByte_of_sram hkeep.sram, State.flStored_sramByte (s.flTaken rest) _ ha, hsram]

end

end

/-- Settles O41: the two writes are requests whose answers are said above, and the commands of a run keep the ring's registers. -/
theorem failLogRing : Obligations.FailLogRing := by
  refine ⟨fun s h hs => ⟨fun hb => ?_, fun hb => ?_⟩, fun s h d hs hd h0 h1 h64 => ⟨fun hb ho => ?_, fun hb => ?_⟩,
    fun s u late l i hi => ?_⟩
  · obtain ⟨hwr, hrd⟩ := s.flReset_rd
    obtain ⟨htold, hcell, hmem⟩ := State.request_takes hs (f := fun s => wrFlCtl s 1) (wrFlCtl_idle hb) rfl
    have hwr' := (hcell _ _).trans hwr
    have hrd' := (hcell _ _).trans hrd
    exact ⟨_, rfl, htold, hwr', hrd', fun hc => State.flStatus_not_full hwr' hrd' hc,
      fun g j hg hn => (hcell g j).trans (s.flReset_keepsCells g j hg hn), State.keepsMem_trans s.flReset_keepsMem hmem⟩
  · exact ⟨_, rfl, State.request_records hs (f := fun s => wrFlCtl s 1) (wrFlCtl_busy hb) rfl⟩
  · have hw : wrFlCfg s d.toNat = (s.flConfigured d.toNat, .ok) := by rw [wrFlCfg_in_range hd h0 h1 h64]; simp [hb, ho]
    obtain ⟨hsize, hen, hreset, hkeep, hmem⟩ := s.flConfigured_spec d.toNat
    obtain ⟨htold, hcell, hmem'⟩ := State.request_takes hs (f := fun s => wrFlCfg s d.toNat) hw rfl
    refine ⟨_, rfl, htold, (hcell _ _).trans hsize, (hcell _ _).trans hen, fun hne => ?_, fun he => ?_, State.keepsMem_trans hmem hmem'⟩
    · exact ⟨(hcell _ _).trans (hreset hne).1, (hcell _ _).trans (hreset hne).2⟩
    · exact ⟨(hcell _ _).trans (hkeep he).flWr, (hcell _ _).trans (hkeep he).flRd⟩
  · have hw : wrFlCfg s d.toNat = (s, .rejected rSTATE 0) := by rw [wrFlCfg_in_range hd h0 h1 h64, if_pos hb]
    exact ⟨_, rfl, State.request_records hs (f := fun s => wrFlCfg s d.toNat) hw rfl⟩
  · have hring {t : State} (h : s.KeepsRing t) : t.rd F.FL_WR_WR 0 = s.rd F.FL_WR_WR 0 ∧ t.rd F.FL_RD_RD 0 = s.rd F.FL_RD_RD 0 :=
      ⟨h.flWr, h.flRd⟩
    rcases hi with rfl | rfl | rfl
    · exact ⟨_, rfl, hring State.KeepsRing.rfl.unitRunStart⟩
    · exact ⟨_, rfl, hring State.KeepsRing.rfl.runCompletion⟩
    · exact ⟨_, rfl, hring State.KeepsRing.rfl.leafAbort⟩

/-- Settles O42: what becomes of the record that the writer takes is said in `failLogWrite_takes`; FL_RD is a request. -/
theorem failLogRecords : Obligations.FailLogRecords := by
  refine ⟨fun s key w rest x hq hx hr => hx ▸ ⟨fun h0 hlim => ?_, fun hb hroom => ?_, fun hb hfull => ?_⟩,
    fun s h d hs hd => ⟨fun ho => ?_, fun ho => ?_⟩⟩
  · exact ⟨_, rfl, failLogWrite_limited hq hr h0 hlim⟩
  · have h := failLogWrite_room hq hr hb hroom
    rw [State.flAt, Leaf.flRecord_eq] at h
    exact ⟨_, rfl, h⟩
  · exact ⟨_, rfl, failLogWrite_full hq hr hb hfull⟩
  · have hmark := (s.flConsumed d.toNat).flMark_logKeeps
    obtain ⟨htold, hcell, hmem⟩ := State.request_takes hs (f := fun s => wrFlRd s d.toNat) (wrFlRd_accepted hd ho) rfl
    exact ⟨_, rfl, htold, ((hcell _ _).trans (hmark.cells _ 0 (by decide) (by decide))).trans (s.flConsumed_rd hd),
      State.keepsMem_trans ((s.flConsumed_logKeeps d.toNat).trans hmark).keepsMem hmem⟩
  · obtain ⟨htold, -, hcells, hmem⟩ := State.request_records hs (f := fun s => wrFlRd s d.toNat) (wrFlRd_refused hd ho) rfl
    exact ⟨_, rfl, htold, hcells _ 0 (by decide) (by decide), hmem⟩

end Sys2Proof.Machine
end

section
/-! PROOFS. What the acquisition engine's operations leave as it was (R173, R174, R184, R186).

`σ.Stores n s` relates the state σ to a state s on the way of a command of channel n: the register cells but those of `chanKeys` are as in
σ, and so are the samples that wait before the channel and the counts of those that have reached it. Each operation that stores, marks or
loses samples has one lemma `State.Stores.<operation>`. -/

namespace Sys2Proof.Machine

set_option Elab.async false

/-- The cells that a channel's storing, marking and losing of samples can change (R184, R186, R189), with those of the clock that shows commits. -/
abbrev chanKeys : List Nat := [F.MC_UREG_VALUE.key, F.ACQ_STAT_SHORT.key, F.ACQ_STAT_GAP_SEEN.key, F.ACQ_GAPS_COUNT.key, F.ACQ_LOST_COUNT.key,
  F.ACQ_TRIG_LOC_SEQ.key, F.ACQ_TRIG_LOC_IDX.key, F.ACQ_TRIG_LOC_VALID.key, F.ACQ_SEQ_WR.key, F.ACQ_GSTATUS_SAT.key] ++ journalKeys

/-- What the way of a channel's command from σ to s leaves as it was. -/
structure State.Stores (σ : State) (n : Nat) (s : State) : Prop where
  cells : σ.keepsCells chanKeys s
  feed : (s.acqCh n).feed = (σ.acqCh n).feed
  counts : (s.acqCh n).counts = (σ.acqCh n).counts

section
variable {σ s t : State} {n : Nat}

/-! ### A channel set -/

theorem State.acqCh_setAcq_self (s : State) (n : Nat) (x : AcqCh) : (s.setAcq n x).acqCh n = x := by
  rw [State.acqCh, State.setAcq, Table.get?_set_self]
  rfl

theorem State.acqCh_setAcq_ne (s : State) {n m : Nat} (x : AcqCh) (h : m ≠ n) : (s.setAcq n x).acqCh m = s.acqCh m := by
  rw [State.acqCh, State.setAcq, Table.get?_set_ne _ _ _ _ h]
  rfl

theorem State.acqCh_of_acq (h : t.acq = s.acq) (n : Nat) : t.acqCh n = s.acqCh n := by rw [State.acqCh, State.acqCh, h]

theorem State.onlyJn.acq (h : s.onlyJn t) : t.acq = s.acq := by
  obtain ⟨_, _, _, _, rfl⟩ := h
  rfl

theorem State.goto_acq (s : State) (at_ : Nat) : (s.goto at_).acq = s.acq := by
  obtain ⟨_, _, _, _, _, h⟩ := s.goto_onlyClock at_
  rw [h]

theorem State.acqCh_usePort (s : State) (k n : Nat) : (s.usePort k).acqCh n = s.acqCh n := by rw [State.acqCh, State.acqCh, State.usePort]

theorem State.usePort_regs (s : State) (k : Nat) : (s.usePort k).regs = s.regs := by rw [State.usePort]

theorem State.setAcq_tick (s : State) (n : Nat) (x : AcqCh) : (s.setAcq n x).tick = s.tick := rfl

theorem State.setAcq_keepsCells (s : State) (n : Nat) (x : AcqCh) : s.keepsCells [] (s.setAcq n x) := State.keepsCells_of_regs rfl

theorem State.setAcq_keepsMem (s : State) (n : Nat) (x : AcqCh) : s.keepsMem (s.setAcq n x) := State.keepsMem_of_eq rfl rfl rfl

/-! ### Cells of one relation after those of another -/

theorem State.keepsCells_after {u : State} {ks : List Nat} (h : s.keepsCells ks t) (h' : t.keepsCells ks u) : s.keepsCells ks u :=
  State.keepsCells_mono (State.keepsCells_trans h h') (List.append_subset.2 ⟨List.Subset.refl _, List.Subset.refl _⟩)

/-- The channel's setup and state read alike where the cells they lie in do. -/
theorem State.acqPin_of_cells (h : s.keepsCells chanKeys t) (n : Nat) : t.acqPin n = s.acqPin n := by
  simp only [State.acqPin, State.acqSource, State.acqRed, State.on, h F.ACQ_CFG_SOURCE n (by decide) (by decide),
    h F.ACQ_CFG_RED n (by decide) (by decide)]

theorem State.acqKeys_of_cells (h : s.keepsCells chanKeys t) (n : Nat) : t.acqKeys n = s.acqKeys n := by
  simp only [State.acqKeys, State.acqLeaves, State.acqPin_of_cells h, h F.ACQ_CFG_LEAFMASK n (by decide) (by decide)]

theorem State.acqState_of_cells (h : s.keepsCells chanKeys t) (n : Nat) : t.acqState n = s.acqState n :=
  h F.ACQ_STAT_STATE n (by decide) (by decide)

/-! ### Rules -/

theorem State.Stores.rfl : s.Stores n s := ⟨s.keepsCells_refl _, Eq.refl _, Eq.refl _⟩

theorem State.Stores.ite {c : Prop} [Decidable c] {a b : State} (ha : σ.Stores n a) (hb : σ.Stores n b) :
    σ.Stores n (if c then a else b) := by split <;> assumption

theorem State.Stores.foldl {γ : Type} {as : List γ} {g : State → γ → State} (h : σ.Stores n s)
    (hg : ∀ t a, σ.Stores n t → σ.Stores n (g t a)) : σ.Stores n (as.foldl g s) :=
  List.foldlRecOn as g (motive := fun t : State => σ.Stores n t) h fun t ht a _ => hg t a ht

/-- Whatever changes neither registers nor the channels keeps what is spoken of. -/
theorem State.Stores.of_eq (h : σ.Stores n s) (hr : t.regs = s.regs) (hc : t.acqCh n = s.acqCh n) : σ.Stores n t :=
  ⟨State.keepsCells_after h.cells (State.keepsCells_mono (State.keepsCells_of_regs hr) (List.nil_subset _)),
    (congrArg AcqCh.feed hc).trans h.feed, (congrArg AcqCh.counts hc).trans h.counts⟩

theorem State.Stores.sramMem (h : σ.Stores n s) (m : Memory) : σ.Stores n { s with sram := { s.sram with mem := m } } := h.of_eq (Eq.refl _) (Eq.refl _)

theorem State.acqCh_sramMem (s : State) (m : Memory) (n : Nat) :
    State.acqCh { s with sram := { s.sram with mem := m } } n = s.acqCh n := Eq.refl _

theorem State.acqCh_dramWrite (s : State) (a : Nat) (l : List Byte) (n : Nat) : (s.dramWrite a l).acqCh n = s.acqCh n := Eq.refl _

theorem State.Stores.dramWrite {a : Nat} {l : List Byte} (h : σ.Stores n s) : σ.Stores n (s.dramWrite a l) := h.of_eq (Eq.refl _) (Eq.refl _)

theorem State.Stores.usePort (h : σ.Stores n s) (k : Nat) : σ.Stores n (s.usePort k) := h.of_eq (s.usePort_regs k) (s.acqCh_usePort k n)

theorem State.Stores.setAcq {x : AcqCh} (h : σ.Stores n s) (hf : x.feed = (s.acqCh n).feed := by rfl)
    (hc : x.counts = (s.acqCh n).counts := by rfl) : σ.Stores n (s.setAcq n x) := by
  refine ⟨h.cells, ?_, ?_⟩
  · rw [State.acqCh_setAcq_self, hf, h.feed]
  · rw [State.acqCh_setAcq_self, hc, h.counts]

/-- An operation on registers, the event ring, the marks (R8) and the journal alone. -/
theorem State.Stores.onlyJn {ks : List Nat} (h : σ.Stores n s) (ho : s.onlyJn t) (hc : s.keepsCells ks t) (hk : ks ⊆ chanKeys := by decide) :
    σ.Stores n t := by
  have hch := State.acqCh_of_acq ho.acq n
  exact ⟨State.keepsCells_after h.cells (State.keepsCells_mono hc hk), (congrArg AcqCh.feed hch).trans h.feed,
    (congrArg AcqCh.counts hch).trans h.counts⟩

theorem lt_of_mem_chanKeys {k : Nat} (h : k ∈ chanKeys) : k < 1024 := (by decide : ∀ k ∈ chanKeys, k < 1024) k h

theorem State.Stores.wr {f : Fld} {i v : Nat} (h : σ.Stores n s) (hf : f.key ∈ chanKeys := by decide) : σ.Stores n (s.wr f i v) :=
  h.onlyJn (s.onlyEvt_wr f i v).jn (s.wr_keepsCells f i v (lt_of_mem_chanKeys hf)) (List.cons_subset.2 ⟨hf, List.nil_subset _⟩)

theorem State.Stores.wrs {l : List (Fld × Nat × Nat)} (h : σ.Stores n s) (hl : ∀ e ∈ l, e.1.key ∈ chanKeys) : σ.Stores n (s.wrs l) := by
  refine h.onlyJn (s.onlyEvt_wrs l).jn (s.wrs_keepsCells l fun e he => lt_of_mem_chanKeys (hl e he)) fun k hk => ?_
  obtain ⟨e, he, rfl⟩ := List.mem_map.1 hk
  exact hl e he

theorem State.Stores.raise {code index data dataHi : Nat} (h : σ.Stores n s) : σ.Stores n (s.raise code index data dataHi) :=
  h.onlyJn (s.raise_onlyEvt _ _ _ _).jn (s.raise_keepsCells _ _ _ _)

theorem State.Stores.journal {typ leaf : Nat} {rep : Bool} {body : Nat} (h : σ.Stores n s) : σ.Stores n (s.journal typ leaf rep body) :=
  h.onlyJn (s.journal_onlyJn _ _ _ _) (s.journal_keepsCells _ _ _ _)

/-! ### Counters of a channel -/

theorem State.acqBump_onlyEvt (s : State) (f : Fld) (n k off : Nat) : s.onlyEvt (s.acqBump f n k off) := s.bump_onlyEvt _ _ _ _ _ _ _

theorem State.acqBump_keepsCells (s : State) (f : Fld) (n k off : Nat) (hf : f.key < 1024 := by decide) :
    s.keepsCells (f.key :: F.ACQ_GSTATUS_SAT.key :: eventKeys) (s.acqBump f n k off) := s.bump_keepsCells _ _ _ _ _ _ _ hf (by decide)

/-- R406: a counter of a channel reads one step on. -/
theorem State.acqBump_rd (s : State) {f : Fld} (n k off : Nat)
    (hf : f ∈ [F.ACQ_IGN_TRIG_COUNT, F.ACQ_LATE_TRIG_COUNT, F.ACQ_GAPS_COUNT, F.ACQ_LOST_COUNT] := by decide) :
    (s.acqBump f n k off).rd f n = min (s.rd f n + k) (2 ^ 32 - 1) := by
  obtain ⟨hw, hlt, hsat, hev⟩ : f.w = 32 ∧ f.key < 1024 ∧ F.ACQ_GSTATUS_SAT.key ≠ f.key ∧ f.key ∉ eventKeys :=
    (by decide : ∀ f ∈ [F.ACQ_IGN_TRIG_COUNT, F.ACQ_LATE_TRIG_COUNT, F.ACQ_GAPS_COUNT, F.ACQ_LOST_COUNT],
      f.w = 32 ∧ f.key < 1024 ∧ F.ACQ_GSTATUS_SAT.key ≠ f.key ∧ f.key ∉ eventKeys) f hf
  exact s.bump_rd_self f n k _ _ _ _ hw hlt ⟨by decide, hsat⟩ hev

/-! ### Pages -/

theorem State.Stores.acqWrite {p : AcqPage} (h : σ.Stores n s) : σ.Stores n (s.acqWrite n p) := by
  unfold State.acqWrite
  extract_lets x d b x1 lead s0 _
  have h0 : σ.Stores n s0 := .ite h.wr h
  have hx : s0.acqCh n = x := by
    unfold s0
    split <;> rfl
  have hfeed : x1.feed = (s0.acqCh n).feed := by rw [hx]
  have hcounts : x1.counts = (s0.acqCh n).counts := by rw [hx]
  clear_value s0
  have hsram := s0.acqCh_sramMem (memWrite s0.sram.mem (s.acqSramAt n x.seq) b) n
  exact .ite (h0.setAcq hfeed hcounts) ((h0.sramMem _).setAcq (by rw [hsram, hfeed]) (by rw [hsram, hcounts])).wr

theorem State.Stores.closePage {key : Nat} (h : σ.Stores n s) : σ.Stores n (s.closePage n key) := .ite h h.setAcq

theorem State.Stores.writeClosed {fuel : Nat} (h : σ.Stores n s) : σ.Stores n (State.writeClosed n fuel s).1 := by
  induction fuel generalizing s with
  | zero => exact h
  | succ fuel ih =>
    unfold State.writeClosed
    split
    · exact h
    · split
      · exact h
      · split
        · exact h
        · exact ih h.acqWrite

theorem State.Stores.acqAppend {key pos inst samples : Nat} {es : List (Nat × Bool)} (h : σ.Stores n s) :
    σ.Stores n (s.acqAppend n key pos inst es samples) := by
  unfold State.acqAppend
  extract_lets s1 x1 p p0 p1
  have h1 : σ.Stores n s1 := .ite h.closePage h
  exact h1.setAcq

/-! ### Gaps -/

theorem State.Stores.gapBegins {lossy : Bool} (h : σ.Stores n s) : σ.Stores n (s.gapBegins n lossy) := by
  unfold State.gapBegins
  extract_lets s1 s2
  have h1 : σ.Stores n s1 := .ite (h.onlyJn (s.acqBump_onlyEvt _ _ _ _).jn (s.acqBump_keepsCells _ _ _ _)) h
  have h2 : σ.Stores n s2 := h1.wr
  exact .ite h1 h2.raise

theorem State.Stores.gapLoses {k : Nat} (h : σ.Stores n s) : σ.Stores n (s.gapLoses n k) :=
  h.onlyJn (s.acqBump_onlyEvt _ _ _ _).jn (s.acqBump_keepsCells _ _ _ _)

theorem State.Stores.journalGap {g : AcqGap} (h : σ.Stores n s) : σ.Stores n (s.journalGap n g) := .ite h h.journal

theorem State.Stores.writeGap {g : AcqGap} (h : σ.Stores n s) : σ.Stores n (s.writeGap n g) := by
  unfold State.writeGap
  extract_lets w s0 p0 s1 x1 p
  have h0 : σ.Stores n s0 := h.journalGap
  have h1 : σ.Stores n s1 := .ite h0.closePage h0
  exact .ite h1.setAcq h0.acqAppend

theorem State.Stores.flushGaps {key : Nat} (h : σ.Stores n s) : σ.Stores n (s.flushGaps n key) := h.setAcq.foldl fun _ _ h => h.writeGap

/-! ### Where the trigger sample lies -/

theorem State.Stores.setMark {pid : Nat} {idx : Option Nat} (h : σ.Stores n s) : σ.Stores n (s.setMark n pid idx) := by
  unfold State.setMark
  extract_lets x s1 _
  have h1 : σ.Stores n s1 := h.setAcq
  split
  · exact h1
  · split
    · exact h1
    · exact .ite h1.dramWrite (h1.sramMem _)

theorem State.Stores.markTrig {key pid idx : Nat} (h : σ.Stores n s) : σ.Stores n (s.markTrig n key pid idx) := by
  unfold State.markTrig
  extract_lets x s1
  have h1 : σ.Stores n s1 := h.setAcq.setMark
  split
  · exact h1.wrs (by simp)
  · exact h1

theorem State.Stores.seekTrig {key : Nat} (h : σ.Stores n s) : σ.Stores n (s.seekTrig n key) := by
  unfold State.seekTrig
  extract_lets x
  split
  · exact h
  · split
    · exact .ite h h.markTrig
    · exact h

/-! ### Samples -/

theorem State.Stores.acqPut {key pos inst : Nat} {es : List (Nat × Bool)} (h : σ.Stores n s) : σ.Stores n (s.acqPut n key pos inst es) :=
  h.acqAppend.setAcq

theorem State.Stores.acqDrop {key inst : Nat} (h : σ.Stores n s) : σ.Stores n (s.acqDrop n key inst) := by
  unfold State.acqDrop
  extract_lets x begins s1 s2
  have hbegins : σ.Stores n begins := h.setAcq.gapBegins
  have h1 : σ.Stores n s1 := by
    unfold s1
    split
    · exact .ite h.setAcq hbegins
    · exact hbegins
  have h2 : σ.Stores n s2 := h1.gapLoses
  exact .ite h2.closePage h2

/-! ### What a channel's end leaves -/

/-- R178: a count changes no cell beyond those of the mark. -/
theorem State.acqCount_cells (s : State) (n key : Nat) : s.keepsCells chanKeys (s.acqCount n key) := by
  unfold State.acqCount
  extract_lets x s1
  have h1 : s.keepsCells chanKeys s1 := s.keepsCells_refl _
  split
  · exact State.keepsCells_after h1 (State.Stores.rfl (n := n)).seekTrig.cells
  · exact h1

theorem State.closeRed_cells (s : State) (n : Nat) : s.keepsCells chanKeys (s.closeRed n) := by
  unfold State.closeRed
  extract_lets x w
  have h0 : s.keepsCells chanKeys (s.setAcq n { x with red := {} }) := s.keepsCells_refl _
  split
  · exact State.keepsCells_after (State.keepsCells_after h0 (State.Stores.rfl (n := n)).acqPut.cells) (State.acqCount_cells _ _ _)
  · exact s.keepsCells_refl _

theorem State.Stores.writeLast {fuel : Nat} (h : σ.Stores n s) : σ.Stores n (State.writeLast n fuel s) := by
  induction fuel generalizing s with
  | zero => exact h
  | succ fuel ih =>
    unfold State.writeLast
    split
    · exact h
    · exact .ite h.wr (ih h.acqWrite)

/-- R179: the end of a channel shows its state, and changes no cell beyond that and those of storing and losing. -/
theorem State.acqEnd_spec (s : State) (n st : Nat) :
    (s.acqEnd n st).acqState n = st % 2 ^ 3 ∧ s.keepsCells (F.ACQ_STAT_STATE.key :: chanKeys) (s.acqEnd n st) := by
  unfold State.acqEnd
  extract_lets s0 s1 s2 s3 x s4
  have h0 : s.Stores n s0 := State.Stores.rfl.foldl fun _ _ h => h.flushGaps
  have h1 : s.keepsCells chanKeys s1 := State.keepsCells_after h0.cells (s0.closeRed_cells n)
  have h2 : s1.Stores n s2 := State.Stores.rfl.foldl fun _ _ h => h.closePage
  have h3 : s1.Stores n s3 := h2.writeLast
  clear_value s3
  have hcells : s.keepsCells (chanKeys ++ [F.ACQ_STAT_STATE.key]) s4 :=
    State.keepsCells_trans (State.keepsCells_after h1 h3.cells) (State.wr_keepsCells _ F.ACQ_STAT_STATE n st (by decide))
  have hstate : s4.acqState n = st % 2 ^ 3 := State.rd_wr_self _ F.ACQ_STAT_STATE n st
  clear_value s4
  split
  · have hr := s4.raise_keepsCells 0x93 n (s4.acqStat n) 0
    exact ⟨(hr F.ACQ_STAT_STATE n (by decide) (by decide)).trans hstate,
      State.keepsCells_mono (State.keepsCells_trans hcells hr) (by decide)⟩
  · exact ⟨hstate, State.keepsCells_mono hcells (by decide)⟩

end

end Sys2Proof.Machine
end

section
/-! PROOFS. A sample that reaches a channel: stored behind those of its page or lost, and counted (R168, R173, R178). -/

namespace Sys2Proof.Machine

set_option Elab.async false

section
variable {s t : State} {n key : Nat} {x y : AcqCh} {p : AcqPage} {items : List (Nat × Bool)}

/-! ### The open page of a key -/

/-- R173: a page takes the samples of a key. -/
def AcqPage.isOpen (key : Nat) (p : AcqPage) : Bool := p.leaf == key && !p.closed

theorem AcqPage.isOpen_iff : p.isOpen key = true ↔ p.leaf = key ∧ p.closed = false := by
  rw [AcqPage.isOpen, Bool.and_eq_true, beq_iff_eq, Bool.not_eq_true']

/-- The open page of a key that stands in the channel holds `items`, and no page of the channel waits to be written. -/
structure AcqCh.Holds (x : AcqCh) (key : Nat) (items : List (Nat × Bool)) : Prop where
  found : ∃ p, x.pages.find? (AcqPage.isOpen key) = some p ∧ p.items = items
  opens : ∀ p ∈ x.pages, p.closed = false

theorem AcqCh.Holds.of_pages (h : x.Holds key items) (hp : y.pages = x.pages) : y.Holds key items := by
  obtain ⟨hfound, hopens⟩ := h
  exact ⟨by rwa [hp], by rwa [hp]⟩

theorem AcqCh.Holds.mem (h : x.Holds key items) : ∃ p ∈ x.pages, p.leaf = key ∧ p.items = items := by
  obtain ⟨p, hp, hi⟩ := h.found
  obtain ⟨hleaf, -⟩ := AcqPage.isOpen_iff.1 (List.find?_some hp)
  exact ⟨p, List.mem_of_find?_eq_some hp, hleaf, hi⟩

theorem AcqCh.page_of_find (pos : Nat) (h : x.pages.find? (AcqPage.isOpen key) = some p) : x.page key pos = p := by
  have hp : x.pages.find? (fun p => p.leaf == key && !p.closed) = some p := h
  rw [AcqCh.page, hp]

theorem AcqCh.Holds.page_items (h : x.Holds key items) (pos : Nat) : (x.page key pos).items = items := by
  obtain ⟨p, hp, hi⟩ := h.found
  rw [AcqCh.page_of_find pos hp, hi]

theorem AcqCh.page_leaf (x : AcqCh) (key pos : Nat) : (x.page key pos).leaf = key ∧ (x.page key pos).closed = false := by
  unfold AcqCh.page
  split
  next p hp => exact AcqPage.isOpen_iff.1 (List.find?_some (p := AcqPage.isOpen key) hp)
  next => exact ⟨rfl, rfl⟩

/-- Replacing pages by number, the first that satisfies a test is the new one, where the first before had its number. -/
theorem find?_replace {l : List AcqPage} {f : AcqPage → Bool} (hf : f p = true) (hm : ∃ q ∈ l, q.pid = p.pid)
    (hq : ∀ q, l.find? f = some q → q.pid = p.pid) : (l.map fun q => if q.pid = p.pid then p else q).find? f = some p := by
  induction l with
  | nil => exact absurd hm (by simp)
  | cons a l ih =>
    by_cases ha : a.pid = p.pid
    · simp [ha, hf]
    · have hfa : ¬f a = true := fun h => ha (hq a (List.find?_cons_of_pos h))
      obtain ⟨q, hqm, hqp⟩ := hm
      have hql : q ∈ l := (List.mem_cons.1 hqm).resolve_left fun h => ha (h ▸ hqp)
      rw [List.map_cons, if_neg ha, List.find?_cons_of_neg hfa]
      exact ih ⟨q, hql, hqp⟩ fun q h => hq q (by rwa [List.find?_cons_of_neg hfa])

/-- A page put back in the place of the open page of its key, or as the last, is the open page of its key. -/
theorem AcqCh.setPage_holds (hleaf : p.leaf = key) (hopen : p.closed = false)
    (hpid : ∀ q, x.pages.find? (AcqPage.isOpen key) = some q → q.pid = p.pid) (hall : ∀ q ∈ x.pages, q.closed = false) :
    (x.setPage p).Holds key p.items := by
  have hf : p.isOpen key = true := AcqPage.isOpen_iff.2 ⟨hleaf, hopen⟩
  unfold AcqCh.setPage
  by_cases hm : ∃ q ∈ x.pages, q.pid = p.pid
  · have hany : x.pages.any (fun q => q.pid == p.pid) = true := by simpa using hm
    refine ⟨⟨p, ?_, rfl⟩, fun q hq => ?_⟩
    · simp only [hany, if_true]
      exact find?_replace hf hm hpid
    · simp only [hany, if_true, List.mem_map] at hq
      obtain ⟨r, hr, rfl⟩ := hq
      split
      · exact hopen
      · exact hall r hr
  · have hany : x.pages.any (fun q => q.pid == p.pid) = false := by simpa using hm
    have hnone : x.pages.find? (AcqPage.isOpen key) = none :=
      Option.eq_none_iff_forall_ne_some.2 fun q hq => hm ⟨q, List.mem_of_find?_eq_some hq, hpid q hq⟩
    refine ⟨⟨p, ?_, rfl⟩, fun q hq => ?_⟩
    · simp only [hany, Bool.false_eq_true, if_false]
      rw [List.find?_append, hnone, Option.none_or, List.find?_cons_of_pos hf]
    · simp only [hany, Bool.false_eq_true, if_false, List.mem_append, List.mem_singleton] at hq
      rcases hq with hq | rfl
      · exact hall q hq
      · exact hopen

/-! ### An entry stored -/

theorem State.acqFull_of_lt (h : p.items.length < 252) : s.acqFull n p = false := by
  unfold State.acqFull
  split
  · exact decide_eq_false (by omega)
  · exact decide_eq_false (by omega)

/-- R173: the open page of a key with entries appended. -/
def AcqCh.appended (x : AcqCh) (key pos inst : Nat) (es : List (Nat × Bool)) (samples : Nat) : AcqPage :=
  let p := x.page key pos
  let p0 := if p.items = [] then { p with pos := pos, ord0 := (Table.get? x.counts key).getD 0 } else p
  let p1 := if p0.n = 0 then { p0 with t0 := inst } else p0
  { p1 with items := es.reverse ++ p1.items, n := p1.n + samples }

theorem AcqCh.appended_spec (x : AcqCh) (key pos inst : Nat) (es : List (Nat × Bool)) (samples : Nat) :
    (x.appended key pos inst es samples).leaf = key ∧ (x.appended key pos inst es samples).closed = false ∧
      (x.appended key pos inst es samples).pid = (x.page key pos).pid ∧
      (x.appended key pos inst es samples).items = es.reverse ++ (x.page key pos).items := by
  unfold AcqCh.appended
  extract_lets p p0 p1
  obtain ⟨hleaf, hopen⟩ := x.page_leaf key pos
  have h0 : p0.leaf = key ∧ p0.closed = false ∧ p0.pid = p.pid ∧ p0.items = p.items := by
    unfold p0
    split <;> exact ⟨hleaf, hopen, rfl, rfl⟩
  have h1 : p1.leaf = p0.leaf ∧ p1.closed = p0.closed ∧ p1.pid = p0.pid ∧ p1.items = p0.items := by
    unfold p1
    split <;> exact ⟨rfl, rfl, rfl, rfl⟩
  obtain ⟨hl0, hc0, hp0, hi0⟩ := h0
  obtain ⟨hl1, hc1, hp1, hi1⟩ := h1
  exact ⟨hl1.trans hl0, hc1.trans hc0, hp1.trans hp0, congrArg (es.reverse ++ ·) (hi1.trans hi0)⟩

theorem State.acqAppend_of_room {pos inst samples : Nat} {es : List (Nat × Bool)} (h : s.acqFull n ((s.acqCh n).page key pos) = false) :
    s.acqAppend n key pos inst es samples = s.setAcq n ((s.acqCh n).setPage ((s.acqCh n).appended key pos inst es samples)) := by
  simp only [State.acqAppend, h, Bool.false_eq_true, if_false]
  rfl

/-- R173: with no page waiting and a place free in the open page, what is stored comes behind the page's others. -/
theorem State.acqPut_holds {pos inst : Nat} {es : List (Nat × Bool)} (h : s.acqFull n ((s.acqCh n).page key pos) = false)
    (hall : ∀ q ∈ (s.acqCh n).pages, q.closed = false) :
    ((s.acqPut n key pos inst es).acqCh n).Holds key (es.reverse ++ ((s.acqCh n).page key pos).items) := by
  obtain ⟨hleaf, hopen, hpid, hitems⟩ := (s.acqCh n).appended_spec key pos inst es 1
  have hpage := AcqCh.setPage_holds hleaf hopen (fun q hq => (congrArg AcqPage.pid (AcqCh.page_of_find pos hq)).symm.trans hpid.symm) hall
  rw [hitems] at hpage
  simp only [State.acqPut, State.acqAppend_of_room h, State.acqCh_setAcq_self]
  exact hpage.of_pages rfl

/-! ### The trigger sample marked -/

theorem State.setMark_pages (s : State) (n pid : Nat) (idx : Option Nat) : ((s.setMark n pid idx).acqCh n).pages =
    (s.acqCh n).pages.map fun q => if q.pid = pid then { q with trig := idx } else q := by
  unfold State.setMark
  extract_lets x s1 a
  have h1 : (s1.acqCh n).pages = (s.acqCh n).pages.map fun q => if q.pid = pid then { q with trig := idx } else q := by
    rw [State.acqCh_setAcq_self]
  clear_value s1
  split
  · exact h1
  · split
    · exact h1
    · split
      · rw [s1.acqCh_dramWrite]
        exact h1
      · rwa [s1.acqCh_sramMem]

/-- R184: the mark is of the page, not of what it holds. -/
theorem State.setMark_holds {pid : Nat} {idx : Option Nat} (h : (s.acqCh n).Holds key items) : ((s.setMark n pid idx).acqCh n).Holds key items := by
  obtain ⟨⟨p, hp, hi⟩, hall⟩ := h
  let f (q : AcqPage) : AcqPage := if q.pid = pid then { q with trig := idx } else q
  have hsame (q : AcqPage) : (f q).isOpen key = q.isOpen key ∧ (f q).closed = q.closed ∧ (f q).items = q.items := by
    unfold f
    split <;> exact ⟨rfl, rfl, rfl⟩
  have hpages : ((s.setMark n pid idx).acqCh n).pages = (s.acqCh n).pages.map f := s.setMark_pages n pid idx
  have hcomp : AcqPage.isOpen key ∘ f = AcqPage.isOpen key := funext fun q => (hsame q).1
  refine ⟨⟨f p, ?_, (hsame p).2.2.trans hi⟩, fun q hq => ?_⟩
  · rw [hpages, List.find?_map, hcomp, hp, Option.map_some]
  · rw [hpages] at hq
    obtain ⟨r, hr, rfl⟩ := List.mem_map.1 hq
    exact (hsame r).2.1.trans (hall r hr)

theorem State.markTrig_holds {k pid idx : Nat} (h : (s.acqCh n).Holds key items) : ((s.markTrig n k pid idx).acqCh n).Holds key items := by
  unfold State.markTrig
  extract_lets x s1
  have h1 : (s1.acqCh n).Holds key items := State.setMark_holds (by rw [State.acqCh_setAcq_self]; exact h.of_pages rfl)
  split
  · rwa [State.acqCh_of_acq (State.wrs_acq _ _)]
  · exact h1

theorem State.seekTrig_holds {k : Nat} (h : (s.acqCh n).Holds key items) : ((s.seekTrig n k).acqCh n).Holds key items := by
  unfold State.seekTrig
  extract_lets x
  split
  · exact h
  · split
    · split
      · exact h
      · exact State.markTrig_holds h
    · exact h

/-! ### A sample counted -/

/-- R178: the channel with one more sample of a key. -/
def AcqCh.counted (x : AcqCh) (key : Nat) : AcqCh := { x with counts := Table.set x.counts key ((Table.get? x.counts key).getD 0 + 1) }

theorem State.acqCount_stores (s : State) (n key : Nat) : (s.setAcq n ((s.acqCh n).counted key)).Stores n (s.acqCount n key) := by
  unfold State.acqCount
  extract_lets x s1
  exact .ite (State.Stores.rfl (s := s1)).seekTrig State.Stores.rfl

theorem State.acqCount_holds {k : Nat} (h : (s.acqCh n).Holds key items) : ((s.acqCount n k).acqCh n).Holds key items := by
  unfold State.acqCount
  extract_lets x s1
  have h1 : (s1.acqCh n).Holds key items := by
    rw [State.acqCh_setAcq_self]
    exact h.of_pages rfl
  split
  · exact State.seekTrig_holds h1
  · exact h1

/-! ### Closed pages written -/

theorem State.writeClosed_of_none (fuel : Nat) (h : ∀ p ∈ (s.acqCh n).pages, p.closed = false) : State.writeClosed n fuel s = (s, false) := by
  have hnone : (s.acqCh n).pages.find? (fun p => p.closed) = none := List.find?_eq_none.2 fun p hp => by simp [h p hp]
  cases fuel with
  | zero => rfl
  | succ fuel => simp only [State.writeClosed, hnone]

theorem State.acqClash_of_state (h : s.acqState n ≠ 3) (x : AcqCh) (seq : Nat) : s.acqClash n x seq = false := by
  rw [State.acqClash, beq_false_of_ne h, Bool.false_and]

/-- R179: only the pages of a channel that is TRIGGERED can take a counted slot. -/
theorem State.writeClosed_no_clash (fuel : Nat) (h : s.acqState n ≠ 3) : (State.writeClosed n fuel s).2 = false := by
  induction fuel generalizing s with
  | zero => rfl
  | succ fuel ih =>
    unfold State.writeClosed
    split
    · rfl
    next p _ =>
      have hw : (s.acqWrite n p).acqState n ≠ 3 := by rwa [State.acqState_of_cells (State.Stores.rfl (n := n)).acqWrite.cells]
      split
      · rfl
      · rw [State.acqClash_of_state h, if_neg Bool.false_ne_true]
        exact ih hw

theorem State.acqPump_of_no_clash (h : (State.writeClosed n 64 s).2 = false) : s.acqPump n = (State.writeClosed n 64 s).1 := by
  unfold State.acqPump
  split
  next s1 clash he =>
    rw [he] at h ⊢
    exact if_neg (by rw [show clash = false from h]; exact Bool.false_ne_true)

theorem State.acqPump_of_none (h : ∀ p ∈ (s.acqCh n).pages, p.closed = false) : s.acqPump n = s := by
  have hw := State.writeClosed_of_none 64 h
  rw [State.acqPump_of_no_clash (by rw [hw]), hw]

theorem State.acqPump_stores (h : s.acqState n ≠ 3) : s.Stores n (s.acqPump n) := by
  rw [State.acqPump_of_no_clash (State.writeClosed_no_clash 64 h)]
  exact State.Stores.rfl.writeClosed

/-! ### What a channel does with a sample -/

/-- R173, R186, R188: the write port has room for entries of a key, and no page of the key waits. -/
def State.acqFits (s : State) (n key : Nat) (es : List (Nat × Bool)) : Bool :=
  decide (s.portUsed + s.portKept n + s.acqCost n * es.length ≤ 4032) && !(s.acqCh n).waits key

/-- R178: entries stored or lost, and counted. -/
def State.acqCounted (s : State) (n key inst pos : Nat) (es : List (Nat × Bool)) : State :=
  (if s.acqFits n key es then ((s.usePort (s.acqCost n * es.length)).flushGaps n key).acqPut n key pos inst es
    else s.acqDrop n key inst).acqCount n key

/-- R178: every count has reached PRE. -/
def State.preReached (s : State) (n : Nat) : Bool :=
  (s.acqKeys n).all fun k => decide (s.rd F.ACQ_PRE_COUNT n ≤ (Table.get? (s.acqCh n).counts k).getD 0)

/-- R178: a filling channel whose every count has reached PRE is ARMED. -/
def State.acqFilled (s : State) (n : Nat) : State := if s.acqState n = aFILLING ∧ s.preReached n then s.wr F.ACQ_STAT_STATE n aARMED else s

/-- R173: a page that the entry filled closed, and what is closed written. -/
def State.acqTidied (s : State) (n key pos : Nat) : State :=
  (if s.acqFull n ((s.acqCh n).page key pos) then s.closePage n key else s).acqPump n

theorem State.acqStore_eq (s : State) (n key inst pos : Nat) (es : List (Nat × Bool)) : s.acqStore n key inst pos es =
    if ((s.acqCounted n key inst pos es).acqFilled n).acqComplete n then ((s.acqCounted n key inst pos es).acqFilled n).acqEnd n aDONE
    else ((s.acqCounted n key inst pos es).acqFilled n).acqTidied n key pos := rfl

/-- R178: whatever becomes of the entry, the channel counts it. -/
theorem State.acqCounted_spec (s : State) (n key inst pos : Nat) (es : List (Nat × Bool)) :
    s.keepsCells chanKeys (s.acqCounted n key inst pos es) ∧ ((s.acqCounted n key inst pos es).acqCh n).feed = (s.acqCh n).feed ∧
      ((s.acqCounted n key inst pos es).acqCh n).counts = ((s.acqCh n).counted key).counts := by
  have h2 : s.Stores n (if s.acqFits n key es then ((s.usePort (s.acqCost n * es.length)).flushGaps n key).acqPut n key pos inst es
      else s.acqDrop n key inst) := .ite (State.Stores.rfl.usePort _).flushGaps.acqPut State.Stores.rfl.acqDrop
  unfold State.acqCounted
  generalize (if s.acqFits n key es then ((s.usePort (s.acqCost n * es.length)).flushGaps n key).acqPut n key pos inst es
      else s.acqDrop n key inst) = s2 at h2 ⊢
  obtain ⟨hcells, hfeed, hcounts⟩ := s2.acqCount_stores n key
  rw [State.acqCh_setAcq_self] at hfeed hcounts
  refine ⟨State.keepsCells_after h2.cells hcells, hfeed.trans h2.feed, hcounts.trans ?_⟩
  rw [AcqCh.counted, AcqCh.counted, h2.counts]

theorem State.flushGaps_of_none (h : (s.acqCh n).gaps = []) : s.flushGaps n key = s.setAcq n { s.acqCh n with gaps := [] } := by
  simp only [State.flushGaps, h, List.filter_nil, List.foldl_nil]

/-- R173: with room, no gap and no page waiting, and a place free, the entry comes behind the others of its page. -/
theorem State.acqCounted_holds {inst pos : Nat} {e : Nat × Bool} (hport : s.portUsed + s.portKept n + s.acqCost n ≤ 4032)
    (hgaps : (s.acqCh n).gaps = []) (hall : ∀ p ∈ (s.acqCh n).pages, p.closed = false)
    (hfree : ((s.acqCh n).page key pos).items.length + 2 ≤ 252) :
    ((s.acqCounted n key inst pos [e]).acqCh n).Holds key (e :: ((s.acqCh n).page key pos).items) := by
  have hwaits : (s.acqCh n).waits key = false := List.any_eq_false.2 fun p hp => by simp [hall p hp]
  have hfits : s.acqFits n key [e] = true := by simp [State.acqFits, hwaits, hport]
  have hx := s.acqCh_usePort (s.acqCost n * [e].length) n
  unfold State.acqCounted
  rw [if_pos hfits, State.flushGaps_of_none (by rwa [hx]), hx]
  refine State.acqCount_holds ?_
  have hput := State.acqPut_holds (s := (s.usePort (s.acqCost n * [e].length)).setAcq n { s.acqCh n with gaps := [] }) (n := n) (key := key)
    (pos := pos) (inst := inst) (es := [e])
  rw [State.acqCh_setAcq_self] at hput
  exact hput (State.acqFull_of_lt (lt_of_lt_of_le (Nat.lt_add_of_pos_right (by decide)) hfree)) hall

theorem State.acqFilled_acqCh (s : State) (n m : Nat) : (s.acqFilled n).acqCh m = s.acqCh m := by
  unfold State.acqFilled
  split <;> rfl

theorem State.acqFilled_cells (s : State) (n : Nat) : s.keepsCells [F.ACQ_STAT_STATE.key] (s.acqFilled n) := by
  unfold State.acqFilled
  split
  · exact s.wr_keepsCells _ _ _ (by decide)
  · exact s.keepsCells_refl _

/-- R178: the state of a channel filling or armed, once the counts have been looked at. -/
theorem State.acqFilled_state (h : s.acqState n = 1 ∨ s.acqState n = 2) :
    (s.acqFilled n).acqState n = if s.acqState n = 2 ∨ s.preReached n = true then 2 else 1 := by
  unfold State.acqFilled
  rcases h with h | h
  · cases hp : s.preReached n with
    | true =>
      rw [if_pos ⟨h, rfl⟩, if_pos (.inr rfl)]
      exact s.rd_wr_self F.ACQ_STAT_STATE n 2
    | false =>
      rw [if_neg (by simp), if_neg (by simp [h])]
      exact h
  · rw [if_neg (by simp [h]), if_pos (.inl h)]
    exact h

theorem State.acqTidied_stores {pos : Nat} (h : s.acqState n ≠ 3) : s.Stores n (s.acqTidied n key pos) := by
  have h1 : s.Stores n (if s.acqFull n ((s.acqCh n).page key pos) then s.closePage n key else s) := .ite State.Stores.rfl.closePage State.Stores.rfl
  unfold State.acqTidied
  generalize (if s.acqFull n ((s.acqCh n).page key pos) then s.closePage n key else s) = s1 at h1 ⊢
  obtain ⟨hcells, hfeed, hcounts⟩ := State.acqPump_stores (s := s1) (n := n) (by rwa [State.acqState_of_cells h1.cells])
  exact ⟨State.keepsCells_after h1.cells hcells, hfeed.trans h1.feed, hcounts.trans h1.counts⟩

/-- A page with a place free after an entry stays as it is. -/
theorem State.acqTidied_of_holds {pos : Nat} (h : (s.acqCh n).Holds key items) (hl : items.length < 252) : s.acqTidied n key pos = s := by
  have hfull : s.acqFull n ((s.acqCh n).page key pos) = false := State.acqFull_of_lt (by rwa [h.page_items pos])
  rw [State.acqTidied, hfull, if_neg Bool.false_ne_true, State.acqPump_of_none h.opens]

theorem State.acqComplete_of_state (h : s.acqState n ≠ 3) : s.acqComplete n = false := by
  simp only [State.acqComplete, beq_false_of_ne h, Bool.false_and]

theorem State.preReached_of_cells (h : s.keepsCells chanKeys t) : t.preReached n = (s.acqKeys n).all fun k =>
    decide (s.rd F.ACQ_PRE_COUNT n ≤ (Table.get? (t.acqCh n).counts k).getD 0) := by
  rw [State.preReached, State.acqKeys_of_cells h, h F.ACQ_PRE_COUNT n (by decide) (by decide)]

/-- R178: a channel filling or armed goes on after an entry, which it counts. -/
theorem State.acqStore_spec {inst pos : Nat} {es : List (Nat × Bool)} (h : s.acqState n = 1 ∨ s.acqState n = 2) :
    ((s.acqStore n key inst pos es).acqCh n).feed = (s.acqCh n).feed ∧
      ((s.acqStore n key inst pos es).acqCh n).counts = ((s.acqCh n).counted key).counts ∧
      (s.acqStore n key inst pos es).acqState n = if s.acqState n = 2 ∨ (s.acqKeys n).all (fun k =>
        decide (s.rd F.ACQ_PRE_COUNT n ≤ (Table.get? ((s.acqStore n key inst pos es).acqCh n).counts k).getD 0)) = true then 2 else 1 := by
  obtain ⟨hcells, hfeed, hcounts⟩ := s.acqCounted_spec n key inst pos es
  rw [State.acqStore_eq]
  generalize s.acqCounted n key inst pos es = s5 at hcells hfeed hcounts ⊢
  have hstate5 : s5.acqState n = s.acqState n := State.acqState_of_cells hcells n
  have hstate : (s5.acqFilled n).acqState n = if s.acqState n = 2 ∨ s5.preReached n = true then 2 else 1 := by
    rw [State.acqFilled_state (by rwa [hstate5]), hstate5]
  have hne : (s5.acqFilled n).acqState n ≠ 3 := by
    rw [hstate]
    split <;> decide
  obtain ⟨htcells, htfeed, htcounts⟩ := State.acqTidied_stores (key := key) (pos := pos) hne
  rw [State.acqComplete_of_state hne, if_neg Bool.false_ne_true]
  rw [State.acqFilled_acqCh] at htfeed htcounts
  refine ⟨htfeed.trans hfeed, htcounts.trans hcounts, ?_⟩
  rw [State.acqState_of_cells htcells, hstate, State.preReached_of_cells hcells, htcounts]

/-- R173: the entry that finds room is behind the others of its page. -/
theorem State.acqStore_stored {inst pos : Nat} {e : Nat × Bool} (h : s.acqState n = 1 ∨ s.acqState n = 2)
    (hport : s.portUsed + s.portKept n + s.acqCost n ≤ 4032) (hgaps : (s.acqCh n).gaps = [])
    (hall : ∀ p ∈ (s.acqCh n).pages, p.closed = false) (hfree : ((s.acqCh n).page key pos).items.length + 2 ≤ 252) :
    ∃ p ∈ ((s.acqStore n key inst pos [e]).acqCh n).pages, p.leaf = key ∧ p.items = e :: ((s.acqCh n).page key pos).items := by
  have hholds := State.acqCounted_holds (inst := inst) (e := e) hport hgaps hall hfree
  obtain ⟨hcells, -⟩ := s.acqCounted_spec n key inst pos [e]
  rw [State.acqStore_eq]
  generalize s.acqCounted n key inst pos [e] = s5 at hcells hholds ⊢
  have hholds' : ((s5.acqFilled n).acqCh n).Holds key (e :: ((s.acqCh n).page key pos).items) := by rwa [State.acqFilled_acqCh]
  have hne : (s5.acqFilled n).acqState n ≠ 3 := by
    rw [State.acqFilled_state (by rwa [State.acqState_of_cells hcells])]
    split <;> decide
  rw [State.acqComplete_of_state hne, if_neg Bool.false_ne_true, State.acqTidied_of_holds hholds' (by rw [List.length_cons]; omega)]
  exact hholds'.mem

/-! ### ACQ_SAMPLE -/

/-- R168: the channel without the sample in front, which it remembers. -/
def AcqCh.taken (x : AcqCh) (rest : List AcqItem) (key inst tick : Nat) : AcqCh := { x with feed := rest }.note key inst tick

theorem AcqCh.taken_spec (x : AcqCh) (rest : List AcqItem) (key inst tick : Nat) :
    (x.taken rest key inst tick).feed = rest ∧ (x.taken rest key inst tick).counts = x.counts ∧ (x.taken rest key inst tick).gaps = x.gaps ∧
      (x.taken rest key inst tick).pages = x.pages ∧ ∀ k pos, (x.taken rest key inst tick).page k pos = x.page k pos :=
  ⟨rfl, rfl, rfl, rfl, fun _ _ => rfl⟩

/-- R168: a sample taken at its instant. -/
def State.sampleTaken (s : State) (n : Nat) (i : AcqItem) (rest : List AcqItem) (key : Nat) : State :=
  ((s.goto i.inst).setAcq n { s.acqCh n with feed := rest }).setAcq n ((s.acqCh n).taken rest key i.inst s.tick)

theorem State.sampleTaken_acqCh (s : State) (n : Nat) (i : AcqItem) (rest : List AcqItem) (key : Nat) :
    (s.sampleTaken n i rest key).acqCh n = (s.acqCh n).taken rest key i.inst s.tick := State.acqCh_setAcq_self _ _ _

theorem State.sampleTaken_cells (s : State) (n : Nat) (i : AcqItem) (rest : List AcqItem) (key : Nat) :
    s.keepsCells chanKeys (s.sampleTaken n i rest key) := by
  have hset := State.keepsCells_trans (State.setAcq_keepsCells (s.goto i.inst) n { s.acqCh n with feed := rest })
    (State.setAcq_keepsCells _ n ((s.acqCh n).taken rest key i.inst s.tick))
  exact State.keepsCells_mono (State.keepsCells_trans (s.goto_keepsCells i.inst) hset) (by decide)

/-- R168: a sample of a channel that collects without reduction is taken and handed on under its key. -/
theorem acqSample_plain {pins : Nat} {i : AcqItem} {rest : List AcqItem} (hfeed : (s.acqCh n).feed = i :: rest) (hgap : i.gap = none)
    (hopens : i.opens = false) (hlive : s.acqLive n = true) (hred : s.acqRed n = false) (hdue : s.due i.inst = true) :
    acqSample n pins s = (s.sampleTaken n i rest (if s.acqPin n then i.leaf else 0)).acqStore n (if s.acqPin n then i.leaf else 0) i.inst
      i.pos [(if s.acqPin n then pins else i.data, false)] := by
  have htick (x : AcqCh) : ((s.goto i.inst).setAcq n x).tick = s.tick := (State.setAcq_tick _ n x).trans (s.goto_tick i.inst)
  unfold acqSample
  extract_lets x
  split
  next h => exact absurd (h.symm.trans hfeed) (by simp)
  next j r h =>
    obtain ⟨rfl, rfl⟩ := List.cons.inj (h.symm.trans hfeed)
    rw [if_neg (by rw [hlive]; decide), if_neg (by rw [hdue]; decide)]
    extract_lets s0 s1 y z key s2
    rw [if_neg (by rw [hopens]; decide)]
    split
    next hg => exact absurd (hg.symm.trans hgap) (by simp)
    next =>
      have h0 : s0.acqCh n = { s.acqCh n with feed := r } := State.acqCh_setAcq_self _ _ _
      have h2 : s2 = s.sampleTaken n j r key := by simp only [s2, h0, s0, htick, State.sampleTaken, AcqCh.taken, x]
      rw [if_neg (by rw [hred]; decide), h2]

/-! ### The write port, before and after the sample is taken -/

theorem State.acqDemand_setAcq_ne {m : Nat} (s : State) (x : AcqCh) (h : m ≠ n) : (s.setAcq n x).acqDemand m = s.acqDemand m := by
  unfold State.acqDemand
  rw [State.acqCh_setAcq_ne s x h]
  rfl

/-- R188: a channel's own samples take nothing from what is kept for those before it. -/
theorem State.portKept_setAcq (s : State) (n : Nat) (x : AcqCh) : (s.setAcq n x).portKept n = s.portKept n := by
  have hmap : (List.range n).map (s.setAcq n x).acqDemand = (List.range n).map s.acqDemand :=
    List.map_congr_left fun m hm => s.acqDemand_setAcq_ne x (Nat.ne_of_lt (List.mem_range.1 hm))
  rw [State.portKept, hmap]
  rfl

theorem State.acqCost_of_cells (h : s.keepsCells chanKeys t) (n : Nat) : t.acqCost n = s.acqCost n := by
  rw [State.acqCost, State.acqCost, State.acqPin_of_cells h]

theorem State.portUsed_setAcq (s : State) (n : Nat) (x : AcqCh) : (s.setAcq n x).portUsed = s.portUsed := rfl

theorem State.sampleTaken_port (s : State) (n : Nat) (i : AcqItem) (rest : List AcqItem) (key : Nat) :
    (s.sampleTaken n i rest key).portUsed = (s.goto i.inst).portUsed ∧ (s.sampleTaken n i rest key).portKept n = (s.goto i.inst).portKept n ∧
      (s.sampleTaken n i rest key).acqCost n = s.acqCost n :=
  ⟨(State.portUsed_setAcq _ _ _).trans (State.portUsed_setAcq _ _ _), (State.portKept_setAcq _ _ _).trans (State.portKept_setAcq _ _ _),
    State.acqCost_of_cells (s.sampleTaken_cells n i rest key) n⟩

/-! ### The channel after the sample -/

section
variable {pins : Nat} {i : AcqItem} {rest : List AcqItem} (hfeed : (s.acqCh n).feed = i :: rest) (hgap : i.gap = none) (hopens : i.opens = false)
  (hstate : s.acqState n = 1 ∨ s.acqState n = 2) (hred : s.acqRed n = false) (hdue : s.due i.inst = true)
  (hkey : key = if s.acqPin n then i.leaf else 0)
include hfeed hgap hopens hstate hred hdue hkey

theorem acqSample_stores : acqSample n pins s = (s.sampleTaken n i rest key).acqStore n key i.inst i.pos
    [(if s.acqPin n then pins else i.data, false)] := by
  have hlive : s.acqLive n = true := by rcases hstate with h | h <;> simp [State.acqLive, h]
  rw [acqSample_plain hfeed hgap hopens hlive hred hdue, hkey]

/-- R168, R178: the sample is taken and counted, and a filling channel whose every count has reached PRE is ARMED. -/
theorem acqSample_counts : ((acqSample n pins s).acqCh n).feed = rest ∧
    Table.get? ((acqSample n pins s).acqCh n).counts key = some ((Table.get? (s.acqCh n).counts key).getD 0 + 1) ∧
    (acqSample n pins s).acqState n = if s.acqState n = 2 ∨ (s.acqKeys n).all (fun k =>
      decide (s.rd F.ACQ_PRE_COUNT n ≤ (Table.get? ((acqSample n pins s).acqCh n).counts k).getD 0)) = true then 2 else 1 := by
  have hcells := s.sampleTaken_cells n i rest key
  have hst := State.acqState_of_cells hcells n
  obtain ⟨hrest, hcounts, -⟩ := (s.acqCh n).taken_spec rest key i.inst s.tick
  rw [← s.sampleTaken_acqCh n i rest key] at hrest hcounts
  rw [acqSample_stores hfeed hgap hopens hstate hred hdue hkey]
  obtain ⟨htfeed, htcounts, htstate⟩ := State.acqStore_spec (key := key) (inst := i.inst) (pos := i.pos)
    (es := [(if s.acqPin n then pins else i.data, false)]) (hst.symm ▸ hstate)
  refine ⟨htfeed.trans hrest, ?_, ?_⟩
  · rw [htcounts, AcqCh.counted, Table.get?_set_self, hcounts]
  · rw [htstate, hst, State.acqKeys_of_cells hcells, hcells F.ACQ_PRE_COUNT n (by decide) (by decide)]

/-- R173, R188: with room in the write port, no gap and no page waiting, and a place free after it, the sample comes behind the others of its
page. -/
theorem acqSample_stored (hport : (s.goto i.inst).portUsed + (s.goto i.inst).portKept n + s.acqCost n ≤ 4032) (hgaps : (s.acqCh n).gaps = [])
    (hall : ∀ p ∈ (s.acqCh n).pages, p.closed = false) (hfree : ((s.acqCh n).page key i.pos).items.length + 2 ≤ 252) :
    ∃ p ∈ ((acqSample n pins s).acqCh n).pages, p.leaf = key ∧
      p.items = (if s.acqPin n then pins else i.data, false) :: ((s.acqCh n).page key i.pos).items := by
  have hst := State.acqState_of_cells (s.sampleTaken_cells n i rest key) n
  obtain ⟨-, -, hgaps', hpages, hpage⟩ := (s.acqCh n).taken_spec rest key i.inst s.tick
  rw [← s.sampleTaken_acqCh n i rest key] at hgaps' hpages hpage
  obtain ⟨hused, hkept, hcost⟩ := s.sampleTaken_port n i rest key
  rw [acqSample_stores hfeed hgap hopens hstate hred hdue hkey, ← hpage key i.pos]
  exact State.acqStore_stored (hst.symm ▸ hstate) (by rwa [hused, hkept, hcost]) (by rwa [hgaps']) (by rwa [hpages]) (by rwa [hpage])

end

end

end Sys2Proof.Machine
end

section
/-! PROOFS. Occurrences of a channel's trigger source: ignored, late, counted, or the trigger (R180 to R184). -/

namespace Sys2Proof.Machine

set_option Elab.async false

section
variable {s t : State} {n : Nat} {o : AcqOcc}

/-! ### The trigger -/

theorem State.occurs_regs (s : State) (src t : Nat) (ok : Nat → Bool) : (s.occurs src t ok).regs = s.regs :=
  List.foldlRecOn _ _ (motive := fun u : State => u.regs = s.regs) rfl fun _ h _ _ => h

theorem State.tellAll_regs (s : State) (m : CluMsg) : (s.tellAll m).regs = s.regs := by
  unfold State.tellAll
  split
  · exact List.foldlRecOn _ _ (motive := fun u : State => u.regs = s.regs) rfl fun _ h _ _ => h
  · rfl

/-- R184: a trigger sent writes no register. -/
theorem State.sendXtrig_regs (s : State) (n t : Nat) : (s.sendXtrig n t).regs = s.regs := by
  unfold State.sendXtrig
  extract_lets sent _ s1
  have h1 : s1.regs = s.regs := State.occurs_regs _ _ _ _
  split
  · split
    · exact (State.tellAll_regs _ _).trans h1
    · exact h1
  · rfl

/-- R184: the channel shows a trigger aligned to `at_`. -/
structure State.ShowsTrigger (s : State) (n at_ : Nat) : Prop where
  state : s.acqState n = 3
  time : s.rd F.ACQ_TRIG_TIME_TIME n = at_ % 2 ^ 64

theorem State.ShowsTrigger.keep {at_ : Nat} (h : s.ShowsTrigger n at_) (hc : s.keepsCells chanKeys t) : t.ShowsTrigger n at_ :=
  ⟨(State.acqState_of_cells hc n).trans h.state, (hc F.ACQ_TRIG_TIME_TIME n (by decide) (by decide)).trans h.time⟩

/-- What a trigger writes. -/
abbrev trigCells (n at_ : Nat) : List (Fld × Nat × Nat) := [(F.ACQ_STAT_STATE, n, aTRIGGERED), (F.ACQ_TRIG_TIME_TIME, n, at_)]

theorem State.wrs_showsTrigger (s : State) (n at_ : Nat) : (s.wrs (trigCells n at_)).ShowsTrigger n at_ :=
  ⟨s.wrs_rd_of_mem (f := F.ACQ_STAT_STATE) (v := 3) (by simp) (by simp) (by simp),
    s.wrs_rd_of_mem (f := F.ACQ_TRIG_TIME_TIME) (v := at_) (by simp) (by simp) (by simp)⟩

theorem State.ShowsTrigger.sent {at_ : Nat} (h : s.ShowsTrigger n at_) (code index data dataHi : Nat) :
    ((s.sendXtrig n at_).raise code index data dataHi).ShowsTrigger n at_ := by
  have hsent : s.keepsCells chanKeys (s.sendXtrig n at_) :=
    State.keepsCells_mono (State.keepsCells_of_regs (s.sendXtrig_regs n at_)) (List.nil_subset _)
  exact (h.keep hsent).keep (State.keepsCells_mono (State.raise_keepsCells _ _ _ _ _) (by decide))

/-- R179, R180: where the channel ends with its trigger, it is DONE, with the trigger's time. -/
theorem State.ShowsTrigger.ended {at_ : Nat} (h : s.ShowsTrigger n at_) :
    (s.acqEnd n aDONE).rd F.ACQ_TRIG_TIME_TIME n = at_ % 2 ^ 64 ∧ (s.acqEnd n aDONE).acqState n = 4 := by
  obtain ⟨hstate, hcells⟩ := s.acqEnd_spec n aDONE
  exact ⟨(hcells F.ACQ_TRIG_TIME_TIME n (by decide) (by decide)).trans h.time, hstate⟩

/-- R184: the trigger's time is shown, and the channel is TRIGGERED or DONE. -/
theorem State.acqTrigger_spec (s : State) (n at_ : Nat) (force : Bool) :
    (s.acqTrigger n at_ force false).rd F.ACQ_TRIG_TIME_TIME n = at_ % 2 ^ 64 ∧
      ((s.acqTrigger n at_ force false).acqState n = 3 ∨ (s.acqTrigger n at_ force false).acqState n = 4) := by
  unfold State.acqTrigger
  extract_lets edge _ s1 keys s0 x x1 s1' s2 s3
  split
  · have h1 : (s1.raise 0x91 n (s1.acqStat n) (s1.acqTrigLoc n)).ShowsTrigger n at_ := (State.wrs_showsTrigger _ n at_).sent _ _ _ _
    obtain ⟨htime, hstate⟩ := h1.ended
    exact ⟨htime, .inr hstate⟩
  · have h1 : s1'.ShowsTrigger n at_ := State.wrs_showsTrigger _ n at_
    have hseek : s1'.Stores n s2 := State.Stores.rfl.foldl fun _ _ h => h.seekTrig
    have h3 : s3.ShowsTrigger n at_ := (h1.keep hseek.cells).sent _ _ _ _
    clear_value s3
    split
    · obtain ⟨htime, hstate⟩ := h3.ended
      exact ⟨htime, .inr hstate⟩
    · exact ⟨h3.time, .inl h3.state⟩

/-! ### An occurrence looked at -/

/-- R182, R183: the samples that an occurrence selects. -/
def State.occOrds (s : State) (n : Nat) (o : AcqOcc) : List Nat := (s.acqKeys n).map fun k => (s.acqCh n).ordAt k o.inst

/-- R178, R182: a trigger sample lies at or before the PRE-th. -/
def State.occEarly (s : State) (n : Nat) (o : AcqOcc) : Bool :=
  (s.occOrds n o).any (fun k => decide (k < s.rd F.ACQ_PRE_COUNT n)) && s.acqSource n != 0

/-- R182: the qualifying occurrences with this one, which counts where it selects a new sample or the channel has no source. -/
def State.occHits (s : State) (n : Nat) (o : AcqOcc) : List (List Nat) :=
  if s.acqSource n ≠ 0 ∧ (s.acqCh n).hits.contains (s.occOrds n o) then (s.acqCh n).hits else s.occOrds n o :: (s.acqCh n).hits

/-- R182: the channel with the qualifying occurrences counted. -/
def State.occCounted (s : State) (n : Nat) (o : AcqOcc) : State := s.setAcq n { s.acqCh n with hits := s.occHits n o }

theorem State.acqOccur_filling (h : s.acqState n = 1) : s.acqOccur n o = s.acqBump F.ACQ_IGN_TRIG_COUNT n 1 0x58 := if_pos h

/-- R182, R184: an ARMED channel looks at an occurrence. -/
theorem State.acqOccur_armed (h : s.acqState n = 2) : s.acqOccur n o =
    if o.force then s.acqTrigger n o.inst true false
    else if o.inst + 4 * 327680 < s.now then s.acqBump F.ACQ_LATE_TRIG_COUNT n 1 0x88
    else if s.occEarly n o then s.acqBump F.ACQ_IGN_TRIG_COUNT n 1 0x58
    else if s.rd F.ACQ_TRIG_COUNT n ≤ (s.occHits n o).length then (s.occCounted n o).acqTrigger n o.inst false false
    else s.occCounted n o := by
  unfold State.acqOccur
  extract_lets x st keys ords early hits now_
  rw [if_neg (by rw [show st = 2 from h]; decide), if_pos (show st = aARMED from h)]
  rfl

/-- R190, R406: a counter of the channel steps, and the channel stays as it is. -/
theorem State.acqBump_spec (s : State) {f : Fld} (n off : Nat) (hf : f ∈ [F.ACQ_IGN_TRIG_COUNT, F.ACQ_LATE_TRIG_COUNT]) :
    (s.acqBump f n 1 off).rd f n = min (s.rd f n + 1) (2 ^ 32 - 1) ∧ (s.acqBump f n 1 off).acqState n = s.acqState n ∧
      s.keepsMem (s.acqBump f n 1 off) := by
  obtain ⟨hlt, hstate, hcount⟩ : f.key < 1024 ∧ F.ACQ_STAT_STATE.key ∉ f.key :: F.ACQ_GSTATUS_SAT.key :: eventKeys ∧
      f ∈ [F.ACQ_IGN_TRIG_COUNT, F.ACQ_LATE_TRIG_COUNT, F.ACQ_GAPS_COUNT, F.ACQ_LOST_COUNT] :=
    (by decide : ∀ f ∈ [F.ACQ_IGN_TRIG_COUNT, F.ACQ_LATE_TRIG_COUNT], f.key < 1024 ∧
      F.ACQ_STAT_STATE.key ∉ f.key :: F.ACQ_GSTATUS_SAT.key :: eventKeys ∧
      f ∈ [F.ACQ_IGN_TRIG_COUNT, F.ACQ_LATE_TRIG_COUNT, F.ACQ_GAPS_COUNT, F.ACQ_LOST_COUNT]) f hf
  exact ⟨s.acqBump_rd n 1 off hcount, s.acqBump_keepsCells f n 1 off hlt F.ACQ_STAT_STATE n (by decide) hstate,
    State.keepsMem_of_onlyEvt (s.acqBump_onlyEvt f n 1 off)⟩

theorem State.occEarly_eq_true (hs : s.acqSource n ≠ 0) (h : ∃ k ∈ s.occOrds n o, k < s.rd F.ACQ_PRE_COUNT n) : s.occEarly n o = true := by
  simpa [State.occEarly, hs] using h

theorem State.occEarly_eq_false (h : s.acqSource n = 0 ∨ ∀ k ∈ s.occOrds n o, s.rd F.ACQ_PRE_COUNT n ≤ k) : s.occEarly n o = false := by
  rcases h with h | h
  · simp [State.occEarly, h]
  · have hany : (s.occOrds n o).any (fun k => decide (k < s.rd F.ACQ_PRE_COUNT n)) = false := by simpa using h
    rw [State.occEarly, hany, Bool.false_and]

theorem State.occHits_again (hs : s.acqSource n ≠ 0) (h : s.occOrds n o ∈ (s.acqCh n).hits) : s.occHits n o = (s.acqCh n).hits :=
  if_pos ⟨hs, List.contains_iff_mem.2 h⟩

theorem State.occHits_new (h : s.acqSource n = 0 ∨ s.occOrds n o ∉ (s.acqCh n).hits) : s.occHits n o = s.occOrds n o :: (s.acqCh n).hits :=
  if_neg fun ⟨hs, hm⟩ => h.elim hs fun hn => hn (List.contains_iff_mem.1 hm)

theorem State.occCounted_keeps (s : State) (n : Nat) (o : AcqOcc) : ((s.occCounted n o).acqCh n).hits = s.occHits n o ∧
    (s.occCounted n o).acqState n = s.acqState n ∧ s.keepsCells [] (s.occCounted n o) ∧ s.keepsMem (s.occCounted n o) :=
  ⟨congrArg AcqCh.hits (s.acqCh_setAcq_self n _), rfl, s.setAcq_keepsCells n _, s.setAcq_keepsMem n _⟩

/-! ### The occurrence of an ARMED channel, case by case -/

section
variable (h : s.acqState n = 2)
include h

theorem State.acqOccur_forced (hf : o.force = true) : s.acqOccur n o = s.acqTrigger n o.inst true false := by
  rw [State.acqOccur_armed h, if_pos hf]

variable (hf : o.force = false)
include hf

theorem State.acqOccur_late (hl : o.inst + 4 * 327680 < s.now) : s.acqOccur n o = s.acqBump F.ACQ_LATE_TRIG_COUNT n 1 0x88 := by
  rw [State.acqOccur_armed h, if_neg (by rw [hf]; decide), if_pos hl]

variable (hl : s.now ≤ o.inst + 4 * 327680)
include hl

theorem State.acqOccur_early (he : s.occEarly n o = true) : s.acqOccur n o = s.acqBump F.ACQ_IGN_TRIG_COUNT n 1 0x58 := by
  rw [State.acqOccur_armed h, if_neg (by rw [hf]; decide), if_neg (Nat.not_lt.2 hl), if_pos he]

variable (he : s.occEarly n o = false)
include he

theorem State.acqOccur_counts (hc : (s.occHits n o).length < s.rd F.ACQ_TRIG_COUNT n) : s.acqOccur n o = s.occCounted n o := by
  rw [State.acqOccur_armed h, if_neg (by rw [hf]; decide), if_neg (Nat.not_lt.2 hl), if_neg (by rw [he]; decide), if_neg (Nat.not_le.2 hc)]

theorem State.acqOccur_triggers (hc : s.rd F.ACQ_TRIG_COUNT n ≤ (s.occHits n o).length) :
    s.acqOccur n o = (s.occCounted n o).acqTrigger n o.inst false false := by
  rw [State.acqOccur_armed h, if_neg (by rw [hf]; decide), if_neg (Nat.not_lt.2 hl), if_neg (by rw [he]; decide), if_pos hc]

end

/-! ### TRIGGER_OCCURRENCE -/

/-- R182: the channel without the occurrence that it looks at. -/
def State.occTaken (s : State) (n : Nat) (o : AcqOcc) : State := s.setAcq n { s.acqCh n with occ := (s.acqCh n).occ.erase o }

theorem triggerOccurrence_takes (h : s.firstOcc n = some o) : triggerOccurrence n s = (s.occTaken n o).acqOccur n o := by
  unfold triggerOccurrence
  rw [h]
  rfl

theorem State.occTaken_keeps (s : State) (n : Nat) (o : AcqOcc) : s.keepsCells [] (s.occTaken n o) ∧ s.keepsMem (s.occTaken n o) :=
  ⟨s.setAcq_keepsCells n _, s.setAcq_keepsMem n _⟩

/-- The channel reads as before but for the occurrence taken. -/
theorem State.occTaken_reads (s : State) (n : Nat) (o : AcqOcc) : (s.occTaken n o).now = s.now ∧
    (∀ f, (s.occTaken n o).rd f n = s.rd f n) ∧ ((s.occTaken n o).acqCh n).hits = (s.acqCh n).hits ∧
    (s.occTaken n o).occOrds n o = s.occOrds n o := by
  have hx : (s.occTaken n o).acqCh n = { s.acqCh n with occ := (s.acqCh n).occ.erase o } := s.acqCh_setAcq_self n _
  refine ⟨rfl, fun _ => rfl, by rw [hx], ?_⟩
  rw [State.occOrds, hx]
  rfl

section
variable (ho : s.firstOcc n = some o)
include ho

/-- R190, R406: an occurrence that steps a counter changes nothing of the channel's state. -/
theorem triggerOccurrence_bumps {f : Fld} {off : Nat} (hf : f ∈ [F.ACQ_IGN_TRIG_COUNT, F.ACQ_LATE_TRIG_COUNT])
    (h : (s.occTaken n o).acqOccur n o = (s.occTaken n o).acqBump f n 1 off) :
    (triggerOccurrence n s).rd f n = min (s.rd f n + 1) (2 ^ 32 - 1) ∧ (triggerOccurrence n s).acqState n = s.acqState n ∧
      s.keepsMem (triggerOccurrence n s) := by
  obtain ⟨hcount, hstate, hmem⟩ := (s.occTaken n o).acqBump_spec n off hf
  rw [triggerOccurrence_takes ho, h]
  exact ⟨hcount, hstate, State.keepsMem_trans (s.occTaken_keeps n o).2 hmem⟩

/-- R182: an occurrence that only counts changes no more than the occurrences counted. -/
theorem triggerOccurrence_counts (h : (s.occTaken n o).acqOccur n o = (s.occTaken n o).occCounted n o) :
    ((triggerOccurrence n s).acqCh n).hits = (s.occTaken n o).occHits n o ∧ (triggerOccurrence n s).acqState n = s.acqState n ∧
      s.keepsCells [] (triggerOccurrence n s) ∧ s.keepsMem (triggerOccurrence n s) := by
  obtain ⟨hcells, hmem⟩ := s.occTaken_keeps n o
  obtain ⟨hhits, hstate, hcells', hmem'⟩ := (s.occTaken n o).occCounted_keeps n o
  rw [triggerOccurrence_takes ho, h]
  exact ⟨hhits, hstate, State.keepsCells_after hcells hcells', State.keepsMem_trans hmem hmem'⟩

theorem triggerOccurrence_triggers {u : State} {force : Bool} (h : (s.occTaken n o).acqOccur n o = u.acqTrigger n o.inst force false) :
    (triggerOccurrence n s).rd F.ACQ_TRIG_TIME_TIME n = o.inst % 2 ^ 64 ∧
      ((triggerOccurrence n s).acqState n = 3 ∨ (triggerOccurrence n s).acqState n = 4) := by
  rw [triggerOccurrence_takes ho, h]
  exact u.acqTrigger_spec n o.inst force

end

end

end Sys2Proof.Machine
end

section
/-! PROOFS. A page that reaches DRAM, or is lost there (R187, R189, R335, R336). -/

namespace Sys2Proof.Machine

set_option Elab.async false

section
variable {σ s t : State} {n : Nat}

/-! ### Closed pages behind the FIFO's -/

/-- What the writing of closed pages leaves of a channel that stores in DRAM: the cells but ACQ_TRIG_LOC.SEQ, the memories, and the FIFO in
front of what it appends. -/
structure State.Queues (σ : State) (n : Nat) (s : State) : Prop where
  cells : σ.keepsCells [F.ACQ_TRIG_LOC_SEQ.key] s
  dram : s.dram = σ.dram
  sram : s.sram = σ.sram
  fifo : (σ.acqCh n).fifo <+: (s.acqCh n).fifo

theorem State.Queues.rfl : s.Queues n s := ⟨s.keepsCells_refl _, Eq.refl _, Eq.refl _, List.prefix_rfl⟩

theorem State.Queues.trans (h : σ.Queues n s) (h' : s.Queues n t) : σ.Queues n t :=
  ⟨State.keepsCells_after h.cells h'.cells, h'.dram.trans h.dram, h'.sram.trans h.sram, h.fifo.trans h'.fifo⟩

theorem State.Queues.rd (h : s.Queues n t) (f : Fld) (i : Nat) (hf : f.key < 1024 := by decide)
    (hn : f.key ∉ [F.ACQ_TRIG_LOC_SEQ.key] := by decide) : t.rd f i = s.rd f i := h.cells f i hf hn

/-- R189: a page written behind goes into the FIFO. -/
theorem State.acqWrite_queues (p : AcqPage) (hd : s.acqDram n = true) : s.Queues n (s.acqWrite n p) := by
  unfold State.acqWrite
  extract_lets x d b x1 lead s0 _
  have h0 : s.Queues n s0 := by
    unfold s0
    split
    · exact ⟨s.wr_keepsCells F.ACQ_TRIG_LOC_SEQ n _ (by decide), Eq.refl _, Eq.refl _, List.prefix_rfl⟩
    · exact State.Queues.rfl
  rw [if_pos hd]
  clear_value s0 b
  refine ⟨h0.cells, h0.dram, h0.sram, ?_⟩
  rw [State.acqCh_setAcq_self]
  exact List.prefix_append _ _

theorem State.writeClosed_queues (fuel : Nat) (hd : s.acqDram n = true) : s.Queues n (State.writeClosed n fuel s).1 := by
  induction fuel generalizing s with
  | zero => exact State.Queues.rfl
  | succ fuel ih =>
    unfold State.writeClosed
    split
    · exact State.Queues.rfl
    next p _ =>
      have hw := State.acqWrite_queues p hd
      split
      · exact State.Queues.rfl
      · split
        · exact State.Queues.rfl
        · exact hw.trans (ih (by rwa [State.acqDram, State.on, hw.rd F.ACQ_CFG_MEM n]))

/-- R179, R187: with no page waiting, or the channel not TRIGGERED, no page that follows takes a counted slot. -/
theorem State.acqPump_queues (hd : s.acqDram n = true) (h : (∀ p ∈ (s.acqCh n).pages, p.closed = false) ∨ s.acqState n ≠ 3) :
    s.Queues n (s.acqPump n) := by
  have hclash : (State.writeClosed n 64 s).2 = false := by
    rcases h with h | h
    · rw [State.writeClosed_of_none 64 h]
    · exact State.writeClosed_no_clash 64 h
  rw [State.acqPump_of_no_clash hclash]
  exact State.writeClosed_queues 64 hd

/-! ### Bytes written to DRAM -/

theorem State.dramWrite_byte_inside (s : State) (a : Nat) (l : List Byte) {i : Nat} (hi : i < l.length) :
    (s.dramWrite a l).dram.byte (a + i) = l.getD i 0 := by
  rw [DramSt.byte, State.dramWrite, memWrite_get_inside _ _ _ _ hi, List.getElem?_eq_getElem hi, List.getD_eq_getElem l 0 hi]
  rfl

theorem State.dramWrite_byte_outside (s : State) {a b : Nat} {l : List Byte} (h : b < a ∨ a + l.length ≤ b) :
    (s.dramWrite a l).dram.byte b = s.dram.byte b := by
  rw [DramSt.byte, State.dramWrite, memWrite_get_outside _ _ _ _ h, DramSt.byte]

/-- Bytes written to DRAM change neither a register nor the SRAM. -/
theorem State.dramWrite_keeps (s : State) (a : Nat) (l : List Byte) :
    s.keepsCells [] (s.dramWrite a l) ∧ ∀ b, (s.dramWrite a l).sramByte b = s.sramByte b :=
  ⟨State.keepsCells_of_regs rfl, fun b => State.sramByte_of_sram rfl b⟩

/-! ### The page in front of the FIFO -/

/-- R187: the FIFO without the page in front, at the instant at which that has left. -/
def AcqCh.left (x : AcqCh) (rest : List (AcqDone × List Byte)) (tu : Nat) : AcqCh := { x with fifo := rest, drainAt := x.drainAt + tu }

/-- R187, R335: a page that reaches DRAM. -/
def State.pageStored (s : State) (n : Nat) (d : AcqDone) (b : List Byte) (rest : List (AcqDone × List Byte)) : State :=
  (((s.goto (s.acqCh n).drainAt).setAcq n ((s.acqCh n).left rest (s.acqDrainTu n))).wake).dramWrite (s.acqDramAt n d.seq) b

/-- R174, R336: a page lost in a gap: the channel with the gap of its samples. -/
def AcqCh.lost (x : AcqCh) (d : AcqDone) : AcqCh := { x with gaps := x.gaps ++ [{ leaf := d.leaf, cause := 2, inst := d.t0, len := d.n }] }

theorem AcqCh.left_spec (x : AcqCh) (rest : List (AcqDone × List Byte)) (tu : Nat) :
    (x.left rest tu).pages = x.pages ∧ (x.left rest tu).fifo = rest := ⟨rfl, rfl⟩

theorem AcqCh.lost_spec (x : AcqCh) (d : AcqDone) : (x.lost d).pages = x.pages ∧ (x.lost d).fifo = x.fifo := ⟨rfl, rfl⟩

/-- R186, R336: a page lost in a gap, which is counted. -/
def State.pageLost (s : State) (n : Nat) (d : AcqDone) (rest : List (AcqDone × List Byte)) : State :=
  (((s.goto (s.acqCh n).drainAt).setAcq n (((s.acqCh n).left rest (s.acqDrainTu n)).lost d)).gapBegins n true).gapLoses n d.n

theorem acqDrain_drains {d : AcqDone} {b : List Byte} {rest : List (AcqDone × List Byte)} (hf : (s.acqCh n).fifo = (d, b) :: rest)
    (hdue : s.due (s.acqCh n).drainAt = true) (hst : s.stalledAt (s.acqDramAt n d.seq) 4096 = false) :
    acqDrain n s = ((if s.rangeFaulty (s.acqDramAt n d.seq) 4096 then s.pageLost n d rest else s.pageStored n d b rest).wr
      F.ACQ_SEQ_WR n (d.seq + 1)).acqPump n := by
  unfold acqDrain
  extract_lets x s0
  split
  next h => exact absurd (h.symm.trans hf) (by simp)
  next d' b' r h =>
    obtain ⟨he, rfl⟩ := List.cons.inj (h.symm.trans hf)
    obtain ⟨rfl, rfl⟩ := Prod.mk.inj he
    rw [if_pos ⟨hdue, hst⟩]
    rfl

/-- What becomes of the page leaves of the machine: the cells but those of losing and the wake of the DRAM, the SRAM, the channel's open
pages, and the FIFO behind it. -/
structure State.Leaves (σ : State) (n : Nat) (rest : List (AcqDone × List Byte)) (s : State) : Prop where
  cells : σ.keepsCells (F.DM_STATUS_SR.key :: chanKeys) s
  sramByte : ∀ a, s.sramByte a = σ.sramByte a
  pages : (s.acqCh n).pages = (σ.acqCh n).pages
  fifo : (s.acqCh n).fifo = rest

section
variable (s) (n : Nat) (d : AcqDone) (b : List Byte) (rest : List (AcqDone × List Byte))

/-- The clock moved to the instant at which the page leaves. -/
theorem State.left_leaves {x : AcqCh} (hp : x.pages = (s.acqCh n).pages) (hf : x.fifo = rest) :
    s.Leaves n rest ((s.goto (s.acqCh n).drainAt).setAcq n x) ∧
      ∀ a, ((s.goto (s.acqCh n).drainAt).setAcq n x).dram.byte a = s.dram.byte a := by
  have hcells := State.keepsCells_trans (s.goto_keepsCells (s.acqCh n).drainAt) (State.setAcq_keepsCells (s.goto (s.acqCh n).drainAt) n x)
  obtain ⟨⟨hdram, hsram⟩, -⟩ := State.keepsMem_trans (s.goto_keepsMem (s.acqCh n).drainAt) (State.setAcq_keepsMem _ n x)
  refine ⟨⟨State.keepsCells_mono hcells (by decide), hsram, ?_, ?_⟩, hdram⟩
  · rw [State.acqCh_setAcq_self, hp]
  · rw [State.acqCh_setAcq_self, hf]

theorem State.setDram_keepsCells (s : State) (x : DramSt) : s.keepsCells [] { s with dram := x } := State.keepsCells_of_regs rfl

theorem State.wake_keepsCells (s : State) : s.keepsCells [F.DM_STATUS_SR.key] s.wake :=
  State.keepsCells_trans (s.setDram_keepsCells _) (State.wr_keepsCells _ F.DM_STATUS_SR 0 0 (by decide))

theorem State.acqCh_wake (s : State) (n : Nat) : s.wake.acqCh n = s.acqCh n := by rw [State.acqCh, State.acqCh, State.wake]; rfl

theorem State.pageStored_spec : s.Leaves n rest (s.pageStored n d b rest) ∧
    (∀ i, i < b.length → (s.pageStored n d b rest).dram.byte (s.acqDramAt n d.seq + i) = b.getD i 0) ∧
    ∀ a, a < s.acqDramAt n d.seq ∨ s.acqDramAt n d.seq + b.length ≤ a → (s.pageStored n d b rest).dram.byte a = s.dram.byte a := by
  obtain ⟨hp, hf⟩ := (s.acqCh n).left_spec rest (s.acqDrainTu n)
  obtain ⟨hleft, hdram⟩ := s.left_leaves n rest hp hf
  unfold State.pageStored
  generalize (s.goto (s.acqCh n).drainAt).setAcq n ((s.acqCh n).left rest (s.acqDrainTu n)) = u at hleft hdram ⊢
  obtain ⟨-, ⟨⟨hwdram, hwsram⟩, -⟩⟩ := u.wake_now_keepsMem
  have hwake := u.wake_keepsCells
  have hch := u.acqCh_wake n
  generalize u.wake = w at hwdram hwsram hwake hch ⊢
  obtain ⟨hwrite, hsram⟩ := w.dramWrite_keeps (s.acqDramAt n d.seq) b
  refine ⟨⟨?_, fun a => (hsram a).trans <| (hwsram a).trans (hleft.sramByte a), ?_, ?_⟩,
    fun i hi => State.dramWrite_byte_inside _ _ _ hi, fun a ha => ?_⟩
  · exact State.keepsCells_mono (State.keepsCells_trans hleft.cells (State.keepsCells_trans hwake hwrite)) (by decide)
  · rw [State.acqCh_dramWrite, hch, hleft.pages]
  · rw [State.acqCh_dramWrite, hch, hleft.fifo]
  · rw [State.dramWrite_byte_outside _ ha, hwdram, hdram]

theorem State.gapLost_onlyEvt : s.onlyEvt ((s.gapBegins n true).gapLoses n d.n) := by
  refine State.onlyEvt_trans ?_ (State.acqBump_onlyEvt _ _ _ _ _)
  unfold State.gapBegins
  extract_lets s1 s2
  have h1 : s.onlyEvt s1 := s.acqBump_onlyEvt _ _ _ _
  clear_value s1
  split
  · exact h1
  · exact State.onlyEvt_trans (State.onlyEvt_trans h1 (s1.onlyEvt_wr _ _ _)) (State.raise_onlyEvt _ _ _ _ _)

/-- R186: a gap of lost samples adds one to ACQ_GAPS. -/
theorem State.gapLost_gaps : ((s.gapBegins n true).gapLoses n d.n).rd F.ACQ_GAPS_COUNT n = min (s.rd F.ACQ_GAPS_COUNT n + 1) (2 ^ 32 - 1) := by
  have hloses := (s.gapBegins n true).acqBump_keepsCells F.ACQ_LOST_COUNT n (min d.n (2 ^ 32 - 1)) 0x68
  refine (hloses F.ACQ_GAPS_COUNT n (by decide) (by decide)).trans ?_
  unfold State.gapBegins
  extract_lets s1 s2
  have h1 : s1.rd F.ACQ_GAPS_COUNT n = min (s.rd F.ACQ_GAPS_COUNT n + 1) (2 ^ 32 - 1) := s.acqBump_rd n 1 0x60
  clear_value s1
  split
  · exact h1
  · have h2 := State.keepsCells_trans (s1.wr_keepsCells F.ACQ_STAT_GAP_SEEN n 1 (by decide)) (s2.raise_keepsCells 0x92 n (s2.acqStat n) 0)
    exact (h2 F.ACQ_GAPS_COUNT n (by decide) (by decide)).trans h1

theorem State.pageLost_spec : s.Leaves n rest (s.pageLost n d rest) ∧
    (s.pageLost n d rest).rd F.ACQ_GAPS_COUNT n = min (s.rd F.ACQ_GAPS_COUNT n + 1) (2 ^ 32 - 1) ∧
    ∀ a, (s.pageLost n d rest).dram.byte a = s.dram.byte a := by
  obtain ⟨hp, hf⟩ := (s.acqCh n).left_spec rest (s.acqDrainTu n)
  obtain ⟨hp', hf'⟩ := ((s.acqCh n).left rest (s.acqDrainTu n)).lost_spec d
  obtain ⟨hleft, hdram⟩ := s.left_leaves n rest (hp'.trans hp) (hf'.trans hf)
  have hrd := State.goto_rd s (s.acqCh n).drainAt F.ACQ_GAPS_COUNT n
  unfold State.pageLost
  have hset := State.setAcq_keepsCells (s.goto (s.acqCh n).drainAt) n (((s.acqCh n).left rest (s.acqDrainTu n)).lost d)
  generalize (s.goto (s.acqCh n).drainAt).setAcq n (((s.acqCh n).left rest (s.acqDrainTu n)).lost d) = u at hleft hdram hset ⊢
  have hgaps := (u.gapLost_gaps n d).trans (by rw [hset F.ACQ_GAPS_COUNT n (by decide) (by decide), hrd])
  have honly := u.gapLost_onlyEvt n d
  have hstores : u.Stores n ((u.gapBegins n true).gapLoses n d.n) := State.Stores.rfl.gapBegins.gapLoses
  have hch := State.acqCh_of_acq honly.jn.acq n
  obtain ⟨⟨hedram, hesram⟩, -⟩ := State.keepsMem_of_onlyEvt honly
  refine ⟨⟨?_, fun a => (hesram a).trans (hleft.sramByte a), by rw [hch, hleft.pages], by rw [hch, hleft.fifo]⟩, hgaps,
    fun a => (hedram a).trans (hdram a)⟩
  exact State.keepsCells_after hleft.cells (State.keepsCells_mono hstores.cells (List.subset_cons_self ..))

end

/-- R187, R189: after the page has left, ACQ_SEQ follows its number, and closed pages follow it into the FIFO. -/
theorem State.Leaves.pumped {rest : List (AcqDone × List Byte)} (h : s.Leaves n rest t) (seq : Nat) (hd : s.acqDram n = true)
    (hw : (∀ p ∈ (s.acqCh n).pages, p.closed = false) ∨ s.acqState n ≠ 3) {u : State} (hu : u = (t.wr F.ACQ_SEQ_WR n seq).acqPump n) :
    rest <+: (u.acqCh n).fifo ∧ u.rd F.ACQ_SEQ_WR n = seq % 2 ^ 32 ∧ u.rd F.ACQ_GAPS_COUNT n = t.rd F.ACQ_GAPS_COUNT n ∧
      u.dram = t.dram ∧ ∀ a, u.sramByte a = s.sramByte a := by
  have hseq : (t.wr F.ACQ_SEQ_WR n seq).rd F.ACQ_SEQ_WR n = seq % 2 ^ 32 := t.rd_wr_self F.ACQ_SEQ_WR n seq
  have hcells := State.keepsCells_trans h.cells (t.wr_keepsCells F.ACQ_SEQ_WR n seq (by decide))
  have hmem : (t.wr F.ACQ_SEQ_WR n seq).acqDram n = true := by
    rwa [State.acqDram, State.on, hcells F.ACQ_CFG_MEM n (by decide) (by decide)]
  have hstate : (t.wr F.ACQ_SEQ_WR n seq).acqState n = s.acqState n := hcells F.ACQ_STAT_STATE n (by decide) (by decide)
  have hgaps := t.wr_keepsCells F.ACQ_SEQ_WR n seq (by decide) F.ACQ_GAPS_COUNT n (by decide) (by decide)
  have hch : (t.wr F.ACQ_SEQ_WR n seq).acqCh n = t.acqCh n := rfl
  obtain ⟨hqcells, hdram, hsram, hfifo⟩ := State.acqPump_queues hmem (by rwa [hch, h.pages, hstate])
  rw [← hu] at hqcells hdram hsram hfifo
  rw [hch, h.fifo] at hfifo
  exact ⟨hfifo, (hqcells _ _ (by decide) (by decide)).trans hseq, (hqcells _ _ (by decide) (by decide)).trans hgaps, hdram,
    fun a => (State.sramByte_of_sram hsram a).trans (h.sramByte a)⟩

end

end Sys2Proof.Machine
end

section
/-! PROOFS. The statements about the acquisition channels (chapter 7). -/

namespace Sys2Proof.Machine

set_option Elab.async false

/-- Settles O44: a sample by `State.acqStore_spec` and `State.acqStore_stored`, an occurrence by what an ARMED channel does with each, a page
that leaves by what becomes of it and `State.Leaves.pumped`. -/
theorem channelSamples : Obligations.ChannelSamples := by
  refine ⟨fun s n pins i rest hfeed hgap hopens hstate hred hlt => ?_, fun s n o ords ho hords => ?_,
    fun s n d b rest hfifo hlt hdram hst hw => ?_⟩
  · have hdue : s.due i.inst = true := State.due_of_lt hlt
    obtain ⟨hrest, -, harmed⟩ := acqSample_counts (pins := pins.toNat) hfeed hgap hopens hstate hred hdue rfl
    refine ⟨_, rfl, hrest, fun key hkey => ⟨?_, fun hport hgaps hall hfree => ?_⟩, harmed⟩
    · obtain ⟨-, hcount, -⟩ := acqSample_counts (pins := pins.toNat) hfeed hgap hopens hstate hred hdue hkey
      exact hcount
    · exact acqSample_stored hfeed hgap hopens hstate hred hdue hkey hport hgaps hall hfree
  · obtain ⟨hnow, hrd, hhits, hsel⟩ := s.occTaken_reads n.val o
    have hords' : (s.occTaken n.val o).occOrds n.val o = ords := hsel.trans hords.symm
    have harmed (h : s.acqState n.val = 2) : (s.occTaken n.val o).acqState n.val = 2 := (hrd F.ACQ_STAT_STATE).trans h
    have hsrc : (s.occTaken n.val o).acqSource n.val = s.acqSource n.val := hrd F.ACQ_CFG_SOURCE
    refine ⟨_, rfl, fun h => ?_, fun h hf hl => ?_, fun h hf hl hs he => ?_, fun h hf => ?_, fun h hf hl hs he hm hc => ?_,
      fun h hf hl hq => ?_⟩
    · exact h ▸ triggerOccurrence_bumps ho (by decide) (State.acqOccur_filling ((hrd F.ACQ_STAT_STATE).trans h))
    · exact h ▸ triggerOccurrence_bumps ho (by decide) (State.acqOccur_late (harmed h) hf (by rwa [hnow]))
    · have hearly := State.occEarly_eq_true (o := o) (by rwa [hsrc]) (by rwa [hords', hrd])
      exact h ▸ triggerOccurrence_bumps ho (by decide) (State.acqOccur_early (harmed h) hf (by rwa [hnow]) hearly)
    · exact triggerOccurrence_triggers ho (State.acqOccur_forced (harmed h) hf)
    · have hearly := State.occEarly_eq_false (s := s.occTaken n.val o) (n := n.val) (o := o) (.inr (by rwa [hords', hrd]))
      have hsame : (s.occTaken n.val o).occHits n.val o = (s.acqCh n.val).hits :=
        (State.occHits_again (by rwa [hsrc]) (by rwa [hords', hhits])).trans hhits
      have hcounts := triggerOccurrence_counts ho (State.acqOccur_counts (harmed h) hf (by rwa [hnow]) hearly (by rwa [hsame, hrd]))
      rwa [hsame, h] at hcounts
    · have hearly : (s.occTaken n.val o).occEarly n.val o = false :=
        State.occEarly_eq_false (hq.imp hsrc.trans fun hq => by rw [hords', hrd]; exact hq.1)
      have hnew : (s.occTaken n.val o).occHits n.val o = ords :: (s.acqCh n.val).hits := by
        rw [State.occHits_new (hq.imp hsrc.trans fun hq => by rw [hords', hhits]; exact hq.2), hords', hhits]
      refine ⟨fun hc => ?_, fun hc => ?_⟩
      · have hcounts := triggerOccurrence_counts ho (State.acqOccur_counts (harmed h) hf (by rwa [hnow]) hearly (by rwa [hnew, hrd]))
        rwa [hnew, h] at hcounts
      · exact triggerOccurrence_triggers ho (State.acqOccur_triggers (harmed h) hf (by rwa [hnow]) hearly (by rwa [hnew, hrd]))
  · have ht := acqDrain_drains hfifo (State.due_of_lt hlt) hst
    refine ⟨fun hf => ?_, fun hf => ?_⟩
    · rw [hf, if_neg Bool.false_ne_true] at ht
      obtain ⟨hleaves, hin, hout⟩ := s.pageStored_spec n.val d b rest
      obtain ⟨hfront, hseq, -, hbytes, hsram⟩ := hleaves.pumped (d.seq + 1) hdram hw rfl
      exact ⟨_, congrArg Host.Outcome.next ht, hfront, hseq, fun i hi => by rw [hbytes, hin i hi], fun a ha => by rw [hbytes, hout a ha], hsram⟩
    · rw [hf, if_pos rfl] at ht
      obtain ⟨hleaves, hgaps, hkeep⟩ := s.pageLost_spec n.val d rest
      obtain ⟨hfront, hseq, hgaps', hbytes, hsram⟩ := hleaves.pumped (d.seq + 1) hdram hw rfl
      exact ⟨_, congrArg Host.Outcome.next ht, hfront, hseq, hgaps'.trans hgaps, fun a => by rw [hbytes, hkeep a], hsram⟩

end Sys2Proof.Machine
end

section
/-! PROOFS. STOP of a channel whose trigger has no mark yet (R179, R184). -/

namespace Sys2Proof.Machine

set_option Elab.async false

/-- STOP of a channel that collects and whose trigger did not register on this edge ends it STOPPED. -/
theorem acqStopWrite_ends {s : State} {n : Nat} (hlive : s.acqLive n = true) (hedge : (s.acqCh n).trigEdge = none) :
    acqStopWrite n s = (s.acqEnd n aSTOPPED, .ok) := by
  simp only [acqStopWrite, hedge, hlive, if_true]

/-- Channel 0 reduces fail records to DRAM and is TRIGGERED since an earlier edge. Its trigger record, number 0, lies in page 7, whose 16
first bytes, in DRAM, are 0: the page carries no mark. One sample is in the open interval. (The model marks a trigger record's page when it
stores or finds the record, so this state is not one that a channel is expected to come to; the statement speaks of every state.) -/
def unmarkedTrigger : State :=
  let s := (State.reset.wrs [(F.ACQ_CFG_SOURCE, 0, 2), (F.ACQ_CFG_RED, 0, 1), (F.ACQ_CFG_MEM, 0, 1), (F.ACQ_STAT_STATE, 0, 3)]).setAcq 0
    { written := [{ pid := 7 }], nextPid := 8, locs := [(0, 0, 7, 0)], trigT := some 0, trigOrd := [(0, 0)], red := { n := 1 } }
  s.dramWrite (s.acqDramAt 0 0) (List.replicate 16 0)

/-- Where page 7 of `unmarkedTrigger` has its TRIG bit: bit 3 of this byte. -/
def trigByteAt : Nat := unmarkedTrigger.acqDramAt 0 0 + 3

theorem unmarkedTrigger_byte : unmarkedTrigger.dram.byte trigByteAt = 0 := by decide

/-- R184, R185: the interval that the end closes is counted, and with the count the trigger record is looked for and its page marked. -/
theorem unmarkedTrigger_acqEnd_byte : (unmarkedTrigger.acqEnd 0 aSTOPPED).dram.byte trigByteAt = 8 := by decide

/-- Refutes O43: the STOP of `unmarkedTrigger`, on no edge of a trigger, closes the interval of its reduction; the record counts, and the
trigger's page, in DRAM already, is given the mark that it lacks. -/
theorem not_channelCommands : ¬ Obligations.ChannelCommands := by
  intro h
  have hs : unmarkedTrigger.serves ⟨0x80, 7, 0⟩ 0x310100 (.write64 2) := by decide
  have hlive : unmarkedTrigger.acqLive 0 = true := by decide
  have hedge : (unmarkedTrigger.acqCh 0).trigEdge = none := by decide
  obtain ⟨-, hstop, -⟩ := h unmarkedTrigger ⟨0x80, 7, 0⟩ 0
  obtain ⟨t, he, -, -, -, -, hkeep⟩ := (hstop hs).1 (.inl hlive)
  have ht := Host.Outcome.next.inj he
  obtain ⟨-, -, ⟨hdram, -⟩, -⟩ := State.request_takes hs (acqStopWrite_ends hlive hedge) ht.symm
  have hsame : unmarkedTrigger.dram.byte trigByteAt = (unmarkedTrigger.acqEnd 0 aSTOPPED).dram.byte trigByteAt :=
    (hkeep (fun e h => by simp [hedge] at h) trigByteAt).symm.trans (hdram trigByteAt)
  rw [unmarkedTrigger_byte, unmarkedTrigger_acqEnd_byte] at hsame
  exact absurd hsame (by decide)

end Sys2Proof.Machine
end
